-- ==== Sys2Proof/Word.lean ====
section
/-!
DEFINITION. The words and indexes of the K48 and their plainest arithmetic: widths, sparse tables,
saturating counts, and the small enumerations that commands and state name.
-/

namespace Sys2Proof

/-- A register or instruction word (R89, R104). -/
abbrev Word := BitVec 32
/-- One byte of a memory or of host memory. -/
abbrev Byte := BitVec 8
/-- A 24-bit source address (R33). -/
abbrev Source := BitVec 24

/-- A sparse table: key and value pairs, keys strictly rising, no value equal to the table's default.
An unlisted key reads as the default. The operations are in Machine/Tab.lean. -/
abbrev Tab (V : Type) := List (Nat × V)

/-- A tenant, 0 to 3 (R24). -/
abbrev Tenant := Fin 4
/-- A host port, 0 to 3; port n owns tenant n (R24). -/
abbrev Port := Fin 4
/-- A cluster, 0 to 31 (R17). -/
abbrev Cluster := Fin 32
/-- A station, 0 to 39 (R17). -/
abbrev Station := Fin 40
/-- A Crucible engine: 0 MEM-W, 1 MEM-E (R17). -/
abbrev Engine := Fin 2
/-- A scalar register g0 to g15 (R64). -/
abbrev GReg := Fin 16
/-- A vector register v0 to v7 (R64). -/
abbrev VReg := Fin 8
/-- A mask register m0 to m3 (R64). -/
abbrev MReg := Fin 4

/-- The edge stations of R17, by number. -/
def stHost : Nat := 32
def stDma : Nat := 33
def stPorts : Nat := 34
def stMemW : Nat := 35
def stMemE : Nat := 36
def stSync : Nat := 37
def stMgmt : Nat := 38
def stSec : Nat := 39

/-- A logical core of a cluster (R3, R14). -/
structure CoreId where
  cl : Cluster
  lc : Fin 32
  deriving DecidableEq, Repr

/-- The table key of a core: cluster × 32 + logical core. -/
def CoreId.key (c : CoreId) : Nat := c.cl.val * 32 + c.lc.val

/-- Who makes a register access (R11, R23, R525): a host port, the management processor or the SMBus. -/
inductive Req where
  | port (p : Port)
  | mp
  | smbus
  deriving DecidableEq, Repr

/-- A number of its own for each requester, used as a key of staging registers (R200, R269). -/
def Req.key : Req → Nat
  | .port p => p.val
  | .mp => 4
  | .smbus => 5

/-- The two meshes that carry flits (R160, R202). -/
inductive Fabric where
  | cane
  | gather
  deriving DecidableEq, Repr

/-- A link input of a router (R160, R198): the IN codes 0 to 4. -/
inductive Dir where
  | n | e | s | w | l
  deriving DecidableEq, Repr

/-- The code of a router port in a slot entry (R198). -/
def Dir.code : Dir → Nat
  | .n => 0 | .e => 1 | .s => 2 | .w => 3 | .l => 4

/-- The strap pins (R452). -/
structure Straps where
  boot : BitVec 2 := 0
  host : BitVec 2 := 0
  mem : Bool := true
  safepol : Bool := false
  dbg : Bool := false
  ten : Bool := false
  deriving DecidableEq, Repr

/-- The three grades of R2. -/
inductive Grade where
  | k1024 | k896 | k768
  deriving DecidableEq, Repr

/-- Logical cores per cluster (R2). -/
def Grade.perCluster : Grade → Nat
  | .k1024 => 32 | .k896 => 28 | .k768 => 24

/-- Whether the grade fits 16 GDDR6 devices in clamshell (R233). -/
def Grade.clamshell : Grade → Bool
  | .k768 => false | _ => true

/-- Fitted GDDR6 capacity in bytes (R2, R233). -/
def Grade.capacity : Grade → Nat
  | .k768 => 16 * 2 ^ 30 | _ => 32 * 2 ^ 30

/-- PCIe Device ID (R305). -/
def Grade.deviceId : Grade → Nat
  | .k1024 => 0x4801 | .k896 => 0x4802 | .k768 => 0x4803

/-- A failing cell of an SRAM macro by macro, row and column (R463); the macro lies in a physical core, as cluster × 36 + core,
or in none. A cell that fails in one background only is one. -/
structure FailCell where
  macro_ : Nat
  core : Option (Fin 1152)
  row : Nat
  col : Nat
  deriving DecidableEq, Repr

/-- What the physical tests of a boot find (R458, R462 to R469): none of it is the device's choice. -/
structure BootFindings where
  /-- the Pontil's lockstep self-check passes (step 1) -/
  pontilOk : Bool := true
  /-- the cells that the start-up march finds failing (R463) -/
  cells : List FailCell := []
  /-- physical cores found defective by BIST or self-test, as cluster × 36 + core, those of a defective quad port or cluster
  receive unit among them (R464, R466) -/
  badCores : List Nat := []
  /-- logic BIST of a block outside the cores fails (R464) -/
  bistFail : Bool := false
  /-- core self-test outside a spare-covered core fails (step 7) -/
  selfTestFail : Bool := false
  /-- every GDDR6 channel trains (R235) -/
  memTrains : Bool := true
  /-- every fabric link passes PRBS (R469) -/
  linksOk : Bool := true
  /-- every channel passes its EDC check (R469) -/
  edcOk : Bool := true
  /-- every PCIe lane up at step 9 passes (R469) -/
  lanesOk : Bool := true
  /-- the newer cullet list copy's digest passes, or one does (R465) -/
  culletOk : Bool := true
  /-- milliseconds from the deassertion to readiness (BOOT_TIME) -/
  ms : Nat := 668
  deriving DecidableEq, Repr

/-- What a GDDR6 sector read brings back (R236, R238): how many EDC retries, whether the fifth try fails too, and
what inline ECC finds. -/
structure SectorOutcome where
  retries : Nat := 0
  edcFail : Bool := false
  corrected : Bool := false
  uncorrectable : Bool := false
  deriving DecidableEq, Repr

/-- The header of a received CSI-2 packet as the D-PHY receiver reports it (R381, R382). -/
structure CsiHeader where
  vc : BitVec 2
  dt : BitVec 6
  eccCorrected : Bool := false
  eccBad : Bool := false
  crcOk : Bool := true
  deriving DecidableEq, Repr

/-- A received Kojan Event Link frame after 8b/10b decoding (R387, R388). -/
structure KelFrame where
  hdr : Byte
  seq : Byte
  count : Byte
  items : List Word
  crc : BitVec 16
  /-- a code or disparity error, an ABORT, or a missing or misplaced EOF -/
  codeError : Bool := false
  aborted : Bool := false
  eofBad : Bool := false
  deriving DecidableEq, Repr

/-- A PORTS resource or a timer that can be claimed (R376, R416). -/
inductive Resource where
  | ingress (c : Fin 16)
  | encoder (k : Fin 64)
  | decoder (k : Fin 64)
  | pin (n : Fin 32)
  | timer (n : Fin 16)
  deriving DecidableEq, Repr

/-- What a completion timeout ends (R369). -/
inductive TimeoutTarget where
  | dmaFetch (ch : Fin 16)
  | dmaBurst (ch : Fin 16) (burst : Nat)
  | ringFetch (p : Port)
  deriving DecidableEq, Repr

/-- Sign-extend a field of w bits held in a natural number. -/
def sextNat (w n : Nat) : Int :=
  if n % 2 ^ w < 2 ^ (w - 1) then (n % 2 ^ w : Int) else (n % 2 ^ w : Int) - 2 ^ w

/-- Clamp an integer to a range. -/
def clampInt (lo hi x : Int) : Int := if x < lo then lo else if hi < x then hi else x

/-- Saturation to 24 and 32 bits and to int8 and int16, on exact integers. -/
def sat24 (x : Int) : Int := clampInt (-8388608) 8388607 x
def sat32 (x : Int) : Int := clampInt (-2147483648) 2147483647 x
def sat8 (x : Int) : Int := clampInt (-128) 127 x
def sat16 (x : Int) : Int := clampInt (-32768) 32767 x

/-- A count that saturates at max. -/
def satAdd (max a b : Nat) : Nat := if max < a + b then max else a + b

/-- A 16-bit and a 32-bit saturating counter (R58, R229). -/
def cnt16 (a : Nat) (b : Nat := 1) : Nat := satAdd 65535 a b
def cnt32 (a : Nat) (b : Nat := 1) : Nat := satAdd 4294967295 a b
def cnt8 (a : Nat) (b : Nat := 1) : Nat := satAdd 255 a b

/-- The field of w bits at position p of a number. -/
def bitsOf (n p w : Nat) : Nat := (n >>> p) % 2 ^ w

/-- Bit p of a number. -/
def bitOf (n p : Nat) : Bool := n.testBit p

/-- A Bool as 0 or 1. -/
def b2n (b : Bool) : Nat := if b then 1 else 0

/-- The number a list of bytes spells, least significant byte first (R340). -/
def leNat : List Byte → Nat
  | [] => 0
  | b :: bs => b.toNat + 256 * leNat bs

/-- n bytes of a number, least significant first. -/
def leBytes : Nat → Nat → List Byte
  | 0, _ => []
  | k + 1, n => BitVec.ofNat 8 n :: leBytes k (n / 256)

end Sys2Proof
end

