-- ==== Sys2Proof/Syntax.lean ====
section
/-!
DEFINITION. The commands of the block: one constructor for each row of the table of operations and events.
A command names where it happens and carries what comes from outside the device with it (a register value, the
data a host memory returns, a received frame, what a physical test finds).
-/

namespace Sys2Proof

/-- One command: a row of spec/opcode_table.json with its operands. -/
inductive Instr where
  /-- ADD (R107): Scalar add. -/
  | iAdd (c : CoreId) (rd ra rb : GReg)
  /-- SUB (R107): Scalar subtract. -/
  | iSub (c : CoreId) (rd ra rb : GReg)
  /-- AND (R107): Scalar bitwise and. -/
  | iAnd (c : CoreId) (rd ra rb : GReg)
  /-- OR (R107): Scalar bitwise or. -/
  | iOr (c : CoreId) (rd ra rb : GReg)
  /-- XOR (R107): Scalar bitwise exclusive or. -/
  | iXor (c : CoreId) (rd ra rb : GReg)
  /-- SLL (R107): Scalar left shift by register. -/
  | iSll (c : CoreId) (rd ra rb : GReg)
  /-- SRL (R107): Scalar logical right shift by register. -/
  | iSrl (c : CoreId) (rd ra rb : GReg)
  /-- SRA (R107): Scalar arithmetic right shift by register. -/
  | iSra (c : CoreId) (rd ra rb : GReg)
  /-- MUL (R107): Low 32 bits of a scalar product. -/
  | iMul (c : CoreId) (rd ra rb : GReg)
  /-- MULHS (R107): High 32 bits of the signed scalar product. -/
  | iMulhs (c : CoreId) (rd ra rb : GReg)
  /-- MIN (R107): Signed scalar minimum. -/
  | iMin (c : CoreId) (rd ra rb : GReg)
  /-- MAX (R107): Signed scalar maximum. -/
  | iMax (c : CoreId) (rd ra rb : GReg)
  /-- SLT (R107): Signed set-less-than. -/
  | iSlt (c : CoreId) (rd ra rb : GReg)
  /-- SLTU (R107): Unsigned set-less-than. -/
  | iSltu (c : CoreId) (rd ra rb : GReg)
  /-- SLLI (R107): Scalar left shift by immediate. -/
  | iSlli (c : CoreId) (rd ra : GReg) (sh : BitVec 5)
  /-- SRLI (R107): Scalar logical right shift by immediate. -/
  | iSrli (c : CoreId) (rd ra : GReg) (sh : BitVec 5)
  /-- SRAI (R107): Scalar arithmetic right shift by immediate. -/
  | iSrai (c : CoreId) (rd ra : GReg) (sh : BitVec 5)
  /-- SAT_S8 (R107): Scalar clamp to int8. -/
  | iSatS8 (c : CoreId) (rd ra : GReg)
  /-- SAT_S16 (R107): Scalar clamp to int16. -/
  | iSatS16 (c : CoreId) (rd ra : GReg)
  /-- SAT_U8 (R107): Scalar clamp to 0…255. -/
  | iSatU8 (c : CoreId) (rd ra : GReg)
  /-- ABS (R107): Scalar absolute value. -/
  | iAbs (c : CoreId) (rd ra : GReg)
  /-- SRS (R107): Scalar stochastic right shift. -/
  | iSrs (c : CoreId) (rd ra : GReg) (sh : BitVec 5)
  /-- RAND (R107): Draws from the core's xorshift generator. -/
  | iRand (c : CoreId) (rd : GReg)
  /-- MULS (R107): Saturating scalar multiply-shift. -/
  | iMuls (c : CoreId) (rd ra rb : GReg) (sh : BitVec 5)
  /-- ADDI (R108): Add sign-extended immediate. -/
  | iAddi (c : CoreId) (rd ra : GReg) (imm : BitVec 18)
  /-- ANDI (R108): And with zero-extended immediate. -/
  | iAndi (c : CoreId) (rd ra : GReg) (imm : BitVec 18)
  /-- ORI (R108): Or with zero-extended immediate. -/
  | iOri (c : CoreId) (rd ra : GReg) (imm : BitVec 18)
  /-- XORI (R108): Exclusive or with zero-extended immediate. -/
  | iXori (c : CoreId) (rd ra : GReg) (imm : BitVec 18)
  /-- LI (R108): Load sign-extended 16-bit immediate. -/
  | iLi (c : CoreId) (rd : GReg) (imm : BitVec 16)
  /-- LIH (R108): Load the high half of a register. -/
  | iLih (c : CoreId) (rd : GReg) (imm : BitVec 16)
  /-- VADD (R110): Vector add. -/
  | iVadd (c : CoreId) (vd va vb : VReg) (m : MReg)
  /-- VSUB (R110): Vector subtract. -/
  | iVsub (c : CoreId) (vd va vb : VReg) (m : MReg)
  /-- VAND (R110): Vector and. -/
  | iVand (c : CoreId) (vd va vb : VReg) (m : MReg)
  /-- VOR (R110): Vector or. -/
  | iVor (c : CoreId) (vd va vb : VReg) (m : MReg)
  /-- VXOR (R110): Vector exclusive or. -/
  | iVxor (c : CoreId) (vd va vb : VReg) (m : MReg)
  /-- VMIN (R110): Vector signed minimum. -/
  | iVmin (c : CoreId) (vd va vb : VReg) (m : MReg)
  /-- VMAX (R110): Vector signed maximum. -/
  | iVmax (c : CoreId) (vd va vb : VReg) (m : MReg)
  /-- VABS (R110): Vector absolute value. -/
  | iVabs (c : CoreId) (vd va : VReg) (m : MReg)
  /-- VSLL (R110): Vector left shift by immediate. -/
  | iVsll (c : CoreId) (vd va : VReg) (m : MReg) (sh : BitVec 5)
  /-- VSRL (R110): Vector logical right shift by immediate. -/
  | iVsrl (c : CoreId) (vd va : VReg) (m : MReg) (sh : BitVec 5)
  /-- VSRA (R110): Vector arithmetic right shift by immediate. -/
  | iVsra (c : CoreId) (vd va : VReg) (m : MReg) (sh : BitVec 5)
  /-- VSLLV (R110): Vector left shift by element. -/
  | iVsllv (c : CoreId) (vd va vb : VReg) (m : MReg)
  /-- VSRAV (R110): Vector arithmetic right shift by element. -/
  | iVsrav (c : CoreId) (vd va vb : VReg) (m : MReg)
  /-- VMUL (R110): Vector low product. -/
  | iVmul (c : CoreId) (vd va vb : VReg) (m : MReg)
  /-- VMULS (R110): Vector saturating multiply-shift. -/
  | iVmuls (c : CoreId) (vd va vb : VReg) (m : MReg) (sh : BitVec 5)
  /-- VSRS (R110): Vector stochastic right shift. -/
  | iVsrs (c : CoreId) (vd va : VReg) (m : MReg) (sh : BitVec 5)
  /-- VSAT_S8 (R110): Vector clamp to int8, setting VSAT on clip. -/
  | iVsatS8 (c : CoreId) (vd va : VReg) (m : MReg)
  /-- VSAT_S16 (R110): Vector clamp to int16, setting VSAT on clip. -/
  | iVsatS16 (c : CoreId) (vd va : VReg) (m : MReg)
  /-- VSAT_U8 (R110): Vector clamp to 0…255, setting VSAT on clip. -/
  | iVsatU8 (c : CoreId) (vd va : VReg) (m : MReg)
  /-- VSEL (R110): Vector select by mask. -/
  | iVsel (c : CoreId) (vd va vb : VReg) (m : MReg)
  /-- VMOV (R110): Vector move. -/
  | iVmov (c : CoreId) (vd va : VReg) (m : MReg)
  /-- VBCAST (R110): Broadcast a scalar into vector elements. -/
  | iVbcast (c : CoreId) (vd : VReg) (ga : GReg) (m : MReg)
  /-- VIOTA (R110): Write element numbers into a vector. -/
  | iViota (c : CoreId) (vd : VReg) (m : MReg)
  /-- VRAND (R110): Vector of generator draws. -/
  | iVrand (c : CoreId) (vd : VReg) (m : MReg)
  /-- VEXT (R110): Extract one element to a scalar. -/
  | iVext (c : CoreId) (gd : GReg) (va : VReg) (e : Fin 16)
  /-- VINS (R110): Insert a scalar into one element. -/
  | iVins (c : CoreId) (vd : VReg) (ga : GReg) (e : Fin 16)
  /-- VSUM (R110): Sum masked elements into a scalar. -/
  | iVsum (c : CoreId) (gd : GReg) (va : VReg) (m : MReg)
  /-- VCMP_EQ (R110): Vector compare equal into a mask. -/
  | iVcmpEq (c : CoreId) (md : MReg) (va vb : VReg)
  /-- VCMP_NE (R110): Vector compare not equal into a mask. -/
  | iVcmpNe (c : CoreId) (md : MReg) (va vb : VReg)
  /-- VCMP_LT (R110): Vector compare less than into a mask. -/
  | iVcmpLt (c : CoreId) (md : MReg) (va vb : VReg)
  /-- VCMP_LE (R110): Vector compare less or equal into a mask. -/
  | iVcmpLe (c : CoreId) (md : MReg) (va vb : VReg)
  /-- VCMP_GT (R110): Vector compare greater than into a mask. -/
  | iVcmpGt (c : CoreId) (md : MReg) (va vb : VReg)
  /-- VCMP_GE (R110): Vector compare greater or equal into a mask. -/
  | iVcmpGe (c : CoreId) (md : MReg) (va vb : VReg)
  /-- MAND (R111): Mask and. -/
  | iMand (c : CoreId) (md ma mb : MReg)
  /-- MOR (R111): Mask or. -/
  | iMor (c : CoreId) (md ma mb : MReg)
  /-- MXOR (R111): Mask exclusive or. -/
  | iMxor (c : CoreId) (md ma mb : MReg)
  /-- MANDN (R111): Mask and-not. -/
  | iMandn (c : CoreId) (md ma mb : MReg)
  /-- MNOT (R111): Mask invert. -/
  | iMnot (c : CoreId) (md ma : MReg)
  /-- MMOV (R111): Mask from scalar. -/
  | iMmov (c : CoreId) (md : MReg) (g : GReg)
  /-- MFM (R111): Scalar from mask. -/
  | iMfm (c : CoreId) (g : GReg) (ma : MReg)
  /-- MPOP (R111): Population count of a mask. -/
  | iMpop (c : CoreId) (g : GReg) (ma : MReg)
  /-- VACC (R115): Read and clear the current block's accumulators and saturation flag. -/
  | iVacc (c : CoreId) (vd : VReg)
  /-- ACLR (R115): Clear the current block's accumulators and saturation flag. -/
  | iAclr (c : CoreId)
  /-- DECAY (R76): Apply lazy leak over the block's elapsed ticks. -/
  | iDecay (c : CoreId) (vd va : VReg) (m : MReg) (ga : GReg)
  /-- VSCL (R79): Scale by the block channel's power of two. -/
  | iVscl (c : CoreId) (vd va : VReg) (m : MReg)
  /-- PMARK (R72): Set the current block's pending bit. -/
  | iPmark (c : CoreId) (m : MReg)
  /-- HOLD (R72): Set or clear the current block's held bit. -/
  | iHold (c : CoreId) (m : MReg)
  /-- BSTAMP (R74): Stamp LAST_TICK of the current block. -/
  | iBstamp (c : CoreId)
  /-- VTRUP_L (R116): Decay and increment the low trace half of a block. -/
  | iVtrupL (c : CoreId) (va : VReg) (m : MReg) (ga gb gc : GReg)
  /-- VTRUP_H (R116): Decay and increment the high trace half of a block. -/
  | iVtrupH (c : CoreId) (va : VReg) (m : MReg) (ga gb gc : GReg)
  /-- VEMIT_U (R117): Emit unsigned-payload events for masked neurons of the block. -/
  | iVemitU (c : CoreId) (va : VReg) (m : MReg)
  /-- VEMIT_S (R117): Emit signed-payload events for masked neurons of the block. -/
  | iVemitS (c : CoreId) (va : VReg) (m : MReg)
  /-- LD (R114): Scalar load from a view. -/
  | iLd (c : CoreId) (reg ra : GReg) (view : Fin 7) (sfx : Fin 3) (off : BitVec 11)
  /-- ST (R114): Scalar store to a view. -/
  | iSt (c : CoreId) (reg ra : GReg) (view : Fin 7) (sfx : Fin 3) (off : BitVec 11)
  /-- VLD (R68): Vector load of a block. -/
  | iVld (c : CoreId) (reg : VReg) (ra : GReg) (view : Fin 7) (sfx : Fin 3) (m : MReg) (off : BitVec 11)
  /-- VST (R68): Vector store of a block. -/
  | iVst (c : CoreId) (reg : VReg) (ra : GReg) (view : Fin 7) (sfx : Fin 3) (m : MReg) (off : BitVec 11)
  /-- BR (R118): Unconditional branch. -/
  | iBr (c : CoreId) (target : BitVec 12)
  /-- BEQ (R118): Branch if equal. -/
  | iBeq (c : CoreId) (ra rb : GReg) (target : BitVec 12)
  /-- BNE (R118): Branch if not equal. -/
  | iBne (c : CoreId) (ra rb : GReg) (target : BitVec 12)
  /-- BLT (R118): Branch if signed less. -/
  | iBlt (c : CoreId) (ra rb : GReg) (target : BitVec 12)
  /-- BGE (R118): Branch if signed greater or equal. -/
  | iBge (c : CoreId) (ra rb : GReg) (target : BitVec 12)
  /-- BLTU (R118): Branch if unsigned less. -/
  | iBltu (c : CoreId) (ra rb : GReg) (target : BitVec 12)
  /-- BGEU (R118): Branch if unsigned greater or equal. -/
  | iBgeu (c : CoreId) (ra rb : GReg) (target : BitVec 12)
  /-- BZ (R118): Branch if zero. -/
  | iBz (c : CoreId) (ra : GReg) (target : BitVec 12)
  /-- BNZ (R118): Branch if not zero. -/
  | iBnz (c : CoreId) (ra : GReg) (target : BitVec 12)
  /-- BANY (R118): Branch if any mask bit is set. -/
  | iBany (c : CoreId) (m : MReg) (target : BitVec 12)
  /-- BNONE (R118): Branch if no mask bit is set. -/
  | iBnone (c : CoreId) (m : MReg) (target : BitVec 12)
  /-- CALL (R119): Branch and save the return address in LR. -/
  | iCall (c : CoreId) (target : BitVec 12)
  /-- LOOP (R120): Start a hardware loop with a register count. -/
  | iLoop (c : CoreId) (g : GReg) (target : BitVec 12)
  /-- LOOPI (R120): Start a hardware loop with an immediate count. -/
  | iLoopi (c : CoreId) (count : BitVec 10) (target : BitVec 12)
  /-- NXTBLK_A (R74): Advance to the next active block, stamping the block left. -/
  | iNxtblkA (c : CoreId) (g : GReg) (target : BitVec 12)
  /-- NXTBLK_P (R74): Advance to the next pending block, clearing its pending bit. -/
  | iNxtblkP (c : CoreId) (g : GReg) (target : BitVec 12)
  /-- NOP (R122): No operation. -/
  | iNop (c : CoreId)
  /-- END (R123): End the running entry with the effect R69 gives it. -/
  | iEnd (c : CoreId)
  /-- RET (R119): Branch to LR. -/
  | iRet (c : CoreId)
  /-- MFS (R65): Read a special register. -/
  | iMfs (c : CoreId) (rd : GReg) (sr : Byte)
  /-- MTS (R65): Write a special register. -/
  | iMts (c : CoreId) (sr : Byte) (ra : GReg)
  /-- EMIT (R117): Send one event for a neuron, once per tick, stalling at the gate or on a full buffer. -/
  | iEmit (c : CoreId) (ra rb : GReg)
  /-- QSEND (R124): Send a descriptor to a receive queue, stalling for a credit. -/
  | iQsend (c : CoreId) (ra rb rd : GReg)
  /-- QRECV (R125): Remove the head descriptor of a receive queue, stalling while empty and returning the previous entry's credit. -/
  | iQrecv (c : CoreId) (rd ra : GReg) (q : Fin 4)
  /-- QPEEK (R125): Read a receive queue's occupancy. -/
  | iQpeek (c : CoreId) (rd : GReg) (q : Fin 4)
  /-- SIG (R126): Post a signed add to a sync object. -/
  | iSig (c : CoreId) (ra rb : GReg)
  /-- WAITS (R126): Stall until a sync object's counter reaches a value. -/
  | iWaits (c : CoreId) (ra rb : GReg)
  /-- MOD (R127): Write the core's modulator value. -/
  | iMod (c : CoreId) (ra : GReg)
  /-- MSKIP (R127): Request that the next commit leaves every plastic row unchanged. -/
  | iMskip (c : CoreId)
  /-- POWER_ON (R515): Supplies reach their ranges; the module leaves its self-held reset and latches the straps. -/
  | powerOn (straps : Straps)
  /-- SUPPLY_OUT_OF_RANGE (R515): A supply in use leaves its operating range and the module holds itself in reset whatever PERST# does. -/
  | supplyOutOfRange (vin : Bool)
  /-- PERST_PORT0 (R458): Deassertion of PERST# of port 0 resets the device, relatches the straps and runs the boot sequence to readiness or failure. -/
  | perstPort0 (straps : Straps) (f : BootFindings)
  /-- PERST_PORT (R306): PERST# of port 1, 2 or 3 acts as an FLR of that port. -/
  | perstPort (p : Port)
  /-- FLR (R306): A Function Level Reset stops the port's tenant, abandons any LOAD, disables its rings, aborts and releases its DMA channels and resets the port page. -/
  | flr (p : Port)
  /-- LINK_DOWN (R306): Loss of a port's link acts as an FLR of that port. -/
  | linkDown (p : Port)
  /-- BOOT_GO (R460): GO written to BOOT_CTRL in host push verifies the image in the window and continues boot from step 3. -/
  | bootGo (r : Req) (f : BootFindings)
  /-- NOR_WRITE (R460): NOR_WRITE in recovery copies a valid image from the window to the named NOR slot. -/
  | norWrite (r : Req) (slotB : Bool)
  /-- IN_FIELD_STEP (R471): Expiry of a tenant's TEST INTERVAL tests its longest-untested core, rotating it onto a spare or running preserving slices. -/
  | inFieldStep (t : Tenant) (crcOk : Bool) (defect : Bool)
  /-- TICK_EDGE (R412): The Shears fires a tenant's next edge, advancing tick counter and tag under the lossy, lossless, commit or hold case and placing EDGE on the Thread. -/
  | tickEdge (t : Tenant)
  /-- EDGE_AT_CORE (R72): An edge reaching a core freezes the active set, clears per-tick flags and records, and starts the UPDATE program or marks an empty one as at its gate. -/
  | edgeAtCore (c : CoreId) (underway : Option (Bool × Nat))
  /-- EMIT_PHASE_OPEN (R38): When every core of the tenant has reached its emit gate, the Shears broadcasts the opening of the emit phase. -/
  | emitPhaseOpen (t : Tenant)
  /-- COMMIT_START (R273): After the epoch's last tick has ended and drained, the Shears sends the commit start to every cluster of the tenant. -/
  | commitStart (t : Tenant)
  /-- EPOCH_ENTRY_START (R69): A core begins its EPOCH entry, or its Marver commit work, after the commit start and any running MESSAGE or halt. -/
  | epochEntryStart (c : CoreId)
  /-- COMMIT_WORK_END (R273): A core's commit work ends; it reports the end, EPOCH advances and any MSKIP request clears. -/
  | commitWorkEnd (c : CoreId)
  /-- COMMIT_REPORTS_IN (R413): When every core has reported the end of commit, the Shears takes any due snapshot and then fires the edge. -/
  | commitReportsIn (t : Tenant)
  /-- SNAPSHOT_COPY_DONE (R289): The Lehr snapshot copy to the staging area ends and the held edge may fire. -/
  | snapshotCopyDone (t : Tenant)
  /-- CORE_INGRESS (R57): An event copy arrives at a core's ingress FIFO, is tag- and gap-checked and queued or dropped. -/
  | coreIngress (c : CoreId)
  /-- INTEGRATE_EVENT (R143): The integration unit takes the head event, looks up the source filter and integrates the source's row chain into the accumulators. -/
  | integrateEvent (c : CoreId)
  /-- INTEGRATE_SEGMENT (R146): The integration unit integrates the oldest complete landing segment, then frees its slot and returns its Gather credits. -/
  | integrateSegment (c : CoreId)
  /-- EVENT_LOOKUP (R176): An injecting station takes one event from an emit buffer or ingress queue, looks up directory and group and enqueues its copies. -/
  | eventLookup (st : Station)
  /-- HOLD_REGISTER_ENQUEUE (R178): A lossless tenant's hold register enqueues its oldest event once every queue it needs has room. -/
  | holdRegisterEnqueue (st : Station) (t : Tenant)
  /-- STREAM_INJECT (R170): In an enabled INJ slot the station sends up to two events of the named stream as one flit, subject to lossless credits. -/
  | streamInject (st : Station) (slot : Fin 512)
  /-- CANE_FLIT_FORWARD (R166): A router takes the flit presented at each input, checks CRC, tenant and strays, and forwards it by its slot tables. -/
  | caneFlitForward (fab : Fabric) (st : Station) (slot : Fin 512) (crcBad : List Dir)
  /-- BEACON_MISSING (R184): No beacon arrives in slot 2 on an input, which is declared dead and reported as a device fault. -/
  | beaconMissing (fab : Fabric) (st : Station) (input : Dir) (misplaced : Bool)
  /-- CANE_EJECT (R179): An OUT_L entry hands a flit's events to the station's receive FIFO, engine partition, egress queue or readout queue. -/
  | caneEject (st : Station)
  /-- RX_LOOKUP (R149): The cluster receive unit takes one event from its FIFO, looks up the core mask and delivers copies to the masked cores. -/
  | rxLookup (cl : Cluster)
  /-- CANE_CRED (R181): A CANE_CRED packet returns credits to a stream's destination counter, discarding any excess. -/
  | caneCred (slot : Fin 44)
  /-- CANE_THOLD_REQ (R186): REQ written to CANE_THOLD requests a fabric hold of the tenant. -/
  | caneTholdReq (r : Req) (t : Tenant)
  /-- FABRIC_HOLD_BEGIN (R186): Once the tick has ended and the tenant drained with credits returned, the hold begins and STATE reads Held. -/
  | fabricHoldBegin (t : Tenant)
  /-- CANE_THOLD_REL (R188): REL written to CANE_THOLD releases the hold or cancels a request, resetting credit counters. -/
  | caneTholdRel (r : Req) (t : Tenant)
  /-- GROUP_LO_WRITE (R200): A write of CANE_GRP_LO stages the low word of a group entry for the requester. -/
  | groupLoWrite (r : Req) (st : Station) (i : Fin 16384) (v : Word)
  /-- GROUP_HI_WRITE (R200): A write of CANE_GRP_HI commits a group entry with any staged low word and empties the staging register. -/
  | groupHiWrite (r : Req) (st : Station) (i : Fin 16384) (v : Word)
  /-- ENGINE_EVENT_SERVICE (R245): A Crucible engine takes an event from a tenant partition, resolves its row and attaches it to the pending window. -/
  | engineEventService (e : Engine)
  /-- SECTOR_READ_DONE (R238): A GDDR6 sector read returns to the engine, checked by EDC and inline ECC and staged. -/
  | sectorReadDone (e : Engine) (entry : Nat) (o : SectorOutcome)
  /-- SEGMENT_SEND (R253): The engine forms a segment from staged data and hands it as a SEGMENT packet to a row-port flow of the target cluster. -/
  | segmentSend (e : Engine) (entry : Nat)
  /-- GDDR6_REFRESH (R239): The refresh interval expires and the controller refreshes the devices, placing any phase retraining step inside it. -/
  | gddr6Refresh (e : Engine) (temps : List Byte)
  /-- MEM_CFG_WRITE (R234): A write of MEM_CFG by the MP changes rate, DBI or inline ECC, retraining every channel. -/
  | memCfgWrite (r : Req) (v : Word)
  /-- MEM_TREG_WRITE (R241): A write of MEM_TREG by the MP sets a tenant region, refused on overlap or beyond capacity. -/
  | memTregWrite (r : Req) (t : Tenant) (v : Word)
  /-- ROW_TABLE_STAGE (R269): A write to words +0x04 to +0x14 of a row-table entry is held in the requester's staging set. -/
  | rowTableStage (r : Req) (e : Engine) (i : Fin 4096) (w : Fin 8) (v : Word)
  /-- ROW_TABLE_COMMIT (R269): A write to word +0x00 commits a row-table entry with its staged words, subject to the checks of R247. -/
  | rowTableCommit (r : Req) (e : Engine) (i : Fin 4096) (v : Word)
  /-- GROUP_MAP_WRITE (R270): A write of a group map word sets two group entries, subject to tenant ownership. -/
  | groupMapWrite (r : Req) (e : Engine) (j : Fin 32768) (v : Word)
  /-- GATHER_FLOW_SEND (R204): A station starts a packet on a flow in its slots once it holds a credit for every destination. -/
  | gatherFlowSend (st : Station) (flow : Fin 64) (slot : Fin 512)
  /-- GATHER_WRITE (R207): A WRITE packet is performed whole at its destination or refused, and its credit returned. -/
  | gatherWrite (st : Station) (cell : Fin 64)
  /-- QDESC (R220): A QDESC packet lands a descriptor and any push data in a receive queue, or adds into a bound combining queue. -/
  | qdesc (st : Station) (cell : Fin 64)
  /-- SEGMENT_LAND (R251): A SEGMENT packet is written into the next free landing slot of its engine's part, waiting in its cell while none is free. -/
  | segmentLand (st : Station) (cell : Fin 64)
  /-- GATHER_READ (R206): A READ packet is performed and its data returned as a WRITE on the reply flow. -/
  | gatherRead (st : Station) (cell : Fin 64)
  /-- BCAST (R208): A BCAST packet writes its payload into every masked logical core of every cluster of its flow. -/
  | bcast (st : Station) (cell : Fin 64)
  /-- GATH_CRED (R209): A GATH_CRED packet returns a flow's credits and acknowledges or reports refusal of the packet. -/
  | gathCred (slot : Fin 44)
  /-- QCRED (R221): A QCRED packet returns credits to a station's queue window entry. -/
  | qcred (slot : Fin 44)
  /-- THREAD_PLACE (R217): As its slot passes, a station places its oldest packet of the first non-empty class, re-queuing unmet WAITS. -/
  | threadPlace (slot : Fin 44)
  /-- REG_WR (R216): A register write without a row of its own is performed at the owning station under the write rules, with a done or error reply. -/
  | regWr (r : Req) (addr : BitVec 44) (v : Word)
  /-- STALL_WATCHDOG (R225): A core's continuous stall reaches LIMIT × 1,024 cc; the watchdog records and reports it once. -/
  | stallWatchdog (c : CoreId)
  /-- SYNC (R330): A SYNC packet performs ADD, WAITS or READ on a sync object, or is rejected for a foreign tenant. -/
  | sync (slot : Fin 44)
  /-- DOORBELL (R333): A DOORBELL packet forwarded from HOST performs ADD or SET on a sync object. -/
  | doorbell (slot : Fin 44)
  /-- SYNC_CNT_WRITE (R339): A write of SYNC_CNT acts as SET on the object. -/
  | syncCntWrite (r : Req) (n : Fin 8192) (v : Word)
  /-- SYNC_THR_WRITE (R339): A write of SYNC_THR sets the threshold and re-evaluates ABOVE. -/
  | syncThrWrite (r : Req) (n : Fin 8192) (v : Word)
  /-- NOTIFY_SEND (R333): The sync unit sends a NOTIFY packet for an object with NPEND set and clears NPEND. -/
  | notifySend (n : Fin 8192)
  /-- NOTIFY (R333): HOST takes a NOTIFY packet, writes the notification and raises the object's vector as NMODE selects. -/
  | notify (slot : Fin 44)
  /-- ADD_DOORBELL_WRITE (R312): A host write to an ADD doorbell in BAR4 forwards an ADD to the sync object. -/
  | addDoorbellWrite (p : Port) (off : BitVec 20) (bytes : List Byte)
  /-- SET_DOORBELL_WRITE (R312): A host write to a SET doorbell in BAR4 forwards a SET to the sync object. -/
  | setDoorbellWrite (p : Port) (off : BitVec 20) (bytes : List Byte)
  /-- INJECTION_WINDOW_WRITE (R326): A host write into an injection window appends architectural events to the host injection queue, dropping on full. -/
  | injectionWindowWrite (p : Port) (off : BitVec 13) (bytes : List Byte)
  /-- HOST_INJ_RELEASE (R327): At the emit phase opening HOST notes each injection queue's occupancy and releases the noted events. -/
  | hostInjRelease (t : Tenant)
  /-- BAR2_WRITE (R311): A host write through BAR2 is performed as Gather WRITE packets into the deep tier if the tenant may write it. -/
  | bar2Write (p : Port) (off : Nat) (bytes : List Byte)
  /-- BAR2_READ (R311): A host read through BAR2 returns deep-tier data after earlier BAR2 writes are acknowledged. -/
  | bar2Read (p : Port) (off : Nat) (len : Nat)
  /-- CMD_TAIL_WRITE (R313): A write of HI_CMD_TAIL publishes new command entries, refused when out of range. -/
  | cmdTailWrite (p : Port) (v : Word)
  /-- CMD_FETCH (R313): The device fetches command entries from the ring and accepts them one at a time in order. -/
  | cmdFetch (p : Port) (entries : Option (List (List (BitVec 64))))
  /-- CMD_ABORT (R316): ABORT written to HI_CMD_CTRL completes a waiting WAITSYNC with status 6. -/
  | cmdAbort (p : Port)
  /-- CMD_RESUME (R318): RESUME written to HI_CMD_CTRL retries the command fetch at HI_CMD_HEAD. -/
  | cmdResume (p : Port)
  /-- CMD_CFG_WRITE (R337): A write of HI_CMD_CFG enables or disables the command ring, resetting its counters on enable. -/
  | cmdCfgWrite (p : Port) (v : Word)
  /-- EV_CFG_WRITE (R337): A write of HI_EV_CFG enables or disables the event ring, resetting counters and SEQ on enable. -/
  | evCfgWrite (p : Port) (v : Word)
  /-- EV_HEAD_WRITE (R319): A write of HI_EV_HEAD frees event ring space, refused if behind or ahead of TAIL. -/
  | evHeadWrite (p : Port) (v : Word)
  /-- EVENT_RECORD_WRITE (R323): The device places the next record in the event ring when space allows, with a FILLER at the wrap, then writes back the tail. -/
  | eventRecordWrite (p : Port)
  /-- READOUT_DRAIN (R322): HOST takes readout copies into the open EVENTS record, closing it at MAXN events or a new tag. -/
  | readoutDrain (p : Port)
  /-- EVENTS_FLUSH (R322): FLUSH × 100 ns after its first event the open EVENTS record is closed. -/
  | eventsFlush (p : Port)
  /-- EV_MOD_TIMER (R325): TIME µs after the first unsignalled record, vector 2 is raised. -/
  | evModTimer (p : Port)
  /-- NOP_COMMAND (R315): The NOP command completes. -/
  | nopCommand (p : Port)
  /-- LOAD (R352): LOAD checks a parison whole and writes it, leaving the tenant Stopped, or rejects it with a reason. -/
  | load (p : Port) (first second : Option (List Byte))
  /-- START (R355): START seeds generators, clears per-core flags, resets credits and has the Shears fire the first edge. -/
  | start (p : Port)
  /-- STOP (R356): STOP enters Stopping, stops edges and waits for the tick to end and drain. -/
  | stop (p : Port)
  /-- STOP_LIMIT_EXPIRY (R356): 1 ms after STOP without drain the stop proceeds and DETAIL[0] reads 1. -/
  | stopLimitExpiry (t : Tenant)
  /-- STOP_COMPLETE (R356): Once drained or timed out and commit work and snapshot have ended, cores stop, queues empty and the tenant becomes Stopped. -/
  | stopComplete (t : Tenant)
  /-- PATCH (R358): PATCH checks a patch image and writes it directly or under a fabric hold it requests. -/
  | patch (p : Port) (image : Option (List Byte))
  /-- PATCH_HOLD_TIMEOUT (R358): A hold not Held within 50 ms is cancelled and PATCH ends with reason 0x16. -/
  | patchHoldTimeout (t : Tenant)
  /-- ASSIGN (R332): ASSIGN sets the tenant's clusters, sync blocks and deep region, waking or napping islands. -/
  | assign (p : Port)
  /-- SHARE_DECLARE (R242): SHARE declare makes the requester owner of an unlocked shared weight region. -/
  | shareDeclare (p : Port)
  /-- SHARE_LOCK (R242): SHARE lock makes the owner's shared region read-only and readable by all tenants. -/
  | shareLock (p : Port)
  /-- SHARE_UNLOCK (R242): SHARE unlock clears LOCK when no tenant reading the region runs. -/
  | shareUnlock (p : Port)
  /-- SHARE_WITHDRAW (R242): SHARE withdraw removes an unlocked shared region. -/
  | shareWithdraw (p : Port)
  /-- SAVE (R289): SAVE queues a Lehr save of the tenant's plastic rows, taking the snapshot now or at the next commit. -/
  | save (p : Port)
  /-- LEHR_SAVE_DONE (R290): The background save write finishes, its commit record makes it the set's newest save and the older save is freed. -/
  | lehrSaveDone (badBlocks : List Nat)
  /-- RESTORE (R291): RESTORE of a stopped tenant reads the newest valid save of a set. -/
  | restore (p : Port)
  /-- LEHR_RESTORE_DONE (R291): The restore read ends; checks pass and rows are written back and pre slots cleared, or the restore is refused. -/
  | lehrRestoreDone (p : Port) (newestOk olderOk : Bool)
  /-- RELEASE (R287): RELEASE discards both saves of a set and frees it. -/
  | release (p : Port)
  /-- CAPS (R346): CAPS writes the tenant's capability block to host memory. -/
  | caps (p : Port)
  /-- ATTEST (R488): ATTEST reads a nonce and writes a report signed with the identity key. -/
  | attest (p : Port) (nonce : Option (List Byte))
  /-- WAITSYNC (R315): WAITSYNC holds the ring until the object's counter reaches the value. -/
  | waitsync (p : Port)
  /-- SIGSYNC (R315): SIGSYNC adds a signed value to a sync object as a SIG does. -/
  | sigsync (p : Port)
  /-- TEST_REPORT (R470): TEST action 0 reports in-field test results. -/
  | testReport (p : Port)
  /-- TEST_SCHEDULE (R470): TEST action 1 sets or stops the tenant's in-field test schedule. -/
  | testSchedule (p : Port)
  /-- TEST_PRESERVING_PASS (R470): TEST action 2 runs one preserving pass over the tenant's cores now. -/
  | testPreservingPass (p : Port)
  /-- TEST_DESTRUCTIVE (R470): TEST action 3 runs destructive march and BIST on a stopped tenant's clusters and leaves it Unloaded. -/
  | testDestructive (p : Port)
  /-- DMA_CLAIM (R359): CLAIM gives a free DMA channel to the writer's tenant or is refused. -/
  | dmaClaim (r : Req) (ch : Fin 16) (owner : Tenant)
  /-- DMA_RELEASE (R359): RELEASE frees an idle DMA channel and resets its registers. -/
  | dmaRelease (r : Req) (ch : Fin 16)
  /-- DMA_START (R374): START makes an idle channel fetch its first descriptor from DMA_CH_NEXT. -/
  | dmaStart (r : Req) (ch : Fin 16)
  /-- DMA_ABORT (R370): ABORT stops a channel starting bursts and returns it to Idle once in-flight work completes. -/
  | dmaAbort (r : Req) (ch : Fin 16)
  /-- DMA_RESUME (R370): RESUME refetches and restarts a halted channel's current descriptor. -/
  | dmaResume (r : Req) (ch : Fin 16)
  /-- DESCRIPTOR_FETCH (R362): A channel's descriptor read returns and the descriptor is checked before any byte moves. -/
  | descriptorFetch (ch : Fin 16) (hostData : Option (List Byte))
  /-- DMA_BURST_START (R366): The engine starts one burst from the highest-priority ready channel in round-robin order. -/
  | dmaBurstStart (linkUp : Bool)
  /-- DMA_BURST_RESPONSE (R367): Read data or a write acknowledgement returns for a burst, possibly completing the descriptor or halting the channel. -/
  | dmaBurstResponse (ch : Fin 16) (burst : Nat) (hostData : Option (List Byte))
  /-- PT_CLAIM (R377): CLAIM gives a PORTS resource or timer to the writer's tenant, refused if held. -/
  | ptClaim (r : Req) (res : Resource) (owner : Tenant) (func : Fin 16)
  /-- PT_RELEASE (R378): RELEASE returns a PORTS resource or timer to its reset values. -/
  | ptRelease (r : Req) (res : Resource)
  /-- CSI_EVENT_PACKET (R383): An event-mode CSI-2 long packet is split by the field extractor into events for the ingress queue. -/
  | csiEventPacket (rx : Fin 2) (h : CsiHeader) (payload : List Byte)
  /-- CSI_FRAME_PACKET (R384): A frame-mode line feeds the temporal-difference encoder, which emits cell change events. -/
  | csiFramePacket (rx : Fin 2) (h : CsiHeader) (payload : List Byte)
  /-- CSI_FRAME_START (R382): A Frame Start short packet opens a frame, ending any open one. -/
  | csiFrameStart (rx : Fin 2) (h : CsiHeader)
  /-- CSI_FRAME_END (R382): A Frame End short packet closes the frame. -/
  | csiFrameEnd (rx : Fin 2) (h : CsiHeader)
  /-- CSI_CFG_WRITE (R384): Enabling a CSI-2 receiver in frame mode clears its reference store. -/
  | csiCfgWrite (r : Req) (rx : Fin 2) (v : Word)
  /-- KEL_ENABLE (R389): Setting KEL_CTRL.EN starts link bring-up in TRAIN. -/
  | kelEnable (r : Req) (n : Fin 8)
  /-- KEL_RETRAIN (R389): RETRAIN written to KEL_CTRL returns the link to TRAIN. -/
  | kelRetrain (r : Req) (n : Fin 8)
  /-- KEL_LOCKED (R389): 128 error-free ordered sets move the link to LOCKED, sending ACK. -/
  | kelLocked (n : Fin 8)
  /-- KEL_UP (R389): A LOCKED link that receives 16 ACKs, an IDLE or a SOF becomes UP. -/
  | kelUp (n : Fin 8)
  /-- KEL_TRAIN_TIMEOUT (R389): A link not UP within 1 ms restarts TRAIN and counts a retrain. -/
  | kelTrainTimeout (n : Fin 8)
  /-- KEL_LINK_FAIL (R389): Error or comma-loss counts on an UP link return it to TRAIN. -/
  | kelLinkFail (n : Fin 8) (codeErrors : Fin 256)
  /-- KEL_EVENTS_FRAME (R388): A received EVENTS frame is checked and its events enter the link's ingress queue. -/
  | kelEventsFrame (n : Fin 8) (f : KelFrame)
  /-- KEL_VALUE_FRAME (R388): A received VALUE frame's items are written to the matching encoder channels. -/
  | kelValueFrame (n : Fin 8) (f : KelFrame)
  /-- KEL_TX_FRAME (R390): The link transmitter sends waiting egress events or values as a frame. -/
  | kelTxFrame (n : Fin 8)
  /-- KEL_SKIP_SEND (R386): After up to 1,024 characters the transmitter sends a SKIP outside frames. -/
  | kelSkipSend (n : Fin 8)
  /-- PORTS_EMIT_OPEN (R380): At the tenant's emit phase opening PORTS evaluates its encoders and notes ingress occupancies. -/
  | portsEmitOpen (t : Tenant)
  /-- PORTS_RELEASE (R380): PORTS releases the noted ingress events into the lookup pipeline at one per fc. -/
  | portsRelease
  /-- EGRESS_MATCH (R391): PORTS takes an egress event, matches it against entries and copies it to decoders, links or pulse pins. -/
  | egressMatch
  /-- PORTS_EDGE (R397): At the tenant's edge decoders compute windowed rates and send OUT as VALUE items. -/
  | portsEdge (t : Tenant)
  /-- PULSE_END (R392): WIDTH × 4 ns after the last matched event the pulse pin returns to its safe level. -/
  | pulseEnd (n : Fin 32)
  /-- PWM_PERIOD_START (R398): At each PWM period start the pin goes active with the current OUT duty. -/
  | pwmPeriodStart (k : Fin 64)
  /-- PWM_HIGH_END (R398): The PWM high time expires and the pin returns to its inactive level. -/
  | pwmHighEnd (k : Fin 64)
  /-- FRIT_DEC_OUT_WRITE (R397): A write of FRIT_DEC_OUT sets OUT at once. -/
  | fritDecOutWrite (r : Req) (k : Fin 64) (v : Word)
  /-- FRIT_DEC_CFG_WRITE (R397): Writing CFG with EN 0 sets OUT to SAFE. -/
  | fritDecCfgWrite (r : Req) (k : Fin 64) (v : Word)
  /-- PT_EM_HI_WRITE (R408): A write of PT_EM_HI commits an egress match entry with its staged low word. -/
  | ptEmHiWrite (r : Req) (i : Fin 128) (v : Word)
  /-- GPIO_SET (R399): GPIO_SET drives the writer's FUNC 2 pins high. -/
  | gpioSet (r : Req) (v : Word)
  /-- GPIO_CLR (R399): GPIO_CLR drives the writer's FUNC 2 pins low. -/
  | gpioClr (r : Req) (v : Word)
  /-- PIN_EDGE (R399): A pin level change is synchronised and feeds GPIO_IN, edge counters, captures, triggers and wake. -/
  | pinEdge (n : Fin 32) (level : Bool)
  /-- SH_PERIOD_WRITE (R409): A write of SH_PERIOD while running is staged to take effect at the next edge. -/
  | shPeriodWrite (r : Req) (t : Tenant) (v : Word)
  /-- TIMER_TRIGGER (R418): A trigger from a timer, tick, emit opening or pin gates, resets, starts or clocks a general timer. -/
  | timerTrigger (n : Fin 16)
  /-- TIMER_MATCH (R417): The counter reaches CMP, applying self action, output change and sync signal. -/
  | timerMatch (n : Fin 16)
  /-- TIMER_OVERFLOW (R417): The counter passes PER or wraps, applying self action, output change and sync signal. -/
  | timerOverflow (n : Fin 16)
  /-- TMR_CTRL_WRITE (R418): A write of TMR_CTRL.EN enables or disables the timer, setting or clearing RUN. -/
  | tmrCtrlWrite (r : Req) (n : Fin 16) (v : Word)
  /-- TMR_CNT_LO_WRITE (R419): A write of TMR_CNT_LO loads the counter in the next step. -/
  | tmrCntLoWrite (r : Req) (n : Fin 16) (v : Word)
  /-- TMR_CNT_LO_READ (R419): A read of TMR_CNT_LO latches the high word into TMR_CNT_HI. -/
  | tmrCntLoRead (r : Req) (n : Fin 16)
  /-- CAPTURE (R421): A capture source event pushes the timer's count into the channel's queue, dropping when full. -/
  | capture (n : Fin 16) (k : Fin 4)
  /-- CAPTURE_POP (R422): A read of TMR_CAP_LO pops the oldest capture and latches its high word. -/
  | capturePop (r : Req) (n : Fin 16) (k : Fin 4)
  /-- AON_VOTE_WRITE (R436): A vote write re-evaluates the target and begins sleep entry, refuses it or wakes the device. -/
  | aonVoteWrite (r : Req) (p : Port) (v : Word)
  /-- SLEEP_ENTRY (R437): The device runs the NAP, GLORY or HOLD entry steps toward the commit window. -/
  | sleepEntry
  /-- SLEEP_ENTRY_DONE (R437): The commit window ends and the state becomes GLORY or HOLD. -/
  | sleepEntryDone
  /-- AON_WAKE (R438): WAKE written to AON_CTRL wakes the device. -/
  | aonWake (r : Req)
  /-- PAD_RELEASE (R441): PAD_RELEASE ends the hold on the writer's latched pads. -/
  | padRelease (r : Req)
  /-- WAKE_PIN (R438): A selected pin edge or level wakes the device or aborts entry. -/
  | wakePin (n : Fin 32)
  /-- WAKE_TIMER (R438): AON_WAKE_TIME expires after the commit window and wakes the device. -/
  | wakeTimer
  /-- GLORY_SAMPLE (R444): Every PERIOD oscillator cycles the sequencer restores the ports domain and opens a sample window. -/
  | glorySample
  /-- GLORY_WINDOW_END (R445): The sample window ends, slots are evaluated and the device wakes or returns to retention. -/
  | gloryWindowEnd (measured : List Nat)
  /-- WAKE_EXIT (R440): The device runs the exit steps from sleep until awake, then clears votes and signals wake objects. -/
  | wakeExit (linksOk : Bool) (memOk : Bool) (staleCores : List CoreId) (corrected : Nat) (outsideBad : Option Nat)
  /-- GOVERNOR_TICK (R447): Each ms the governor adjusts the stretch factor F against the active cap. -/
  | governorTick (power : BitVec 16) (dieTemp : Int)
  /-- AON_COOL_WRITE (R449): A write of AON_COOL.EN enters or leaves the Cool profile. -/
  | aonCoolWrite (r : Req) (v : Word)
  /-- TRANSITION (R480): TRANSITION written to SEC_LC_CTRL checks a lifecycle token and performs the wipes and fuse changes. -/
  | transition (r : Req)
  /-- SVN_COMMIT (R484): SVN_COMMIT raises the minimum SVN to the running image's SVN. -/
  | svnCommit (r : Req)
  /-- KEY_COMMIT (R485): COMMIT enrols the tenant's parison key from its window. -/
  | keyCommit (r : Req) (t : Tenant)
  /-- KEY_LOCK (R485): LOCK locks the tenant's enrolled parison key until reset or transition. -/
  | keyLock (r : Req) (t : Tenant)
  /-- TAMPER_EVENT (R483): A tamper detector trips, wiping secure SRAM and raising a device fault. -/
  | tamperEvent (detector : Fin 4)
  /-- TRNG_HEALTH_FAIL (R477): A failed TRNG health test disables the TRNG and raises a device fault. -/
  | trngHealthFail
  /-- FULL_SCAN (R482): The full-scan JTAG instruction wipes secure SRAM, disconnects keys and requests the safe state. -/
  | fullScan
  /-- LOCKSTEP_MISMATCH (R490): A Pontil lockstep mismatch enters the safe state in hardware until reset. -/
  | lockstepMismatch
  /-- MONITOR_TRIP (R491): A supply, temperature or clock monitor trips beyond its filter and enters the safe state. -/
  | monitorTrip (monitor : Fin 7)
  /-- TICK_LIVENESS_EXPIRY (R492): TIMEOUT µs without an edge makes the tenant's watchdog act once under ACT. -/
  | tickLivenessExpiry (t : Tenant)
  /-- HEARTBEAT_EXPIRY (R493): A missed host heartbeat makes the Pontil act once under ACT. -/
  | heartbeatExpiry (p : Port)
  /-- SPI_READ (R496): A safety SPI READ frame returns a Pontil register in the next response. -/
  | spiRead (frame : BitVec 64)
  /-- SPI_WRITE (R496): A safety SPI WRITE frame writes a PO register. -/
  | spiWrite (frame : BitVec 64)
  /-- SPI_NOP (R496): A safety SPI NOP frame fetches the previous response. -/
  | spiNop (frame : BitVec 64)
  /-- OPEN (R497): OPEN opens the output gate when the device is ready, not Faulted and the SPI timeout is set. -/
  | spiOpen (frame : BitVec 64)
  /-- CLOSE (R496): CLOSE closes the output gate without a safe state. -/
  | spiClose (frame : BitVec 64)
  /-- SAFE (R496): SAFE enters the safe state with SRC 6. -/
  | spiSafe (frame : BitVec 64)
  /-- PSTOP (R496): PSTOP sets PSTOP of a tenant, stopping its Shears. -/
  | spiPstop (frame : BitVec 64)
  /-- PRESUME (R496): PRESUME clears PSTOP of a tenant unless the device is Faulted. -/
  | spiPresume (frame : BitVec 64)
  /-- SPI_TIMEOUT (R497): TIMEOUT ms without a good frame while the gate is open enters the safe state. -/
  | spiTimeout
  /-- FAULT_AT_TAP (R503): The Pontil takes a FAULT packet from its tap and enters the safe state or acts under PONT_ACT. -/
  | faultAtTap (slot : Fin 44)
  /-- FAULT (R503): MGMT takes a FAULT packet into the fault summary and interrupts the MP on a new origin. -/
  | fault (slot : Fin 44)
  /-- CLEAR_PCW (R509): CLEAR_PCW written to FC_CTRL clears the P, C and W keys of a collector's seen set. -/
  | clearPcw (r : Req) (st : Station)
  /-- FA_CLEAR (R509): CLEAR written to FA_CTRL clears the fault summary. -/
  | faClear (r : Req)
  /-- SMB_SET_POINTER (R525): SMBus command 0x10 sets the address pointer. -/
  | smbSetPointer (v : Word) (pecOk : Bool)
  /-- SMB_READ_WORD (R525): SMBus command 0x11 returns the word at the pointer and advances it. -/
  | smbReadWord
  /-- SMB_WRITE_WORDS (R525): SMBus command 0x12 writes words from the pointer and advances it. -/
  | smbWriteWords (ws : List Word) (pecOk : Bool) (f : BootFindings)
  /-- SMB_ALERT_RESPONSE (R525): The SMBus Alert Response Address releases SMB_ALERT_N. -/
  | smbAlertResponse
  /-- DBG_HALT (R87): HALT written to CORE_DBG_CTRL halts the engine after the instruction in progress. -/
  | dbgHalt (r : Req) (c : CoreId)
  /-- HALT_AT_EDGE (R87): HALT_AT_EDGE halts the engine at the next edge before the tick's first entry. -/
  | haltAtEdge (r : Req) (c : CoreId)
  /-- DBG_STEP (R87): STEP executes one instruction of a halted engine. -/
  | dbgStep (r : Req) (c : CoreId)
  /-- DBG_RESUME (R87): RESUME restarts a halted engine from CORE_DBG_STAT.PC. -/
  | dbgResume (r : Req) (c : CoreId)
  /-- DBG_DATA_WRITE (R88): A write of CORE_DBG_DATA on a halted engine writes the selected architectural register. -/
  | dbgDataWrite (r : Req) (c : CoreId) (v : Word)
  /-- MESSAGE_ENTRY_START (R69): A message in a named queue starts the MESSAGE entry of an idle engine. -/
  | messageEntryStart (c : CoreId)
  /-- PERST_PORT0_ASSERT (R306): Assertion of PERST# of port 0 puts the whole device into reset, with the pads in their Reset states and the Faulted state cleared. -/
  | perstPort0Assert
  /-- REG_RD (R11): A register read at the owning station returns the field, clearing RC fields and latching paired LW words. -/
  | regRd (r : Req) (addr : BitVec 44)
  /-- COMPLETION_TIMEOUT (R369): A PCIe completion timeout expires on a DMA or ring read, ending it as a host-side bus error. -/
  | completionTimeout (x : TimeoutTarget)
  /-- LEHR_JOURNAL_SCAN_END (R292): The MP ends its scan of the Lehr commit journal after readiness and sets LEHR_STATUS.READY, releasing waiting SAVE, RESTORE and RELEASE commands. -/
  | lehrJournalScanEnd
  /-- LIFECYCLE_TRANSITION_END (R480): The island finishes the token check, wipes and fuse blows, records SEC_LC_RESULT and clears BUSY. -/
  | lifecycleTransitionEnd (ok : Bool)
  /-- SPI_WRONG_LENGTH_FRAME (R495): A safety SPI frame of any length other than 64 bits is discarded and counted in PONT_SPI_ERR. -/
  | spiWrongLengthFrame
  /-- TEST_COMPLETION (R470): An accepted async TEST command finishes its preserving pass or destructive test and writes its completion with the tested count, new entries and result. -/
  | testCompletion (t : Tenant) (defects : List CoreId)
  deriving DecidableEq, Repr

end Sys2Proof
end

