-- ==== Sys2Proof/Decode.lean ====
section
/-!
DEFINITION. The command a table word spells. The table of operations and events of the K48 gives no row any bits: a
command is not a word, and no word spells one.
-/

namespace Sys2Proof

/-- The command that nbits bits with value w spell: none, since no row of the table has bits. -/
def decodeTableWord (_nbits _w : Nat) : Option Instr := none

end Sys2Proof
end

