-- ==== Sys2Proof/Machine/Isa.lean ====
section
/-!
DEFINITION. The encodings of the Mladza instruction set: from a 32-bit program word to the instruction of a core it
spells, or none where the word is an illegal encoding (R104 to R106).
-/

namespace Sys2Proof.Machine

/-- The field of n bits at bit lo of an instruction word. -/
def fld (w : Word) (lo n : Nat) : Nat := bitsOf w.toNat lo n

/-- A field read as a scalar, vector or mask register number. -/
def fG (w : Word) (lo : Nat) : GReg := Fin.ofNat 16 (fld w lo 4)
def fV (w : Word) (lo : Nat) : VReg := Fin.ofNat 8 (fld w lo 3)
def fM (w : Word) (lo : Nat) : MReg := Fin.ofNat 4 (fld w lo 2)

/-- An instruction word is legal only when a condition on its unused fields holds (R106). -/
def legalIf (b : Bool) (i : Instr) : Option Instr := if b then some i else none

/-- Format A, major 0x01 (R107). -/
def decodeA (c : CoreId) (w : Word) : Option Instr :=
  let rd := fG w 22
  let ra := fG w 18
  let rb := fG w 14
  let shN := fld w 6 5
  let sh := BitVec.ofNat 5 shN
  let z := fld w 11 3 == 0
  let rrr := z && shN == 0
  let rrs := z && fld w 14 4 == 0
  let rr := rrs && shN == 0
  match fld w 0 6 with
  | 0x00 => legalIf rrr (.iAdd c rd ra rb)
  | 0x01 => legalIf rrr (.iSub c rd ra rb)
  | 0x02 => legalIf rrr (.iAnd c rd ra rb)
  | 0x03 => legalIf rrr (.iOr c rd ra rb)
  | 0x04 => legalIf rrr (.iXor c rd ra rb)
  | 0x05 => legalIf rrr (.iSll c rd ra rb)
  | 0x06 => legalIf rrr (.iSrl c rd ra rb)
  | 0x07 => legalIf rrr (.iSra c rd ra rb)
  | 0x08 => legalIf rrr (.iMul c rd ra rb)
  | 0x09 => legalIf rrr (.iMulhs c rd ra rb)
  | 0x0A => legalIf rrr (.iMin c rd ra rb)
  | 0x0B => legalIf rrr (.iMax c rd ra rb)
  | 0x0C => legalIf rrr (.iSlt c rd ra rb)
  | 0x0D => legalIf rrr (.iSltu c rd ra rb)
  | 0x0E => legalIf rrs (.iSlli c rd ra sh)
  | 0x0F => legalIf rrs (.iSrli c rd ra sh)
  | 0x10 => legalIf rrs (.iSrai c rd ra sh)
  | 0x11 => legalIf rr (.iSatS8 c rd ra)
  | 0x12 => legalIf rr (.iSatS16 c rd ra)
  | 0x13 => legalIf rr (.iSatU8 c rd ra)
  | 0x14 => legalIf rr (.iAbs c rd ra)
  | 0x15 => legalIf (rrs && decide (1 ≤ shN) && decide (shN ≤ 16)) (.iSrs c rd ra sh)
  | 0x16 => legalIf (rr && fld w 18 4 == 0) (.iRand c rd)
  | 0x17 => legalIf z (.iMuls c rd ra rb sh)
  | _ => none

/-- Format U, majors 0x06 and 0x07 (R108). -/
def decodeU (c : CoreId) (w : Word) (high : Bool) : Option Instr :=
  let rd := fG w 22
  let imm := BitVec.ofNat 16 (fld w 0 16)
  legalIf (fld w 16 6 == 0) (if high then .iLih c rd imm else .iLi c rd imm)

/-- Format V, major 0x10 (R110). -/
def decodeV (c : CoreId) (w : Word) : Option Instr :=
  let vd := fV w 23
  let va := fV w 20
  let vb := fV w 17
  let m := fM w 15
  let ra := fG w 6
  let shN := fld w 10 5
  let sh := BitVec.ofNat 5 shN
  let zd := fld w 23 3 == 0
  let za := fld w 20 3 == 0
  let zb := fld w 17 3 == 0
  let zm := fld w 15 2 == 0
  let zs := shN == 0
  let zr := fld w 6 4 == 0
  let vvv := zs && zr
  let vv := zb && zs && zr
  let vs := zb && zr
  let cmp := zd && zs && zr
  match fld w 0 6 with
  | 0x00 => legalIf vvv (.iVadd c vd va vb m)
  | 0x01 => legalIf vvv (.iVsub c vd va vb m)
  | 0x02 => legalIf vvv (.iVand c vd va vb m)
  | 0x03 => legalIf vvv (.iVor c vd va vb m)
  | 0x04 => legalIf vvv (.iVxor c vd va vb m)
  | 0x05 => legalIf vvv (.iVmin c vd va vb m)
  | 0x06 => legalIf vvv (.iVmax c vd va vb m)
  | 0x07 => legalIf vv (.iVabs c vd va m)
  | 0x08 => legalIf vs (.iVsll c vd va m sh)
  | 0x09 => legalIf vs (.iVsrl c vd va m sh)
  | 0x0A => legalIf vs (.iVsra c vd va m sh)
  | 0x0B => legalIf vvv (.iVsllv c vd va vb m)
  | 0x0C => legalIf vvv (.iVsrav c vd va vb m)
  | 0x0D => legalIf vvv (.iVmul c vd va vb m)
  | 0x0E => legalIf zr (.iVmuls c vd va vb m sh)
  | 0x0F => legalIf (vs && decide (1 ≤ shN) && decide (shN ≤ 16)) (.iVsrs c vd va m sh)
  | 0x10 => legalIf vv (.iVsatS8 c vd va m)
  | 0x11 => legalIf vv (.iVsatS16 c vd va m)
  | 0x12 => legalIf vv (.iVsatU8 c vd va m)
  | 0x13 => legalIf vvv (.iVsel c vd va vb m)
  | 0x14 => legalIf vv (.iVmov c vd va m)
  | 0x15 => legalIf (za && zb && zs) (.iVbcast c vd ra m)
  | 0x16 => legalIf (za && zb && zs && zr) (.iViota c vd m)
  | 0x17 => legalIf (za && zb && zs && zr) (.iVrand c vd m)
  | 0x18 => legalIf (zd && zb && zm && decide (shN ≤ 15)) (.iVext c ra va (Fin.ofNat 16 shN))
  | 0x19 => legalIf (za && zb && zm && decide (shN ≤ 15)) (.iVins c vd ra (Fin.ofNat 16 shN))
  | 0x1A => legalIf (zd && zb && zs) (.iVsum c ra va m)
  | 0x20 => legalIf cmp (.iVcmpEq c m va vb)
  | 0x21 => legalIf cmp (.iVcmpNe c m va vb)
  | 0x22 => legalIf cmp (.iVcmpLt c m va vb)
  | 0x23 => legalIf cmp (.iVcmpLe c m va vb)
  | 0x24 => legalIf cmp (.iVcmpGt c m va vb)
  | 0x25 => legalIf cmp (.iVcmpGe c m va vb)
  | _ => none

/-- Format K, major 0x11 (R111). -/
def decodeK (c : CoreId) (w : Word) : Option Instr :=
  let md := fM w 24
  let ma := fM w 22
  let mb := fM w 20
  let g := fG w 16
  let zd := fld w 24 2 == 0
  let za := fld w 22 2 == 0
  let zb := fld w 20 2 == 0
  let zg := fld w 16 4 == 0
  let z := fld w 6 10 == 0
  match fld w 0 6 with
  | 0x00 => legalIf (z && zg) (.iMand c md ma mb)
  | 0x01 => legalIf (z && zg) (.iMor c md ma mb)
  | 0x02 => legalIf (z && zg) (.iMxor c md ma mb)
  | 0x03 => legalIf (z && zg) (.iMandn c md ma mb)
  | 0x04 => legalIf (z && zg && zb) (.iMnot c md ma)
  | 0x05 => legalIf (z && za && zb) (.iMmov c md g)
  | 0x06 => legalIf (z && zd && zb) (.iMfm c g ma)
  | 0x07 => legalIf (z && zd && zb) (.iMpop c g ma)
  | _ => none

/-- Format N, major 0x12 (R115). -/
def decodeN (c : CoreId) (w : Word) : Option Instr :=
  let vd := fV w 23
  let va := fV w 20
  let m := fM w 18
  let rc := fG w 14
  let rb := fG w 10
  let ra := fG w 6
  let zd := fld w 23 3 == 0
  let za := fld w 20 3 == 0
  let zm := fld w 18 2 == 0
  let zbc := fld w 10 8 == 0
  let zr := fld w 6 4 == 0
  match fld w 0 6 with
  | 0x00 => legalIf (za && zm && zbc && zr) (.iVacc c vd)
  | 0x01 => legalIf (zd && za && zm && zbc && zr) (.iAclr c)
  | 0x02 => legalIf zbc (.iDecay c vd va m ra)
  | 0x03 => legalIf (zbc && zr) (.iVscl c vd va m)
  | 0x04 => legalIf (zd && za && zbc && zr) (.iPmark c m)
  | 0x05 => legalIf (zd && za && zbc && zr) (.iHold c m)
  | 0x06 => legalIf (zd && za && zm && zbc && zr) (.iBstamp c)
  | 0x08 => legalIf zd (.iVtrupL c va m ra rb rc)
  | 0x09 => legalIf zd (.iVtrupH c va m ra rb rc)
  | 0x0C => legalIf (zd && zbc && zr) (.iVemitU c va m)
  | 0x0D => legalIf (zd && zbc && zr) (.iVemitS c va m)
  | _ => none

/-- The combinations of view and suffix that R113 permits; vector is VLD or VST. -/
def viewOk (view sfx : Nat) (vector : Bool) : Bool :=
  match view with
  | 0 => decide (sfx ≤ 2)
  | 1 => sfx == 2
  | 2 => decide (sfx ≤ 1)
  | 3 | 4 | 5 | 6 => sfx == 2 && !vector
  | _ => false

/-- Format L, majors 0x20 to 0x23 (R112, R113). -/
def decodeL (c : CoreId) (w : Word) (store vector : Bool) : Option Instr :=
  let reg := fG w 22
  let ra := fG w 18
  let viewN := fld w 15 3
  let sfxN := fld w 13 2
  let m := fM w 11
  let off := BitVec.ofNat 11 (fld w 0 11)
  let view : Fin 7 := Fin.ofNat 7 viewN
  let sfx : Fin 3 := Fin.ofNat 3 sfxN
  let ok := decide (viewN < 7) && decide (sfxN < 3) && viewOk viewN sfxN vector
  if vector then
    legalIf (ok && fld w 25 1 == 0)
      (if store then .iVst c (fV w 22) ra view sfx m off else .iVld c (fV w 22) ra view sfx m off)
  else
    legalIf (ok && fld w 11 2 == 0) (if store then .iSt c reg ra view sfx off else .iLd c reg ra view sfx off)

/-- Format B, major 0x30 (R118). -/
def decodeB (c : CoreId) (w : Word) : Option Instr :=
  let ra := fG w 18
  let rb := fG w 14
  let t := BitVec.ofNat 12 (fld w 0 12)
  let z := fld w 12 2 == 0
  let za := fld w 18 4 == 0
  let zb := fld w 14 4 == 0
  let zh := fld w 20 2 == 0
  match fld w 22 4 with
  | 0x0 => legalIf (z && za && zb) (.iBr c t)
  | 0x1 => legalIf z (.iBeq c ra rb t)
  | 0x2 => legalIf z (.iBne c ra rb t)
  | 0x3 => legalIf z (.iBlt c ra rb t)
  | 0x4 => legalIf z (.iBge c ra rb t)
  | 0x5 => legalIf z (.iBltu c ra rb t)
  | 0x6 => legalIf z (.iBgeu c ra rb t)
  | 0x7 => legalIf (z && zb) (.iBz c ra t)
  | 0x8 => legalIf (z && zb) (.iBnz c ra t)
  | 0x9 => legalIf (z && zb && zh) (.iBany c (fM w 18) t)
  | 0xA => legalIf (z && zb && zh) (.iBnone c (fM w 18) t)
  | _ => none

/-- Format J, majors 0x31 to 0x35 (R119 to R121). -/
def decodeJ (c : CoreId) (w : Word) (op : Nat) : Option Instr :=
  let g := fG w 22
  let t := BitVec.ofNat 12 (fld w 0 12)
  let imm := BitVec.ofNat 10 (fld w 12 10)
  let zg := fld w 22 4 == 0
  let zi := fld w 12 10 == 0
  match op with
  | 0x31 => legalIf (zg && zi) (.iCall c t)
  | 0x32 => legalIf zi (.iLoop c g t)
  | 0x33 => legalIf zg (.iLoopi c imm t)
  | 0x34 => legalIf zi (.iNxtblkA c g t)
  | 0x35 => legalIf zi (.iNxtblkP c g t)
  | _ => none

/-- Format S, major 0x38 (R122, R125). -/
def decodeS (c : CoreId) (w : Word) : Option Instr :=
  let rd := fG w 22
  let ra := fG w 18
  let rb := fG w 14
  let immN := fld w 6 8
  let q : Fin 4 := Fin.ofNat 4 immN
  let zd := fld w 22 4 == 0
  let za := fld w 18 4 == 0
  let zb := fld w 14 4 == 0
  let zi := immN == 0
  match fld w 0 6 with
  | 0x00 => legalIf (zd && za && zb && zi) (.iNop c)
  | 0x01 => legalIf (zd && za && zb && zi) (.iEnd c)
  | 0x02 => legalIf (zd && za && zb && zi) (.iRet c)
  | 0x03 => legalIf (za && zb) (.iMfs c rd (BitVec.ofNat 8 immN))
  | 0x04 => legalIf (zd && zb) (.iMts c (BitVec.ofNat 8 immN) ra)
  | 0x05 => legalIf (zd && zi) (.iEmit c ra rb)
  | 0x08 => legalIf zi (.iQsend c ra rb rd)
  | 0x09 => legalIf (zb && decide (immN < 4) && decide (rd ≠ ra)) (.iQrecv c rd ra q)
  | 0x0A => legalIf (za && zb && decide (immN < 4)) (.iQpeek c rd q)
  | 0x0B => legalIf (zd && zi) (.iSig c ra rb)
  | 0x0C => legalIf (zd && zi) (.iWaits c ra rb)
  | 0x0D => legalIf (zd && zb && zi) (.iMod c ra)
  | 0x0E => legalIf (zd && za && zb && zi) (.iMskip c)
  | _ => none

/-- The instruction of core c that a program word spells; none for an illegal encoding (R105, R106). -/
def decodeWord (c : CoreId) (w : Word) : Option Instr :=
  let rd := fG w 22
  let ra := fG w 18
  let imm := BitVec.ofNat 18 (fld w 0 18)
  match fld w 26 6 with
  | 0x01 => decodeA c w
  | 0x02 => some (.iAddi c rd ra imm)
  | 0x03 => some (.iAndi c rd ra imm)
  | 0x04 => some (.iOri c rd ra imm)
  | 0x05 => some (.iXori c rd ra imm)
  | 0x06 => decodeU c w false
  | 0x07 => decodeU c w true
  | 0x10 => decodeV c w
  | 0x11 => decodeK c w
  | 0x12 => decodeN c w
  | 0x20 => decodeL c w false false
  | 0x21 => decodeL c w true false
  | 0x22 => decodeL c w false true
  | 0x23 => decodeL c w true true
  | 0x30 => decodeB c w
  | 0x31 => decodeJ c w 0x31
  | 0x32 => decodeJ c w 0x32
  | 0x33 => decodeJ c w 0x33
  | 0x34 => decodeJ c w 0x34
  | 0x35 => decodeJ c w 0x35
  | 0x38 => decodeS c w
  | _ => none

end Sys2Proof.Machine
end

