-- ==== Sys2Proof/Config.lean ====
section
/-!
DEFINITION. Values the spec leaves open: constants without a body, so that no proof can lean on them, and the few
choices that identify the part.
-/

namespace Sys2Proof.Config

/-- A value the spec does not fix, one for each use: the n-th use reads freeWord n. -/
opaque freeWord : Nat → BitVec 32

/-- What a stored deep-tier byte is masked with after the n-th change of MEM_CFG's ECC layout: the bytes the change
leaves undefined (R238). -/
opaque deepByte : Nat → Nat → BitVec 8

/-- The code of a memory in DETAIL [39:36] of an ECC fault (R501): the spec lists no codes. The argument is the
model's own number of the memory. -/
opaque memCode : Nat → BitVec 4

/-- The general timer whose OUT drives a pin claimed with FUNC 7 (R399, R416): the spec names no timer for a pin. -/
opaque timerOfPin : Nat → Fin 16

/-! ### What identifies a part, and the algorithms the spec takes from other standards -/

/-- VERSION, SVN and the body digest of the released firmware image both NOR slots hold at shipment (R529). -/
opaque fwVersion : BitVec 32
opaque fwSvn : BitVec 32
opaque fwDigest : Nat → BitVec 8

/-- The 32-byte die identifier digest (SEC_DIE) and the 1,312-byte identity public key (SEC_IDPK), by byte. -/
opaque dieByte : Nat → BitVec 8
opaque idPkByte : Nat → BitVec 8

/-- The fused part number, as the bytes the grade digest covers (R488): the spec does not say how they are coded. -/
opaque partByte : Nat → Nat → BitVec 8
/-- Its length in bytes, for a grade. -/
opaque partLen : Nat → Nat
/-- Die stepping (R305, R346) and Pontil ROM version (R508). -/
opaque stepping : BitVec 8
opaque pontVersion : BitVec 8

/-- ML-DSA-44 verification under a ROM key, 0 test, 1 production, 2 lifecycle (R476): digest and signature. -/
opaque verifyRom : Nat → List (BitVec 8) → List (BitVec 8) → Bool
/-- ML-DSA-44 verification under a parison key: key, digest and signature (R342, R485). -/
opaque verifyKey : List (BitVec 8) → List (BitVec 8) → List (BitVec 8) → Bool
/-- The ML-DSA-44 signature of a digest with the identity key, by byte (R488). -/
opaque signByte : List (BitVec 8) → Nat → BitVec 8

/-- Bytes 32 to 63 of a save's header as a function of tenant, set, row count and content length, whose widths and order the
spec does not give (R288). -/
opaque saveHeader : Nat → Nat → Nat → Nat → Nat → BitVec 8
/-- The 1 KiB block index in front of a save, as a function of its blocks (R288, R290). -/
opaque saveIndex : List Nat → Nat → BitVec 8
/-- The bytes of a commit record that its CRC covers, from set, sequence number, first block, block count and digest (R290). -/
opaque commitRecord : Nat → BitVec 32 → Nat → Nat → List (BitVec 8) → List (BitVec 8)

end Sys2Proof.Config
end

