-- ==== Sys2Proof/Machine/StateCore.lean ====
section
/-!
DEFINITION. The state of one logical core: the neuron engine, the integration unit, the Marver and the receive
queues (R64 to R102, R129 to R159, R218 to R232, R272 to R299).
-/

namespace Sys2Proof.Machine

/-- The sixteen elements of a vector register. -/
abbrev VVal := Vector Word 16

/-- A vector of sixteen zero elements. -/
def VVal.zero : VVal := Vector.replicate 16 0

/-- CORE_STATUS.STATE (R93). -/
inductive EState where
  | stopped | idle | tick | update | epoch | message | faulted
  deriving DecidableEq, Repr

/-- The code of R93. -/
def EState.code : EState → Nat
  | .stopped => 0 | .idle => 1 | .tick => 2 | .update => 3 | .epoch => 4 | .message => 5 | .faulted => 6

/-- An entry runs. -/
def EState.runs : EState → Bool
  | .tick => true | .update => true | .epoch => true | .message => true | _ => false

/-- What an engine is stalled in (R225), with the argument CL_WDOG_ARG reports. gate and shared are waits the
watchdog does not count. -/
inductive StallKind where
  | qsend | qrecv | waits | emit | gate | access
  deriving DecidableEq, Repr

/-- A stall under way: what it waits in, its argument, and whether the watchdog has reported it (R225). -/
structure Stall where
  kind : StallKind
  arg : Word
  reported : Bool
  deriving DecidableEq, Repr

/-- A WAITS in progress (R126): the request for an object and a value is on its way, or the sync unit has answered. -/
inductive WaitsReply where
  | asked (obj : Nat) (val : Word)
  | met
  | refused
  deriving DecidableEq, Repr

/-- An entry register (R96, R97). -/
structure EntryReg where
  en : Bool := false
  addr : BitVec 12 := 0
  qmask : BitVec 4 := 0
  deriving DecidableEq, Repr

/-- The architectural registers of the neuron engine (R64, R65). -/
structure Regs where
  g : Vector Word 16 := Vector.replicate 16 0
  v : Vector VVal 8 := Vector.replicate 8 VVal.zero
  m : Vector (BitVec 16) 4 := Vector.replicate 4 0
  rng : Word := 0
  lc : Word := 0
  lr : Word := 0
  pc : BitVec 12 := 0
  deriving DecidableEq, Repr

/-- The hardware loop (R120): active, first body address and TARGET. -/
structure LoopReg where
  on : Bool := false
  first : BitVec 12 := 0
  last : BitVec 12 := 0
  deriving DecidableEq, Repr

/-- Block walk state (R72 to R75): the sets, the cursors and the current block. -/
structure Blocks where
  collecting : BitVec 512 := 0
  active : BitVec 512 := 0
  /-- the collecting set as frozen at the edge: STAT.INPUT -/
  input : BitVec 512 := 0
  /-- the held set as frozen at the edge: STAT.HELD -/
  heldAt : BitVec 512 := 0
  held : BitVec 512 := 0
  pending : BitVec 512 := 0
  sat : BitVec 512 := 0
  curA : Nat := 0
  curP : Nat := 0
  cur : Option (Fin 512) := none
  /-- NXTBLK.A made the current block current, so it is stamped when left (R74) -/
  stampOnLeave : Bool := false
  /-- block table: CHANNEL [31:24], LAST_TICK [23:0] (R75) -/
  table : Tab Word := []
  /-- scale register file (R79) -/
  scale : Tab (BitVec 6) := []
  deriving DecidableEq, Repr

/-- Sticky flags and per-tick state of the engine (R38, R50, R65, R66). -/
structure TickFlags where
  vsat : Bool := false
  dupe : Bool := false
  satf : Bool := false
  /-- STAT.GAP, frozen at the edge -/
  gap : Bool := false
  /-- the gap flag collecting for the delivery in progress (R57) -/
  gapNext : Bool := false
  /-- the core has reached its emit gate (R38) -/
  gate : Bool := false
  /-- the tenant's emit phase has opened at this core: PHASE -/
  phase : Bool := false
  sent : BitVec 8192 := 0
  /-- the UPDATE program of the tick has ended (R43, R44) -/
  updEnded : Bool := true
  /-- an edge has arrived and its UPDATE program has not started (R70) -/
  edgeDue : Bool := false
  /-- a commit start has arrived and its EPOCH entry or commit work has not started (R69) -/
  commitDue : Bool := false
  /-- the commit work of the current commit has been reported (R273) -/
  commitDone : Bool := false
  /-- the Shears has placed an edge that has not reached the core yet (R411) -/
  edgeSig : Bool := false
  msgq : Fin 4 := 0
  /-- epochs the tenant has committed since it was started, as this core has seen them (R65, R273) -/
  epoch : Word := 0
  tick : Word := 0
  /-- the tag of the tick in progress, which is the tag of the delivery in progress (R41) -/
  tag : BitVec 4 := 0
  deriving DecidableEq, Repr

/-- Debug state (R86 to R88, R99 to R101). -/
structure Debug where
  halted : Bool := false
  /-- 0 HALT, 1 HALT_AT_EDGE, 2 breakpoint, 3 STEP, 4 fault -/
  reason : Nat := 0
  haltReq : Bool := false
  haltAtEdge : Bool := false
  /-- a STEP whose instruction has not completed (STALLED) -/
  stepping : Bool := false
  bpHit : Fin 4 := 0
  /-- the breakpoint at this pc has been passed by RESUME or STEP -/
  bpPassed : Bool := false
  sel : BitVec 8 := 0
  bp : Vector Word 4 := Vector.replicate 4 0
  deriving DecidableEq, Repr

/-- CORE_FAULT (R94). -/
structure FaultReg where
  cause : BitVec 4 := 0
  entry : BitVec 2 := 0
  pc : BitVec 12 := 0
  deriving DecidableEq, Repr

/-- The remaining core registers and counters of R90. -/
structure CoreRegs where
  seedSrc : Bool := false
  seed : Word := 0
  stale : Bool := false
  fault : FaultReg := {}
  updCc : BitVec 24 := 0
  gateCc : BitVec 24 := 0
  /-- the emit gate time of the tick in progress, moved to gateCc when the tick completes (R95) -/
  gateCcNow : BitVec 24 := 0
  entTick : EntryReg := {}
  entUpdate : EntryReg := {}
  entEpoch : EntryReg := {}
  entMessage : EntryReg := {}
  dupEmit : Nat := 0
  emitCnt : Nat := 0
  deriving DecidableEq, Repr

/-- The modulator and the skip request (R127). -/
structure ModReg where
  value : BitVec 8 := 0
  skip : Bool := false
  deriving DecidableEq, Repr

/-- An event in a core's emit buffer: its source, its payload and the tag of the tick it was released in (R41, R172). -/
structure EmitEv where
  src : Source
  pay : Byte
  tag : BitVec 4
  deriving DecidableEq, Repr

/-- The neuron engine. -/
structure NEngine where
  st : EState := .stopped
  regs : Regs := {}
  loop : LoopReg := {}
  blk : Blocks := {}
  fl : TickFlags := {}
  dbg : Debug := {}
  cr : CoreRegs := {}
  md : ModReg := {}
  stall : Option Stall := none
  waits : Option WaitsReply := none
  /-- elements of a VEMIT already emitted (R117: it stalls inside) -/
  emitAt : Nat := 0
  /-- the core's emit buffer, at most 4 events, oldest first (R172) -/
  emitBuf : List EmitEv := []
  deriving DecidableEq, Repr

/-- An event in the core ingress FIFO (R149), with its place in the order of arrival of the unit's items (R142). -/
structure InEv where
  src : Source
  pay : Byte
  tag : BitVec 4
  gap : Bool := false
  order : Nat := 0
  deriving DecidableEq, Repr

/-- A complete landing segment (R146, R251): its landing slot and where its Gather credit returns. Its words stand
in the landing buffer. -/
structure Seg where
  slot : Fin 16
  /-- words of the row, header included -/
  words : Nat
  src : Nat
  flow : Nat
  /-- its place in the order of arrival of the unit's items (R142) -/
  order : Nat := 0
  deriving DecidableEq, Repr

/-- The integration unit (R129 to R157). -/
structure Integ where
  salt : BitVec 12 := 0
  filtEn : Bool := false
  filtLog2 : Nat := 0
  ecUe : Bool := false
  rowErr : Bool := false
  /-- copies the receive unit has sent that have not crossed into the core (R149) -/
  crossing : List InEv := []
  fifo : List InEv := []
  /-- the place in the order of arrival that the next item takes: the model's own counter for R142 -/
  arrived : Nat := 0
  /-- complete segments, oldest first, and the next slot of each engine's part (R251) -/
  segs : List Seg := []
  nextSlot : Vector Nat 2 := Vector.replicate 2 0
  drop : Nat := 0
  late : Nat := 0
  rowErrCnt : Nat := 0
  eccCe : Nat := 0
  eccKind : Nat := 0
  eccWord : Nat := 0
  filtHit : Nat := 0
  recCnt : Nat := 0
  bankStall : Nat := 0
  segCnt : Nat := 0
  deriving DecidableEq, Repr

/-- A descriptor in a receive queue: where its credit returns (sending station and its queue window entry), or the
combining queue it announces (R221, R223). -/
structure QEnt where
  desc : BitVec 64
  origin : Option (Nat × Nat)
  comb : Option Nat
  deriving DecidableEq, Repr

/-- One receive queue (R218 to R221, R232). Entry head is the next to be popped. -/
structure RecvQ where
  entries : List QEnt := []
  head : Nat := 0
  /-- the popped entry that is still reserved (R221) -/
  kept : Option QEnt := none
  areaEn : Bool := false
  areaBase : BitVec 18 := 0
  deriving DecidableEq, Repr

/-- A rule descriptor: words A, B and C (R299). -/
structure RuleDesc where
  a : Word := 0
  b : Word := 0x187
  c : Word := 0
  deriving DecidableEq, Repr

/-- The Marver's registers (R295 to R299). -/
structure Marver where
  ctrl : Word := 0
  busy : Bool := false
  /-- the last commit was an apply commit (R297) -/
  apply : Bool := false
  cc : BitVec 24 := 0
  steps : Nat := 0
  create : Nat := 0
  prune : Nat := 0
  full : Nat := 0
  /-- the eight rule descriptors (R299) -/
  rules : Tab RuleDesc := []
  deriving DecidableEq, Repr

/-- One logical core. -/
structure Core where
  e : NEngine := {}
  i : Integ := {}
  q : Vector RecvQ 4 := Vector.replicate 4 {}
  qErr : Nat := 0
  mrv : Marver := {}
  deriving DecidableEq, Repr

end Sys2Proof.Machine
end

