-- ==== Sys2Proof/Machine/StateFabric.lean ====
section
/-!
DEFINITION. The state of a station on the three fabrics: the Cane and Gather routers, streams, flows, the Thread
queues and the fault collector, and what a cluster station adds (R148 to R232, R501, R502).
-/

namespace Sys2Proof.Machine

/-- A wire event with its per-event sideband (R47). -/
structure WireEv where
  src : Source
  pay : Byte
  grp : BitVec 16
  tag : BitVec 4
  gap : Bool := false
  deriving DecidableEq, Repr

/-- An event waiting for its directory lookup at PORTS or HOST, released at the emit phase (R42). -/
structure LookEv where
  src : Source
  pay : Byte
  tag : BitVec 4
  gap : Bool
  tenant : Tenant
  deriving DecidableEq, Repr

/-- A long data packet of the Gather (R205). -/
structure GPkt where
  op : Nat
  len : Nat
  src : Nat
  addr : Nat
  aux : BitVec 64
  data : List Byte
  tenant : Tenant
  flow : Nat
  /-- the sender's own note of the packet, which the header does not carry: what its completion completes -/
  note : Nat := 0
  /-- the reserved header bit [114] -/
  rsvd : Bool := false
  /-- the reply to a READ: the cell of its station that holds the READ, whose credit returns once the reply is sent
  (R210) -/
  ack : Option Nat := none
  deriving DecidableEq, Repr

/-- What a flit carries: up to two wire events, one part of a packet, or a dead link's origin (R161, R203, R185). -/
inductive FlitBody where
  | cane (ev0 ev1 : Option WireEv)
  | gather (p : GPkt) (index : Nat)
  | dead (origin : Nat)
  deriving DecidableEq, Repr

/-- A flit with its tenant, its BEACON and its check code (R161, R203), and the station and stream that injected it. -/
structure Flit where
  body : FlitBody
  tenant : Tenant
  src : Nat
  stream : Nat
  beacon : Bool := false
  crc : Byte := 0
  deriving DecidableEq, Repr

/-- A flit presented at an input of a router in a slot (R164). -/
structure Presented where
  fab : Fabric
  st : Nat
  input : Dir
  slot : Nat
  flit : Flit
  deriving DecidableEq, Repr

/-- Flits an OUT_L entry handed to its station, with the entry's TENANT (R179). -/
structure Ejected where
  flit : Flit
  tenant : Tenant
  deriving DecidableEq, Repr

/-- A Cane stream (R169, R197). -/
structure Stream where
  en : Bool := false
  kind : Nat := 0
  tenant : Tenant := 0
  dest : BitVec 32 := 0
  queue : List WireEv := []
  drop : Nat := 0
  sent : Nat := 0
  cwait : Nat := 0
  deriving DecidableEq, Repr

/-- A Gather flow (R204, R230) and the packets that wait for its slots. -/
structure Flow where
  en : Bool := false
  tenant : Tenant := 0
  clusters : BitVec 32 := 0
  edge : BitVec 8 := 0
  sent : Nat := 0
  queue : List GPkt := []
  /-- flits of the head packet already sent (R204) -/
  flits : Nat := 0
  /-- notes of the packets sent and not yet acknowledged, oldest first (R210) -/
  out : List Nat := []
  deriving DecidableEq, Repr

/-- A packet in a cell of the ejection buffer, with its place in arrival order (R209, R210). -/
structure Cell where
  pkt : GPkt
  order : Nat
  /-- a READ that has been performed and whose reply has not been sent (R210) -/
  busy : Bool := false
  deriving DecidableEq, Repr

/-- Cane state of one station (R160 to R201). -/
structure Cane where
  /-- slot tables, key table × 512 + slot; tables 0 to 4 are OUT_N, E, S, W, L and 5 is INJ (R189, R198) -/
  slots : Tab Word := []
  streams : Tab Stream := []
  /-- windows and credit counters, key stream × 64 + index (R181, R199) -/
  win : Tab Byte := []
  cred : Tab Byte := []
  /-- service streams of each tenant (R195) -/
  svc : Tab Word := []
  /-- hold registers of each tenant, oldest first (R178) -/
  hold : Tab (List WireEv) := []
  /-- the group table replica, key group index (R175) -/
  groups : Tab (BitVec 64) := []
  /-- staging registers of CANE_GRP_LO, key requester: entry and word (R200) -/
  stage : Tab (Option (Nat × Word)) := []
  /-- directory slice shown (offset from the lowest domain held) and group bank shown (R193) -/
  dirBank : Nat := 0
  grpBank : Nat := 0
  ecUe : Bool := false
  dangling : Bool := false
  conflict : Bool := false
  /-- CANE_LINK_ERR (R192) -/
  linkErr : BitVec 12 := 0
  stray : Nat := 0
  iso : Nat := 0
  danglingCnt : Nat := 0
  foreignGrp : Nat := 0
  eccCe : Nat := 0
  rxDrop : Nat := 0
  emitStall : Nat := 0
  lookups : Nat := 0
  /-- next core whose emit buffer the round robin looks at (R172) -/
  rr : Nat := 0
  /-- flits handed to the station and not yet taken in (R179) -/
  ejected : List Ejected := []
  /-- events released to the lookup pipeline at PORTS and HOST (R172) -/
  lookQ : List LookEv := []
  deriving DecidableEq, Repr

/-- Gather state of one station (R202 to R211, R229, R230). -/
structure Gather where
  slots : Tab Word := []
  flows : Tab Flow := []
  /-- windows and credit counters, key flow × 40 + station -/
  win : Tab Byte := []
  cred : Tab Byte := []
  /-- the ejection buffer of 64 cells -/
  cells : Tab (Option Cell) := []
  /-- flits of a packet that have come in order, key source station × 64 + flow (R204) -/
  partials : Tab Nat := []
  nextOrder : Nat := 0
  err : Bool := false
  conflict : Bool := false
  linkErr : BitVec 12 := 0
  pktTx : Nat := 0
  pktRx : Nat := 0
  errCnt : Nat := 0
  cwait : Nat := 0
  iso : Nat := 0
  stray : Nat := 0
  deriving DecidableEq, Repr

/-- A short control packet (R216). A register access is performed whole by its command, which passes its packets
(notes/assumptions/12.md). -/
inductive Pkt where
  | regWr (dst space woff : Nat) (data : Word)
  | regRd (dst space woff : Nat)
  | caneCred (dst stream index count : Nat)
  | gathCred (dst flow count : Nat) (err : Bool) (addr : Nat) (note : Nat)
  | qcred (dst entry count : Nat)
  /-- op 0 SIG, 1 WAITS, 2 READ; who is the logical core that sends it, or 32 + tenant at a shared station -/
  | sync (op obj : Nat) (val : Word) (who : Nat)
  | doorbell (port index : Nat) (val : Word)
  | notify (port obj : Nat) (val : Word)
  | fault (origin code : Nat) (detail : BitVec 40)
  /-- any other packet, by its 64 bits: its class is reserved or its destination above 39 -/
  | other (w : BitVec 64)
  deriving DecidableEq, Repr

/-- The queueing class of R217, 0 first. -/
def Pkt.cls : Pkt → Nat
  | .fault .. => 0
  | .caneCred .. => 1 | .gathCred .. => 1 | .qcred .. => 1
  | .sync .. => 2
  | .regWr .. => 3 | .regRd .. => 3
  | .doorbell .. => 4 | .notify .. => 4 | .other _ => 4

/-- A packet in a Thread slot (R213, R215, R503). -/
structure SlotPkt where
  pkt : Pkt
  /-- whether MGMT and the tap have taken a FAULT -/
  mgmtDone : Bool := false
  tapDone : Bool := false
  /-- RSP: the destination has written the reply, STATUS and a word, which the owner takes as the slot passes it -/
  reply : Option (Nat × Word) := none
  /-- the slot's check code does not match what it carries -/
  corrupt : Bool := false
  deriving DecidableEq, Repr

/-- Thread state of one station: packets waiting, by class, and the registers of R229. -/
structure ThreadSt where
  /-- key class of R217, oldest first -/
  queues : Tab (List Pkt) := []
  /-- at a shared station: the tenant served next in each class (R217), key class -/
  turn : Tab Nat := []
  /-- WAITS answered "not met", sent again when no packet of the first four classes waits (R217) -/
  again : List Pkt := []
  /-- at HOST: packets that wait for the slots of the host ports, key port -/
  portQ : Tab (List Pkt) := []
  crc : Bool := false
  tx : Nat := 0
  rx : Nat := 0
  err : Nat := 0
  deriving DecidableEq, Repr

/-- A fault collector (R502, R509). -/
structure Collector where
  /-- seen set, bit class × 64 + origin -/
  seen : BitVec 256 := 0
  suppr : Nat := 0
  last : BitVec 54 := 0
  deriving DecidableEq, Repr

/-- One station. -/
structure StationSt where
  cane : Cane := {}
  gather : Gather := {}
  thread : ThreadSt := {}
  fc : Collector := {}
  deriving DecidableEq, Repr

/-- An event in a cluster's receive FIFO or an engine's ingress partition: its tenant and where its lossless
credit returns (R59, R148). -/
structure RxEv where
  ev : WireEv
  tenant : Tenant
  src : Nat
  stream : Nat
  deriving DecidableEq, Repr

/-- A queue window entry (R231). -/
structure QWin where
  valid : Bool := false
  flow : Nat := 0
  dest : BitVec 12 := 0
  cred : Nat := 0
  window : Nat := 0
  deriving DecidableEq, Repr

/-- A combining queue (R222, R223, R231). -/
structure Combine where
  en : Bool := false
  len : Nat := 0
  lcore : Nat := 0
  queue : Nat := 0
  count : Nat := 1
  done : Bool := false
  sat : Bool := false
  received : Nat := 0
  round : Nat := 0
  deriving DecidableEq, Repr

/-- The elements of a combining vector: LEN holds their number less one (R222). -/
def Combine.elems (x : Combine) : Nat := x.len + 1

/-- What a cluster station adds (R148 to R159, R222 to R232). -/
structure ClusterSt where
  rx : List RxEv := []
  foreign : Nat := 0
  holdFc : Nat := 0
  events : Nat := 0
  qwin : Tab QWin := []
  comb : Tab Combine := []
  wdLimit : Nat := 0
  wdFired : Bool := false
  wdInsn : Nat := 0
  wdCore : Nat := 0
  wdArg : Word := 0
  wdCnt : Nat := 0
  /-- landing buffer split: words per slot (R271) -/
  lbWslots : Nat := 8
  deriving DecidableEq, Repr

end Sys2Proof.Machine
end

