-- ==== Sys2Proof/Machine/StateTime.lean ====
section
/-!
DEFINITION. The state of the timer block at PORTS: the four Shears and the sixteen general timers (R409 to R426).
-/

namespace Sys2Proof.Machine

/-- SH_STATUS.STATE (R425). -/
inductive ShState where
  | stopped | update | emit | commit | snapshot | held
  deriving DecidableEq, Repr

/-- The code of R425. -/
def ShState.code : ShState → Nat
  | .stopped => 0 | .update => 1 | .emit => 2 | .commit => 3 | .snapshot => 4 | .held => 5

/-- CANE_THOLD.STATE (R196). -/
inductive HoldState where
  | running | requested | held | releasing
  deriving DecidableEq, Repr

/-- The code of R196. -/
def HoldState.code : HoldState → Nat
  | .running => 0 | .requested => 1 | .held => 2 | .releasing => 3

/-- One Shears (R35 to R45, R409 to R415, R425). Times are timer clock steps of 4 ns. -/
structure Shears where
  deep : Bool := false
  lossless : Bool := false
  period : Nat := 250
  /-- a period write that awaits the next edge (PER_PEND) -/
  staged : Option Nat := none
  epochLen : Nat := 0
  state : ShState := .stopped
  tag : BitVec 4 := 0
  tick : Word := 0
  /-- no edge has fired since the LOAD: the first edge starts tick 0 with tag 0 (R355) -/
  fresh : Bool := true
  /-- the tenant has been started and its first edge is due -/
  first : Bool := false
  /-- T, the time of the edge of the current tick -/
  edgeAt : Nat := 0
  /-- commit reports are in and the snapshot, if any, is taken: the edge may fire (R413) -/
  commitDone : Bool := false
  hold : HoldState := .running
  /-- when a fabric hold was released -/
  relAt : Nat := 0
  overrun : Nat := 0
  stretchCnt : Nat := 0
  stretchTime : Nat := 0
  lastLen : Nat := 0
  /-- a STOP has been accepted: no further edge and no commit (R356) -/
  stopping : Bool := false
  /-- ticks elapsed in the epoch (EPTICK) -/
  eptick : Nat := 0
  pstop : Bool := false
  /-- an edge or opening that PORTS, or HOST, has not acted on yet (R214) -/
  edgePorts : Bool := false
  openPorts : Bool := false
  openHost : Bool := false
  deriving DecidableEq, Repr

/-- A capture channel (R421, R422). -/
structure CapChan where
  cfg : Word := 0
  /-- captured counts with their GAP marker, oldest first -/
  queue : List (Nat × Bool) := []
  hi : Word := 0
  drop : Nat := 0
  empty : Bool := false
  /-- its source raised an event in the last step: the count is captured in the next (R421) -/
  capNow : Bool := false
  deriving DecidableEq, Repr

/-- A general timer (R416 to R423, R426). -/
structure Timer where
  /-- TMR_OWN: the owner, if claimed; 4 is the MP -/
  owner : Option Nat := none
  ctrl : Word := 0
  trig : Word := 0
  out : Bool := false
  run : Bool := false
  ovf : Bool := false
  mat : Bool := false
  cnt : Nat := 0
  presc : Nat := 0
  cntHi : Word := 0
  cmp : Nat := 2 ^ 64 - 1
  per : Nat := 2 ^ 64 - 1
  obj : Word := 0
  setHi : Word := 0
  cap : Vector CapChan 4 := Vector.replicate 4 {}
  /-- match and overflow of the last step, which link targets see in the next (R417) -/
  lastMat : Bool := false
  lastOvf : Bool := false
  /-- a trigger that its source raised in the last step and that acts in the next (R417) -/
  trigNow : Bool := false
  /-- a TMR_CNT_LO write to load in the next step (R419) -/
  load : Option Nat := none
  deriving DecidableEq, Repr

end Sys2Proof.Machine
end

