-- ==== Sys2Proof/Machine/StateDeep.lean ====
section
/-!
DEFINITION. The state of a Crucible row engine and of its GDDR6 channels (R233 to R271).
-/

namespace Sys2Proof.Machine

/-- A deep event attached to a pending window entry (R254): its row-table index, payload, tag and gap marker, whose
it is, and how many of its segments have been handed to the Gather. -/
structure DeepEv where
  entry : Nat
  pay : Byte
  tag : BitVec 4
  gap : Bool
  tenant : Tenant
  sent : Nat := 0
  deriving DecidableEq, Repr

/-- An entry of the pending window (R254, R255): one row being read or sent, by its address and length. -/
structure WinEntry where
  /-- number of the entry, 0 to 127 -/
  id : Nat
  addr : Nat
  len : Nat
  /-- the tenant whose quota it counts against -/
  tenant : Tenant
  events : List DeepEv
  /-- the bytes staged so far, from the row's first sector on -/
  data : List Byte := []
  /-- a sector's access never completes (R236): no further sector is staged -/
  hung : Bool := false
  deriving DecidableEq, Repr

/-- A row-table entry: its six words (R269). -/
structure RowEnt where
  w0 : Word := 0
  w1 : Word := 0
  w2 : Word := 0
  w3 : Word := 0
  w4 : Word := 0
  w5 : Word := 0
  deriving DecidableEq, Repr

/-- A GDDR6 channel (R267). -/
structure ChanSt where
  temp : Byte := 0
  failed : Bool := false
  trained : Bool := false
  sr : Bool := false
  deriving DecidableEq, Repr

/-- MEM_ERR_ADDR: kind, channel within the engine and device address (R262). -/
structure MemErr where
  kind : Nat := 0
  chan : Nat := 0
  addr : Nat := 0
  deriving DecidableEq, Repr

/-- One Crucible engine. -/
structure DeepEngine where
  /-- ingress partitions, key tenant (R244) -/
  ingress : Tab (List RxEv) := []
  /-- MEM_DROP, key tenant (R263) -/
  drop : Tab Nat := []
  /-- the group map, key group index (R246) -/
  map : Tab (BitVec 16) := []
  /-- the row table, key entry (R269) -/
  rows : Tab RowEnt := []
  /-- staged row-table words, key requester × 8 + word: the entry and the word (R269) -/
  stage : Tab (Option (Nat × Word)) := []
  window : List WinEntry := []
  /-- tenant served next (R245) -/
  turn : Nat := 0
  /-- shares of the window and the staging pool, key tenant: entries and chunks (R265) -/
  quota : Tab (Nat × Nat) := []
  /-- ROUTE of each flow: 0 LOCAL, 1 to 4 a row port (R266) -/
  route : Tab Nat := []
  /-- row-port injection tables, key port × 512 + slot (R268) -/
  inj : Tab Word := []
  /-- the flow that last carried a segment of a tenant to a cluster, key tenant × 32 + cluster (R253) -/
  flowTurn : Tab Nat := []
  chan : Vector ChanSt 8 := Vector.replicate 8 {}
  selfRef : Bool := false
  ecUe : Bool := false
  edcFail : Bool := false
  region : Bool := false
  unserved : Bool := false
  err : MemErr := {}
  unservedCnt : Nat := 0
  regionErr : Nat := 0
  eccCe : Nat := 0
  edcRetry : Nat := 0
  rowsRead : Nat := 0
  merged : Nat := 0
  segs : Nat := 0
  sectors : Nat := 0
  deriving DecidableEq, Repr

end Sys2Proof.Machine
end

