-- ==== Sys2Proof/Machine/StateHost.lean ====
section
/-!
DEFINITION. The state of the host interface: port pages, rings, injection queues, sync objects and tenants
(R302 to R339, R346 to R352).
-/

namespace Sys2Proof.Machine

/-- The content of a record that waits for space in an event ring (R320, R321). -/
inductive RecBody where
  | events (tag : BitVec 4) (gap : Bool) (evs : List WireEv)
  | completion (opcode status : Nat) (detail : Word) (tag : Nat) (counter : Word) (irq : Bool)
  | note (code : Nat) (detail : BitVec 64)
  deriving DecidableEq, Repr

/-- A command fetched from the ring and not yet accepted (R313, R314): its eight words and its entry counter. -/
structure Cmd where
  words : List (BitVec 64)
  counter : Word
  deriving DecidableEq, Repr

/-- What the configuration space of a host port holds beside its constants (R303, R307, R308, R325, R328): the power state;
MSI-X Enable and Function Mask; the codes of the maximum payload and read request sizes, 128 × 2^code bytes; Enable Relaxed
Ordering; the disables of autonomous link changes; BAR2's size code, 2^code MiB; and the AER status registers. Reset values
but BAR2's are the PCI Express base specification's (PRESUMED, notes/assumptions/61.md). -/
structure PciCfg where
  d3 : Bool := false
  msixEn : Bool := false
  fnMask : Bool := false
  payload : Nat := 0
  readReq : Nat := 2
  relaxed : Bool := true
  noSpeed : Bool := false
  noWidth : Bool := false
  bar2 : Nat := 8
  aerUnc : Word := 0
  aerCor : Word := 0
  deriving DecidableEq, Repr

/-- The port page of a host port and its rings (R313 to R325, R337). -/
structure PortSt where
  linkUp : Bool := false
  width : Nat := 0
  rate : Nat := 0
  sleep : Bool := false
  cmdHalt : Bool := false
  foreign : Bool := false
  pwerr : Bool := false
  errLo : Word := 0
  errHi : Word := 0
  b2Base : BitVec 9 := 0
  cmdBase : BitVec 64 := 0
  cmdEn : Bool := false
  cmdSize : Nat := 4
  cmdTail : Word := 0
  cmdHead : Word := 0
  evBase : BitVec 64 := 0
  evWb : BitVec 64 := 0
  evEn : Bool := false
  evMaxn : Nat := 256
  evSize : Nat := 9
  evHead : Word := 0
  evTail : Word := 0
  evMod : Word := 0x00140100
  evDrop : Nat := 0
  evOversize : Nat := 0
  injDrop0 : Nat := 0
  injDrop1 : Nat := 0
  nbase : BitVec 64 := 0
  syncForeign : Nat := 0
  syncLast : Word := 0
  sleepReq : Nat := 0
  /-- commands fetched and not yet accepted, the current one first -/
  fetched : List Cmd := []
  /-- a WAITSYNC that waits (R316) -/
  waiting : Bool := false
  /-- records that wait to be written, oldest first (R323) -/
  recs : List RecBody := []
  seq : Word := 0
  /-- a readout drop has occurred since the last EVENTS record (R321) -/
  gapPend : Bool := false
  readout : List WireEv := []
  /-- the open EVENTS record and when its first event came (R322) -/
  openRec : List WireEv := []
  openAt : Nat := 0
  /-- interrupt moderation: records since the last vector 2, and when the first came (R325) -/
  modCount : Nat := 0
  modSince : Option Nat := none
  /-- the MSI-X table: address low and high and data of vector v at 3v, 3v + 1 and 3v + 2; mask and pending bits;
  and how often each vector has been signalled -/
  msix : Tab Word := []
  msixMask : BitVec 64 := BitVec.allOnes 64
  pba : BitVec 64 := 0
  irqs : Tab Nat := []
  /-- the link has been slowed for sleep; its width and rate before (R328, R440) -/
  former : Nat × Nat := (0, 0)
  /-- the data that the port's last BAR2 read returned; none: it met an error response (R311) -/
  bar2 : Option (List Byte) := none
  /-- where the last read of the command ring began (R313) -/
  fetchAt : Nat := 0
  /-- the completion status of the port's last read request: 0 Successful Completion, 1 Unsupported Request, 4 Completer
  Abort (R307), 8 none has come and none will (R236) -/
  cpl : Nat := 0
  cfg : PciCfg := {}
  deriving DecidableEq, Repr

/-- A sync object (R329). -/
structure SyncObj where
  cnt : Word := 0
  thr : Word := 0xFFFFFFFF
  above : Bool := false
  npend : Bool := false
  ovf : Bool := false
  unf : Bool := false
  nmode : Nat := 0
  vector : Nat := 4
  deriving DecidableEq, Repr

/-- TENANT_STATE (R350). -/
inductive TState where
  | unloaded | loading | stopped | running | stopping
  deriving DecidableEq, Repr

/-- The code of R350. -/
def TState.code : TState → Nat
  | .unloaded => 0 | .loading => 1 | .stopped => 2 | .running => 3 | .stopping => 4

/-- What a STOP completes when it is done: the command of a port, or nothing for an FLR (R306, R356). -/
structure StopJob where
  /-- a STOP command waits for its completion -/
  cmd : Bool
  /-- when the 1 ms limit passes, and whether it has -/
  limitAt : Nat
  expired : Bool
  deriving DecidableEq, Repr

/-- A tenant (R346, R350 to R358). -/
structure TenantSt where
  st : TState := .unloaded
  parison : List Byte := List.replicate 32 0
  abstract : List Byte := List.replicate 32 0
  patch : List Byte := List.replicate 32 0
  /-- the CONCRETE_HEADER of the loaded parison (R357) -/
  header : List Byte := []
  /-- a START has been accepted and completes with the first edge (R355) -/
  starting : Bool := false
  stop : Option StopJob := none
  /-- a PATCH waits for its fabric hold: the image and when it times out (R358) -/
  patching : Option (List Byte × Nat) := none
  /-- the image that a LOAD's check pass has read, while the tenant is Loading (R352) -/
  loading : Option (List Byte) := none
  deriving DecidableEq, Repr

end Sys2Proof.Machine
end

