-- ==== Sys2Proof/Machine/StateMp.lean ====
section
/-!
DEFINITION. The state of the management and safety side: boot and repair, the security island, the Pontil, the fault
summary and the Lehr store (R286 to R301, R452 to R511).
-/

namespace Sys2Proof.Machine

/-- An entry of the cullet list (R465). LOCATION is the model's own coding: the spec leaves it to KIND. -/
structure Cullet where
  kind : Nat
  source : Nat
  boot : Nat
  loc : Nat
  deriving DecidableEq, Repr

/-- In-field test schedule of a tenant (R470). -/
structure TestSched where
  interval : Nat := 0
  hold : Bool := false
  rotate : Bool := false
  /-- when the last step was made, and whether the MP holds the tenant's fabric for a test -/
  since : Nat := 0
  held : Bool := false
  /-- cores tested, and cullet entries added, by the tenant's in-field steps since reset -/
  tested : Nat := 0
  added : Nat := 0
  deriving DecidableEq, Repr

/-- Boot, repair and in-field test (R452 to R475). -/
structure Boot where
  /-- PERST# of port 0 is asserted, or the module holds itself in reset (R306, R515) -/
  inReset : Bool := false
  /-- the supplies are in range (R515) -/
  powered : Bool := true
  ready : Bool := false
  fail : Bool := false
  slot : Nat := 3
  stage : Nat := 0
  cause : Nat := 0
  culletLost : Bool := false
  culletFull : Bool := false
  fw : Word := 0
  svn : Nat := 0
  bodyDigest : List Byte := List.replicate 32 0
  newEntries : Nat := 0
  time : Nat := 0
  /-- the failing cells that this start's march has recorded (R463) -/
  cells : List FailCell := []
  /-- physical cores of each cluster that logical cores 0, 1, ... run on, and the spares (R468) -/
  remap : Tab (List Nat) := []
  spares : Tab (List Nat) := []
  /-- step 6 has counted the good cores, and the physical cores found defective since reset (R466 to R468) -/
  counted : Bool := false
  retired : List Nat := []
  rotations : Nat := 0
  defects : Nat := 0
  staleCnt : Nat := 0
  /-- the 2 MiB image window in MP SRAM (R460) -/
  window : Tab Byte := []
  /-- each tenant's in-field test schedule, when each core was last tested, and cores that wait for rotation at the
  next LOAD (R470 to R472) -/
  sched : Tab TestSched := []
  tested : Tab Nat := []
  rotateDue : List Nat := []
  deriving DecidableEq, Repr

/-- A tenant's parison key (R485). -/
structure ParKey where
  window : Tab Byte := []
  enrolled : Option (List Byte) := none
  locked : Bool := false
  deriving DecidableEq, Repr

/-- The volatile state of the security island (R476 to R488, R506). -/
structure Sec where
  busy : Bool := false
  result : Nat := 0
  scan : Bool := false
  trngFail : Bool := false
  keysOff : Bool := false
  detect : BitVec 4 := 0
  keys : Vector ParKey 4 := Vector.replicate 4 {}
  /-- the transition token under check (R480) -/
  token : List Byte := []
  deriving DecidableEq, Repr

/-- The fuses (R476 to R485): lifecycle state, transitions, minimum SVN, tamper events, and whether the identity seed
is still held. -/
structure Fuses where
  lc : Nat := 1
  /-- the state blown by a transition, which takes effect at the next reset (R480) -/
  blown : Nat := 1
  trans : Nat := 0
  minSvn : Nat := 0
  tamperCnt : Nat := 0
  seed : Bool := true
  /-- the row (true) and column repairs fused at the factory, and the physical cores it retired, as cluster × 36 + core
  (R467, R468) -/
  repairs : List (Bool × FailCell) := []
  retired : List Nat := []
  deriving DecidableEq, Repr

/-- A tick-liveness watchdog (R492, R508). -/
structure PontWd where
  dbgPause : Bool := false
  act : Nat := 0
  timeout : Nat := 0
  /-- when the count last restarted, and whether it may still act -/
  since : Nat := 0
  armed : Bool := true
  deriving DecidableEq, Repr

/-- A host heartbeat (R493, R508). -/
structure PontHb where
  en : Bool := false
  act : Nat := 0
  obj : Nat := 0
  timeout : Nat := 0
  since : Nat := 0
  armed : Bool := true
  deriving DecidableEq, Repr

/-- The Pontil (R489 to R500, R508). PSTOP stands in the Shears. -/
structure Pontil where
  faulted : Bool := false
  gate : Bool := false
  selfOk : Bool := false
  /-- the safe state is held in hardware (R490) -/
  hard : Bool := false
  expired : BitVec 4 := 0
  src : Nat := 0
  detail : BitVec 22 := 0
  mon : BitVec 7 := 0
  actP : Nat := 0
  actC : Nat := 0
  actW : Nat := 0
  spiTimeout : Nat := 0
  errLen : Nat := 0
  errCrc : Nat := 0
  temp : Byte := 0
  wd : Vector PontWd 4 := Vector.replicate 4 {}
  hb : Vector PontHb 4 := Vector.replicate 4 {}
  /-- the response that the next frame shifts out (R495) -/
  resp : BitVec 64 := 0
  respValid : Bool := false
  /-- the response that the last frame shifted out -/
  miso : BitVec 64 := 0
  /-- when the last good frame came -/
  lastGood : Nat := 0
  /-- the level wake request while asleep (R498) -/
  wakeReq : Bool := false
  deriving DecidableEq, Repr

/-- The record of one origin in the fault summary (R503, R509). -/
structure FaOrig where
  classes : BitVec 4 := 0
  first : Nat := 0
  dup : Nat := 0
  deriving DecidableEq, Repr

/-- The fault summary of MGMT (R503, R509). -/
structure FaultSum where
  /-- reporter, origin, code and DETAIL of the first report -/
  first : Option (Nat × Nat × Nat × BitVec 40) := none
  seen : BitVec 64 := 0
  orig : Tab FaOrig := []
  deriving DecidableEq, Repr

/-- A save in the Lehr store (R287, R290): its sequence number, blocks and content. -/
structure LehrSave where
  seq : Word
  blocks : List Nat
  content : List Byte
  deriving DecidableEq, Repr

/-- A save set (R287). -/
structure LehrSet where
  owner : Option Tenant := none
  newest : Option LehrSave := none
  older : Option LehrSave := none
  deriving DecidableEq, Repr

/-- Who waits for an asynchronous command (R315, R316). -/
structure Async where
  port : Port
  opcode : Nat
  tag : Nat
  irq : Bool
  counter : Word
  /-- an FLR has caught the command: its completion is never written (R306) -/
  silent : Bool := false
  deriving DecidableEq, Repr

/-- A 64-byte commit record (R290): slot is its place among the 4,096 of blocks 4 to 7 (R286). -/
structure CommitRec where
  slot : Nat := 0
  set : Nat
  seq : Word
  first : Nat := 0
  count : Nat := 0
  digest : List Byte := []
  crc : Word := 0
  deriving DecidableEq, Repr

/-- How far a SAVE, RESTORE or RELEASE has come. -/
inductive LehrPhase where
  /-- waits for LEHR_STATUS.READY (R292) -/
  | waiting
  /-- a SAVE whose snapshot is due at the next commit (R289) -/
  | snapDue
  /-- a SAVE whose snapshot is being copied while the edge is held -/
  | copying
  /-- a SAVE that is being written, or waits for that -/
  | writing
  /-- a SAVE whose commit record stands, and whose older save is being freed (R290) -/
  | freeing
  /-- a RESTORE that is being read -/
  | reading
  deriving DecidableEq, Repr

/-- The MP does the rest in the background: it writes the save or frees the older one (R290). -/
def LehrPhase.background (ph : LehrPhase) : Bool := ph == .writing || ph == .freeing

/-- A SAVE, RESTORE or RELEASE that has been accepted and has not completed. -/
structure LehrJob where
  who : Async
  set : Nat
  staging : Nat
  phase : LehrPhase
  /-- bytes of the snapshot's content in the staging area -/
  len : Nat := 0
  deriving DecidableEq, Repr

/-- The Lehr store (R286 to R301): saves and wear are non-volatile. -/
structure Lehr where
  ready : Bool := false
  sets : Vector LehrSet 16 := Vector.replicate 16 {}
  /-- the commit records that stand, oldest first, and the place of the next (R286) -/
  journal : List CommitRec := []
  jnext : Nat := 0
  /-- the wear table, and the retired blocks of the pool (R293) -/
  wear : Tab Nat := []
  retired : List Nat := []
  err : Nat := 0
  jobs : List LehrJob := []
  deriving DecidableEq, Repr

/-- A TEST command that has been accepted and has not completed (R470). -/
structure TestJob where
  who : Async
  tenant : Tenant
  destructive : Bool
  /-- HOLD of the command: the MP may hold the running tenant's fabric -/
  hold : Bool := false
  deriving DecidableEq, Repr

end Sys2Proof.Machine
end

