-- ==== Sys2Proof/Machine/StateIo.lean ====
section
/-!
DEFINITION. The state of the ports, the DMA engine, the always-on island and the SMBus target (R359 to R408, R427 to
R451, R525).
-/

namespace Sys2Proof.Machine

/-! ### PORTS (R376 to R408) -/

/-- What an ingress channel keeps beside its queue (R379). -/
structure InChan where
  drop : Nat := 0
  events : Nat := 0
  /-- the next event it accepts carries the gap marker -/
  gapNext : Bool := false
  deriving DecidableEq, Repr

/-- A CSI-2 receiver (R381 to R384, R404). -/
structure Csi where
  cfg : Word := 0
  ext0 : Word := 0
  ext1 : Word := 0x08400001
  td : Word := 0
  inFrame : Bool := false
  /-- lines received of the open frame -/
  line : Nat := 0
  /-- pixel lines of the cell row in progress, and whether one of them was discarded -/
  rows : List (List Nat) := []
  tainted : Bool := false
  /-- the first frame after enabling only loads the references -/
  priming : Bool := false
  refs : Tab Byte := []
  eccCorr : Nat := 0
  eccUncorr : Nat := 0
  crc : Nat := 0
  discard : Nat := 0
  frames : Nat := 0
  deriving DecidableEq, Repr

/-- A Kojan Event Link (R385 to R390, R405). -/
structure Kel where
  en : Bool := false
  /-- 0 disabled, 1 TRAIN, 2 LOCKED, 3 UP -/
  st : Nat := 0
  trainAt : Nat := 0
  rxSeq : Nat := 0
  txSeq : Nat := 0
  codeErr : Nat := 0
  crcErr : Nat := 0
  fmtErr : Nat := 0
  seqErr : Nat := 0
  retrains : Nat := 0
  rxFrames : Nat := 0
  txFrames : Nat := 0
  /-- egress events and VALUE items that wait for the transmitter -/
  txQ : List WireEv := []
  valQ : List Word := []
  /-- the last frame sent, and how many SKIPs -/
  last : Option KelFrame := none
  skips : Nat := 0
  /-- when that frame's last character leaves, and whether it ended with ABORT instead (R387, R400) -/
  sentBy : Nat := 0
  aborted : Bool := false
  deriving DecidableEq, Repr

/-- A frit encoder channel (R393 to R396, R406). -/
structure Enc where
  cfg : Word := 0
  val : Word := 0
  /-- the last VALUE item received, and the rising edges since the last evaluation -/
  linkVal : Nat := 0
  edges : Nat := 0
  state : BitVec 24 := 0
  done : Bool := false
  sat : Bool := false
  deriving DecidableEq, Repr

/-- A frit decoder channel (R397, R398, R407). GAP stands apart from CFG. -/
structure Dec where
  cfg : Word := 0
  gap : Bool := false
  gain : Word := 0
  lim : Word := 0x7FFF8000
  out : BitVec 16 := 0
  period : Nat := 0
  cnt : Nat := 0
  sum : Nat := 0
  /-- buckets by tick tag (MODE 0) -/
  buckets : Tab Nat := []
  /-- PWM: the next period start, and the end of the high time while the pin is active -/
  nextAt : Nat := 0
  highEnd : Option Nat := none
  deriving DecidableEq, Repr

/-- An egress match entry (R391, R408). -/
structure EmEnt where
  group : BitVec 16 := 0
  hi : Word := 0
  deriving DecidableEq, Repr

/-- The rest of PORTS. -/
structure Ports where
  chan : Tab InChan := []
  csi : Vector Csi 2 := Vector.replicate 2 {}
  kel : Vector Kel 8 := Vector.replicate 8 {}
  enc : Tab Enc := []
  dec : Tab Dec := []
  em : Tab EmEnt := []
  /-- staged PT_EM_LO words of each requester: entry and group (R200, R408) -/
  emStage : Tab (Option (Nat × Word)) := []
  /-- FUNC of each claimed pin -/
  func : Tab Nat := []
  gpioOut : BitVec 32 := 0
  /-- pulse widths, and the ends of the pulses that run -/
  width : Tab Nat := []
  pulseEnd : Tab (Option Nat) := []
  conflict : BitVec 4 := 0
  gated : Nat := 0
  unmatched : Nat := 0
  /-- tenant served next at the egress queues, and channel served next at the ingress queues -/
  egTurn : Nat := 0
  inTurn : Nat := 0
  /-- the levels and link enables latched on entry to sleep (R441) -/
  padLatch : BitVec 32 := 0
  kelLatch : BitVec 8 := 0
  deriving DecidableEq, Repr

/-! ### DMA (R359 to R375) -/

/-- STATE of a channel (R374). -/
inductive DmaState where
  | free | idle | running | halted | aborting
  deriving DecidableEq, Repr

/-- The code of R374. -/
def DmaState.code : DmaState → Nat
  | .free => 0 | .idle => 1 | .running => 2 | .halted => 3 | .aborting => 4

/-- A descriptor that a channel works on (R361, R367). -/
structure DmaDesc where
  /-- its number in the channel's list, and where it was fetched -/
  key : Nat
  at_ : Nat
  host : Bool
  src : Nat
  dst : Nat
  ctrl : BitVec 64
  next : Nat
  /-- bytes whose read, and whose write, has been issued, and bytes acknowledged -/
  rdIssued : Nat := 0
  wrIssued : Nat := 0
  acked : Nat := 0
  /-- bytes read, by offset -/
  got : Tab (Option Byte) := []
  /-- the zero-length read of its host writes has been issued -/
  flushed : Bool := false
  deriving DecidableEq, Repr

/-- A burst in flight (R364). dir: 0 descriptor fetch, 1 source read, 2 destination write, 3 zero-length read. -/
structure Burst where
  id : Nat
  dir : Nat
  host : Bool
  addr : Nat
  len : Nat
  /-- the descriptor it belongs to, and its offset in it -/
  desc : Nat
  off : Nat
  /-- the answer from the Gather: done, and the data of a READ -/
  resp : Option (Bool × List Byte) := none
  deriving DecidableEq, Repr

/-- DMA_CH_ERR: cause, direction, space and address (R369). -/
structure DmaErr where
  cause : Nat := 0
  dir : Nat := 0
  host : Bool := false
  addr : Nat := 0
  deriving DecidableEq, Repr

/-- A DMA channel. -/
structure DmaCh where
  owner : Tenant := 0
  st : DmaState := .free
  prio : Nat := 0
  firstSpace : Bool := false
  next : BitVec 64 := 0
  obj : Word := 0
  done : Nat := 0
  bytes : Nat := 0
  cur : Nat := 0
  curHost : Bool := false
  /-- bytes of the descriptor at cur that a halt has left unacknowledged (R374) -/
  remain : Nat := 0
  /-- the descriptor that is being fetched: its address and space -/
  fetch : Option (Nat × Bool) := none
  descs : List DmaDesc := []
  bursts : List Burst := []
  /-- the number of the next burst: it goes on through a release, so that no two bursts of a channel share one -/
  nextId : Nat := 0
  /-- the latched error, and one found while bursts were in flight -/
  err : DmaErr := {}
  failing : Option DmaErr := none
  /-- an FLR releases the channel once its abort has ended (R371) -/
  releaseAfter : Bool := false
  deriving DecidableEq, Repr

/-- The DMA engine. -/
structure Dma where
  ch : Vector DmaCh 16 := Vector.replicate 16 {}
  conflict : BitVec 4 := 0
  /-- route table, key tenant × 40 + station -/
  rt : Tab Word := []
  /-- channel served next of each priority -/
  turn : Tab Nat := []
  deriving DecidableEq, Repr

/-! ### The always-on island (R434 to R451) -/

/-- The always-on island. st is 0 while awake, else the code of R451. -/
structure Aon where
  st : Nat := 0
  /-- entry in progress: its target; whether its commit window is open, and when that ends -/
  entering : Option Nat := none
  window : Bool := false
  entryEnd : Nat := 0
  /-- when the device fell asleep, and when the last GLORY sample was taken -/
  sleptAt : Nat := 0
  sampledAt : Nat := 0
  /-- WAKE# of each port, asserted by a port whose link is down at wake (R440) -/
  wakePins : BitVec 4 := 0
  votes : Vector Nat 4 := Vector.replicate 4 0
  objs : Tab Word := []
  refused : Bool := false
  aborted : Bool := false
  govLimit : Bool := false
  cause : Nat := 0
  padsHeld : BitVec 4 := 0
  wakeEdge : BitVec 32 := 0
  wakeLvl : BitVec 32 := 0
  wakePol : BitVec 32 := 0
  wakeTime : Nat := 0
  srcBits : BitVec 7 := 0
  srcSlots : BitVec 8 := 0
  srcPin : Nat := 0
  lost : Nat := 0
  gloryPeriod : Nat := 0
  gloryWin : Nat := 1
  gloryCnt : Nat := 0
  /-- a GLORY sample window is open -/
  sampling : Bool := false
  /-- slots, in the layout of AON_GLORY_SLOT -/
  slots : Tab Word := []
  cool : Bool := false
  power : BitVec 16 := 0
  retCe : Nat := 0
  /-- a wake has been decided and the exit steps have not ended -/
  waking : Bool := false
  deriving DecidableEq, Repr

/-- The SMBus target (R525). -/
structure Smb where
  pointer : Word := 0
  alert : Bool := false
  /-- the last word read, and whether the last transaction was acknowledged -/
  data : Word := 0
  acked : Bool := true
  deriving DecidableEq, Repr

end Sys2Proof.Machine
end

