-- ==== Sys2Proof/Machine/Tab.lean ====
section
/-!
DEFINITION. Sparse tables: reading an entry, writing one while keeping the canonical form, and that form.
-/

namespace Sys2Proof

/-- The value of key k: the listed one, or the default d. -/
def Tab.get {V : Type} (t : Tab V) (d : V) (k : Nat) : V :=
  match t with
  | [] => d
  | (j, v) :: r => if j = k then v else Tab.get r d k

/-- The table without key k. -/
def Tab.erase {V : Type} (t : Tab V) (k : Nat) : Tab V :=
  match t with
  | [] => []
  | (j, v) :: r => if j = k then Tab.erase r k else (j, v) :: Tab.erase r k

/-- The table with an entry for k put before the first larger key. -/
def Tab.insert {V : Type} (t : Tab V) (k : Nat) (v : V) : Tab V :=
  match t with
  | [] => [(k, v)]
  | (j, w) :: r => if k < j then (k, v) :: (j, w) :: r else (j, w) :: Tab.insert r k v

/-- Write v at k: an entry equal to the default is not listed. -/
def Tab.put {V : Type} [DecidableEq V] (t : Tab V) (d : V) (k : Nat) (v : V) : Tab V :=
  if v = d then Tab.erase t k else Tab.insert (Tab.erase t k) k v

/-- Change the entry of k by f. -/
def Tab.modify {V : Type} [DecidableEq V] (t : Tab V) (d : V) (k : Nat) (f : V → V) : Tab V :=
  Tab.put t d k (f (Tab.get t d k))

/-- Change every entry of a list of keys by f. -/
def Tab.modifyAll {V : Type} [DecidableEq V] (t : Tab V) (d : V) (ks : List Nat) (f : Nat → V → V) : Tab V :=
  ks.foldl (fun u k => Tab.put u d k (f k (Tab.get u d k))) t

/-- Every key of the list is above lo, and they rise strictly. -/
def Tab.rising {V : Type} (lo : Option Nat) : Tab V → Bool
  | [] => true
  | (k, _) :: r => (match lo with | none => true | some l => decide (l < k)) && Tab.rising (some k) r

/-- The canonical form: keys strictly rising and no entry equal to the default. -/
def Tab.wf {V : Type} [DecidableEq V] (t : Tab V) (d : V) : Bool :=
  Tab.rising none t && t.all (fun e => decide (e.2 ≠ d))

end Sys2Proof
end

