-- ==== Sys2Proof/Machine/State.lean ====
section
/-!
DEFINITION. The state of the whole block, the reasons a step can stop, and the machine right after reset.
-/

namespace Sys2Proof.Machine

/-- The reasons a step can stop with a fault. The spec gives every command an effect, and what it calls a fault is a
recorded state of the device (a FAULT packet, an error flag, a halted engine), so a step never stops. -/
inductive Fault where
  /-- raised by no command: the type needs a constructor only so that it is not empty. Safe: nothing stops with it -/
  | stopped
  deriving DecidableEq, Repr

/-- The reasons a command can be refused by the model. -/
inductive Refusal where
  /-- for a command whose meaning is not written, by its mnemonic: raised by no command, since each has its meaning.
  Safe: nothing would happen -/
  | notModelled (mnemonic : String)
  deriving DecidableEq, Repr

/-- The whole block. -/
structure State where
  /-- timer clock steps of 4 ns since the device was first powered (R409) -/
  now : Nat := 0
  /-- the model's own counter of the free values used (notes/assumptions/3.md) -/
  freeCtr : Nat := 0
  /-- the part's grade (R2) -/
  grade : Grade := .k1024
  /-- the tenant each cluster belongs to (R25) -/
  assign : Tab (Option Tenant) := []
  /-- the Shears of each tenant (R409) -/
  sh : Vector Shears 4 := Vector.replicate 4 {}
  /-- the logical cores, key CoreId.key (R3), the clusters' own state and the stations (R17) -/
  cores : Tab Core := []
  clusters : Tab ClusterSt := []
  stations : Tab StationSt := []
  /-- when the fabric last left reset: the wheel and the Thread position count from here (R163, R212, R440) -/
  wheelAt : Nat := 0
  /-- flits presented at router inputs (R164) -/
  flight : List Presented := []
  /-- the slots of the Thread (R212) -/
  thread : Tab (Option SlotPkt) := []
  /-- the directory slices, key domain × 2^18 + local index (R173) -/
  dir : Tab (BitVec 16) := []
  /-- the core-mask table, one bit per physical core, key cluster × 65536 + group (R18, R148, R151) -/
  masks : Tab (BitVec 36) := []
  /-- the two Crucible engines -/
  deep : Vector DeepEngine 2 := Vector.replicate 2 {}
  /-- MEM_CFG: data rate, bus inversion and inline ECC (R261) -/
  memRate : Nat := 3
  memDbi : Bool := true
  memEcc : Bool := false
  /-- MEM_TREG of each tenant and MEM_SHR (R264) -/
  treg : Tab Word := []
  shr : Word := 0
  /-- the strap pins as latched (R452) -/
  straps : Straps := {}
  /-- the host ports and their tenants (R302, R350) -/
  ports : Vector PortSt 4 := Vector.replicate 4 {}
  tenants : Vector TenantSt 4 := Vector.replicate 4 {}
  /-- the last reply to a register access of each requester, key Req.key: performed, and the data read -/
  replies : Tab (Option (Bool × Word)) := []
  /-- the sync objects (R329) -/
  sync : Tab SyncObj := []
  /-- owner of each block of 512 sync objects (R329) -/
  syncOwn : Tab (Option Tenant) := []
  /-- notification sequence number of each tenant (R333) -/
  nseq : Vector Word 4 := Vector.replicate 4 0
  /-- host injection queues, key 2 × tenant + queue, and how many events of each are noted (R326, R327) -/
  inj : Tab (List LookEv) := []
  injNoted : Tab Nat := []
  /-- PORTS egress queues and their drop counters, key tenant (R179, R394) -/
  egress : Tab (List WireEv) := []
  egDrop : Tab Nat := []
  /-- the governor's stretch factor F, in sixteenths (R448) -/
  govF : Nat := 16
  /-- owner of each PORTS resource, a tenant or 4 for the MP: ingress channel c at c, encoder at 16 + k, decoder at
  80 + k, pin at 144 + n (R376, R377) -/
  own : Tab (Option Nat) := []
  /-- PORTS ingress queues and how many events of each are noted for release, key channel (R379, R380) -/
  pin : Tab (List LookEv) := []
  pinNoted : Tab Nat := []
  /-- synchronised levels of the GPIO pins (R399) -/
  pinIn : BitVec 32 := 0
  /-- the sixteen general timers (R416) -/
  timers : Vector Timer 16 := Vector.replicate 16 {}
  /-- the memories of the device address space in canonical form (R29, R30) -/
  mem : List Host.Cell := []
  /-- how often the content of the deep tier, and of each core's and cluster's memories, has become undefined -/
  deepGen : Nat := 0
  coreGen : Tab Nat := []
  /-- addresses of words that hold an uncorrectable, or a corrected, ECC error (R147) -/
  eccUe : List Nat := []
  eccCe : List Nat := []
  /-- a debugger halts the MP (R423) -/
  mpHalted : Bool := false
  /-- how many tries of the next burst at a 32-byte sector of the deep tier its EDC code fails (R236) -/
  edc : Tab Nat := []
  /-- boot and repair, the fuses, the security island, the Pontil, the fault summary, the Lehr store and the TEST
  commands under way (R286 to R301, R452 to R511) -/
  boot : Boot := {}
  fuses : Fuses := {}
  sec : Sec := {}
  pont : Pontil := {}
  fa : FaultSum := {}
  lehr : Lehr := {}
  tests : List TestJob := []
  /-- PORTS, the DMA engine, the always-on island and the SMBus target (R359 to R451, R525) -/
  io : Ports := {}
  dma : Dma := {}
  aon : Aon := {}
  smb : Smb := {}
  /-- the two NOR slots once written; none: the image the part ships with (R529) -/
  nor : Vector (Option (Tab Byte)) 2 := Vector.replicate 2 none
  /-- the cullet list and the start-up count (R465) -/
  cullet : List Cullet := []
  starts : Nat := 0
  /-- what the device has written to host memory, key port × 2^64 + bus address -/
  hostMem : Tab Byte := []
  /-- interrupts raised to the management processor -/
  mpIrq : Nat := 0
  /-- commands that wait, first in first out -/
  pending : List Instr := []
  deriving DecidableEq, Repr

/-- The block right after reset: every register at its reset value, no command waiting, and the device not yet booted
(R452, R458). The straps read 0, so the default tenant map gives tenant 0 every cluster, every sync block and the whole
share of each engine (R24, R265, R454). The boot sequence itself is the effect of PERST_PORT0. -/
def State.reset : State :=
  { assign := (List.range 32).map fun c => (c, some 0)
    syncOwn := (List.range 16).map fun b => (b, some 0)
    deep := Vector.replicate 2 { quota := [(0, (128, 4096))] } }

end Sys2Proof.Machine
end

