-- ==== Sys2Proof/Machine/Ops.lean ====
section
/-!
DEFINITION. The named operations over the state: its tables of cores, clusters and stations, the memories of the
device address space, free values, packets handed to the Thread and faults handed to a fault collector.
-/

namespace Sys2Proof.Machine

/-! ### Tables -/

/-- The core with table key k (CoreId.key). -/
def State.core (s : State) (k : Nat) : Core := Tab.get s.cores {} k
/-- Replace a core. -/
def State.setCore (s : State) (k : Nat) (c : Core) : State := { s with cores := Tab.put s.cores {} k c }
/-- Change a core. -/
def State.modCore (s : State) (k : Nat) (f : Core → Core) : State := s.setCore k (f (s.core k))

/-- A cluster's own state. -/
def State.cluster (s : State) (c : Nat) : ClusterSt := Tab.get s.clusters {} c
/-- Replace a cluster's state. -/
def State.setCluster (s : State) (c : Nat) (x : ClusterSt) : State := { s with clusters := Tab.put s.clusters {} c x }
/-- Change a cluster's state. -/
def State.modCluster (s : State) (c : Nat) (f : ClusterSt → ClusterSt) : State := s.setCluster c (f (s.cluster c))

/-- A station's state. -/
def State.station (s : State) (n : Nat) : StationSt := Tab.get s.stations {} n
/-- Replace a station's state. -/
def State.setStation (s : State) (n : Nat) (x : StationSt) : State := { s with stations := Tab.put s.stations {} n x }
/-- Change a station's state. -/
def State.modStation (s : State) (n : Nat) (f : StationSt → StationSt) : State := s.setStation n (f (s.station n))
/-- Change a station's Cane, Gather or Thread state. -/
def State.modCane (s : State) (n : Nat) (f : Cane → Cane) : State :=
  s.modStation n fun x => { x with cane := f x.cane }
def State.modGather (s : State) (n : Nat) (f : Gather → Gather) : State :=
  s.modStation n fun x => { x with gather := f x.gather }
def State.modThread (s : State) (n : Nat) (f : ThreadSt → ThreadSt) : State :=
  s.modStation n fun x => { x with thread := f x.thread }

/-- Change the neuron engine or the integration unit of a core. -/
def State.modE (s : State) (k : Nat) (f : NEngine → NEngine) : State := s.modCore k fun c => { c with e := f c.e }
def State.modI (s : State) (k : Nat) (f : Integ → Integ) : State := s.modCore k fun c => { c with i := f c.i }

/-- The Shears of a tenant. -/
def State.shear (s : State) (t : Tenant) : Shears := s.sh[t.val]
/-- Change a Shears. -/
def State.modShear (s : State) (t : Tenant) (f : Shears → Shears) : State :=
  { s with sh := s.sh.set t.val (f s.sh[t.val]) }

/-- The tenant of a cluster, if any (R25). -/
def State.tenantOf (s : State) (cl : Nat) : Option Tenant := Tab.get s.assign none cl
/-- The clusters of a tenant. -/
def State.clustersOf (s : State) (t : Tenant) : List Nat := (List.range 32).filter fun c => s.tenantOf c == some t
/-- The keys of the logical cores of a cluster in this grade (R2). -/
def State.coresIn (s : State) (cl : Nat) : List Nat := (List.range s.grade.perCluster).map fun l => cl * 32 + l
/-- The keys of the logical cores of a tenant. -/
def State.coresOf (s : State) (t : Tenant) : List Nat := (s.clustersOf t).flatMap fun c => s.coresIn c
/-- The tenant of the core with key k. -/
def State.coreTenant (s : State) (k : Nat) : Option Tenant := s.tenantOf (k / 32)
/-- A logical core exists in this grade (R29). -/
def State.coreExists (s : State) (k : Nat) : Bool := decide (k / 32 < 32) && decide (k % 32 < s.grade.perCluster)
/-- Whether a tenant runs in lossless mode (R54). -/
def State.lossless (s : State) (t : Tenant) : Bool := (s.shear t).lossless
/-- Whether a core's tenant runs in lossless mode. -/
def State.coreLossless (s : State) (k : Nat) : Bool :=
  match s.coreTenant k with | some t => s.lossless t | none => false

/-! ### Free values -/

/-- The next free value: a value the spec leaves open. -/
def State.free (s : State) : Word := Config.freeWord s.freeCtr
/-- The state after a free value has been used. -/
def State.spend (s : State) : State := { s with freeCtr := s.freeCtr + 1 }

/-- The fabric, the MP, the DMA unit and the ports domain run: the device is awake or in NAP, and no entry to GLORY or
HOLD has reached its commit window (R434, R437). -/
def State.fabricRuns (s : State) : Bool := decide (s.aon.st < 3) && !s.aon.window

/-! ### The device address space (R29, R30) -/

/-- First address beyond the deep-tier range (R29). -/
def deepTop : Nat := 0x8_0000_0000
/-- First address of the core memories and of cluster shared memory (R29). -/
def coreBase : Nat := 0x200_0000_0000
def sharedBase : Nat := 0x300_0000_0000
/-- First address of the register region (R29). -/
def regBase : Nat := 0x400_0000_0000

/-- The window of the core with key k (R29). -/
def coreWindow (k : Nat) : Nat := coreBase + (k / 32) * 0x200_0000 + (k % 32) * 0x8_0000
/-- The memories of a core window (R30). -/
def synAddr (k i : Nat) : Nat := coreWindow k + 4 * i
def nsAddr (k i : Nat) : Nat := coreWindow k + 0x3_0000 + 4 * i
def acAddr (k i : Nat) : Nat := coreWindow k + 0x3_8000 + 4 * i
def trAddr (k i : Nat) : Nat := coreWindow k + 0x4_0000 + 2 * i
def progAddr (k i : Nat) : Nat := coreWindow k + 0x4_4000 + 4 * i
def lbAddr (k i : Nat) : Nat := coreWindow k + 0x4_8000 + 4 * i
/-- Word i of a cluster's shared memory. -/
def shAddr (cl i : Nat) : Nat := sharedBase + cl * 0x10_0000 + 4 * i

/-- An address lies in some core's accumulator view. -/
def inAcView (a : Nat) : Bool :=
  decide (coreBase ≤ a) && decide (a < coreBase + 0x4000_0000) &&
    decide (0x3_8000 ≤ a % 0x8_0000) && decide (a % 0x8_0000 < 0x4_0000)

/-- The mask that stands between a stored byte and what it reads as: nothing in an even generation, and unknown bytes in an
odd one, after an event has left the memory's content undefined. -/
def genMask (gen a : Nat) : Byte := if gen % 2 = 0 then 0 else Config.deepByte gen a
/-- The next generation of undefined content. -/
def nextGen (gen : Nat) : Nat := gen + 1 + gen % 2

/-- The part of coreGen that an address beyond the deep tier belongs to: a core's window, or 1024 + a cluster's shared
memory. -/
def genOf (a : Nat) : Nat :=
  if a < sharedBase then (a - coreBase) / 0x200_0000 * 32 + (a - coreBase) % 0x200_0000 / 0x8_0000
  else 1024 + (a - sharedBase) / 0x10_0000

/-- The mask at an address. The deep tier's content is undefined after MEM_CFG changes the ECC layout (R238), a core's
after it went stale (R443, R471) and a cluster's memories after a destructive test (R470). -/
def State.maskAt (s : State) (a : Nat) : Byte :=
  if a < deepTop then genMask s.deepGen a else genMask (Tab.get s.coreGen 0 (genOf a)) a

/-- The byte stored at an address. -/
def State.rawByte (s : State) (a : Nat) : Byte := Tab.get s.mem 0 a ^^^ s.maskAt a

/-- Read one byte. The top byte of an accumulator word is the sign of its 24-bit value (R30). -/
def State.readByte (s : State) (a : Nat) : Byte :=
  if inAcView a && a % 4 == 3 then (if (s.rawByte (a - 1)).msb then 0xFF else 0) else s.rawByte a

/-- Write one byte. The top byte of an accumulator word is ignored (R30). -/
def State.writeByte (s : State) (a : Nat) (b : Byte) : State :=
  if inAcView a && a % 4 == 3 then s else { s with mem := Tab.put s.mem 0 a (b ^^^ s.maskAt a) }

/-- A destructive march leaves a core's memories, or a cluster's shared memory, zero with valid ECC (R462); part as genOf
numbers it. -/
def State.zeroPart (s : State) (part : Nat) : State :=
  let keeps (a : Nat) : Bool := decide (a < deepTop) || genOf a != part
  { s with
    mem := s.mem.filter fun c => keeps c.1
    coreGen := Tab.modify s.coreGen 0 part fun g => g + g % 2
    eccUe := s.eccUe.filter keeps
    eccCe := s.eccCe.filter keeps }

/-- A core's memories become undefined. -/
def State.scramble (s : State) (part : Nat) : State := { s with coreGen := Tab.modify s.coreGen 0 part nextGen }

/-- Read n bytes from a. -/
def State.readBytes (s : State) (a n : Nat) : List Byte := (List.range n).map fun i => s.readByte (a + i)
/-- Write a list of bytes from a. -/
def State.writeBytes (s : State) (a : Nat) : List Byte → State
  | [] => s
  | b :: bs => (s.writeByte a b).writeBytes (a + 1) bs

/-- The bytes one ECC word covers at an address: 32 of the deep tier's sectors (R236), 8 of a synapse SRAM and 4 of
every other memory (R131). -/
def eccSpan (a : Nat) : Nat :=
  if a < deepTop then 32
  else if a < sharedBase ∧ (a - coreBase) % 0x8_0000 < 0x3_0000 then 8
  else 4

/-- A write of n bytes from a recomputes the ECC of every word it touches: an error any of them held is gone (R131). -/
def State.clearEcc (s : State) (a n : Nat) : State :=
  let keep (x : Nat) : Bool := !(decide (x < a + n) && decide (a < x + eccSpan x))
  { s with eccUe := s.eccUe.filter keep, eccCe := s.eccCe.filter keep }

/-- Read a 32-bit word, least significant byte first. -/
def State.readWord (s : State) (a : Nat) : Word := BitVec.ofNat 32 (leNat (s.readBytes a 4))
/-- Write a 32-bit word and clear any ECC error it held. -/
def State.writeWord (s : State) (a : Nat) (w : Word) : State :=
  (s.writeBytes a (leBytes 4 w.toNat)).clearEcc a 4
/-- Read a 64-bit word. -/
def State.readDword (s : State) (a : Nat) : BitVec 64 := BitVec.ofNat 64 (leNat (s.readBytes a 8))
/-- Write a 64-bit word. -/
def State.writeDword (s : State) (a : Nat) (w : BitVec 64) : State :=
  (s.writeBytes a (leBytes 8 w.toNat)).clearEcc a 8

/-- The word at an address holds an uncorrectable or a corrected ECC error. -/
def State.ueAt (s : State) (a : Nat) : Bool := s.eccUe.contains a
def State.ceAt (s : State) (a : Nat) : Bool := s.eccCe.contains a

/-- Trace element i: two bytes, TR0 low and TR1 high (R30). -/
def State.traceHalf (s : State) (k i : Nat) (high : Bool) : Byte := s.readByte (trAddr k i + b2n high)
/-- Write one trace half. -/
def State.setTraceHalf (s : State) (k i : Nat) (high : Bool) (b : Byte) : State :=
  s.writeByte (trAddr k i + b2n high) b
/-- An accumulator as an integer (R67). -/
def State.acc (s : State) (k i : Nat) : Int := (s.readWord (acAddr k i)).toInt
/-- Write an accumulator's 24 bits. -/
def State.setAcc (s : State) (k i : Nat) (x : Int) : State := s.writeWord (acAddr k i) (BitVec.ofInt 32 x)

/-! ### The Thread's queues (R217) -/

/-- The counter a credit packet is bound for: two packets for one counter merge while they wait. -/
def Pkt.sameCounter : Pkt → Pkt → Bool
  | .caneCred d st i _, .caneCred d' st' i' _ => d == d' && st == st' && i == i'
  | .gathCred d f _ e _ _, .gathCred d' f' _ e' _ _ => d == d' && f == f' && !e && !e'
  | .qcred d e _, .qcred d' e' _ => d == d' && e == e'
  | _, _ => false

/-- Merge a credit packet into a waiting one, as far as COUNT can hold it (R216, R217). -/
def Pkt.merge : Pkt → Pkt → Option Pkt
  | .caneCred d st i n, .caneCred _ _ _ m => if n + m ≤ 255 then some (.caneCred d st i (n + m)) else none
  | .gathCred d f n e a k, .gathCred _ _ m _ _ _ => if n + m ≤ 64 then some (.gathCred d f (n + m) e a k) else none
  | .qcred d e n, .qcred _ _ m => if n + m ≤ 15 then some (.qcred d e (n + m)) else none
  | _, _ => none

/-- A refusal that waits for the counter of a credit packet: later credits do not merge past it. -/
def Pkt.blocks : Pkt → Pkt → Bool
  | .gathCred d f _ true _ _, .gathCred d' f' _ _ _ _ => d == d' && f == f'
  | _, _ => false

/-- Put a packet into a class queue: behind the others, or merged into one that waits. -/
def enqueuePkt (p : Pkt) : List Pkt → List Pkt
  | [] => [p]
  | q :: qs =>
    if q.sameCounter p && !qs.any (·.blocks p) then
      match q.merge p with
      | some m => m :: qs
      | none => q :: enqueuePkt p qs
    else q :: enqueuePkt p qs

/-- Hand a packet to a station's Thread queue. -/
def State.sendPkt (s : State) (st : Nat) (p : Pkt) : State :=
  s.modThread st fun t => { t with queues := Tab.modify t.queues [] p.cls (enqueuePkt p) }

/-! ### Fault collectors (R501, R502) -/

/-- The class of a fault code: 0 D, 1 P, 2 C, 3 W (R501). -/
def faultClass (code : Nat) : Nat :=
  if code = 0x01 then 1
  else if code = 0x08 ∨ code = 0x09 ∨ code = 0x0A ∨ code = 0x0B then 2
  else if code = 0x0C then 3
  else 0

/-- A local fault reaches a station's collector (R502). -/
def State.reportFault (s : State) (st origin code : Nat) (detail : BitVec 40) : State :=
  let bit := faultClass code * 64 + origin
  let fc := (s.station st).fc
  let last : BitVec 54 := BitVec.ofNat 54 (origin * 2 ^ 48 + code * 2 ^ 40 + detail.toNat)
  if fc.seen.getLsbD bit then
    s.modStation st fun x => { x with fc := { x.fc with suppr := cnt16 x.fc.suppr, last := last } }
  else
    (s.modStation st fun x =>
      { x with fc := { x.fc with seen := x.fc.seen ||| (1#256 <<< bit), last := last } }).sendPkt st
        (.fault origin code detail)

/-! ### Handing a packet to the Gather (R204, R208, R218, R219) -/

/-- The destination stations of a flow, in order. -/
def Flow.dests (f : Flow) : List Nat :=
  ((List.range 32).filter fun c => f.clusters.getLsbD c) ++
    ((List.range 8).filter fun i => f.edge.getLsbD i).map (· + 32)

/-- A station refuses a packet or does not send it: counted, and reported as a fault (R207, R208, R219). -/
def State.gatherError (s : State) (st flow : Nat) : State :=
  (s.modGather st fun g => { g with err := true, errCnt := cnt16 g.errCnt }).reportFault st st 0x0B
    (BitVec.ofNat 40 flow)

/-- A flow of a station. -/
def State.flow (s : State) (st f : Nat) : Flow := Tab.get (s.station st).gather.flows {} f

/-- A packet may be sent on a flow: only BCAST on one with more than one destination (R208). -/
def Flow.carries (f : Flow) (p : GPkt) : Bool := p.op == 4 || decide (f.dests.length ≤ 1)

/-- Put a packet into its flow's queue. -/
def State.queueOnFlow (s : State) (st f : Nat) (p : GPkt) : State :=
  s.modGather st fun g => { g with flows := Tab.modify g.flows {} f fun x => { x with queue := x.queue ++ [p] } }

/-- Hand a packet to a flow of its injecting station (R204, R208). -/
def State.gatherSubmit (s : State) (st f : Nat) (p : GPkt) : State :=
  if (s.flow st f).carries p then s.queueOnFlow st f p else s.gatherError st f

/-- Set or clear one bit of a 512-bit block set (R72). -/
def setBlk (x : BitVec 512) (b : Nat) : BitVec 512 := x ||| (1#512 <<< b)
def clrBlk (x : BitVec 512) (b : Nat) : BitVec 512 := x &&& ~~~(1#512 <<< b)
/-- The lowest member of a block set from b up. -/
def nextBlk (x : BitVec 512) (b : Nat) : Option (Fin 512) :=
  (List.finRange 512).find? fun i => decide (b ≤ i.val) && x.getLsbD i.val

/-! ### Tenants (R24, R25, R350) -/

/-- A tenant. -/
def State.tenant (s : State) (t : Tenant) : TenantSt := s.tenants[t.val]
/-- Change a tenant. -/
def State.modTenant (s : State) (t : Tenant) (f : TenantSt → TenantSt) : State :=
  { s with tenants := s.tenants.set t.val (f s.tenants[t.val]) }
/-- EN of CORE_MRV_CTRL (R296); commit work is in progress (R297): with EN 0 the Marver does none (R273 step 3), and the report
alone is due. -/
def Marver.en (m : Marver) : Bool := m.ctrl.getLsbD 31
def Marver.working (m : Marver) : Bool := m.busy && m.en
/-- A tenant is stopped: Unloaded or Stopped, and neither Loading, Running nor Stopping (R350). -/
def State.isStopped (s : State) (t : Tenant) : Bool :=
  (s.tenant t).st == .unloaded || (s.tenant t).st == .stopped
/-- The requester is the port of a tenant that is Loading: its writes to the tenant's core windows, table entries and deep
region are refused (R352). -/
def State.portLoads (s : State) (r : Req) : Bool :=
  match r with | .port p => (s.tenant p).st == .loading | _ => false
/-- A tenant is stopped or under fabric hold (R174, R182, R187); after a RELEASE the hold lasts until the edge that ends it
fires (notes/assumptions/56.md, DESIGN CHOICE). -/
def State.tablesOpen (s : State) (t : Tenant) : Bool := s.isStopped t || (s.shear t).state == .held
/-- A byte of cluster shared memory lies in an open combining vector: an enabled combining queue of a running tenant
whose vector its consumer has not been given (R223, R226). -/
def State.openVector (s : State) (a : Nat) : Bool :=
  let cl := (a - sharedBase) / 0x10_0000
  let off := a % 0x10_0000
  let x := Tab.get (s.cluster cl).comb {} ((off - 0xF_0000) / 1024)
  decide (sharedBase ≤ a) && decide (cl < 32) && decide (0xF_0000 ≤ off) && x.en && !x.done &&
    (match s.tenantOf cl with | some t => (s.tenant t).st == .running | none => false)

/-- The byte that a write leaves: the device defines none for a write into an open vector (R223). -/
def State.raced (s : State) (a i : Nat) (b : Byte) : Byte :=
  if s.openVector (a + i) then (Config.freeWord (s.freeCtr + i)).setWidth 8 else b

/-- The bytes that a write of cluster shared memory leaves, and the state after the free values it used. -/
def State.racedBytes (s : State) (a : Nat) (bs : List Byte) : State × List Byte :=
  if (List.range bs.length).any fun i => s.openVector (a + i) then
    ({ s with freeCtr := s.freeCtr + bs.length }, bs.mapIdx fun i b => s.raced a i b)
  else (s, bs)

/-- A port. -/
def State.port (s : State) (p : Port) : PortSt := s.ports[p.val]
/-- Change a port. -/
def State.modPort (s : State) (p : Port) (f : PortSt → PortSt) : State :=
  { s with ports := s.ports.set p.val (f s.ports[p.val]) }
/-- The requester is the host port of a tenant. -/
def isPort (r : Req) (t : Tenant) : Bool := r == .port t
/-- The requester is the host port of a tenant or the MP. -/
def ownsOrMp (r : Req) (t : Tenant) : Bool := r == .port t || r == .mp

/-- What a register write comes to: the state, and whether it was performed (false: an error response). -/
abbrev WrRes := State × Bool
/-- What a register read comes to: the state, and the word (none: an error response). -/
abbrev RdRes := State × Option Word

/-- A write that is performed, or refused with nothing changed. -/
def wrOk (s : State) : WrRes := (s, true)
def wrNo (s : State) : WrRes := (s, false)
/-- Perform a write only under a condition. -/
def wrIf (b : Bool) (s t : State) : WrRes := if b then (t, true) else (s, false)
/-- A read of a word, and one that also changes the state. -/
def rd (s : State) (w : Nat) : RdRes := (s, some (BitVec.ofNat 32 w))
def rdThen (t : State) (w : Nat) : RdRes := (t, some (BitVec.ofNat 32 w))
/-- An access that meets an error response. -/
def rdNo (s : State) : RdRes := (s, none)

/-! ### What the device does at a host port (R321, R325) -/

/-- Write a list of bytes to host memory on a port. -/
def State.hostStore (s : State) (p : Port) (a : Nat) (bs : List Byte) : State :=
  let put (m : Tab Byte) (i : Nat) : Tab Byte := Tab.put m 0 (p.val * 2 ^ 64 + a + i) (bs.getD i 0)
  { s with hostMem := (List.range bs.length).foldl put s.hostMem }

/-- A vector of a port may be sent: MSI-X is enabled, the function is in D0 and neither it nor the vector is masked
(R303, R325). -/
def PortSt.canSend (x : PortSt) (v : Nat) : Bool :=
  x.cfg.msixEn && !x.cfg.fnMask && !x.cfg.d3 && !x.msixMask.getLsbD v

/-- Raise an MSI-X vector of a port: pending while it is masked; nothing while MSI-X is not enabled (R325). -/
def PortSt.raise (x : PortSt) (v : Nat) : PortSt :=
  if x.canSend v then { x with irqs := Tab.modify x.irqs 0 v (· + 1) }
  else if x.cfg.msixEn then { x with pba := x.pba ||| (1#64 <<< v) }
  else x
def State.raiseIrq (s : State) (p : Port) (v : Nat) : State := s.modPort p (·.raise v)

/-- Vectors that pend and may be sent are sent (R325). -/
def PortSt.sendPending (x : PortSt) : PortSt :=
  ((List.range 64).filter fun v => x.pba.getLsbD v && x.canSend v).foldl (fun y v =>
    { y with irqs := Tab.modify y.irqs 0 v (· + 1), pba := y.pba &&& ~~~(1#64 <<< v) }) x

/-- An error is logged in AER as an advisory non-fatal one (R307): bit 12 a poisoned request, 15 Completer Abort, 20
Unsupported Request. -/
def State.logAer (s : State) (p : Port) (bit : Nat) : State :=
  s.modPort p fun x => { x with cfg := { x.cfg with
    aerUnc := x.cfg.aerUnc ||| (1#32 <<< bit), aerCor := x.cfg.aerCor ||| (1#32 <<< 13) } }

/-- The bytes of a host port's largest write and largest read request (R303). -/
def PortSt.maxPayload (x : PortSt) : Nat := 128 * 2 ^ x.cfg.payload
def PortSt.maxRead (x : PortSt) : Nat := 128 * 2 ^ x.cfg.readReq
/-- The bytes of BAR2 (R308). -/
def PortSt.bar2Size (x : PortSt) : Nat := 2 ^ (20 + x.cfg.bar2)

/-- A NOTE record for the event ring of a port (R321). Its detail word is not laid out by the spec: a free value. -/
def State.note (s : State) (p : Port) (code : Nat) : State :=
  (s.spend.spend).modPort p fun x => { x with recs := x.recs ++ [.note code (s.spend.free ++ s.free)] }

/-- A refused posted write is recorded and logged, and vector 0 raised (R307, R325, R337). -/
def State.refusedWrite (s : State) (p : Port) (bar off : Nat) : State :=
  ((s.logAer p 15).modPort p fun x =>
    { x with
      pwerr := true
      errLo := BitVec.ofNat 32 off
      errHi := BitVec.ofNat 32 (bar * 2 ^ 30 + bitsOf off 32 3) }).raiseIrq p 0

/-! ### Commands of a ring (R313 to R317) -/

/-- A command of the port is executing: a WAITSYNC, START, STOP or PATCH that has not completed. -/
def State.cmdBusy (s : State) (p : Port) : Bool :=
  let t := s.tenant p
  (s.port p).waiting || t.starting || (match t.stop with | some j => j.cmd | none => false) || t.patching.isSome

/-- A completion waits in the event ring: it holds the command ring (R323). -/
def PortSt.completionWaits (x : PortSt) : Bool :=
  x.recs.any fun r => match r with | .completion .. => true | _ => false

/-- The command that can be carried out now: the oldest fetched one, of an enabled ring that nothing holds, while the
fabric and the MP run. -/
def State.curCmd (s : State) (p : Port) : Option Cmd :=
  let x := s.port p
  if s.fabricRuns && x.cmdEn && !s.cmdBusy p && !x.completionWaits then x.fetched.head? else none

/-- The fields of word 0 of a command (R314). -/
def Cmd.word (c : Cmd) (k : Nat) : BitVec 64 := c.words.getD k 0
def Cmd.opcode (c : Cmd) : Nat := bitsOf (c.word 0).toNat 0 8
def Cmd.irq (c : Cmd) : Bool := (c.word 0).getLsbD 8
def Cmd.tag (c : Cmd) : Nat := bitsOf (c.word 0).toNat 32 16

/-- A COMPLETION record for the event ring (R321). -/
def State.completion (s : State) (p : Port) (opcode status : Nat) (detail : Word) (tag : Nat) (counter : Word)
    (irq : Bool) : State :=
  s.modPort p fun x => { x with recs := x.recs ++ [.completion opcode status detail tag counter irq] }

/-- The current command is accepted: HEAD advances (R313, R316). -/
def State.acceptCmd (s : State) (p : Port) : State :=
  s.modPort p fun x => { x with fetched := x.fetched.tail, cmdHead := x.cmdHead + 1, waiting := false }

/-- DETAIL of a completion: what the owning chapter defines, else a free value (R317 fixes none). -/
def State.detail (s : State) (d : Option Word) : State × Word :=
  match d with | some w => (s, w) | none => (s.spend, s.free)

/-- The current command ends in its completion (R317). -/
def State.finish (s : State) (p : Port) (status : Nat) (detail : Option Word := none) : State :=
  match (s.port p).fetched with
  | [] => s
  | c :: _ =>
    let (s1, d) := (s.acceptCmd p).detail detail
    s1.completion p c.opcode status d c.tag c.counter c.irq

/-- An asynchronous command is queued: it is accepted now and completes later (R315, R316). -/
def Cmd.async (c : Cmd) (p : Port) : Async :=
  { port := p, opcode := c.opcode, tag := c.tag, irq := c.irq, counter := c.counter }
/-- The completion of an asynchronous command. -/
def State.finishAsync (s : State) (a : Async) (status : Nat) (detail : Option Word := none) : State :=
  let (s1, d) := s.detail detail
  if a.silent then s else s1.completion a.port a.opcode status d a.tag a.counter a.irq

end Sys2Proof.Machine
end

