-- ==== Sys2Proof/Machine/Flags.lean ====
section
/-!
DEFINITION. Exact arithmetic of the neuron engine: saturation and clipping, the decay power, the xorshift
generator and stochastic rounding (R76, R79, R81), and the STAT flags (R66).
-/

namespace Sys2Proof.Machine

/-- Clamp the signed value of a word. -/
def satWord (lo hi : Int) (w : Word) : Word := BitVec.ofInt 32 (clampInt lo hi w.toInt)
/-- The signed value lies outside the range: the clamp clips. -/
def clips (lo hi : Int) (w : Word) : Bool := decide (w.toInt < lo) || decide (hi < w.toInt)

/-- Absolute value; −2^31 gives 2^31 − 1 (R107). -/
def absWord (w : Word) : Word := BitVec.ofInt 32 (sat32 w.toInt.natAbs)

/-- Signed minimum and maximum. -/
def sminWord (a b : Word) : Word := if a.toInt ≤ b.toInt then a else b
def smaxWord (a b : Word) : Word := if a.toInt ≤ b.toInt then b else a

/-- The high 32 bits of the signed 64-bit product (R107). -/
def mulhsWord (a b : Word) : Word := BitVec.ofInt 32 (a.toInt * b.toInt / 2 ^ 32)
/-- sat32((a × b) >> sh), 64-bit product, arithmetic shift (R107, R110). -/
def mulsWord (a b : Word) (sh : Nat) : Word := BitVec.ofInt 32 (sat32 (a.toInt * b.toInt / 2 ^ sh))

/-- One draw of the generator: the new state, which is also the value drawn (R81). -/
def xorshift (x : Word) : Word :=
  let a := x ^^^ (x <<< 13)
  let b := a ^^^ (a >>> 17)
  b ^^^ (b <<< 5)

/-- Stochastic right shift of an integer by k with the drawn word r (R81). -/
def sroundWith (r : Word) (x : Int) (k : Nat) : Word := BitVec.ofInt 32 ((x + (r.toNat % 2 ^ k : Nat)) / 2 ^ k)

/-- n draws of the generator, in order, and its state after them. -/
def draws (x : Word) : Nat → List Word × Word
  | 0 => ([], x)
  | n + 1 => let (l, y) := draws (xorshift x) n; (xorshift x :: l, y)

/-- Square-and-multiply over the low b bits of n, high bit first (R76). -/
def alphaStep (alpha n : Nat) : Nat → Nat → Nat
  | 0, f => f
  | b + 1, f =>
    let f2 := f * f / 65536
    alphaStep alpha n b (if n.testBit b then f2 * alpha / 65536 else f2)

/-- alpha_pow of R76: the Q0.16 power of a decay factor; 0x10000 for n = 0. -/
def alphaPow (alpha n : Nat) : Nat := alphaStep alpha n (if n = 0 then 0 else Nat.log2 n + 1) 0x10000

/-- decay of R76: multiply by a Q0.16 factor and round toward zero. -/
def decayWord (x : Word) (f : Nat) : Word :=
  let p := x.toInt * f
  BitVec.ofInt 32 (if 0 ≤ p then p / 65536 else -((-p) / 65536))

/-- x × 2^e of VSCL with the drawn word r when the channel rounds stochastically (R79). -/
def scaleWord (x : Word) (e : Int) (r : Option Word) : Word :=
  if 0 ≤ e then BitVec.ofInt 32 (sat32 (x.toInt * 2 ^ e.toNat))
  else
    let k := (-e).toNat
    match r with
    | none => BitVec.ofInt 32 (x.toInt / 2 ^ k)
    | some r => sroundWith r x.toInt k

/-- Sign-extend the low n bits of a word. -/
def sextWord (n : Nat) (w : Word) : Word := BitVec.ofInt 32 (sextNat n w.toNat)

/-- Set the sticky STAT.VSAT when a narrowing clipped (R66). -/
def State.noteClip (s : State) (k : Nat) (b : Bool) : State :=
  if b then s.modE k fun e => { e with fl := { e.fl with vsat := true } } else s

/-- STAT (R66). -/
def State.stat (s : State) (k : Nat) : Word :=
  let e := (s.core k).e
  let inSet (x : BitVec 512) : Bool := match e.blk.cur with | some b => x.getLsbD b.val | none => false
  BitVec.ofNat 32 (b2n (inSet e.blk.heldAt) * 32 + b2n (inSet e.blk.input) * 16 + b2n e.fl.satf * 8 +
    b2n e.fl.vsat * 4 + b2n e.fl.dupe * 2 + b2n e.fl.gap)

end Sys2Proof.Machine
end

