-- ==== Sys2Proof/Machine/Operands.lean ====
section
/-!
DEFINITION. Operands of the neuron engine: its scalar, vector, mask and special registers, the block table and the
memory views (R64 to R68, R75, R79, R112 to R114).
-/

namespace Sys2Proof.Machine

/-! ### Registers -/

/-- g[r] (R64). -/
def State.getG (s : State) (k : Nat) (r : GReg) : Word := (s.core k).e.regs.g[r.val]
/-- Write g[r]. -/
def State.setG (s : State) (k : Nat) (r : GReg) (w : Word) : State :=
  s.modE k fun e => { e with regs := { e.regs with g := e.regs.g.set r.val w } }
/-- v[r]. -/
def State.getV (s : State) (k : Nat) (r : VReg) : VVal := (s.core k).e.regs.v[r.val]
/-- Write v[r]. -/
def State.setV (s : State) (k : Nat) (r : VReg) (x : VVal) : State :=
  s.modE k fun e => { e with regs := { e.regs with v := e.regs.v.set r.val x } }
/-- m[r]: m0 reads as 0xFFFF (R64). -/
def State.getM (s : State) (k : Nat) (r : MReg) : BitVec 16 := if r.val = 0 then 0xFFFF else (s.core k).e.regs.m[r.val]
/-- Write m[r]: a write of m0 is ignored (R64). -/
def State.setM (s : State) (k : Nat) (r : MReg) (x : BitVec 16) : State :=
  if r.val = 0 then s else s.modE k fun e => { e with regs := { e.regs with m := e.regs.m.set r.val x } }
/-- Write the generator (R81). -/
def State.setRng (s : State) (k : Nat) (w : Word) : State :=
  s.modE k fun e => { e with regs := { e.regs with rng := w } }

/-- A vector given element by element. -/
def vmap (f : Fin 16 → Word) : VVal := Vector.ofFn f
/-- Under a mask: the new value where the bit is set, else the old one (R109). -/
def vmask (m : BitVec 16) (new old : VVal) : VVal := vmap fun e => if m.getLsbD e.val then new[e.val] else old[e.val]
/-- A mask given bit by bit. -/
def mmap (f : Fin 16 → Bool) : BitVec 16 :=
  (List.finRange 16).foldl (fun m e => if f e then m ||| (1#16 <<< e.val) else m) 0
/-- Some element under the mask has the property. -/
def vany (m : BitVec 16) (f : Fin 16 → Bool) : Bool := (List.finRange 16).any fun e => m.getLsbD e.val && f e

/-! ### The current block and its table entry -/

/-- The block table entry of block b (R75). -/
def State.blkEntry (s : State) (k b : Nat) : Word := Tab.get (s.core k).e.blk.table 0 b
/-- Write a block table entry. -/
def State.setBlkEntry (s : State) (k b : Nat) (w : Word) : State :=
  s.modE k fun e => { e with blk := { e.blk with table := Tab.put e.blk.table 0 b w } }
/-- Stamp a block: LAST_TICK = TICK[23:0] (R74). -/
def State.stamp (s : State) (k b : Nat) : State :=
  s.setBlkEntry k b (BitVec.ofNat 32 ((s.blkEntry k b).toNat / 2 ^ 24 * 2 ^ 24 + (s.core k).e.fl.tick.toNat % 2 ^ 24))
/-- BELAPSED of the current block; 0 when there is none (R76). -/
def State.belapsed (s : State) (k : Nat) : Nat :=
  match (s.core k).e.blk.cur with
  | none => 0
  | some b => ((s.core k).e.fl.tick.toNat % 2 ^ 24 + 2 ^ 24 - (s.blkEntry k b.val).toNat % 2 ^ 24) % 2 ^ 24
/-- BCHAN of the current block; 0 when there is none (R65). -/
def State.bchan (s : State) (k : Nat) : Nat :=
  match (s.core k).e.blk.cur with | none => 0 | some b => (s.blkEntry k b.val).toNat / 2 ^ 24
/-- A scale register file entry (R79). -/
def State.scaleReg (s : State) (k ch : Nat) : BitVec 6 := Tab.get (s.core k).e.blk.scale 0 ch
/-- Write a scale register file entry (R80). -/
def State.setScaleReg (s : State) (k ch : Nat) (x : BitVec 6) : State :=
  s.modE k fun e => { e with blk := { e.blk with scale := Tab.put e.blk.scale 0 ch x } }
/-- SHIFT of a channel (R79). -/
def State.scaleShift (s : State) (k ch : Nat) : Int := sextNat 5 (s.scaleReg k ch).toNat
/-- STOCH of a channel (R79). -/
def State.scaleStoch (s : State) (k ch : Nat) : Bool := (s.scaleReg k ch).getLsbD 5

/-! ### Special registers (R65) -/

/-- CORE_ID (R91). -/
def State.coreId (s : State) (k : Nat) : Word :=
  BitVec.ofNat 32 ((match s.coreTenant k with | some t => t.val | none => 0) * 2 ^ 10 + k / 32 * 2 ^ 5 + k % 32)

/-- The ENTRY code of an engine state: 0 TICK, 1 UPDATE, 2 EPOCH, 3 MESSAGE (R65). What ENTRY reads while no entry runs,
through selector 0xAD of a halted or Faulted engine, the spec does not say: DESIGN CHOICE, 0 (notes/assumptions/57.md). -/
def EState.entry : EState → Nat
  | .tick => 0 | .update => 1 | .epoch => 2 | .message => 3 | _ => 0

/-- Read a special register; an unlisted number reads zero (R65). CYC depends on cycle times, which the model does
not hold: each read of it is a free value. -/
def State.mfs (s : State) (k : Nat) (n : Nat) : Word :=
  let e := (s.core k).e
  match n with
  | 0x00 => e.fl.tick
  | 0x01 => BitVec.ofNat 32 (match e.blk.cur with | some b => b.val | none => 0x200)
  | 0x02 => BitVec.ofNat 32 (s.belapsed k)
  | 0x03 => BitVec.ofNat 32 (s.bchan k)
  | 0x04 => s.stat k
  | 0x05 => s.coreId k
  | 0x06 => BitVec.ofNat 32 (k / 32 * 2 ^ 18 + k % 32 * 2 ^ 13)
  | 0x07 => e.fl.epoch
  | 0x08 => BitVec.ofNat 32 (match s.coreTenant k with | some t => (s.shear t).eptick | none => 0)
  | 0x09 => e.regs.rng
  | 0x0A => e.regs.lc
  | 0x0B => e.regs.lr
  | 0x0C => s.free
  | 0x0D => BitVec.ofNat 32 e.st.entry
  | 0x0E => BitVec.ofNat 32 e.fl.msgq.val
  | 0x0F => BitVec.ofNat 32 (b2n e.fl.phase)
  | _ => 0

/-- Write a special register; a write of an unlisted or read-only number is ignored (R65). -/
def State.mts (s : State) (k : Nat) (n : Nat) (w : Word) : State :=
  match n with
  | 0x03 =>
    match (s.core k).e.blk.cur with
    | none => s
    | some b =>
      s.setBlkEntry k b.val (BitVec.ofNat 32 (w.toNat % 256 * 2 ^ 24 + (s.blkEntry k b.val).toNat % 2 ^ 24))
  | 0x04 => if w.getLsbD 2 then s.modE k fun e => { e with fl := { e.fl with vsat := false } } else s
  | 0x09 => s.setRng k (if w = 0 then 1 else w)
  | 0x0A => s.modE k fun e => { e with regs := { e.regs with lc := w } }
  | 0x0B => s.modE k fun e => { e with regs := { e.regs with lr := w } }
  | _ => s

/-! ### Memory views (R67, R68, R112 to R114) -/

/-- Elements of a view (R67). -/
def viewSize : Nat → Nat
  | 0 => 8192 | 1 => 8192 | 2 => 8192 | 3 => 256 | 4 => 1024 | 5 => 49152 | 6 => 262144 | _ => 0

/-- Program writes of LB and SY are refused (R67). -/
def viewReadOnly (view : Nat) : Bool := view == 4 || view == 5

/-- The element index of a load or store (R114): none when out of range. -/
def State.viewIndex (s : State) (k : Nat) (view : Nat) (ra : GReg) (off : BitVec 11) : Option Nat :=
  let i := (s.getG k ra + off.signExtend 32).toInt
  if i < 0 ∨ (viewSize view : Int) ≤ i then none else some i.toNat

/-- The address of the word that holds element i of a view that lies in memory. -/
def viewAddr (k view i : Nat) : Nat :=
  match view with
  | 0 => nsAddr k i
  | 1 => acAddr k i
  | 2 => trAddr k (i - i % 2)
  | 4 => lbAddr k i
  | 5 => synAddr k i
  | 6 => shAddr (k / 32) i
  | _ => 0

/-- The word whose ECC an access of element i meets: synapse SRAM words are 64 bits wide (R147). -/
def viewEccAddr (k view i : Nat) : Nat := if view = 5 then synAddr k (i - i % 2) else viewAddr k view i

/-- Load one element (R68, R114). -/
def State.viewLoad (s : State) (k view sfx i : Nat) : Word :=
  match view with
  | 0 =>
    let w := s.readWord (nsAddr k i)
    match sfx with
    | 0 => sextWord 16 w
    | 1 => sextWord 16 (w >>> 16)
    | _ => w
  | 1 => s.readWord (acAddr k i)
  | 2 => (s.traceHalf k i (sfx == 1)).signExtend 32
  | 3 => (s.scaleReg k i).zeroExtend 32
  | _ => s.readWord (viewAddr k view i)

/-- Width in bits of the half a narrowing store writes: int16 on NS, int8 on TR (R68). -/
def halfBits (view : Nat) : Nat := if view = 2 then 8 else 16

/-- A store of this form narrows the element to one half (R68). -/
def narrows (view sfx : Nat) : Bool := (view == 0 || view == 2) && decide (sfx ≤ 1)

/-- The value a store writes clips. -/
def storeClips (view sfx : Nat) (w : Word) : Bool :=
  narrows view sfx && clips (-2 ^ (halfBits view - 1)) (2 ^ (halfBits view - 1) - 1) w

/-- Store one element (R68, R114). A store to SC keeps the six bits of R79; its reserved bits [31:6] are dropped, which is
the model's choice where R12 leaves it open: DESIGN CHOICE (notes/assumptions/57.md). -/
def State.viewStore (s : State) (k view sfx i : Nat) (w : Word) : State :=
  match view with
  | 0 =>
    match sfx with
    | 0 => s.writeBytes (nsAddr k i) (leBytes 2 (satWord (-32768) 32767 w).toNat)
    | 1 => s.writeBytes (nsAddr k i + 2) (leBytes 2 (satWord (-32768) 32767 w).toNat)
    | _ => s.writeWord (nsAddr k i) w
  | 1 => s.writeWord (acAddr k i) w
  | 2 => s.setTraceHalf k i (sfx == 1) ((satWord (-128) 127 w).setWidth 8)
  | 3 => s.setScaleReg k i (w.setWidth 6)
  | _ =>
    let (t, bs) := s.racedBytes (viewAddr k view i) (leBytes 4 w.toNat)
    t.writeWord (viewAddr k view i) (BitVec.ofNat 32 (leNat bs))

/-- An access reads a word with an uncorrectable error: loads, and stores of one half (R85). -/
def State.viewUe (s : State) (k view sfx i : Nat) (store : Bool) : Bool :=
  decide (view ≤ 2) && (!store || narrows view sfx) && s.ueAt (viewEccAddr k view i)

end Sys2Proof.Machine
end

