-- ==== Sys2Proof/Machine/Engine.lean ====
section
/-!
DEFINITION. The run of the neuron engine: program faults, starting and ending entries, and issuing one instruction
(R69, R70, R74, R85, R87, R103, R120, R123).
-/

namespace Sys2Proof.Machine

/-- What the effect of an instruction comes to. -/
inductive Res where
  /-- completes and falls through -/
  | done (s : State)
  /-- completes and branches; endsLoop for a branching NXTBLK (R120) -/
  | jump (s : State) (target : BitVec 12) (endsLoop : Bool)
  /-- LOOP: completes and goes on at an address whatever loop is active -/
  | goto (s : State) (target : BitVec 12)
  /-- waits: executed again later -/
  | stall (s : State) (kind : StallKind) (arg : Word)
  /-- END -/
  | ended (s : State)
  /-- program fault with a cause of R85 -/
  | fault (cause : BitVec 4)

/-! ### Faults -/

/-- An uncorrectable ECC error as a device fault (R147, R501): mem is the model's number of the memory. -/
def State.eccFault (s : State) (st mem addr : Nat) : State :=
  s.reportFault st st 0x02 (Config.memCode mem ++ BitVec.ofNat 36 addr)

/-- A program fault (R85): recorded, the engine halted, the fault reported; cause 6 is a device fault too. -/
def State.progFault (s : State) (k : Nat) (cause : BitVec 4) : State :=
  let e := (s.core k).e
  let detail := BitVec.ofNat 40
    (k % 32 * 2 ^ 35 + cause.toNat * 2 ^ 31 + e.st.entry * 2 ^ 29 + e.regs.pc.toNat)
  let s1 := s.modE k fun e =>
    { e with
      st := .faulted
      stall := none
      waits := none
      emitAt := 0
      dbg := { e.dbg with halted := true, reason := 4, stepping := false, haltReq := false }
      cr := { e.cr with fault := { cause := cause, entry := BitVec.ofNat 2 e.st.entry, pc := e.regs.pc } } }
  let s2 := s1.reportFault (k / 32) (k / 32) 0x01 detail
  if cause = 6 then s2.eccFault (k / 32) 0 (progAddr k e.regs.pc.toNat) else s2

/-! ### Entries -/

/-- Run an entry from its address: a breakpoint there is met (R87). -/
def NEngine.enter (e : NEngine) (st : EState) (r : EntryReg) : NEngine :=
  { e with st := st, regs := { e.regs with pc := r.addr }, dbg := { e.dbg with bpPassed := false } }

/-- The core reaches its emit gate (R38); the cycle count of R95 is a free value. -/
def State.reachGate (s : State) (k : Nat) : State :=
  if (s.core k).e.fl.gate then s
  else
    (s.modE k fun e =>
      { e with fl := { e.fl with gate := true }, cr := { e.cr with gateCcNow := s.free.setWidth 24 } }).spend

/-- The UPDATE program ends (R69, R123): the current block is left, the core is at its gate, the engine goes idle. -/
def State.endUpdate (s : State) (k : Nat) : State :=
  let e := (s.core k).e
  let s1 := match e.blk.cur, e.blk.stampOnLeave with
    | some b, true => s.stamp k b.val
    | _, _ => s
  let s2 := s1.modE k fun e =>
    { e with
      st := .idle
      blk := { e.blk with cur := none, stampOnLeave := false }
      fl := { e.fl with updEnded := true }
      cr := { e.cr with updCc := s.free.setWidth 24 } }
  s2.spend.reachGate k

/-- An UPDATE program is empty when neither entry runs in it (R69). -/
def NEngine.updateEmpty (e : NEngine) : Bool :=
  !e.cr.entTick.en && (!e.cr.entUpdate.en || e.blk.active == 0)

/-- The UPDATE program of the tick starts (R69, R74, R87): with HALT_AT_EDGE the engine halts before the first entry. -/
def State.startUpdate (s : State) (k : Nat) : State :=
  let e := (s.core k).e
  if e.dbg.haltAtEdge && e.updateEmpty then
    s.modE k fun e =>
      { e with
        dbg := { e.dbg with halted := true, reason := 1, haltAtEdge := false }
        fl := { e.fl with edgeDue := true } }
  else
    let s1 := s.modE k fun e =>
      let e1 := { e with
        blk := { e.blk with curA := 0, curP := 0, cur := none, stampOnLeave := false }
        fl := { e.fl with edgeDue := false } }
      let e2 := if e1.cr.entTick.en then e1.enter .tick e1.cr.entTick
        else if e1.updateEmpty then e1
        else e1.enter .update e1.cr.entUpdate
      if e.dbg.haltAtEdge then { e2 with dbg := { e2.dbg with halted := true, reason := 1, haltAtEdge := false } } else e2
    if e.updateEmpty then s1.endUpdate k else s1

/-- An entry has ended and the engine is idle: an UPDATE program that waits starts first (R70). -/
def State.afterEntry (s : State) (k : Nat) : State :=
  if (s.core k).e.fl.edgeDue then s.startUpdate k else s

/-- A core may begin commit work: its tenant is not stopping (R356). -/
def State.mayCommit (s : State) (k : Nat) : Bool :=
  match s.coreTenant k with | some t => !(s.shear t).stopping | none => true

/-- The running entry ends (R69, R123). After EPOCH the Marver's commit work begins, unless the tenant is stopping. -/
def State.endEntry (s : State) (k : Nat) : State :=
  let e := (s.core k).e
  match e.st with
  | .tick =>
    if e.cr.entUpdate.en then s.modE k fun e => e.enter .update e.cr.entUpdate else s.endUpdate k
  | .update => s.endUpdate k
  | .epoch =>
    let begins := s.mayCommit k
    s.modCore k fun c => { c with e := { c.e with st := .idle }, mrv := { c.mrv with busy := c.mrv.busy || begins } }
  | .message => (s.modE k fun e => { e with st := .idle }).afterEntry k
  | _ => s

/-! ### Completing an instruction -/

/-- The engine after an instruction has completed: nothing is stalled. -/
def NEngine.retire (e : NEngine) : NEngine :=
  { e with stall := none, waits := none, emitAt := 0, dbg := { e.dbg with bpPassed := false } }

/-- The end of an active loop (R120). -/
def NEngine.endLoop (e : NEngine) : NEngine :=
  if e.loop.on then { e with loop := { e.loop with on := false }, regs := { e.regs with lc := 0 } } else e

/-- END ends the active loop, and the pc moves to the instruction that follows it (R100, R123); an entry that follows moves
it on to its own address. DEDUCED (notes/assumptions/46.md). -/
def NEngine.pastEnd (e : NEngine) : NEngine :=
  let r := e.endLoop
  { r with regs := { r.regs with pc := r.regs.pc + 1 } }

/-- An address lies in the body of the active loop (R120). -/
def LoopReg.inside (l : LoopReg) (a : BitVec 12) : Bool :=
  decide (l.first.toNat ≤ a.toNat) && decide (a.toNat ≤ l.last.toNat)

/-- The engine moves past an instruction that falls through: to the next word, or round the active loop (R103, R120). -/
def NEngine.advance (e : NEngine) : NEngine :=
  if e.loop.on && e.regs.pc == e.loop.last then
    if e.regs.lc.toNat ≤ 1 then
      { e with loop := { e.loop with on := false }, regs := { e.regs with lc := 0, pc := e.regs.pc + 1 } }
    else { e with regs := { e.regs with lc := e.regs.lc - 1, pc := e.loop.first } }
  else { e with regs := { e.regs with pc := e.regs.pc + 1 } }

/-- The engine takes a branch (R118 to R121). -/
def NEngine.branch (e : NEngine) (t : BitVec 12) (endsLoop : Bool) : NEngine :=
  let e1 := if endsLoop || !e.loop.inside t then e.endLoop else e
  { e1 with regs := { e1.regs with pc := t } }

/-- A halt that was asked for, or the end of a STEP (R87). -/
def NEngine.settle (e : NEngine) : NEngine :=
  if e.dbg.stepping then
    { e with dbg := { e.dbg with halted := true, reason := 3, stepping := false, haltReq := false } }
  else if e.dbg.haltReq then { e with dbg := { e.dbg with halted := true, reason := 0, haltReq := false } }
  else e

/-- Note a stall: the watchdog's report of it is kept while it goes on (R225). -/
def NEngine.noteStall (e : NEngine) (kind : StallKind) (arg : Word) : NEngine :=
  { e with stall := some ⟨kind, arg, match e.stall with | some x => x.kind == kind && x.reported | none => false⟩ }

/-- Apply what an effect came to. -/
def State.apply (s : State) (k : Nat) : Res → State
  | .done t => t.modE k fun e => (e.retire.advance).settle
  | .jump t a l => t.modE k fun e => (e.retire.branch a l).settle
  | .goto t a => t.modE k fun e => (let r := e.retire; { r with regs := { r.regs with pc := a } }).settle
  | .stall t kind arg => t.modE k fun e => e.noteStall kind arg
  | .ended t => ((t.modE k fun e => e.retire.pastEnd).endEntry k).modE k NEngine.settle
  | .fault cause => s.progFault k cause

/-- The engine may execute: an entry runs, and it is not halted, or a STEP is under way (R86, R87). -/
def NEngine.runnable (e : NEngine) : Bool := e.st.runs && (!e.dbg.halted || e.dbg.stepping)

/-- The armed breakpoint at the pc, if any (R101). -/
def NEngine.bpAt (e : NEngine) : Option (Fin 4) :=
  (List.finRange 4).find? fun i => (e.dbg.bp[i.val]).msb && (e.dbg.bp[i.val]).toNat % 4096 == e.regs.pc.toNat

/-- The word at the program counter of core k. -/
def State.fetch (s : State) (k : Nat) : Word := s.readWord (progAddr k (s.core k).e.regs.pc.toNat)

/-- Execute instruction i of core c, whose effect is eff, if it is the one at the pc: an uncorrectable or illegal
word faults, and the machine stays as it is when the engine does not run or another instruction is next. -/
def State.issue (s : State) (c : CoreId) (i : Instr) (eff : State → Res) : State :=
  let k := c.key
  let e := (s.core k).e
  if !e.runnable then s
  else
    match (if e.stall.isNone && !e.dbg.bpPassed && !e.dbg.stepping then e.bpAt else none) with
    | some b => s.modE k fun e => { e with dbg := { e.dbg with halted := true, reason := 2, bpHit := b } }
    | none =>
      if s.ueAt (progAddr k e.regs.pc.toNat) then s.progFault k 6
      else
        match decodeWord c (s.fetch k) with
        | none => s.progFault k 1
        | some j => if j = i then s.apply k (eff s) else s

/-- The outcome of a Mladza instruction. -/
def issued (c : CoreId) (i : Instr) (eff : State → Res) (s : State) : Host.Outcome State Fault Refusal :=
  .next (s.issue c i eff)

end Sys2Proof.Machine
end

