-- ==== Sys2Proof/Machine/Clock.lean ====
section
/-!
DEFINITION. The timer clock: one step of 4 ns of the sixteen general timers, and the passing of time (R409, R417 to
R423).
-/

namespace Sys2Proof.Machine

/-- The fields of TMR_CTRL and TMR_TRIG (R426). -/
def Timer.en (t : Timer) : Bool := t.ctrl.getLsbD 31
def Timer.freeze (t : Timer) : Bool := t.ctrl.getLsbD 30
def Timer.matchAct (t : Timer) : Nat := bitsOf t.ctrl.toNat 28 2
def Timer.ovfAct (t : Timer) : Nat := bitsOf t.ctrl.toNat 26 2
def Timer.outMatch (t : Timer) : Nat := bitsOf t.ctrl.toNat 24 2
def Timer.outOvf (t : Timer) : Nat := bitsOf t.ctrl.toNat 22 2
def Timer.prescale (t : Timer) : Nat := bitsOf t.ctrl.toNat 0 16
def Timer.slave (t : Timer) : Nat := bitsOf t.trig.toNat 29 3
def Timer.evt (t : Timer) : Nat := bitsOf t.trig.toNat 8 2
def Timer.src (t : Timer) : Nat := bitsOf t.trig.toNat 0 6

/-- A general timer, by number. -/
def State.timer (s : State) (n : Nat) : Timer := s.timers.toList.getD n {}
/-- Change a timer. -/
def State.modTimer (s : State) (n : Fin 16) (f : Timer → Timer) : State :=
  { s with timers := s.timers.set n.val (f s.timers[n.val]) }

/-- The event of a source timer that EVT selects, as its last step left it: 0 match, 1 overflow, 2 either (R418). -/
def linkEvent (evt : Nat) (x : Timer) : Bool :=
  match evt with | 0 => x.lastMat | 1 => x.lastOvf | _ => x.lastMat || x.lastOvf

/-- The timer's trigger was raised in the last step (R417, R418). -/
def State.trigger (s : State) (n : Nat) : Bool :=
  let t := s.timer n
  t.slave != 0 && (t.trigNow || (decide (t.src < 16) && linkEvent t.evt (s.timer t.src)))

/-- The gate level of a timer (R418). -/
def State.gate (s : State) (n : Nat) : Bool :=
  let t := s.timer n
  if t.src < 16 then (s.timer t.src).out else decide (32 ≤ t.src) && s.pinIn.getLsbD (t.src - 32)

/-- A timer is frozen while FREEZE is 1 and a debugger halts the MP or a core of its tenant is halted by debug (R423). -/
def State.frozen (s : State) (n : Nat) : Bool :=
  let t := s.timer n
  t.freeze && (s.mpHalted || match t.owner with
    | some o => if h : o < 4 then (s.coresOf ⟨o, h⟩).any fun k =>
        (s.core k).e.dbg.halted && (s.core k).e.dbg.reason != 4 else false
    | none => false)

/-- OUT after an output action: 0 keep, 1 set, 2 clear, 3 toggle (R417). -/
def outAct (a : Nat) (o : Bool) : Bool := match a with | 1 => true | 2 => false | 3 => !o | _ => o

/-- Step 1 of R417: a trigger resets the counter and the prescaler, or sets RUN. -/
def Timer.react (t : Timer) (trig : Bool) : Timer :=
  if trig && t.slave == 2 then { t with cnt := 0, presc := 0 }
  else if trig && t.slave == 3 then { t with run := true }
  else t
/-- The timer may count in a step: RUN, the gate open in gated mode, and no reset (R417). -/
def Timer.mayCount (t : Timer) (trig gate : Bool) : Bool :=
  t.run && (t.slave != 1 || gate) && !(trig && t.slave == 2)
/-- The prescaler reaches PRESCALE; one that a lower PRESCALE finds beyond it has reached it (notes/assumptions/59.md). -/
def Timer.prescHit (t : Timer) : Bool := t.slave == 4 || decide (t.prescale ≤ t.presc)
/-- The prescaler after a step. -/
def Timer.nextPresc (t : Timer) (may : Bool) : Nat :=
  if may && t.slave != 4 then (if t.prescHit then 0 else t.presc + 1) else t.presc

/-- Steps 1 to 4 of R417 for one enabled timer that is not frozen, with its trigger and gate. -/
def Timer.step (t : Timer) (trig gate : Bool) : Timer :=
  let t2 := t.react trig
  let may := t2.mayCount trig gate
  let presc := t2.nextPresc may
  if !(may && (if t2.slave == 4 then trig else t2.prescHit)) then
    { t2 with presc := presc, lastMat := false, lastOvf := false }
  else
    let ovf := t2.cnt == t2.per || t2.cnt == 2 ^ 64 - 1
    let c := if ovf then 0 else t2.cnt + 1
    let mat := c == t2.cmp
    let selfReset := (mat && t2.matchAct == 1) || (ovf && t2.ovfAct == 1)
    let clear := (mat && t2.matchAct == 2) || (ovf && t2.ovfAct == 2)
    let o1 := if mat then outAct t2.outMatch t2.out else t2.out
    let o2 := if ovf then outAct t2.outOvf o1 else o1
    { t2 with
      cnt := if selfReset then 0 else c
      presc := if selfReset then 0 else presc
      run := t2.run && !clear
      out := o2
      mat := t2.mat || mat
      ovf := t2.ovf || ovf
      lastMat := mat
      lastOvf := ovf }

/-- A step in which a written count is loaded (R417, R419): the trigger and the prescaler act as ever, and the count that the step
would have made gives way to the load, which produces no event (notes/assumptions/59.md). -/
def Timer.loadStep (t : Timer) (n : Nat) (trig gate : Bool) : Timer :=
  let t2 := t.react trig
  { t2 with cnt := n, presc := t2.nextPresc (t2.mayCount trig gate), load := none, lastMat := false, lastOvf := false }

/-- The load of a TMR_CNT_LO write (R419). -/
def Timer.takeLoad (t : Timer) : Timer :=
  match t.load with | some n => { t with cnt := n, load := none } | none => t

/-- The capture channel k fires: a link source, or an event a row noted (R421). -/
def State.capFires (s : State) (n : Nat) (c : CapChan) : Bool :=
  c.cfg.getLsbD 31 && (c.capNow ||
    (decide (bitsOf c.cfg.toNat 0 6 < 16) && linkEvent (bitsOf c.cfg.toNat 8 2) (s.timer (bitsOf c.cfg.toNat 0 6)))) &&
    decide (n < 16)

/-- Push a captured count: a full queue drops it and marks the newest entry (R422). -/
def CapChan.push (c : CapChan) (count : Nat) : CapChan :=
  if 4 ≤ c.queue.length then
    { c with
      capNow := false
      drop := cnt8 c.drop
      queue := c.queue.dropLast ++ (match c.queue.getLast? with | some x => [(x.1, true)] | none => []) }
  else { c with capNow := false, queue := c.queue ++ [(count, false)] }

/-- One timer over one step: captures take the count of the last step, then the timer acts (R417, R421). -/
def State.timerStep (s : State) (n : Fin 16) : Timer :=
  let t := s.timers[n.val]
  let caps := t.cap.map fun c => if s.capFires n.val c then c.push t.cnt else { c with capNow := false }
  let t1 := { t with cap := caps, trigNow := false }
  if !t.en || s.frozen n.val then { t1 with lastMat := false, lastOvf := false }.takeLoad
  else match t.load with
    | some c => t1.loadStep c (s.trigger n.val) (s.gate n.val)
    | none => t1.step (s.trigger n.val) (s.gate n.val)

/-- The ADD of 1 that a timer's event sends to its sync object (R417). -/
def State.timerSignal (s : State) (n : Fin 16) : State :=
  let t := s.timers[n.val]
  let sel := bitsOf t.obj.toNat 30 2
  if (sel % 2 == 1 && t.lastMat) || (2 ≤ sel && t.lastOvf) then
    s.sendPkt stPorts (.sync 0 (bitsOf t.obj.toNat 0 13) 1 (32 + t.owner.getD 0))
  else s

/-- Debug is enabled: STRAP_DBG is 1 and the lifecycle state allows it (R86, R457, R479). -/
def State.debugEnabled (s : State) : Bool := s.straps.dbg && (s.fuses.lc == 0 || s.fuses.lc == 1 || s.fuses.lc == 3)

/-- A device with an enabled debug halt of a tenant (R492). -/
def State.debugHalted (s : State) (t : Tenant) : Bool :=
  s.debugEnabled && (s.coresOf t).any fun k => (s.core k).e.dbg.halted

/-- The tick-liveness watchdog of a tenant does not count (R492): its Shears is stopped, PSTOP is set, or a debugger halts
one of its cores while DBG_PAUSE is 1. -/
def State.wdPaused (s : State) (t : Tenant) : Bool :=
  (s.shear t).state == .stopped || (s.shear t).pstop || ((s.pont.wd[t.val]).dbgPause && s.debugHalted t)

/-- n steps of 4 ns pass: a watchdog that does not count loses none of its time. -/
def State.advance (s : State) (n : Nat) : State :=
  { s with
    now := s.now + n
    pont := { s.pont with wd := Vector.ofFn fun t =>
      let w := s.pont.wd[t.val]
      (if s.wdPaused t then { w with since := w.since + n } else w) } }

/-- One step of the timer clock (R417). While the ports domain is gated only time passes. -/
def State.clockStep (s : State) : State :=
  if !s.fabricRuns then s.advance 1 else
  let s1 := { s.advance 1 with timers := Vector.ofFn fun n => s.timerStep n }
  (List.finRange 16).foldl (fun s n => s.timerSignal n) s1

/-- The timers do not run, or none is enabled and none has anything to do in the next step. -/
def State.timersQuiet (s : State) : Bool :=
  !s.fabricRuns || s.timers.all fun t =>
    !t.en && !t.trigNow && !t.lastMat && !t.lastOvf && t.load.isNone && t.cap.all fun c => !c.capNow

/-- n steps of the timer clock. -/
def State.clockSteps (s : State) : Nat → State
  | 0 => s
  | n + 1 => s.clockStep.clockSteps n

/-- Let n steps of 4 ns pass. -/
def State.passTime (s : State) (n : Nat) : State :=
  if s.timersQuiet then s.advance n else s.clockSteps n

/-- Let time pass until a moment that is due; a moment that has passed takes none. -/
def State.passTo (s : State) (due : Nat) : State := s.passTime (due - s.now)

/-- Steps until an undisturbed timer's counter reaches a count n above its present one. -/
def Timer.stepsTo (t : Timer) (n : Nat) : Nat := (n - t.cnt) * (t.prescale + 1) - min t.presc t.prescale

/-- The timer counts by itself: enabled, running, neither clocked nor gated off, with no load ahead. -/
def State.counting (s : State) (n : Nat) : Bool :=
  let t := s.timer n
  t.en && !s.frozen n && t.load.isNone && t.run && t.slave != 4 && (t.slave != 1 || s.gate n)

/-- The timer counts its triggers. -/
def Timer.clocked (t : Timer) : Bool := t.en && t.slave == 4 && t.run && t.load.isNone

/-- The step in which the timer's counter next reaches CMP, if it counts undisturbed (R417, R420). -/
def State.matchDue (s : State) (n : Nat) : Option Nat :=
  let t := s.timer n
  let c := if t.cnt = t.per then 0 else (t.cnt + 1) % 2 ^ 64
  if t.clocked && !s.frozen n && s.trigger n then (if c = t.cmp then some 1 else none)
  else if !s.counting n then none
  else if t.cnt < t.cmp ∧ (t.cmp ≤ t.per ∨ t.per < t.cnt) then some (t.stepsTo t.cmp)
  else if t.cmp ≤ t.per then
    some (t.stepsTo (if t.cnt ≤ t.per then t.per + 1 else 2 ^ 64) + t.cmp * (t.prescale + 1))
  else none

/-- The step in which the timer's counter next passes PER or wraps (R417). -/
def State.ovfDue (s : State) (n : Nat) : Option Nat :=
  let t := s.timer n
  if t.clocked && !s.frozen n && s.trigger n then (if t.cnt = t.per ∨ t.cnt = 2 ^ 64 - 1 then some 1 else none)
  else if !s.counting n then none
  else some (t.stepsTo (if t.cnt ≤ t.per then t.per + 1 else 2 ^ 64))

end Sys2Proof.Machine
end

