-- ==== Sys2Proof/Machine/BlockOps.lean ====
section
/-!
DEFINITION. Block and neuron instructions (R115 to R117).
-/

namespace Sys2Proof.Machine

/-- A block-relative instruction: only in UPDATE, with a current block (R71, R85). -/
def blockRel (k : Nat) (eff : State → Fin 512 → Res) (s : State) : Res :=
  if (s.core k).e.st ≠ .update then .fault 4
  else match (s.core k).e.blk.cur with
    | none => .fault 5
    | some b => eff s b

/-- The saturation flag of a block goes to STAT.SATF and is cleared (R73). -/
def State.takeSat (s : State) (k b : Nat) : State :=
  s.modE k fun e =>
    { e with fl := { e.fl with satf := e.blk.sat.getLsbD b }, blk := { e.blk with sat := clrBlk e.blk.sat b } }

/-- Set the 16 accumulators of a block to zero. -/
def State.clearAcc (s : State) (k b : Nat) : State :=
  (List.range 16).foldl (fun s e => s.setAcc k (16 * b + e) 0) s

/-- An accumulator of the block holds an uncorrectable error (R85). -/
def State.accUe (s : State) (k b : Nat) : Bool := (List.range 16).any fun e => s.ueAt (acAddr k (16 * b + e))

/-- VTRUP on one trace half (R116). -/
def vtrup (k : Nat) (high : Bool) (va : VReg) (m : MReg) (ga gb gc : GReg) (s : State) : Res :=
  let i := (s.getG k ga).toNat
  if 8192 ≤ i then .fault 2
  else
    let base := 16 * (i / 16)
    if (List.range 16).any (fun e => s.ueAt (trAddr k (base + (e - e % 2)))) then .fault 6
    else
      let f := alphaPow ((s.getG k gb).toNat % 2 ^ 16) ((s.getG k gc).toNat % 2 ^ 24)
      let (l, r) := draws (s.core k).e.regs.rng 16
      let mask := s.getM k m
      let x := s.getV k va
      let y : VVal := vmap fun e =>
        BitVec.ofInt 32 ((sroundWith (l.getD e.val 0) ((s.traceHalf k (base + e.val) high).toInt * f) 16).toInt +
          (x[e.val]).toInt)
      let s1 := (List.finRange 16).foldl (fun t e =>
        if mask.getLsbD e.val then t.setTraceHalf k (base + e.val) high ((satWord (-128) 127 y[e.val]).setWidth 8)
        else t) (s.setRng k r)
      .done (s1.noteClip k (vany mask fun e => clips (-128) 127 y[e.val]))

/-- EMIT of neuron n with payload p, once the emit phase is open (R50, R117): a duplicate is counted, a full emit
buffer stalls (none), else the event is handed to the crossing with the tag of the tick (R41). -/
def State.emit (s : State) (k n : Nat) (p : Byte) : Option State :=
  let e := (s.core k).e
  if e.fl.sent.getLsbD n then
    some (s.modE k fun e => { e with fl := { e.fl with dupe := true }, cr := { e.cr with dupEmit := cnt16 e.cr.dupEmit } })
  else if 4 ≤ e.emitBuf.length then none
  else
    some (s.modE k fun e =>
      { e with
        fl := { e.fl with sent := e.fl.sent ||| (1#8192 <<< n) }
        emitBuf := e.emitBuf ++ [⟨BitVec.ofNat 24 (k / 32 * 2 ^ 18 + k % 32 * 2 ^ 13 + n), p, e.fl.tag⟩]
        cr := { e.cr with emitCnt := cnt32 e.cr.emitCnt } })

/-- The elements of a VEMIT from element e on; the element it stalls at, if any. -/
def State.emitFrom (s : State) (k b : Nat) (mask : BitVec 16) (x : Nat → Byte) : List Nat → State × Option Nat
  | [] => (s, none)
  | e :: es =>
    if mask.getLsbD e then
      match s.emit k (16 * b + e) (x e) with
      | some t => t.emitFrom k b mask x es
      | none => (s, some e)
    else s.emitFrom k b mask x es

/-- EMIT and VEMIT run only in TICK and UPDATE (R71). -/
def mayEmit (e : NEngine) : Bool := e.st == .tick || e.st == .update

/-- VEMIT (R117): waits at the emit gate, then emits the masked elements in order, stalling inside when the emit
buffer is full. -/
def vemit (k : Nat) (va : VReg) (m : MReg) (lo hi : Int) (s : State) : Res :=
  let e := (s.core k).e
  if !mayEmit e then .fault 4
  else match e.blk.cur with
    | none => .fault 5
    | some b =>
      if !e.fl.phase then .stall (s.reachGate k) .gate 0
      else
        let x := s.getV k va
        match (s.reachGate k).emitFrom k b.val (s.getM k m)
            (fun i => (satWord lo hi (x.toList.getD i 0)).setWidth 8) ((List.range 16).filter (e.emitAt ≤ ·)) with
        | (t, none) => .done t
        | (t, some i) => .stall (t.modE k fun e => { e with emitAt := i }) .emit 0

/-- VACC: the accumulators of the current block into vd, then cleared; copies and clears the saturation flag (R73, R115) -/
def effIVacc (k : Nat) (vd : VReg) (s : State) : Res :=
  blockRel k (fun s b =>
    if s.accUe k b then .fault 6
    else .done (((s.setV k vd (vmap fun e => s.readWord (acAddr k (16 * b.val + e.val)))).clearAcc k b).takeSat k b)) s
/-- VACC executed by core c. -/
def execIVacc (c : CoreId) (vd : VReg) (s : State) : Host.Outcome State Fault Refusal :=
  issued c (.iVacc c vd) (effIVacc c.key vd) s

/-- ACLR: as VACC, without writing a register (R115) -/
def effIAclr (k : Nat) (s : State) : Res :=
  blockRel k (fun s b => if s.accUe k b then .fault 6 else .done ((s.clearAcc k b).takeSat k b)) s
/-- ACLR executed by core c. -/
def execIAclr (c : CoreId) (s : State) : Host.Outcome State Fault Refusal :=
  issued c (.iAclr c) (effIAclr c.key) s

/-- DECAY: masked elements × α^BELAPSED, toward zero (R76, R115) -/
def effIDecay (k : Nat) (vd va : VReg) (m : MReg) (ga : GReg) (s : State) : Res :=
  blockRel k (fun s _ =>
    let f := alphaPow ((s.getG k ga).toNat % 2 ^ 16) (s.belapsed k)
    let a := s.getV k va
    .done (s.setV k vd (vmask (s.getM k m) (vmap fun e => decayWord a[e.val] f) (s.getV k vd)))) s
/-- DECAY executed by core c. -/
def execIDecay (c : CoreId) (vd va : VReg) (m : MReg) (ga : GReg) (s : State) : Host.Outcome State Fault Refusal :=
  issued c (.iDecay c vd va m ga) (effIDecay c.key vd va m ga) s

/-- VSCL: masked elements × 2^SHIFT of channel BCHAN, rounded as STOCH selects (R79, R115) -/
def effIVscl (k : Nat) (vd va : VReg) (m : MReg) (s : State) : Res :=
  blockRel k (fun s _ =>
    let ch := s.bchan k
    let sh := s.scaleShift k ch
    let a := s.getV k va
    let mask := s.getM k m
    if s.scaleStoch k ch then
      let (l, r) := draws (s.core k).e.regs.rng 16
      .done ((s.setRng k r).setV k vd
        (vmask mask (vmap fun e => scaleWord a[e.val] sh (some (l.getD e.val 0))) (s.getV k vd)))
    else .done (s.setV k vd (vmask mask (vmap fun e => scaleWord a[e.val] sh none) (s.getV k vd)))) s
/-- VSCL executed by core c. -/
def execIVscl (c : CoreId) (vd va : VReg) (m : MReg) (s : State) : Host.Outcome State Fault Refusal :=
  issued c (.iVscl c vd va m) (effIVscl c.key vd va m) s

/-- PMARK: sets the current block's pending bit if m has any bit set (R72) -/
def effIPmark (k : Nat) (m : MReg) (s : State) : Res :=
  blockRel k (fun s b =>
    if s.getM k m = 0 then .done s
    else .done (s.modE k fun e => { e with blk := { e.blk with pending := setBlk e.blk.pending b } })) s
/-- PMARK executed by core c. -/
def execIPmark (c : CoreId) (m : MReg) (s : State) : Host.Outcome State Fault Refusal :=
  issued c (.iPmark c m) (effIPmark c.key m) s

/-- HOLD: sets or clears the current block's held bit (R72) -/
def effIHold (k : Nat) (m : MReg) (s : State) : Res :=
  blockRel k (fun s b =>
    let any := s.getM k m ≠ 0
    .done (s.modE k fun e =>
      { e with blk := { e.blk with held := if any then setBlk e.blk.held b else clrBlk e.blk.held b } })) s
/-- HOLD executed by core c. -/
def execIHold (c : CoreId) (m : MReg) (s : State) : Host.Outcome State Fault Refusal :=
  issued c (.iHold c m) (effIHold c.key m) s

/-- BSTAMP: LAST_TICK of the current block = TICK[23:0] (R74) -/
def effIBstamp (k : Nat) (s : State) : Res :=
  blockRel k (fun s b => .done (s.stamp k b)) s
/-- BSTAMP executed by core c. -/
def execIBstamp (c : CoreId) (s : State) : Host.Outcome State Fault Refusal :=
  issued c (.iBstamp c) (effIBstamp c.key) s

/-- VTRUP_L: trace update on the low trace half (R116) -/
def effIVtrupL (k : Nat) (va : VReg) (m : MReg) (ga gb gc : GReg) (s : State) : Res :=
  vtrup k false va m ga gb gc s
/-- VTRUP_L executed by core c. -/
def execIVtrupL (c : CoreId) (va : VReg) (m : MReg) (ga gb gc : GReg) (s : State) : Host.Outcome State Fault Refusal :=
  issued c (.iVtrupL c va m ga gb gc) (effIVtrupL c.key va m ga gb gc) s

/-- VTRUP_H: trace update on the high trace half (R116) -/
def effIVtrupH (k : Nat) (va : VReg) (m : MReg) (ga gb gc : GReg) (s : State) : Res :=
  vtrup k true va m ga gb gc s
/-- VTRUP_H executed by core c. -/
def execIVtrupH (c : CoreId) (va : VReg) (m : MReg) (ga gb gc : GReg) (s : State) : Host.Outcome State Fault Refusal :=
  issued c (.iVtrupH c va m ga gb gc) (effIVtrupH c.key va m ga gb gc) s

/-- VEMIT_U: emits from the current block, payload clamped to 0…255 (R117) -/
def effIVemitU (k : Nat) (va : VReg) (m : MReg) (s : State) : Res :=
  vemit k va m 0 255 s
/-- VEMIT_U executed by core c. -/
def execIVemitU (c : CoreId) (va : VReg) (m : MReg) (s : State) : Host.Outcome State Fault Refusal :=
  issued c (.iVemitU c va m) (effIVemitU c.key va m) s

/-- VEMIT_S: emits from the current block, payload clamped to −128…127 (R117) -/
def effIVemitS (k : Nat) (va : VReg) (m : MReg) (s : State) : Res :=
  vemit k va m (-128) 127 s
/-- VEMIT_S executed by core c. -/
def execIVemitS (c : CoreId) (va : VReg) (m : MReg) (s : State) : Host.Outcome State Fault Refusal :=
  issued c (.iVemitS c va m) (effIVemitS c.key va m) s

end Sys2Proof.Machine
end

