-- ==== Sys2Proof/Machine/Journal.lean ====
section
/-!
DEFINITION. The commit journal of the Lehr store: commit records in rotation over blocks 4 to 7, each with a CRC-32 over its
other fields (R286, R290, R291, R292), and the erase counts of the blocks outside the pool (R293).
-/

namespace Sys2Proof.Machine

/-! ### CRC-32 (R290) -/

/-- One byte through the IEEE 802.3 CRC-32, least significant bit first. -/
def crc32Byte (c : Word) (b : Byte) : Word :=
  (List.range 8).foldl (fun c _ => if c.getLsbD 0 then (c >>> 1) ^^^ 0xEDB88320 else c >>> 1) (c ^^^ b.setWidth 32)
/-- The IEEE 802.3 CRC-32 of a list of bytes. -/
def crc32 (bs : List Byte) : Word := ~~~(bs.foldl crc32Byte 0xFFFFFFFF)

/-! ### Commit records -/

/-- The CRC-32 over a record's other fields; how they lie in its 64 bytes is open (notes/assumptions/58.md). -/
def CommitRec.crcOf (r : CommitRec) : Word := crc32 (Config.commitRecord r.set r.seq r.first r.count r.digest)
/-- The record's CRC passes. -/
def CommitRec.ok (r : CommitRec) : Bool := r.crc == r.crcOf

/-- A save stands in the journal: a record of its set and number whose CRC passes. -/
def Lehr.recorded (l : Lehr) (set : Nat) (v : LehrSave) : Bool :=
  l.journal.any fun r => r.set == set && r.seq == v.seq && r.ok
/-- A record is that of a save that its set still holds. -/
def Lehr.holds (l : Lehr) (r : CommitRec) : Bool :=
  let x := l.sets.toList.getD r.set {}
  r.ok && (x.newest.any (fun v => v.seq == r.seq) || x.older.any fun v => v.seq == r.seq)

/-- Write one record at the next place of the rotation. -/
def Lehr.append (l : Lehr) (r : CommitRec) : Lehr :=
  { l with journal := l.journal ++ [{ r with slot := l.jnext }], jnext := (l.jnext + 1) % 4096 }
/-- Where the rotation enters a block, the block is erased, and the records of saves still held are written again in front
(notes/assumptions/58.md, DESIGN CHOICE). -/
def Lehr.turn (l : Lehr) : Lehr :=
  if l.jnext % 1024 ≠ 0 then l
  else
    let b := l.jnext / 1024
    let here (r : CommitRec) : Bool := r.slot / 1024 == b
    (l.journal.filter fun r => here r && l.holds r).foldl Lehr.append
      { l with journal := l.journal.filter fun r => !here r, wear := Tab.modify l.wear 0 (4 + b) (· + 1) }
/-- Write one commit record to the journal (R286, R290). -/
def Lehr.addRecord (l : Lehr) (r : CommitRec) : Lehr := l.turn.append r

/-- The records of a set that is released are void. -/
def Lehr.dropRecords (l : Lehr) (set : Nat) : Lehr := { l with journal := l.journal.filter fun r => r.set != set }

/-- Number of the next save of a set (R290). -/
def LehrSet.nextSeq (x : LehrSet) : Word := match x.newest with | some v => v.seq + 1 | none => 1

/-- The older saves that a commit record has superseded are freed (R290, R292). -/
def Lehr.freeOlder (l : Lehr) : Lehr := { l with sets := l.sets.map fun x => { x with older := none } }

/-! ### Power loss (R292) -/

/-- The power fails: what was in progress is lost, and a record that was being written is torn, with a CRC that fails; torn
tells whether the moment fell into the write of a record. -/
def Lehr.lose (l : Lehr) (torn : Bool) : Lehr :=
  let l1 : Lehr := { l with ready := false, jobs := [], err := 0 }
  match l.jobs.find? fun j => j.phase == .writing with
  | some j =>
    let r : CommitRec := { set := j.set, seq := (l.sets.toList.getD j.set {}).nextSeq }
    if torn then l1.addRecord { r with crc := ~~~r.crcOf } else l1
  | none => l1

end Sys2Proof.Machine
end

