-- ==== Sys2Proof/Machine/Integrate.lean ====
section
/-!
DEFINITION. The synapse integration unit and the cluster receive unit: the source filter, rows and records, landing
segments, late items, and the copies a cluster delivers to its cores (R41, R48, R55 to R57, R129 to R159).
-/

namespace Sys2Proof.Machine

/-! ### Contributions (R48) -/

/-- The contribution of a record before saturation: weight × payload × 2^e. -/
def rawContribution (w : Int) (raw : Byte) (signed : Bool) (e : Int) : Int :=
  let p : Int := if signed then raw.toInt else raw.toNat
  if 0 ≤ e then w * p * 2 ^ e.toNat else w * p / 2 ^ (-e).toNat

/-- Add a contribution to accumulator n of core k: the sum saturates to 24 bits and a saturation sets the block's
flag; the block joins the collecting set (R48, R143). -/
def State.addContribution (s : State) (k n : Nat) (raw : Int) : State :=
  let c := sat24 raw
  let sum := s.acc k n + c
  let sat := decide (sat24 sum ≠ sum) || decide (c ≠ raw)
  (s.setAcc k n (sat24 sum)).modE k fun e =>
    { e with blk := { e.blk with
        collecting := setBlk e.blk.collecting (n / 16)
        sat := if sat then setBlk e.blk.sat (n / 16) else e.blk.sat } }

/-! ### Row headers and records (R135 to R141) -/

/-- The fields of a row header (R135). -/
structure RowHdr where
  format : Nat
  reserved : Bool
  length : Nat
  base : Nat
  channel : Nat
  signed : Bool
  chain : Bool
  rule : Nat
  slack : Nat
  deriving DecidableEq, Repr

/-- Read a row header. -/
def rowHdr (w : BitVec 64) : RowHdr :=
  let n := w.toNat
  { format := bitsOf n 61 3, reserved := bitOf n 60 || bitsOf n 0 14 != 0, length := bitsOf n 48 12,
    base := bitsOf n 35 13, channel := bitsOf n 27 8, signed := bitOf n 26, chain := bitOf n 25,
    rule := bitsOf n 22 3, slack := bitsOf n 14 8 }

/-- Records per word of a format (R136). -/
def perWord : Nat → Nat
  | 0 => 4 | 1 => 16 | 2 => 32 | 3 => 2 | _ => 0

/-- The largest SLACK of a format (R138). -/
def slackMax (format length : Nat) : Nat :=
  match format with
  | 0 => 3 | 1 => 15 | 2 => 31 | 3 => min (2 * length) 255 | _ => 0

/-- The header checks that do not depend on where the row lies (R140). -/
def RowHdr.bad (h : RowHdr) : Bool :=
  decide (4 ≤ h.format) || h.reserved || (h.rule != 0 && h.format != 3) ||
  decide (slackMax h.format h.length < h.slack) || (h.length == 0 && h.slack != 0) ||
  ((h.format == 1 || h.format == 2) && h.length != 0 &&
    decide (8191 < h.base + perWord h.format * h.length - h.slack - 1)) ||
  (h.format == 2 && h.base % 2 == 1)

/-- A row at word a of the synapse SRAM is a row error (R140). -/
def RowHdr.badAt (h : RowHdr) (a : Nat) : Bool :=
  h.bad || decide (24575 < a + h.length) || (h.chain && a + h.length == 24575)

/-- A row of a landing segment of n words, header included, is a row error (R140); a header that the deep tier stores, and no
AUX forms, is one in any format but sparse-16 (R249). -/
def RowHdr.badSeg (h : RowHdr) (n : Nat) (stored : Bool) : Bool :=
  h.bad || decide (n < 1 + h.length) || h.format == 3 || h.chain || (stored && h.format != 0)

/-- Record j of word w of the row: its target and its weight (R137). -/
def record (h : RowHdr) (word : BitVec 64) (w j : Nat) : Nat × Int :=
  let n := word.toNat
  match h.format with
  | 0 => (h.base + bitsOf n (16 * j + 4) 12, sextNat 4 (bitsOf n (16 * j) 4))
  | 1 => (h.base + 16 * w + j, sextNat 4 (bitsOf n (4 * j) 4))
  | 2 => (h.base + 32 * w + j, sextNat 2 (bitsOf n (2 * j) 2))
  | _ => (h.base + bitsOf n (32 * j + 20) 12, sextNat 4 (bitsOf n (32 * j + 16) 4))

/-- Live records of word w (R138): the first r × LENGTH − SLACK positions of the row. -/
def liveIn (h : RowHdr) (w : Nat) : Nat :=
  min (perWord h.format) (perWord h.format * h.length - h.slack - perWord h.format * w)

/-- The targets of the live records of word w that lie in range. -/
def liveTargets (h : RowHdr) (word : BitVec 64) (w : Nat) : List Nat :=
  ((List.range (liveIn h w)).map fun j => (record h word w j).1).filter (· ≤ 8191)

/-- Accesses that bank b needs for a list of targets: one per pair, more when a neuron repeats (R145). -/
def bankAccesses (ts : List Nat) (b : Nat) : Nat :=
  (((ts.map (· / 2)).filter (· % 32 == b)).eraseDups).foldl
    (fun n q => n + max (ts.count (2 * q)) (ts.count (2 * q + 1))) 0

/-- Cycles beyond one that a word pair takes (R145). -/
def bankStalls (ts : List Nat) : Nat :=
  (List.range 32).foldl (fun n b => max n (bankAccesses ts b)) 1 - 1

/-! ### Errors the unit notes -/

/-- A row error (R140, R141): counted, flagged and reported. The word in DETAIL is that of the header, or of the record
skipped, and in a landing segment the word of its slot, 32 × slot up: DESIGN CHOICE (notes/assumptions/57.md). -/
def State.noteRowError (s : State) (k word : Nat) : State :=
  (s.modI k fun i => { i with rowErrCnt := cnt16 i.rowErrCnt, rowErr := true }).reportFault (k / 32) (k / 32) 0x0A
    (BitVec.ofNat 40 (k % 32 * 2 ^ 35 + word % 2 ^ 15))

/-- A corrected error in synapse SRAM word w (R147, R156). -/
def State.noteCe (s : State) (k w : Nat) : State :=
  s.modI k fun i =>
    { i with
      eccCe := cnt16 i.eccCe
      eccKind := if 2 ≤ i.eccKind then i.eccKind else 1
      eccWord := if 2 ≤ i.eccKind then i.eccWord else w }

/-- An uncorrectable error of kind 2 (synapse SRAM word) or 3 (accumulator pair) (R147, R156). -/
def State.noteUe (s : State) (k kind w : Nat) : State :=
  (s.modI k fun i => { i with ecUe := true, eccKind := kind, eccWord := w }).eccFault (k / 32) kind
    (if kind = 2 then synAddr k (2 * w) else acAddr k (2 * w))

/-- The late-event count and the gap flag (R41, R57). -/
def State.noteLate (s : State) (k : Nat) : State :=
  (s.modI k fun i => { i with late := cnt16 i.late }).modE k fun e => { e with fl := { e.fl with gapNext := true } }

/-! ### Integrating -/

/-- A running integration: the state, how many live records may still be integrated before an edge abandons the item
(none: no edge comes), and whether the item has ended. -/
structure IntRun where
  s : State
  left : Option Nat
  stop : Bool

/-- Where the words of an item come from: synapse SRAM from a word on, or a landing slot's words. -/
inductive RowSrc where
  | syn
  | lb (slot : Nat)

/-- The 64-bit word a of the source. -/
def State.rowWord (s : State) (k : Nat) (src : RowSrc) (a : Nat) : BitVec 64 :=
  match src with
  | .syn => s.readDword (synAddr k (2 * a))
  | .lb slot => s.readDword (lbAddr k (2 * (32 * slot + a)))

/-- Meet the ECC of the word a of the source before it is used (R147). -/
def IntRun.meetEcc (r : IntRun) (k : Nat) (src : RowSrc) (a : Nat) : IntRun :=
  match src with
  | .lb _ => r
  | .syn =>
    if r.s.ueAt (synAddr k (2 * a)) then { r with s := r.s.noteUe k 2 a, stop := true }
    else if r.s.ceAt (synAddr k (2 * a)) then { r with s := r.s.noteCe k a }
    else r

/-- The number a word of the source is reported by: its number in the synapse SRAM, or in the landing buffer. -/
def RowSrc.wordNo (src : RowSrc) (a : Nat) : Nat :=
  match src with | .syn => a | .lb slot => 32 * slot + a

/-- Integrate one live record (R141, R143, R147). -/
def IntRun.record (r : IntRun) (k : Nat) (h : RowHdr) (pay : Byte) (e : Int) (a : Nat) (rec : Nat × Int) : IntRun :=
  if r.stop then r
  else if r.left = some 0 then { r with stop := true }
  else if 8191 < rec.1 then { r with s := r.s.noteRowError k a, left := r.left.map (· - 1) }
  else if r.s.ueAt (acAddr k rec.1) then { r with s := r.s.noteUe k 3 (rec.1 / 2), stop := true }
  else
    { r with
      s := (r.s.addContribution k rec.1 (rawContribution rec.2 pay h.signed e)).modI k fun i =>
        { i with recCnt := cnt32 i.recCnt }
      left := r.left.map (· - 1) }

/-- Integrate word w of a row whose header stands at word a of the source. -/
def IntRun.word (r : IntRun) (k : Nat) (src : RowSrc) (h : RowHdr) (pay : Byte) (e : Int) (a w : Nat) : IntRun :=
  if r.stop || decide (h.length ≤ w) then r
  else
    let r1 := r.meetEcc k src (a + 1 + w)
    let word := r.s.rowWord k src (a + 1 + w)
    (List.range (liveIn h w)).foldl
      (fun r j => r.record k h pay e (src.wordNo (a + 1 + w)) (Machine.record h word w j)) r1

/-- The bank-conflict cycles of the word pair that starts at word w (R145). -/
def State.pairStalls (s : State) (k : Nat) (src : RowSrc) (h : RowHdr) (a w : Nat) : Nat :=
  let t (w : Nat) : List Nat := if w < h.length then liveTargets h (s.rowWord k src (a + 1 + w)) w else []
  bankStalls (t w ++ t (w + 1))

/-- Integrate words w and w + 1 of a row. The conflict cycles of a pair that an error or an edge cuts short depend on the cycle
it comes in: some of them, a free number (R145, notes/assumptions/10.md). -/
def IntRun.pair (r : IntRun) (k : Nat) (src : RowSrc) (h : RowHdr) (pay : Byte) (e : Int) (a w : Nat) : IntRun :=
  if r.stop then r
  else
    let n := r.s.pairStalls k src h a w
    let r1 := (r.word k src h pay e a w).word k src h pay e a (w + 1)
    let m := if r1.stop then r1.s.free.toNat % (n + 1) else n
    let s1 := if r1.stop then r1.s.spend else r1.s
    { r1 with s := s1.modI k fun i => { i with bankStall := cnt32 i.bankStall m } }

/-- Integrate the row whose checked header h stands at word a of the source, two words at a time (R145). -/
def IntRun.row (r : IntRun) (k : Nat) (src : RowSrc) (h : RowHdr) (pay : Byte) (a : Nat) : IntRun :=
  let e := r.s.scaleShift k h.channel
  (List.range ((h.length + 1) / 2)).foldl (fun r p => r.pair k src h pay e a (2 * p)) r

/-- The fields of CORE_MRV_CTRL (R295): EN, PRE_EN, PRE_HALF and PRE_ALPHA. -/
def Marver.preEn (m : Marver) : Bool := m.ctrl.getLsbD 30
def Marver.preHalf (m : Marver) : Bool := m.ctrl.getLsbD 29
def Marver.preAlpha (m : Marver) : Nat := bitsOf m.ctrl.toNat 0 8

/-- The update of the pre slot of filter word n by an event of payload p (R276). The half has 8,192 elements (R275). -/
def State.bumpPre (s : State) (k n : Nat) (p : Byte) (signed : Bool) : State :=
  if 8192 ≤ n then s else
  let high := (s.core k).mrv.preHalf
  let add : Int := if signed then p.toInt else min p.toNat 127
  s.setTraceHalf k n high (BitVec.ofInt 8 (sat8 ((s.traceHalf k n high).toInt + add)))

/-- Integrate a chain of rows from word a of the synapse SRAM (R139, R140); fuel bounds the number of headers. pre is
the source's filter word while its pre slot is still to be updated (R276). -/
def IntRun.chain (r : IntRun) (k : Nat) (pay : Byte) (pre : Option Nat) (a : Nat) : Nat → IntRun
  | 0 => r
  | fuel + 1 =>
    let r1 := r.meetEcc k .syn a
    if r1.stop then r1
    else
      let h := rowHdr (r1.s.rowWord k .syn a)
      if h.badAt a then { r1 with s := r1.s.noteRowError k a, stop := true }
      else
        let r2 := match pre, h.format == 3 with
          | some n, true => { r1 with s := r1.s.bumpPre k n pay h.signed }
          | _, _ => r1
        let r3 := r2.row k .syn h pay a
        if r3.stop || !h.chain then r3
        else r3.chain k pay (if h.format == 3 then none else pre) (a + 1 + h.length) fuel

/-! ### The source filter (R129, R132, R133) -/

/-- The set of a source (R133). -/
def filterSet (i : Integ) (src : Source) : Nat :=
  (src.toNat % 4096 ^^^ src.toNat / 4096 ^^^ i.salt.toNat) % 2 ^ i.filtLog2

/-- Look a source up: the filter word of the lowest matching way (R133). -/
def State.filterWord (s : State) (k : Nat) (src : Source) : Option Nat :=
  let i := (s.core k).i
  if !i.filtEn then none
  else
    ((List.range 4).find? fun w =>
      let x := (s.readDword (synAddr k (2 * (4 * filterSet i src + w)))).toNat
      bitOf x 63 && x % 2 ^ 24 == src.toNat).map fun w => 4 * filterSet i src + w

/-- ROW of filter word n (R132). -/
def State.filterRow (s : State) (k n : Nat) : Nat := bitsOf (s.readDword (synAddr k (2 * n))).toNat 48 15

/-- The ECC of the four ways the filter compares (R147). -/
def IntRun.filterEcc (r : IntRun) (k : Nat) (src : Source) : IntRun :=
  let i := (r.s.core k).i
  if !i.filtEn then r
  else (List.range 4).foldl (fun r w => if r.stop then r else r.meetEcc k .syn (4 * filterSet i src + w)) r

/-- Integrate an event of matching tag, up to the budget (R133, R143). -/
def State.integEvent (s : State) (k : Nat) (ev : InEv) (left : Option Nat) : State :=
  let r := IntRun.filterEcc ⟨s, left, false⟩ k ev.src
  if r.stop then r.s
  else match r.s.filterWord k ev.src with
    | none => r.s
    | some n =>
      let pre := if (s.core k).mrv.preEn then some n else none
      ({ r with s := r.s.modI k fun i => { i with filtHit := cnt32 i.filtHit } }.chain k ev.pay pre
        (r.s.filterRow k n) 24576).s

/-- Remove the head of the ingress FIFO. -/
def State.popIngress (s : State) (k : Nat) : State := s.modI k fun i => { i with fifo := i.fifo.tail }

/-- The words of a landing slot: AUX, then the row (R251). -/
def State.segAux (s : State) (k slot : Nat) : BitVec 64 := s.rowWord k (.lb slot) 0
/-- The tag in a segment header (R250). -/
def auxTag (aux : BitVec 64) : BitVec 4 := aux.extractLsb' 60 4
/-- The payload in a segment header. -/
def auxPay (aux : BitVec 64) : Byte := aux.extractLsb' 48 8

/-- The header in a landing slot is one that the deep tier stores: AUX's HDR says that none was formed (R250). -/
def auxStored (aux : BitVec 64) : Bool := !aux.getLsbD 58

/-- Integrate a landing segment, up to the budget (R146): a row error discards it, and only one that is integrated to its end
counts in CORE_SEG_CNT (R157): not one that an uncorrectable error or an edge cuts short (notes/assumptions/57.md,
DEDUCED). -/
def State.integSegment (s : State) (k : Nat) (g : Seg) (left : Option Nat) : State :=
  let aux := s.segAux k g.slot.val
  let h := rowHdr (s.rowWord k (.lb g.slot.val) 1)
  if h.badSeg g.words (auxStored aux) then s.noteRowError k (32 * g.slot.val + 1)
  else
    let r := IntRun.row ⟨s, left, false⟩ k (.lb g.slot.val) h (auxPay aux) 1
    if r.stop || left.isSome then r.s else r.s.modI k fun i => { i with segCnt := cnt32 i.segCnt }

/-- Free the oldest segment's slot and return its Gather credit (R146, R251). -/
def State.freeSegment (s : State) (k : Nat) (g : Seg) : State :=
  (s.modI k fun i => { i with segs := i.segs.tail }).sendPkt (k / 32) (.gathCred g.src g.flow 1 false 0 0)

/-- The item the unit takes next, by arrival (R142): true for the oldest landing segment, false for the event at the head of
the ingress FIFO, none when neither waits. -/
def Integ.nextItem (i : Integ) : Option Bool :=
  match i.fifo, i.segs with
  | [], [] => none
  | _ :: _, [] => some false
  | [], _ :: _ => some true
  | ev :: _, g :: _ => some (decide (g.order < ev.order))

/-- INTEGRATE_EVENT (R41, R133, R142, R143): the unit takes the head event, if no segment arrived before it. An event of
another tag is late; one of the delivery's tag is integrated once the emit phase has opened. -/
def execIntegrateEvent (c : CoreId) (s : State) : Host.Outcome State Fault Refusal :=
  let k := c.key
  match (s.core k).i.fifo with
  | [] => .next s
  | ev :: _ =>
    if (s.core k).i.nextItem ≠ some false then .next s
    else if ev.tag ≠ (s.core k).e.fl.tag then .next ((s.noteLate k).popIngress k)
    else if !(s.core k).e.fl.phase then .next s
    else .next ((s.integEvent k ev none).popIngress k)

/-- INTEGRATE_SEGMENT (R41, R142, R146): the unit takes the oldest complete landing segment, if no event arrived before it. -/
def execIntegrateSegment (c : CoreId) (s : State) : Host.Outcome State Fault Refusal :=
  let k := c.key
  match (s.core k).i.segs with
  | [] => .next s
  | g :: _ =>
    if (s.core k).i.nextItem ≠ some true then .next s
    else if auxTag (s.segAux k g.slot.val) ≠ (s.core k).e.fl.tag then .next ((s.noteLate k).freeSegment k g)
    else if !(s.core k).e.fl.phase then .next s
    else .next ((s.integSegment k g none).freeSegment k g)

/-- CORE_INGRESS (R41, R55 to R57, R149): the oldest copy that crosses into the core is checked and queued. A marked
one sets the gap flag, a late one is discarded, and a full FIFO drops it in lossy mode. -/
def execCoreIngress (c : CoreId) (s : State) : Host.Outcome State Fault Refusal :=
  let k := c.key
  match (s.core k).i.crossing with
  | [] => .next s
  | ev :: rest =>
    let s0 := s.modI k fun i => { i with crossing := rest }
    let s1 := if ev.gap then s0.modE k fun e => { e with fl := { e.fl with gapNext := true } } else s0
    if ev.tag ≠ (s.core k).e.fl.tag then .next (s1.noteLate k)
    else if 32 ≤ (s.core k).i.fifo.length then
      if s.coreLossless k then .next s
      else
        .next ((s1.modI k fun i => { i with drop := cnt16 i.drop }).modE k fun e =>
          { e with fl := { e.fl with gapNext := true } })
    else
      .next (s1.modI k fun i =>
        { i with fifo := i.fifo ++ [{ ev with order := i.arrived }], arrived := i.arrived + 1 })

/-! ### The cluster receive unit (R148 to R151) -/

/-- The physical core that logical core n of a cluster runs on (R468). -/
def State.physCore (s : State) (cl n : Nat) : Nat := (Tab.get s.boot.remap [] cl).getD n n
/-- A logical mask translated through the remap table: a spare core's bit is zero (R18). -/
def State.physMask (s : State) (cl : Nat) (v : Word) : BitVec 36 :=
  (List.range s.grade.perCluster).foldl (fun m n => if v.getLsbD n then m ||| 1#36 <<< s.physCore cl n else m) 0
/-- The logical view of an entry (R18, R151). -/
def State.logicalMask (s : State) (cl : Nat) (m : BitVec 36) : Word :=
  (List.range s.grade.perCluster).foldl (fun v n => if m.getLsbD (s.physCore cl n) then v ||| 1#32 <<< n else v) 0

/-- The core-mask entry of a group, one bit per physical core, and its logical view; the null group's is never read (R148,
R150, R151). -/
def State.maskEntry (s : State) (cl g : Nat) : BitVec 36 := Tab.get s.masks 0 (cl * 65536 + g)
def State.coreMask (s : State) (cl g : Nat) : Word := s.logicalMask cl (s.maskEntry cl g)

/-- The cores an entry masks, in this grade. -/
def State.maskedCores (s : State) (cl g : Nat) : List Nat :=
  (s.coresIn cl).filter fun k => (s.maskEntry cl g).getLsbD (s.physCore cl (k % 32))

/-- A core's bit moves with it to another physical core, in every entry of its cluster (R18, R471). -/
def State.moveMasks (s : State) (cl old new : Nat) : State :=
  let move (m : BitVec 36) : BitVec 36 := if m.getLsbD old then m &&& ~~~(1#36 <<< old) ||| 1#36 <<< new else m
  { s with masks := s.masks.map fun e => if e.1 / 65536 = cl then (e.1, move e.2) else e }

/-- Every masked core can accept a copy (R61). -/
def State.coresAccept (s : State) (ks : List Nat) : Bool :=
  ks.all fun k => decide ((s.core k).i.fifo.length + (s.core k).i.crossing.length < 32)

/-- Change a list of cores. -/
def State.modCores (s : State) (ks : List Nat) (f : Core → Core) : State := ks.foldl (fun s k => s.modCore k f) s

/-- Set the gap flag of every logical core of a cluster, for the delivery in progress (R57). -/
def State.markGap (s : State) (cl : Nat) : State :=
  s.modCores (s.coresIn cl) fun c => { c with e := { c.e with fl := { c.e.fl with gapNext := true } } }

/-- RX_LOOKUP (R57, R61, R148 to R150): the receive unit looks the head event up and delivers its copies; in lossless
mode it holds the head until every masked core can accept it, for a number of fc that is free (R159). Leaving the FIFO
returns the event's credit. -/
def execRxLookup (cl : Cluster) (s : State) : Host.Outcome State Fault Refusal :=
  match (s.cluster cl.val).rx with
  | [] => .next s
  | x :: rest =>
    let ks := s.maskedCores cl.val x.ev.grp.toNat
    let lossless := s.lossless x.tenant
    if lossless && !s.coresAccept ks then
      .next (s.spend.modCluster cl.val fun c => { c with holdFc := cnt32 c.holdFc s.free.toNat })
    else
      let s1 := s.modCluster cl.val fun c => { c with rx := rest, events := cnt32 c.events }
      let s2 := if x.ev.gap then s1.markGap cl.val else s1
      let s3 := s2.modCores ks fun c =>
        { c with i := { c.i with crossing := c.i.crossing ++ [⟨x.ev.src, x.ev.pay, x.ev.tag, x.ev.gap, 0⟩] } }
      .next (if lossless then s3.sendPkt cl.val (.caneCred x.src x.stream cl.val 1) else s3)

end Sys2Proof.Machine
end

