-- ==== Sys2Proof/Machine/Tick.lean ====
section
/-!
DEFINITION. Ticks: draining, firing an edge, an edge reaching a core, opening the emit phase and the fabric hold
(R35 to R45, R72, R77, R186 to R188, R409 to R415, R448).
-/

namespace Sys2Proof.Machine

/-! ### Ended and drained (R44, R410, R411) -/

/-- The core is Faulted or halted: it ends no UPDATE program, so its tenant's edges stop (R85, R87). -/
def NEngine.stuck (e : NEngine) : Bool := e.dbg.halted || e.st == .faulted
/-- The core has seen the edge and ended its UPDATE program. -/
def NEngine.tickEnded (e : NEngine) : Bool := !e.fl.edgeSig && e.fl.updEnded

/-- Every core of the tenant has seen the edge and ended its UPDATE program, and none is Faulted or halted (R43, R85, R87). -/
def State.ended (s : State) (t : Tenant) : Bool :=
  (s.coresOf t).all fun k => (s.core k).e.tickEnded && !(s.core k).e.stuck

/-- Every core of the tenant has seen the edge and reached its emit gate (R38). -/
def State.allGates (s : State) (t : Tenant) : Bool :=
  (s.coresOf t).all fun k => !(s.core k).e.fl.edgeSig && (s.core k).e.fl.gate

/-- A core holds nothing R44 names. -/
def Core.drained (c : Core) : Bool :=
  c.e.emitBuf.isEmpty && c.i.crossing.isEmpty && c.i.fifo.isEmpty && c.i.segs.isEmpty

/-- A flit carries an event or a SEGMENT packet of the tenant. -/
def Flit.carries (f : Flit) (t : Tenant) : Bool :=
  f.tenant == t && match f.body with
    | .cane a b => a.isSome || b.isSome
    | .gather p _ => p.op == 2
    | .dead _ => false

/-- A station holds nothing of the tenant that R44 names: hold register, stream queues, flits handed to it, events
released for lookup, and SEGMENT packets in its flows and its ejection cells. -/
def StationSt.drained (x : StationSt) (t : Tenant) : Bool :=
  (Tab.get x.cane.hold [] t.val).isEmpty &&
  (x.cane.streams.all fun e => e.2.tenant != t || e.2.queue.isEmpty) &&
  (x.cane.ejected.all fun e => !e.flit.carries t) &&
  (x.cane.lookQ.all fun e => e.tenant != t) &&
  (x.gather.flows.all fun e => e.2.queue.all fun p => p.op != 2 || p.tenant != t) &&
  (x.gather.cells.all fun e => match e.2 with | some c => c.pkt.op != 2 || c.pkt.tenant != t | none => true)

/-- A noted event of the tenant waits at HOST or PORTS (R327, R380). -/
def notedHolds (q : Tab (List LookEv)) (n : Tab Nat) (t : Tenant) : Bool :=
  q.any fun e => (e.2.take (Tab.get n 0 e.1)).any fun x => x.tenant == t

/-- An engine holds an event of the tenant (R44). -/
def DeepEngine.holds (d : DeepEngine) (t : Tenant) : Bool :=
  !(Tab.get d.ingress [] t.val).isEmpty || d.window.any fun w => w.events.any fun e => e.tenant == t

/-- Nothing of the tenant that R44 names stands outside its cores. HOST and PORTS have noted what they release at the opening
(R214, R327, R380). -/
def State.fabricIdle (s : State) (t : Tenant) : Bool :=
  ((s.clustersOf t).all fun c => (s.cluster c).rx.isEmpty) &&
  (s.stations.all fun e => e.2.drained t) &&
  (s.flight.all fun p => !p.flit.carries t) &&
  !(s.shear t).openHost && !(s.shear t).openPorts &&
  !notedHolds s.inj s.injNoted t && !notedHolds s.pin s.pinNoted t &&
  !s.deep[0].holds t && !s.deep[1].holds t

/-- The tenant has drained (R44, R411). -/
def State.drained (s : State) (t : Tenant) : Bool :=
  s.ended t && (s.coresOf t).all (fun k => (s.core k).drained) && s.fabricIdle t

/-- A credit return of the tenant has not reached its counter (R186). -/
def State.creditOut (s : State) (t : Tenant) : Bool :=
  let mine (p : Pkt) : Bool := match p with
    | .caneCred d n _ _ => (Tab.get (s.station d).cane.streams {} n).tenant == t
    | .gathCred d n _ _ _ _ => (s.flow d n).tenant == t
    | .qcred d _ _ => s.tenantOf d == some t
    | _ => false
  (s.stations.any fun e => e.2.thread.queues.any fun q => q.2.any mine) ||
    s.thread.any fun e => match e.2 with | some x => mine x.pkt | none => false

/-! ### Firing an edge (R411, R412, R414) -/

/-- A source that a timer or capture channel names has raised an event: it acts in the next step (R417, R421). evtOk
tells whether an EVT selection sees it. -/
def State.raiseSource (s : State) (src : Nat) (owner : Option Nat) (evtOk : Nat → Bool) : State :=
  { s with timers := s.timers.map fun t =>
      if owner.isNone || t.owner == owner then
        { t with
          trigNow := t.trigNow || (t.slave != 0 && t.src == src && evtOk t.evt)
          cap := t.cap.map fun c =>
            if c.cfg.getLsbD 31 && bitsOf c.cfg.toNat 0 6 == src && evtOk (bitsOf c.cfg.toNat 8 2) then
              { c with capNow := true } else c }
      else t }

/-- In lossy mode, noted events that HOST and PORTS still hold at an edge stay queued until the next opening (R327,
R380). -/
def State.unnote (s : State) (t : Tenant) : State :=
  if s.lossless t then s
  else
    { s with
      injNoted := Tab.put (Tab.put s.injNoted 0 (2 * t.val) 0) 0 (2 * t.val + 1) 0
      pinNoted := Tab.modifyAll s.pinNoted 0 ((List.range 16).filter fun c => Tab.get s.own none c == some t.val)
        fun _ _ => 0 }

/-- Fire an edge now: the tick counter advances by adv and the tag by one, except at the first edge after a LOAD;
EDGE goes to every core of the tenant and to PORTS, and the tap sees it: the tick-liveness watchdog restarts (R492). -/
def State.fireEdge (s : State) (t : Tenant) (adv overrun : Nat) (stretched : Bool) : State :=
  let sh := s.shear t
  let late := s.now - (sh.edgeAt + sh.period)
  let s1 := s.modShear t fun x =>
    { x with
      tick := if x.fresh then 0 else x.tick + BitVec.ofNat 32 adv
      tag := if x.fresh then 0 else x.tag + 1
      fresh := false
      first := false
      state := .update
      hold := if x.hold == .releasing then .running else x.hold
      period := x.staged.getD x.period
      staged := none
      lastLen := if x.first then x.lastLen else satAdd 4294967295 0 (s.now - x.edgeAt)
      edgeAt := s.now
      overrun := cnt16 x.overrun overrun
      stretchCnt := if stretched then cnt32 x.stretchCnt else x.stretchCnt
      stretchTime := if stretched then cnt32 x.stretchTime (late / 250) else x.stretchTime
      eptick := if x.first || x.epochLen == 0 || x.commitDone then 0 else x.eptick + 1
      commitDone := false
      openHost := false
      openPorts := false
      edgePorts := true }
  let wd := { s1.pont.wd[t.val] with since := s1.now, armed := true }
  let s2 := { s1 with pont := { s1.pont with wd := s1.pont.wd.set t.val wd } }.unnote t
  (s2.modCores (s2.coresOf t) fun c => { c with e := { c.e with fl := { c.e.fl with edgeSig := true } } }).raiseSource
    16 (some t.val) (fun _ => true)

/-- The moment the governor's stretch puts the next edge at (R448). -/
def State.stretchDue (s : State) (t : Tenant) : Nat :=
  let sh := s.shear t
  if 16 < s.govF then sh.edgeAt + sh.period * s.govF / 16 else 0

/-- The first grid point T + kP, k ≥ 1, at or after a moment: its k (R43). -/
def gridK (edgeAt period m : Nat) : Nat :=
  if period = 0 then 1 else max 1 ((m - edgeAt + period - 1) / period)

/-- Fire an edge that is due at a moment, or later when the governor stretches the tick (R448). -/
def State.edgeAtTime (s : State) (t : Tenant) (due adv overrun : Nat) (counted : Bool) : State :=
  let d2 := s.stretchDue t
  let sh := s.shear t
  if due < d2 then (s.passTo d2).fireEdge t 1 0 true
  else (s.passTo due).fireEdge t adv overrun (counted && decide (sh.edgeAt + sh.period < due))

/-- Whole periods from the edge of the current tick to a moment, and at least 1 (R45, R188). -/
def State.wholePeriods (s : State) (t : Tenant) (m : Nat) : Nat :=
  let sh := s.shear t
  max 1 (if sh.period = 0 then 1 else (m - sh.edgeAt) / sh.period)

/-- Fire the edge that a commit or a hold has held, at a moment (R45, R188). -/
def State.heldEdge (s : State) (t : Tenant) (due : Nat) : State :=
  s.edgeAtTime t due (s.wholePeriods t due) 0 true

/-- The last tick of an epoch is in progress (R272). -/
def Shears.lastOfEpoch (x : Shears) : Bool := x.epochLen != 0 && x.eptick + 1 == x.epochLen

/-- The first edge after START completes the command (R355). -/
def State.completeStart (s : State) (t : Tenant) : State :=
  if (s.tenant t).starting then (s.modTenant t fun x => { x with starting := false }).finish t 0 else s

/-- TICK_EDGE (R43, R44, R188, R355, R412): the Shears fires the next edge, once its condition holds, at the moment
it is due. -/
def execTickEdge (t : Tenant) (s : State) : Host.Outcome State Fault Refusal :=
  let sh := s.shear t
  if sh.pstop || sh.stopping then .next s
  else if sh.first then .next ((s.fireEdge t 1 0 false).completeStart t)
  else
    match sh.state with
    | .emit =>
      if sh.hold != .running || sh.lastOfEpoch then .next s
      else if sh.lossless then
        if s.drained t then .next (s.edgeAtTime t (max s.now (sh.edgeAt + sh.period)) 1 0 true) else .next s
      else if s.ended t then
        let k := gridK sh.edgeAt sh.period s.now
        .next (s.edgeAtTime t (sh.edgeAt + k * sh.period) k (k - 1) false)
      else .next s
    | .held =>
      if sh.hold != .releasing then .next s
      else if sh.lossless then .next (s.heldEdge t s.now)
      else .next (s.heldEdge t (sh.edgeAt + gridK sh.edgeAt sh.period (max s.now sh.relAt) * sh.period))
    | _ => .next s

/-! ### An edge at a core (R57, R69, R72, R77) -/

/-- The clamp sweep (R77): blocks idle for longer than 2^23 ticks are brought to 2^23. -/
def clampSweep (tick : Word) (table : Tab Word) : Tab Word :=
  Tab.modifyAll table 0 (List.range 512) fun _ w =>
    let now := tick.toNat % 2 ^ 24
    if 2 ^ 23 < (now + 2 ^ 24 - w.toNat % 2 ^ 24) % 2 ^ 24 then
      BitVec.ofNat 32 (w.toNat / 2 ^ 24 * 2 ^ 24 + (now + 2 ^ 24 - 2 ^ 23) % 2 ^ 24)
    else w

/-- What the edge of a tick freezes, clears and records in a core (R41, R50, R57, R72, R77, R95). -/
def NEngine.atEdge (e : NEngine) (tick : Word) (tag : BitVec 4) : NEngine :=
  { e with
    blk := { e.blk with
      active := e.blk.collecting ||| e.blk.held
      input := e.blk.collecting
      heldAt := e.blk.held
      collecting := 0
      pending := 0
      table := if tick.toNat % 2 ^ 22 = 0 then clampSweep tick e.blk.table else e.blk.table }
    fl := { e.fl with
      gap := e.fl.gapNext
      gapNext := false
      dupe := false
      sent := 0
      gate := false
      phase := false
      edgeSig := false
      edgeDue := true
      updEnded := false
      tick := tick
      tag := tag }
    cr := { e.cr with gateCc := e.cr.gateCcNow } }

/-- The item an edge of a lossy tenant finds half done is abandoned after the live records already added (R41):
isSeg tells a landing segment from the event at the head of the ingress FIFO, and the item is the one that arrived first
(R142). -/
def State.abandonItem (s : State) (k : Nat) (isSeg : Bool) (n : Nat) : State :=
  let fl := (s.core k).e.fl
  if !fl.phase || (s.core k).i.nextItem != some isSeg then s
  else if isSeg then
    match (s.core k).i.segs with
    | g :: _ =>
      if auxTag (s.segAux k g.slot.val) ≠ fl.tag then s
      else ((s.integSegment k g (some n)).noteLate k).freeSegment k g
    | [] => s
  else
    match (s.core k).i.fifo with
    | ev :: _ => if ev.tag ≠ fl.tag then s else ((s.integEvent k ev (some n)).noteLate k).popIngress k
    | [] => s

/-- The UPDATE program of the tick may start at once (R69, R70). -/
def Core.canStart (c : Core) : Bool := c.e.st == .idle && !c.e.dbg.halted && !c.mrv.busy

/-- EDGE_AT_CORE (R38, R41, R69 to R72): an edge reaches a core. underway names the item the integration unit was
part-way through, if any, and how many of its live records it had integrated. -/
def execEdgeAtCore (c : CoreId) (underway : Option (Bool × Nat)) (s : State) : Host.Outcome State Fault Refusal :=
  let k := c.key
  match s.coreTenant k with
  | none => .next s
  | some t =>
    if !(s.core k).e.fl.edgeSig then .next s
    else
      let s1 := match underway with
        | some (isSeg, n) => if s.lossless t then s else s.abandonItem k isSeg n
        | none => s
      let s2 := s1.modE k fun e => e.atEdge (s.shear t).tick (s.shear t).tag
      .next (if (s2.core k).canStart then s2.startUpdate k else s2)

/-- EMIT_PHASE_OPEN (R38, R214, R411): when every core of the tenant has reached its emit gate, the Shears opens the
emit phase: at the cores, at HOST and at PORTS. -/
def execEmitPhaseOpen (t : Tenant) (s : State) : Host.Outcome State Fault Refusal :=
  if (s.shear t).state != .update || !s.allGates t then .next s
  else
    let s1 := s.modShear t fun x => { x with state := .emit, openPorts := true, openHost := true }
    .next ((s1.modCores (s1.coresOf t) fun c =>
      { c with e := { c.e with fl := { c.e.fl with phase := true } } }).raiseSource 17 (some t.val) (fun _ => true))

/-! ### Fabric hold (R186 to R188) -/

/-- Begin the hold: STATE reads Held. -/
def State.beginHold (s : State) (t : Tenant) : State :=
  s.modShear t fun x => { x with state := .held, hold := .held }

/-- FABRIC_HOLD_BEGIN (R186): the hold begins once the tick has ended, the tenant has drained and every credit return
has arrived; a tick that ends an epoch commits first. -/
def execFabricHoldBegin (t : Tenant) (s : State) : Host.Outcome State Fault Refusal :=
  let sh := s.shear t
  if sh.hold != .requested || sh.stopping || s.creditOut t then .next s
  else
    match sh.state with
    | .emit => if !sh.lastOfEpoch && s.drained t then .next (s.beginHold t) else .next s
    | _ => .next s

end Sys2Proof.Machine
end

