-- ==== Sys2Proof/Machine/Wire.lean ====
section
/-!
DEFINITION. The words that travel on the fabrics: wire events, the flits of the Cane and of the Gather with their
sideband and check code, packet headers, and the packets and slots of the Thread (R47, R161, R162, R184, R203 to R205,
R213, R215, R216).
-/

namespace Sys2Proof.Machine

/-! ### The check code (R162) -/

/-- One bit into a CRC-8 with the polynomial x^8 + x^2 + x + 1. -/
def crcBit (c : Nat) (b : Bool) : Nat := if (c.testBit 7) != b then (2 * c % 256) ^^^ 7 else 2 * c % 256

/-- The low n bits of a number into a CRC-8, the most significant first. -/
def crcBits (w : Nat) : Nat → Nat → Nat
  | 0, c => c
  | n + 1, c => crcBits w n (crcBit c (w.testBit n))

/-! ### Cane flits (R47, R161) -/

/-- A wire event as 48 bits (R47). -/
def WireEv.word (e : WireEv) : Nat := e.src.toNat * 2 ^ 24 + e.pay.toNat * 2 ^ 16 + e.grp.toNat
/-- The per-event sideband: VALID, GAP and TAG (R161). -/
def WireEv.side (e : WireEv) : Nat := 2 ^ 5 + b2n e.gap * 2 ^ 4 + e.tag.toNat
/-- An absent event has VALID 0. Its other bits, which the spec leaves open, are 0 (DESIGN CHOICE, notes/assumptions/62.md):
nothing reads them but the check code that both ends compute. -/
def evWord (e : Option WireEv) : Nat := match e with | some x => x.word | none => 0
def evSide (e : Option WireEv) : Nat := match e with | some x => x.side | none => 0

/-! ### Gather packets and flits (R203 to R205) -/

/-- The 16-byte packet header (R205). -/
def GPkt.header (p : GPkt) : Nat :=
  p.op * 2 ^ 124 + p.len * 2 ^ 115 + b2n p.rsvd * 2 ^ 114 + p.src * 2 ^ 108 + p.addr * 2 ^ 64 + p.aux.toNat

/-- The last flit of a packet of this length (R204). -/
def packetFlits (len : Nat) : Nat := (16 + len + 63) / 64

/-- The data of flit i of a packet: the header and 48 payload bytes in the first, 64 in each later one (R204). -/
def GPkt.flitData (p : GPkt) (i : Nat) : Nat :=
  if i = 0 then p.header + leNat (p.data.take 48) * 2 ^ 128 else leNat ((p.data.drop (64 * i - 16)).take 64)

/-! ### Flits -/

/-- A flit holds a valid event or part of a packet. -/
def Flit.valid (f : Flit) : Bool :=
  match f.body with
  | .cane a b => a.isSome || b.isSome
  | .gather _ _ => true
  | .dead _ => false

/-- The number of data bits of a flit (R161, R202). -/
def flitBits (fab : Fabric) : Nat := match fab with | .cane => 96 | .gather => 512

/-- The data of a flit: EVENT1 above EVENT0, part of a packet, or a dead flit's origin (R161, R185, R204). -/
def Flit.data (f : Flit) : Nat :=
  match f.body with
  | .cane a b => evWord b * 2 ^ 48 + evWord a
  | .gather p i => p.flitData i
  | .dead o => o

/-- Whether a flit is dead (R185). -/
def Flit.isDead (f : Flit) : Bool := match f.body with | .dead _ => true | _ => false

/-- Sideband [23:8] of a flit of the Cane (R161) and of the Gather (R203). -/
def Flit.caneSide (f : Flit) : Nat :=
  let ev : Nat := match f.body with | .cane a b => evSide b * 2 ^ 10 + evSide a * 2 ^ 4 | _ => 0
  ev + f.tenant.val * 2 ^ 2 + b2n f.beacon * 2 + b2n f.isDead
def Flit.gatherSide (f : Flit) : Nat :=
  let part : Nat := match f.body with
    | .gather p i =>
      2 ^ 15 + b2n (i == 0) * 2 ^ 14 + b2n (i + 1 == packetFlits p.len) * 2 ^ 13 + p.flow * 2 ^ 5
    | _ => 0
  part + f.tenant.val * 2 ^ 11 + b2n f.beacon * 2 ^ 2 + b2n f.isDead * 2
def Flit.side (fab : Fabric) (f : Flit) : Nat := match fab with | .cane => f.caneSide | .gather => f.gatherSide

/-- The check code of a flit: over its data and then its sideband [23:8] (R162, R203). -/
def Flit.check (fab : Fabric) (f : Flit) : Byte :=
  BitVec.ofNat 8 (crcBits (f.side fab) 16 (crcBits f.data (flitBits fab) 0))

/-- The flit as an output sends it: it sets BEACON itself and recomputes CRC (R162, R166). -/
def Flit.seal (f : Flit) (fab : Fabric) (beacon : Bool) : Flit :=
  let g := { f with beacon := beacon }
  { g with crc := g.check fab }

/-- The CRC of a flit matches (R162). -/
def Flit.intact (fab : Fabric) (f : Flit) : Bool := f.crc == f.check fab

/-! ### Thread packets (R213, R215, R216) -/

/-- The destination station of a packet. -/
def Pkt.dst : Pkt → Nat
  | .caneCred d _ _ _ => d
  | .gathCred d _ _ _ _ _ => d
  | .qcred d _ _ => d
  | .sync .. => stSync
  | .regWr d _ _ _ => d
  | .regRd d _ _ => d
  | .doorbell .. => stSync
  | .notify .. => stHost
  | .fault .. => stMgmt
  | .other w => bitsOf w.toNat 54 6

/-- CLASS and BODY of a packet (R216). -/
def Pkt.fields : Pkt → Nat × Nat
  | .regWr _ sp woff v => (1, sp * 2 ^ 52 + woff * 2 ^ 32 + v.toNat)
  | .regRd _ sp woff => (2, sp * 2 ^ 52 + woff * 2 ^ 32)
  | .caneCred _ n i c => (3, n * 2 ^ 48 + i * 2 ^ 42 + c * 2 ^ 34)
  | .gathCred _ f n err a _ => (4, f * 2 ^ 48 + n * 2 ^ 40 + (if err then 2 ^ 38 + a else 0))
  | .qcred _ e n => (5, e * 2 ^ 46 + n * 2 ^ 42)
  | .sync op n v _ => (6, op * 2 ^ 52 + n * 2 ^ 32 + v.toNat)
  | .doorbell p i v => (7, p * 2 ^ 52 + i * 2 ^ 32 + v.toNat)
  | .notify p n v => (8, p * 2 ^ 52 + n * 2 ^ 32 + v.toNat)
  | .fault o c d => (9, o * 2 ^ 48 + c * 2 ^ 40 + d.toNat)
  | .other w => (bitsOf w.toNat 60 4, bitsOf w.toNat 0 54)

/-- The 64 bits of a packet: CLASS, DST, BODY (R215). -/
def Pkt.word (p : Pkt) : BitVec 64 := BitVec.ofNat 64 (p.fields.1 * 2 ^ 60 + p.dst * 2 ^ 54 + p.fields.2)

/-- The class is reserved or the destination is above 39: a station that would act on the packet discards it (R216). -/
def Pkt.bad (p : Pkt) : Bool := p.fields.1 == 0 || decide (9 < p.fields.1) || decide (39 < p.dst)

/-- The 64 bits that a slot carries: a request, or the STATUS and the word of its reply (R215, R216). -/
def SlotPkt.word (x : SlotPkt) : BitVec 64 :=
  match x.reply with
  | some (status, w) => BitVec.ofNat 64 (x.pkt.fields.1 * 2 ^ 60 + x.pkt.dst * 2 ^ 54 + status * 2 ^ 52 + w.toNat)
  | none => x.pkt.word

end Sys2Proof.Machine
end

