-- ==== Sys2Proof/Machine/Cane.lean ====
section
/-!
DEFINITION. The Cane and what both meshes share: geometry, lookups, streams, injection, forwarding, ejection, dead
links, credits and the Cane's registers (R160 to R201).
-/

namespace Sys2Proof.Machine

/-! ### Geometry (R17, R160) -/

/-- Column and row of a station. -/
def stCol (n : Nat) : Nat := if n < 32 then 1 + n % 8 else if n = 34 ∨ n = 36 ∨ n = 37 ∨ n = 38 then 9 else 0
def stRow (n : Nat) : Nat :=
  if n < 32 then n / 8
  else match n with
    | 32 => 0 | 33 => 2 | 34 => 0 | 35 => 1 | 36 => 1 | 37 => 2 | 38 => 3 | _ => 3
/-- The station at a column and row. -/
def stAt (col row : Nat) : Nat :=
  if 1 ≤ col ∧ col ≤ 8 then row * 8 + (col - 1)
  else if col = 0 then (match row with | 0 => 32 | 1 => 35 | 2 => 33 | _ => 39)
  else match row with | 0 => 34 | 1 => 36 | 2 => 37 | _ => 38
/-- The station on the other end of a link, if the mesh has one there. -/
def neighbour (n : Nat) : Dir → Option Nat
  | .n => if stRow n = 0 then none else some (stAt (stCol n) (stRow n - 1))
  | .s => if stRow n = 3 then none else some (stAt (stCol n) (stRow n + 1))
  | .e => if stCol n = 9 then none else some (stAt (stCol n + 1) (stRow n))
  | .w => if stCol n = 0 then none else some (stAt (stCol n - 1) (stRow n))
  | .l => none
/-- The input a link arrives at. -/
def oppositeOf : Dir → Dir
  | .n => .s | .s => .n | .e => .w | .w => .e | .l => .l
/-- The five router ports, in table order. -/
def allDirs : List Dir := [.n, .e, .s, .w, .l]
/-- Stations that inject on the Cane and on the Gather (R160, R202). -/
def caneInjects (n : Nat) : Bool := decide (n < 32) || n == stHost || n == stPorts
def gatherInjects (n : Nat) : Bool :=
  decide (n < 32) || n == stHost || n == stDma || n == stMemW || n == stMemE || n == stMgmt
/-- Stations that eject from the Cane (R160). -/
def caneEjects (n : Nat) : Bool := caneInjects n || n == stMemW || n == stMemE

/-! ### Slot entries (R198) -/

/-- EN, TENANT, IN and STREAM (or FLOW) of a slot entry. -/
def entEn (w : Word) : Bool := w.msb
def entTenant (w : Word) : Tenant := Fin.ofNat 4 (bitsOf w.toNat 26 2)
def entIn (w : Word) : Nat := bitsOf w.toNat 0 3
def entStream (w : Word) : Nat := bitsOf w.toNat 0 6
/-- The slot tables of a station on a mesh. -/
def State.slotTab (s : State) (fab : Fabric) (st : Nat) : Tab Word :=
  match fab with | .cane => (s.station st).cane.slots | .gather => (s.station st).gather.slots
/-- Entry s of table k. -/
def State.slotEntry (s : State) (fab : Fabric) (st k slot : Nat) : Word := Tab.get (s.slotTab fab st) 0 (k * 512 + slot)
/-- The link error bits of a station on a mesh, and noting one (R192). -/
def State.linkErr (s : State) (fab : Fabric) (st : Nat) : BitVec 12 :=
  match fab with | .cane => (s.station st).cane.linkErr | .gather => (s.station st).gather.linkErr
def State.setLinkErr (s : State) (fab : Fabric) (st bit : Nat) : State :=
  match fab with
  | .cane => s.modCane st fun c => { c with linkErr := c.linkErr ||| (1#12 <<< bit) }
  | .gather => s.modGather st fun c => { c with linkErr := c.linkErr ||| (1#12 <<< bit) }
/-- A link input is dead: its beacon was missing or misplaced (R184). -/
def State.deadInput (s : State) (fab : Fabric) (st : Nat) (d : Dir) : Bool :=
  d != .l && ((s.linkErr fab st).getLsbD (3 * d.code + 1) || (s.linkErr fab st).getLsbD (3 * d.code + 2))
/-- The number of a fabric in DETAIL of a fault: 0 Cane, 1 Gather (R501). -/
def fabNum : Fabric → Nat
  | .cane => 0 | .gather => 1
/-- DETAIL of a link fault (R501): a row port, whose input has no neighbour, is fabric 3. -/
def linkDetail (fab : Fabric) (st : Nat) (d : Dir) : BitVec 40 :=
  BitVec.ofNat 40 ((if (neighbour st d).isNone then 3 else fabNum fab) * 2 ^ 38 + d.code * 2 ^ 35)
/-- The station upstream of an input: across the link, or the engine behind a row port (R252). -/
def upstream (st : Nat) (d : Dir) : Nat :=
  match neighbour st d with
  | some n => n
  | none => if stCol st = 0 then stMemW else stMemE
/-- An input exists: a link of the mesh, or a row port of the Gather (R160, R252). -/
def inputExists (fab : Fabric) (st : Nat) (d : Dir) : Bool :=
  (neighbour st d).isSome ||
    (fab == .gather && ((d == .w && stCol st == 0) || (d == .e && stCol st == 9)))

/-! ### Overload (R56) -/

/-- Drop an event at a full queue: the gap marker goes to the tail. -/
def markTail : List WireEv → List WireEv
  | [] => []
  | [e] => [{ e with gap := true }]
  | e :: es => e :: markTail es
/-- The gap marker on the tail of a queue of received events. -/
def markTailRx : List RxEv → List RxEv
  | [] => []
  | [e] => [{ e with ev := { e.ev with gap := true } }]
  | e :: es => e :: markTailRx es
/-- The gap marker on the tail of a queue of events that wait for lookup. -/
def markTailLook : List LookEv → List LookEv
  | [] => []
  | [e] => [{ e with gap := true }]
  | e :: es => e :: markTailLook es

/-! ### Directory and group lookup (R173 to R178) -/

/-- The directory entry of a source (R173). -/
def State.dirEntry (s : State) (src : Source) : BitVec 16 := Tab.get s.dir 0 src.toNat
/-- The ECC names of a directory entry pair and of a group entry, among the addresses of ECC errors. -/
def dirEcc (n : Nat) : Nat := 2 ^ 45 + n / 2
def grpEcc (st g : Nat) : Nat := 2 ^ 46 + st * 65536 + g
/-- A group entry of a station's replica (R175); the null group reads as zero. -/
def State.group (s : State) (st g : Nat) : BitVec 64 := if g = 0 then 0 else Tab.get (s.station st).cane.groups 0 g
/-- Fields of a group entry (R175). -/
def grpTenant (e : BitVec 64) : Tenant := Fin.ofNat 4 (bitsOf e.toNat 61 2)
def grpDest (e : BitVec 64) : BitVec 32 := e.setWidth 32
/-- A stream of a station. -/
def State.stream (s : State) (st n : Nat) : Stream := Tab.get (s.station st).cane.streams {} n
/-- Change a stream. -/
def State.modStream (s : State) (st n : Nat) (f : Stream → Stream) : State :=
  s.modCane st fun c => { c with streams := Tab.modify c.streams {} n f }

/-- The copies a group entry calls for (R20, R177): stream, KIND required, and whether its service stream is enabled. -/
def groupCopies (e : BitVec 64) (svc : Word) : List (Nat × Nat × Bool) :=
  let n := e.toNat
  (if grpDest e = 0 then [] else [(bitsOf n 32 6, 0, true)]) ++
  (if !bitOf n 47 then []
   else if bitOf n 46 then [(bitsOf svc.toNat 16 6, 2, svc.getLsbD 23)]
   else [(bitsOf svc.toNat 24 6, 1, svc.getLsbD 31)]) ++
  (if bitOf n 45 then [(bitsOf svc.toNat 8 6, 3, svc.getLsbD 15)] else []) ++
  (if bitOf n 44 then [(bitsOf svc.toNat 0 6, 4, svc.getLsbD 7)] else [])

/-- A copy may go on its stream (R177). -/
def copyOk (x : Stream) (kind : Nat) (en : Bool) (t : Tenant) (dest : BitVec 32) : Bool :=
  x.en && en && x.kind == kind && x.tenant == t && (kind != 0 || x.dest == dest)

/-- A dangling group or copy (R176, R177). -/
def State.noteDangling (s : State) (st : Nat) : State :=
  s.modCane st fun c => { c with dangling := true, danglingCnt := cnt16 c.danglingCnt }

/-- Enqueue a copy: a full queue drops it (R56, R178). -/
def State.enqueueCopy (s : State) (st n : Nat) (ev : WireEv) : State :=
  s.modStream st n fun x =>
    if 32 ≤ x.queue.length then { x with drop := cnt16 x.drop, queue := markTail x.queue }
    else { x with queue := x.queue ++ [ev] }

/-- The copies of an event with their streams' fitness, at the station's present tables. -/
def State.copiesOf (s : State) (st : Nat) (t : Tenant) (e : BitVec 64) : List (Nat × Bool) :=
  (groupCopies e (Tab.get (s.station st).cane.svc 0 t.val)).map fun (n, kind, en) =>
    (n, copyOk (s.stream st n) kind en t (grpDest e))

/-- Every queue the event needs has room (R178). -/
def State.haveRoom (s : State) (st : Nat) (cs : List (Nat × Bool)) : Bool :=
  cs.all fun c => !c.2 || decide ((s.stream st c.1).queue.length < 32)

/-- Form and enqueue the copies of an event (R177, R178). -/
def State.sendCopies (s : State) (st : Nat) (cs : List (Nat × Bool)) (ev : WireEv) : State :=
  cs.foldl (fun s c => if c.2 then s.enqueueCopy st c.1 ev else s.noteDangling st) s

/-- The event reaches step 4 of R176: its copies are enqueued, or it waits in the hold register (R178). -/
def State.placeEvent (s : State) (st : Nat) (t : Tenant) (e : BitVec 64) (ev : WireEv) : State :=
  let cs := s.copiesOf st t e
  if s.lossless t && (!(Tab.get (s.station st).cane.hold [] t.val).isEmpty || !s.haveRoom st cs) then
    s.modCane st fun c => { c with hold := Tab.modify c.hold [] t.val (· ++ [ev]) }
  else s.sendCopies st cs ev

/-- Directory and group lookup of one event of tenant t (R173, R176). -/
def State.lookup (s : State) (st : Nat) (t : Tenant) (src : Source) (pay : Byte) (tag : BitVec 4) (gap : Bool) : State :=
  let s0 := s.modCane st fun c => { c with lookups := cnt32 c.lookups }
  let g := (s.dirEntry src).toNat
  let ueStop (s : State) (a mem : Nat) : State :=
    (s.modCane st fun c => { c with ecUe := true }).eccFault st mem a
  if s.ueAt (dirEcc src.toNat) then ueStop s0 (dirEcc src.toNat) 4
  else
    let s1 := if s.ceAt (dirEcc src.toNat) then s0.modCane st fun c => { c with eccCe := cnt16 c.eccCe } else s0
    if g = 0 then s1
    else if s.ueAt (grpEcc st g) then ueStop s1 (grpEcc st g) 5
    else
      let s2 := if s.ceAt (grpEcc st g) then s1.modCane st fun c => { c with eccCe := cnt16 c.eccCe } else s1
      let e := s.group st g
      if !e.msb then s2.noteDangling st
      else if grpTenant e ≠ t then
        (s2.modCane st fun c => { c with foreignGrp := cnt16 c.foreignGrp }).reportFault st st 0x08
          (BitVec.ofNat 40 (t.val * 2 ^ 38 + g))
      else s2.placeEvent st t e ⟨src, pay, BitVec.ofNat 16 g, tag, gap⟩

/-- The next member of a cyclic order from a start, with a property. -/
def nextInTurn (n start : Nat) (f : Nat → Bool) : Option Nat :=
  ((List.range n).map fun i => (start + i) % n).find? f

/-- A tenant's hold register at a station is empty. -/
def State.holdEmpty (s : State) (st : Nat) (t : Tenant) : Bool := (Tab.get (s.station st).cane.hold [] t.val).isEmpty

/-- A cluster's pipeline takes one event from its emit buffers, in turn, and looks it up (R172). -/
def State.takeEmitted (s : State) (cl : Nat) (t : Tenant) : State :=
  match nextInTurn s.grade.perCluster (s.station cl).cane.rr fun l => !(s.core (cl * 32 + l)).e.emitBuf.isEmpty with
  | none => s
  | some l =>
    match (s.core (cl * 32 + l)).e.emitBuf with
    | [] => s
    | w :: ws =>
      let s1 := (s.modE (cl * 32 + l) fun e => { e with emitBuf := ws }).modCane cl fun c =>
        { c with rr := (l + 1) % s.grade.perCluster }
      s1.lookup cl t w.src w.pay w.tag false

/-- An injection queue of HOST has a noted event. -/
def State.injReady (s : State) (i : Nat) : Bool := decide (0 < Tab.get s.injNoted 0 i) && !(Tab.get s.inj [] i).isEmpty

/-- HOST's pipeline takes one noted event from those of its eight injection queues that `ok` admits, in turn, and looks
it up (R178, R327). -/
def State.takeInjected (s : State) (ok : Nat → Bool) : State :=
  match nextInTurn 8 (s.station stHost).cane.rr fun i => s.injReady i && ok i with
  | none => s
  | some i =>
    match Tab.get s.inj [] i with
    | [] => s
    | e :: es =>
      let t : Tenant := Fin.ofNat 4 (i / 2)
      let s1 := { s with inj := Tab.put s.inj [] i es, injNoted := Tab.modify s.injNoted 0 i (· - 1) }
      (s1.modCane stHost fun c => { c with rr := (i + 1) % 8 }).lookup stHost t e.src e.pay (s.shear t).tag e.gap

/-- PORTS's pipeline takes the oldest event released to it of a tenant that `ok` admits, and looks it up (R178). -/
def State.takeReleased (s : State) (ok : Tenant → Bool) : State :=
  match (s.station stPorts).cane.lookQ.find? fun e => ok e.tenant with
  | none => s
  | some e => (s.modCane stPorts fun c => { c with lookQ := c.lookQ.erase e }).lookup stPorts e.tenant e.src e.pay e.tag e.gap

/-- One event of a tenant into the lookup pipeline of an injecting station. -/
def State.takeOne (s : State) (st : Nat) (t : Tenant) : State :=
  if st < 32 then s.takeEmitted st t
  else if st = stHost then s.takeInjected fun i => i / 2 == t.val
  else s.takeReleased (· == t)

/-- n events of a tenant that stand behind a held one in the pipeline complete their lookups and wait behind it (R178). -/
def State.drainPipeline (s : State) (st : Nat) (t : Tenant) : Nat → State
  | 0 => s
  | n + 1 => (s.takeOne st t).drainPipeline st t n

/-- After a lookup: where the tenant's hold register has taken the event, those behind it follow. The pipeline holds up to
6; how many of them are the tenant's is a matter of cycles, and a free value. -/
def State.followHeld (s : State) (st : Nat) (t : Tenant) : State :=
  if s.holdEmpty st t then s else s.spend.drainPipeline st t (s.free.toNat % 7)

/-- The cycles in which a core of the cluster had a full emit buffer: a free number while one has (R172, R194). -/
def State.countEmitStall (s : State) (cl : Nat) : State :=
  if (s.coresIn cl).any fun k => decide (4 ≤ (s.core k).e.emitBuf.length) then
    s.spend.modCane cl fun c => { c with emitStall := cnt32 c.emitStall s.free.toNat }
  else s

/-- A cluster station takes one event from its emit buffers, unless its hold register holds one (R172, R178). -/
def State.lookupCluster (s : State) (cl : Nat) : State :=
  match s.tenantOf cl with
  | none => s
  | some t =>
    let s0 := s.countEmitStall cl
    if s.holdEmpty cl t then (s0.takeEmitted cl t).followHeld cl t else s0

/-- HOST takes one event of a tenant that holds none back (R178, R327). -/
def State.lookupHost (s : State) : State :=
  let ok (i : Nat) : Bool := s.holdEmpty stHost (Fin.ofNat 4 (i / 2))
  let s1 := s.takeInjected ok
  (List.finRange 4).foldl (fun s' t => if s.holdEmpty stHost t then s'.followHeld stHost t else s') s1

/-- PORTS takes one event of a tenant that holds none back (R178). -/
def State.lookupPorts (s : State) : State :=
  let s1 := s.takeReleased fun t => s.holdEmpty stPorts t
  (List.finRange 4).foldl (fun s' t => if s.holdEmpty stPorts t then s'.followHeld stPorts t else s') s1

/-- EVENT_LOOKUP (R172, R173, R176, R177): an injecting station takes one event into its lookup pipeline. -/
def execEventLookup (st : Station) (s : State) : Host.Outcome State Fault Refusal :=
  if st.val < 32 then .next (s.lookupCluster st.val)
  else if st.val = stHost then .next s.lookupHost
  else if st.val = stPorts then .next s.lookupPorts
  else .next s

/-- HOLD_REGISTER_ENQUEUE (R178): the oldest held event is enqueued once every queue it needs has room. -/
def execHoldRegisterEnqueue (st : Station) (t : Tenant) (s : State) : Host.Outcome State Fault Refusal :=
  match Tab.get (s.station st.val).cane.hold [] t.val with
  | [] => .next s
  | ev :: rest =>
    let cs := s.copiesOf st.val t (s.group st.val ev.grp.toNat)
    if !s.haveRoom st.val cs then .next s
    else .next ((s.modCane st.val fun c => { c with hold := Tab.put c.hold [] t.val rest }).sendCopies st.val cs ev)

/-! ### Injection (R170, R180) -/

/-- Destination indices of a stream that windows cover (R180). -/
def Stream.indices (x : Stream) : List Nat :=
  match x.kind with
  | 0 => (List.range 32).filter fun c => x.dest.getLsbD c
  | 1 => [32]
  | 2 => [33]
  | _ => []

/-- A credit counter (R181). -/
def State.caneCred (s : State) (st n i : Nat) : Nat := (Tab.get (s.station st).cane.cred 0 (n * 64 + i)).toNat

/-- Events a slot of a stream sends (R170, R180). -/
def State.injectCount (s : State) (st n : Nat) : Nat :=
  let x := s.stream st n
  let base := min 2 x.queue.length
  if s.lossless x.tenant then x.indices.foldl (fun m i => min m (s.caneCred st n i)) base else base

/-- Present a flit at a router input. -/
def State.present (s : State) (p : Presented) : State := { s with flight := s.flight ++ [p] }

/-- STREAM_INJECT (R164, R170, R180): in an enabled INJ slot the station sends up to two events of the named stream. -/
def execStreamInject (st : Station) (slot : Fin 512) (s : State) : Host.Outcome State Fault Refusal :=
  let ent := s.slotEntry .cane st.val 5 slot.val
  let n := entStream ent
  let x := s.stream st.val n
  let busy := s.flight.any fun p => p.fab == .cane && p.st == st.val && p.input == .l && p.slot == slot.val
  if !caneInjects st.val || !entEn ent || !x.en || busy then .next s
  else
    let c := s.injectCount st.val n
    if c = 0 then
      .next (if x.queue.isEmpty then s else s.modStream st.val n fun y => { y with cwait := cnt32 y.cwait })
    else
      let s1 := s.modStream st.val n fun y => { y with queue := y.queue.drop c, sent := cnt32 y.sent c }
      let s2 := if s.lossless x.tenant then
          s1.modCane st.val fun g =>
            { g with cred := Tab.modifyAll g.cred 0 (x.indices.map fun i => n * 64 + i) fun _ v => v - BitVec.ofNat 8 c }
        else s1
      .next (s2.present
        ⟨.cane, st.val, .l, slot.val,
          { body := .cane x.queue.head? (if c = 2 then x.queue[1]? else none), tenant := entTenant ent, src := st.val,
            stream := n }⟩)

/-! ### Forwarding (R162, R166 to R168, R185) -/

/-- A packet lands in a free cell of the ejection buffer (R209). -/
def State.ejectPacket (s : State) (st : Nat) (p : GPkt) : State :=
  s.modGather st fun g =>
    match (List.range 64).find? fun i => (Tab.get g.cells none i).isNone with
    | none => g
    | some i =>
      { g with cells := Tab.put g.cells none i (some { pkt := p, order := g.nextOrder }), nextOrder := g.nextOrder + 1,
               pktRx := cnt32 g.pktRx }

/-- A station takes flit i of a packet. The packet is in its cell once every flit of it has come, in order (R204): one of
which a flit was lost on the way never is. -/
def State.takeFlit (s : State) (st : Nat) (p : GPkt) (i : Nat) : State :=
  let k := p.src * 64 + p.flow
  let have_ := if i = 0 ∨ Tab.get (s.station st).gather.partials 0 k = i then i + 1 else 0
  let last := decide (have_ = packetFlits p.len)
  let s1 := s.modGather st fun g => { g with partials := Tab.put g.partials 0 k (if last then 0 else have_) }
  if last then s1.ejectPacket st p else s1

/-- OUT_L hands a flit to its station (R179, R185). -/
def State.deliverLocal (s : State) (fab : Fabric) (st : Nat) (f : Flit) (t : Tenant) : State :=
  match f.body with
  | .cane _ _ => s.modCane st fun c => { c with ejected := c.ejected ++ [⟨f, t⟩] }
  | .gather p i => s.takeFlit st p i
  | .dead o => s.reportFault st o 0x05 (BitVec.ofNat 40 (fabNum fab * 2 ^ 38))

/-- An output sends a flit, with BEACON in slot 0 and its check code: to the neighbour's input two slots later, or to its
own station (R162, R164, R166, R184). An output whose slot is free sends an idle flit, which the model does not list: an
input that no listed flit reaches receives a well-formed idle one. -/
def State.output (s : State) (fab : Fabric) (st : Nat) (d : Dir) (slot : Nat) (f : Flit) (t : Tenant) : State :=
  match d with
  | .l => s.deliverLocal fab st f t
  | d =>
    match neighbour st d with
    | none => s
    | some n => s.present ⟨fab, n, (oppositeOf d), (slot + 2) % 512, f.seal fab (slot == 0)⟩

/-- The flit listed at an input in a slot, if any. -/
def State.arrived (s : State) (fab : Fabric) (st slot : Nat) (d : Dir) : Option Flit :=
  (s.flight.find? fun p => p.fab == fab && p.st == st && p.input == d && p.slot == slot).map (·.flit)

/-- The flit that reaches a link input fails its check (R162): an error on the link, which crcBad names, or a check code
that does not match. LOCAL is no link. -/
def State.crcFails (s : State) (fab : Fabric) (st slot : Nat) (crcBad : List Dir) (d : Dir) : Bool :=
  d != .l && inputExists fab st d &&
    (crcBad.contains d || match s.arrived fab st slot d with | some f => !f.intact fab | none => false)

/-- The flit that reaches a link input carries BEACON where none is expected, or none where one is (R184). -/
def State.beaconWrong (s : State) (fab : Fabric) (st slot : Nat) (d : Dir) : Bool :=
  d != .l && inputExists fab st d &&
    match s.arrived fab st slot d with | some f => f.beacon != (slot == 2) | none => false

/-- The flit an input presents in a slot: none after a CRC error; a dead flit where the input is dead. -/
def State.presented (s : State) (fab : Fabric) (st slot : Nat) (crcBad : List Dir) (d : Dir) : Option Flit :=
  if s.deadInput fab st d then some { body := .dead (upstream st d), tenant := 0, src := upstream st d, stream := 0 }
  else if s.crcFails fab st slot crcBad d then none
  else s.arrived fab st slot d

/-- A tenant mismatch at an output (R167). -/
def State.noteIso (s : State) (fab : Fabric) (st : Nat) (t : Tenant) (stream : Nat) : State :=
  (match fab with
   | .cane => s.modCane st fun c => { c with iso := cnt16 c.iso }
   | .gather => s.modGather st fun c => { c with iso := cnt16 c.iso }).reportFault st st 0x08
    (BitVec.ofNat 40 (t.val * 2 ^ 38 + stream))

/-- A stray flit (R168). -/
def State.noteStray (s : State) (fab : Fabric) (st : Nat) (d : Dir) : State :=
  (match fab with
   | .cane => s.modCane st fun c => { c with stray := cnt16 c.stray }
   | .gather => s.modGather st fun c => { c with stray := cnt16 c.stray }).reportFault st st 0x09
    (BitVec.ofNat 40 d.code)

/-- What one output of a router does in a slot (R166, R167). -/
def State.runOutput (s0 : State) (fab : Fabric) (st slot : Nat) (crcBad : List Dir) (s : State) (d : Dir) : State :=
  let ent := s0.slotEntry fab st d.code slot
  if !entEn ent then s
  else
    match allDirs.find? (fun i => i.code == entIn ent) with
    | none => s
    | some i =>
      match s0.presented fab st slot crcBad i with
      | none => s
      | some f =>
        if f.valid && f.tenant != entTenant ent then s.noteIso fab st f.tenant f.stream
        else s.output fab st d slot f (entTenant ent)

/-- Some output of the router takes from an input in a slot. -/
def State.inputTaken (s : State) (fab : Fabric) (st slot : Nat) (i : Dir) : Bool :=
  allDirs.any fun d => entEn (s.slotEntry fab st d.code slot) && entIn (s.slotEntry fab st d.code slot) == i.code

/-- A link input records its beacon as missing or misplaced, and is dead from then on (R184). -/
def State.beaconFault (s : State) (fab : Fabric) (st : Nat) (i : Dir) (misplaced : Bool) : State :=
  (s.setLinkErr fab st (3 * i.code + (if misplaced then 2 else 1))).reportFault st (upstream st i) 0x04
    (linkDetail fab st i)

/-- What a router notes of one input in a slot: a CRC error, a wrong BEACON, or a stray flit (R162, R168, R184). A dead
input is checked too. -/
def State.checkInput (s0 : State) (fab : Fabric) (st slot : Nat) (crcBad : List Dir) (s : State) (i : Dir) : State :=
  let s1 :=
    if s0.crcFails fab st slot crcBad i then
      (s.setLinkErr fab st (3 * i.code)).reportFault st (upstream st i) 0x03 (linkDetail fab st i)
    else if s0.beaconWrong fab st slot i then s.beaconFault fab st i (slot != 2)
    else s
  match s0.presented fab st slot crcBad i with
  | some f => if f.valid && !s0.inputTaken fab st slot i then s1.noteStray fab st i else s1
  | none => s1

/-- CANE_FLIT_FORWARD (R162, R164 to R168, R179, R185, R202): a router takes the flit each input presents in a slot
and forwards it by its slot tables. crcBad names the link inputs whose flit fails its check code. -/
def execCaneFlitForward (fab : Fabric) (st : Station) (slot : Fin 512) (crcBad : List Dir) (s : State) :
    Host.Outcome State Fault Refusal :=
  let s1 := allDirs.foldl (s.checkInput fab st.val slot.val crcBad) s
  let gone := { s1 with flight := s1.flight.filter fun p => !(p.fab == fab && p.st == st.val && p.slot == slot.val) }
  .next (allDirs.foldl (s1.runOutput fab st.val slot.val crcBad) gone)

/-- BEACON_MISSING (R184): a link input records its beacon as missing or misplaced, and is dead from then on. -/
def execBeaconMissing (fab : Fabric) (st : Station) (input : Dir) (misplaced : Bool) (s : State) :
    Host.Outcome State Fault Refusal :=
  .next (if inputExists fab st.val input then s.beaconFault fab st.val input misplaced else s)

/-! ### Ejection (R27, R148, R179) -/

/-- A cluster takes an event into its receive FIFO (R55, R148, R179). -/
def State.rxAccept (s : State) (cl : Nat) (x : RxEv) : State :=
  if s.tenantOf cl ≠ some x.tenant then
    (s.modCluster cl fun c => { c with foreign := cnt16 c.foreign }).reportFault cl cl 0x08
      (BitVec.ofNat 40 (x.tenant.val * 2 ^ 38 + x.ev.grp.toNat))
  else if 256 ≤ (s.cluster cl).rx.length then
    (s.modCluster cl fun c => { c with rx := markTailRx c.rx }).modCane cl fun c => { c with rxDrop := cnt16 c.rxDrop }
  else s.modCluster cl fun c => { c with rx := c.rx ++ [x] }

/-- Change an engine. -/
def State.modDeep (s : State) (e : Engine) (f : DeepEngine → DeepEngine) : State :=
  { s with deep := s.deep.set e.val (f s.deep[e.val]) }

/-- An engine takes an event into its tenant's ingress partition (R55, R56). -/
def State.engineAccept (s : State) (e : Engine) (x : RxEv) : State :=
  s.modDeep e fun d =>
    let q := Tab.get d.ingress [] x.tenant.val
    if 256 ≤ q.length then
      { d with ingress := Tab.put d.ingress [] x.tenant.val (markTailRx q),
               drop := Tab.modify d.drop 0 x.tenant.val (fun n => cnt16 n) }
    else { d with ingress := Tab.put d.ingress [] x.tenant.val (q ++ [x]) }

/-- HOST takes a readout copy: a full queue drops it and marks the tail (R322). -/
def State.readoutAccept (s : State) (t : Tenant) (ev : WireEv) : State :=
  s.modPort t fun p =>
    if 512 ≤ p.readout.length then
      { p with evDrop := cnt16 p.evDrop, readout := markTail p.readout, gapPend := true }
    else { p with readout := p.readout ++ [ev] }

/-- PORTS takes an egress copy: a full queue drops it and marks the tail (R179). -/
def State.egressAccept (s : State) (t : Tenant) (ev : WireEv) : State :=
  let q := Tab.get s.egress [] t.val
  if 256 ≤ q.length then
    { s with egress := Tab.put s.egress [] t.val (markTail q), egDrop := Tab.modify s.egDrop 0 t.val (fun n => cnt16 n) }
  else { s with egress := Tab.put s.egress [] t.val (q ++ [ev]) }

/-- A station takes one event from OUT_L. -/
def State.accept (s : State) (st : Nat) (x : RxEv) : State :=
  if st < 32 then s.rxAccept st x
  else if st = stMemW then s.engineAccept 0 x
  else if st = stMemE then s.engineAccept 1 x
  else if st = stPorts then s.egressAccept x.tenant x.ev
  else if st = stHost then s.readoutAccept x.tenant x.ev
  else s

/-- CANE_EJECT (R148, R179): the station takes in the events of the oldest flit that OUT_L handed it, EVENT0 first. -/
def execCaneEject (st : Station) (s : State) : Host.Outcome State Fault Refusal :=
  match (s.station st.val).cane.ejected with
  | [] => .next s
  | x :: rest =>
    let s1 := s.modCane st.val fun c => { c with ejected := rest }
    match x.flit.body with
    | .cane a b =>
      .next ((a.toList ++ b.toList).foldl
        (fun s ev => s.accept st.val ⟨ev, x.tenant, x.flit.src, x.flit.stream⟩) s1)
    | _ => .next s1

/-! ### Credits (R181, R216) -/

/-- Take a packet out of a Thread slot, once its station has acted on it. -/
def State.freeSlot (s : State) (slot : Nat) : State := { s with thread := Tab.put s.thread none slot none }
/-- The packet in a Thread slot. -/
def State.slotPkt (s : State) (slot : Nat) : Option SlotPkt := Tab.get s.thread none slot
/-- A station takes a packet: THR_RX. -/
def State.noteRx (s : State) (st : Nat) : State := s.modThread st fun t => { t with rx := cnt32 t.rx }
/-- A station discards a bad packet (R216): counted and reported as a fault of the Thread. -/
def State.badPkt (s : State) (st : Nat) : State :=
  (s.modThread st fun t => { t with err := cnt16 t.err }).reportFault st st 0x03 (BitVec.ofNat 40 (2 * 2 ^ 38))
/-- The slot of a packet that its station takes: a bad packet is discarded and counted (R216), and so is one whose check
code fails, which some station on the ring meets first: a free value (R213). A packet with its reply waits for its owner. -/
def State.takeSlot (s : State) (slot : Nat) : State × Option Pkt :=
  match s.slotPkt slot with
  | none => (s, none)
  | some x =>
    if x.corrupt then
      let st := s.free.toNat % 40
      (((s.spend.freeSlot slot).modThread st fun t => { t with crc := true, err := cnt16 t.err }).reportFault st
        ((st + 39) % 40) 0x03 (BitVec.ofNat 40 (2 * 2 ^ 38)), none)
    else if x.reply.isSome then (s, none)
    else if x.pkt.bad then
      let st := if x.pkt.dst < 40 then x.pkt.dst else s.free.toNat % 40
      ((s.spend.freeSlot slot).badPkt st, none)
    else (s, some x.pkt)

/-- A credit past its window is discarded and reported (R181, R216). -/
def State.creditOver (s : State) (st n : Nat) (past : Bool) : State :=
  if past then s.reportFault st st 0x09 (BitVec.ofNat 40 n) else s

/-- CANE_CRED (R181, R216): credits return to a stream's counter, as far as its window. -/
def execCaneCred (slot : Fin 44) (s : State) : Host.Outcome State Fault Refusal :=
  match s.takeSlot slot.val with
  | (s, some (.caneCred dst n i count)) =>
    let s1 := (s.freeSlot slot.val).noteRx dst
    if count = 0 then .next (s1.badPkt dst)
    else if !s.lossless (s.stream dst n).tenant then .next s1
    else
      let win := (Tab.get (s.station dst).cane.win 0 (n * 64 + i)).toNat
      let have_ := s.caneCred dst n i + count
      .next ((s1.modCane dst fun c =>
        { c with cred := Tab.put c.cred 0 (n * 64 + i) (BitVec.ofNat 8 (min win have_)) }).creditOver dst n
          (decide (win < have_)))
  | (s, _) => .next s

end Sys2Proof.Machine
end

