-- ==== Sys2Proof/Machine/CaneRegs.lean ====
section
/-!
DEFINITION. The Cane registers of a station block: who may write a table entry, what each requester sees, and the
fabric hold's requests (R165, R166, R170, R174, R182, R183, R186 to R201).
-/

namespace Sys2Proof.Machine

/-! ### Ownership (R182, R183) -/

/-- Whether a requester may write an entry held by `old` (none: free) with a value that claims it for `new` (none:
disabled), and whether a refusal is for another tenant's ownership. -/
def State.mayWriteEntry (s : State) (r : Req) (old new : Option Tenant) : Bool × Bool :=
  match r with
  | .smbus => (false, false)
  | .port p =>
    if old.isSome && old != some p then (false, true)
    else if new.isSome && new != some p then (false, false)
    else (s.tablesOpen p, false)
  | .mp =>
    match old, new with
    | some a, some b => if a ≠ b then (false, true) else (s.tablesOpen a, false)
    | some a, none => (s.tablesOpen a, false)
    | none, some b => (s.tablesOpen b, false)
    | none, none => (true, false)

/-- A write of a Cane table entry judged by R182. -/
def State.caneEntryWrite (s : State) (r : Req) (st : Nat) (old new : Option Tenant) (t : State) : WrRes :=
  match s.mayWriteEntry r old new with
  | (true, _) => (t, true)
  | (false, true) => (s.modCane st fun c => { c with conflict := true }, false)
  | (false, false) => (s, false)

/-- The same for a Gather table entry (R228). -/
def State.gatherEntryWrite (s : State) (r : Req) (st : Nat) (old new : Option Tenant) (t : State) : WrRes :=
  match s.mayWriteEntry r old new with
  | (true, _) => (t, true)
  | (false, true) => (s.modGather st fun c => { c with conflict := true }, false)
  | (false, false) => (s, false)

/-- What a requester sees of an entry held by a tenant: all of it, or the bits of the mask only (R183). -/
def visible (r : Req) (old : Option Tenant) (mask w : Word) : Word :=
  match r, old with
  | .port p, some t => if p = t then w else w &&& mask
  | _, _ => w

/-- The holder of a slot entry and of a stream. -/
def entHolder (w : Word) : Option Tenant := if entEn w then some (entTenant w) else none
def Stream.holder (x : Stream) : Option Tenant := if x.en then some x.tenant else none
def Flow.holder (x : Flow) : Option Tenant := if x.en then some x.tenant else none
def grpHolder (e : BitVec 64) : Option Tenant := if e.msb then some (grpTenant e) else none

/-! ### Slot tables (R165, R166, R170, R198) -/

/-- A slot table exists: an output toward a link of the mesh, OUT_L at an ejecting station, INJ at an injecting one
(R165). -/
def slotTableExists (fab : Fabric) (st k : Nat) : Bool :=
  match k with
  | 0 => (neighbour st .n).isSome
  | 1 => (neighbour st .e).isSome
  | 2 => (neighbour st .s).isSome
  | 3 => (neighbour st .w).isSome
  | 4 => match fab with | .cane => caneEjects st | .gather => gatherInjects st
  | 5 => match fab with | .cane => caneInjects st | .gather => gatherInjects st
  | _ => false

/-- Non-reserved bits of a slot entry. -/
def slotMask (k : Nat) : Word := if k = 5 then 0x8C00003F else 0x8C000007

/-- A slot entry's IN value is allowed in a table (R166, R198). -/
def slotInOk (k : Nat) (v : Word) : Bool :=
  k == 5 || (decide (entIn v ≤ 4) && (!entEn v || k == 4 || entIn v != k))

/-- An enabled INJ entry and the enabled stream or flow it names belong to one tenant (R170). -/
def injAgrees (v : Word) (holder : Option Tenant) : Bool :=
  !entEn v || holder.isNone || holder == some (entTenant v)

/-- The stored form of a slot entry: a disabled entry is all zero (R182). -/
def slotStored (k : Nat) (v : Word) : Word := if entEn v then v &&& slotMask k else 0

/-- Write entry `slot` of table k (R165, R166, R170, R182). A refusal by R170's tenant check does not set
CANE_STATUS.CONFLICT, which R182 sets for a port that writes another tenant's entry: the spec does not say (DESIGN CHOICE,
notes/assumptions/56.md). -/
def State.slotWrite (s : State) (fab : Fabric) (r : Req) (st k slot : Nat) (v : Word) : WrRes :=
  let old := s.slotEntry fab st k slot
  let holder := match fab with
    | .cane => (s.stream st (entStream v)).holder
    | .gather => (s.flow st (entStream v)).holder
  if !slotTableExists fab st k || !slotInOk k v || (k == 5 && !injAgrees v holder) then wrNo s
  else
    match fab with
    | .cane =>
      s.caneEntryWrite r st (entHolder old) (entHolder v)
        (s.modCane st fun c => { c with slots := Tab.put c.slots 0 (k * 512 + slot) (slotStored k v) })
    | .gather =>
      s.gatherEntryWrite r st (entHolder old) (entHolder v)
        (s.modGather st fun c => { c with slots := Tab.put c.slots 0 (k * 512 + slot) (slotStored k v) })

/-- Read a slot entry (R183). -/
def State.slotRead (s : State) (fab : Fabric) (r : Req) (st k slot : Nat) : Word :=
  let w := s.slotEntry fab st k slot
  if slotTableExists fab st k then visible r (entHolder w) 0x8C000000 w else 0

/-- No enabled INJ entry of another tenant names a stream or flow n (R170). -/
def State.injFree (s : State) (fab : Fabric) (st n : Nat) (t : Tenant) : Bool :=
  (List.range 512).all fun i =>
    let w := s.slotEntry fab st 5 i
    !entEn w || entStream w != n || entTenant w == t

/-! ### Windows of four bytes (R199, R230) -/

/-- Four bytes of a table as a word, the first in bits [7:0]. -/
def fourBytes (t : Tab Byte) (k : Nat) : Nat :=
  (Tab.get t 0 k).toNat + 256 * (Tab.get t 0 (k + 1)).toNat + 65536 * (Tab.get t 0 (k + 2)).toNat +
    16777216 * (Tab.get t 0 (k + 3)).toNat
/-- Write four bytes of a table. -/
def putFour (t : Tab Byte) (k : Nat) (v : Word) : Tab Byte :=
  Tab.put (Tab.put (Tab.put (Tab.put t 0 k (v.extractLsb' 0 8)) 0 (k + 1) (v.extractLsb' 8 8)) 0 (k + 2)
    (v.extractLsb' 16 8)) 0 (k + 3) (v.extractLsb' 24 8)

/-! ### Fabric hold (R186, R188, R196) -/

/-- Set every Cane and Gather credit counter of a tenant to its window (R181, R188, R209). -/
def State.resetCredits (s : State) (t : Tenant) : State :=
  { s with stations := Tab.modifyAll s.stations {} ((s.stations.map (·.1))) fun _ x =>
      let cset := (List.range 64).flatMap fun n =>
        if (Tab.get x.cane.streams {} n).en && (Tab.get x.cane.streams {} n).tenant == t then
          (List.range 34).map fun i => n * 64 + i else []
      let gset := (List.range 64).flatMap fun n =>
        if (Tab.get x.gather.flows {} n).en && (Tab.get x.gather.flows {} n).tenant == t then
          (List.range 40).map fun i => n * 40 + i else []
      { x with
        cane := { x.cane with cred := Tab.modifyAll x.cane.cred 0 cset fun k _ => Tab.get x.cane.win 0 k }
        gather := { x.gather with cred := Tab.modifyAll x.gather.cred 0 gset fun k _ => Tab.get x.gather.win 0 k } } }

/-- Request a fabric hold of a running tenant (R186). -/
def State.requestHold (s : State) (t : Tenant) : State :=
  if (s.shear t).hold == .running && (s.tenant t).st == .running then
    s.modShear t fun x => { x with hold := .requested }
  else s

/-- Release a hold, or cancel a request (R188). -/
def State.releaseHold (s : State) (t : Tenant) : State :=
  match (s.shear t).hold with
  | .requested => s.modShear t fun x => { x with hold := .running }
  | .held => (s.resetCredits t).modShear t fun x => { x with hold := .releasing, relAt := s.now }
  | _ => s

/-- A write of CANE_THOLD (R186, R188, R196, R358): another port's is discarded, and so is REQ with REL. -/
def State.tholdWrite (s : State) (r : Req) (t : Tenant) (v : Word) : WrRes :=
  match r with
  | .smbus => wrNo s
  | .port p =>
    if p ≠ t then wrOk s
    else if (s.tenant t).patching.isSome then wrNo s
    else wrOk (if v.getLsbD 0 && v.getLsbD 1 then s
      else if v.getLsbD 0 then s.requestHold t else if v.getLsbD 1 then s.releaseHold t else s)
  | .mp => wrOk (if v.getLsbD 0 && v.getLsbD 1 then s
      else if v.getLsbD 0 then s.requestHold t else if v.getLsbD 1 then s.releaseHold t else s)

/-! ### The group window (R200) -/

/-- Non-reserved bits of the high and low word of a group entry. -/
def grpHiMask : Word := 0xE000F03F

/-- A write of CANE_GRP_LO stages the word (R200). -/
def State.grpLoWrite (s : State) (r : Req) (st g : Nat) (v : Word) : WrRes :=
  wrOk (s.modCane st fun c => { c with stage := Tab.put c.stage none r.key (some (g, v)) })

/-- A write of CANE_GRP_HI commits the entry, subject to R182, and empties the staging register (R200). The null group
ignores writes (R175). -/
def State.grpHiWrite (s : State) (r : Req) (st g : Nat) (v : Word) : WrRes :=
  let old := s.group st g
  let lo := match Tab.get (s.station st).cane.stage none r.key with
    | some (g', w) => if g' = g then w else old.setWidth 32
    | none => old.setWidth 32
  let new : BitVec 64 := (v &&& grpHiMask) ++ lo
  let s0 := s.modCane st fun c => { c with stage := Tab.put c.stage none r.key none }
  if g = 0 then wrOk s0
  else
    s0.caneEntryWrite r st (grpHolder old) (grpHolder new)
      { (s0.modCane st fun c => { c with groups := Tab.put c.groups 0 g new }) with
        eccUe := s0.eccUe.filter (· != grpEcc st g), eccCe := s0.eccCe.filter (· != grpEcc st g) }

/-! ### The directory window (R174, R201) -/

/-- The lowest domain held at a station and how many it holds (R33, R173). -/
def domainsAt (st : Nat) : Nat × Nat :=
  if st < 32 then (st, 1) else if st = stPorts then (32, 16) else if st = stHost then (48, 8)
  else if st = stMgmt then (56, 8) else (0, 0)
/-- The owner of a domain (R174). -/
def State.domainOwner (s : State) (d : Nat) : Option Tenant :=
  if d < 32 then s.tenantOf d
  else if d < 48 then
    match Tab.get s.own none (d - 32) with
    | some o => if h : o < 4 then some ⟨o, h⟩ else none
    | none => none
  else if d < 56 then some (Fin.ofNat 4 ((d - 48) / 2))
  else none
/-- A requester may write a directory entry of a domain (R174). -/
def State.mayWriteDir (s : State) (r : Req) (d : Nat) : Bool :=
  match s.domainOwner d with
  | some t => ownsOrMp r t && s.tablesOpen t
  | none => r == .mp
/-- Write the two entries of directory word i of a domain (R201). -/
def State.dirWrite (s : State) (r : Req) (d i : Nat) (v : Word) : WrRes :=
  let k := d * 2 ^ 18 + 2 * i
  wrIf (s.mayWriteDir r d) s
    { s with
      dir := Tab.put (Tab.put s.dir 0 k (v.setWidth 16)) 0 (k + 1) (v.extractLsb' 16 16)
      eccUe := s.eccUe.filter (· != dirEcc k), eccCe := s.eccCe.filter (· != dirEcc k) }

/-! ### The Cane ranges of a station block (R189 to R199) -/

/-- Non-reserved bits of a Cane register. -/
def caneMask (off : Nat) : Word :=
  if off = 0x004 then 0x0000000F
  else if off = 0x010 then 0x3F
  else if off = 0x014 then 0x3
  else if 0x100 ≤ off ∧ off < 0x110 then 0xBFBFBFBF
  else if 0x180 ≤ off ∧ off < 0x190 then 0x33
  else if 0x2000 ≤ off ∧ off < 0x2800 then (if off % 32 = 0 then 0x80000073 else 0xFFFFFFFF)
  else if 0x4000 ≤ off ∧ off < 0x7000 then slotMask ((off - 0x4000) / 0x800)
  else if 0x8000 ≤ off ∧ off < 0x9000 then
    (if off % 64 / 4 < 8 then 0xFFFFFFFF else if off % 64 / 4 = 8 then 0x0000FFFF else 0)
  else if 0x2_0000 ≤ off ∧ off < 0x4_0000 then (if off % 8 = 4 then grpHiMask else 0xFFFFFFFF)
  else 0xFFFFFFFF

/-- An offset lies in a Cane range (R189). -/
def inCane (off : Nat) : Bool :=
  decide (off < 0x200) || (decide (0x2000 ≤ off) && decide (off < 0x2800)) ||
  (decide (0x4000 ≤ off) && decide (off < 0x7000)) || (decide (0x8000 ≤ off) && decide (off < 0xA000))

/-- Registers of a stream: CTRL, DEST, STATUS, DROP, SENT, CWAIT (R197). -/
def State.streamWrite (s : State) (r : Req) (st n reg : Nat) (v : Word) : WrRes :=
  let x := s.stream st n
  match reg with
  | 0 =>
    let en := v.msb
    let t : Tenant := Fin.ofNat 4 (bitsOf v.toNat 0 2)
    let kind := bitsOf v.toNat 4 3
    if 5 ≤ kind then wrNo s
    else if en && !s.injFree .cane st n t then wrNo s
    else
      s.caneEntryWrite r st x.holder (if en then some t else none)
        (s.modStream st n fun y =>
          if en then { y with en := true, kind := kind, tenant := t }
          else { y with en := false, kind := 0, tenant := 0, dest := 0 })
  | 1 => s.caneEntryWrite r st x.holder x.holder (s.modStream st n fun y => { y with dest := v })
  | _ => wrOk s

/-- Write a Cane register. -/
def State.caneWrite (s : State) (r : Req) (st off : Nat) (v : Word) : WrRes :=
  if off < 0x100 then
    match off with
    | 0x004 => wrOk (s.modCane st fun c =>
        { c with dangling := c.dangling && !v.getLsbD 1, conflict := c.conflict && !v.getLsbD 0 })
    | 0x010 =>
      let (lo, n) := domainsAt st
      let d := bitsOf v.toNat 0 6
      if n ≤ 1 ∨ d < lo ∨ lo + n ≤ d then wrOk s
      else wrOk (s.modCane st fun c => { c with dirBank := d - lo })
    | 0x014 =>
      if caneInjects st then wrOk (s.modCane st fun c => { c with grpBank := bitsOf v.toNat 0 2 }) else wrOk s
    | _ => wrOk s
  else if off < 0x180 then
    if !caneInjects st then wrNo s
    else if 0x110 ≤ off then wrOk s
    else
      let t : Tenant := Fin.ofNat 4 ((off - 0x100) / 4)
      s.caneEntryWrite r st (some t) (some t) (s.modCane st fun c => { c with svc := Tab.put c.svc 0 t.val v })
  else if off < 0x200 then
    if st ≠ stHost then wrNo s
    else if 0x190 ≤ off then wrOk s
    else s.tholdWrite r (Fin.ofNat 4 ((off - 0x180) / 4)) v
  else if 0x2000 ≤ off ∧ off < 0x2800 then
    if !caneInjects st then wrNo s else s.streamWrite r st ((off - 0x2000) / 32) (off % 32 / 4) v
  else if 0x4000 ≤ off ∧ off < 0x7000 then
    s.slotWrite .cane r st ((off - 0x4000) / 0x800) ((off % 0x800) / 4) v
  else if 0x8000 ≤ off ∧ off < 0x9000 then
    let w := (off - 0x8000) / 4
    if !caneInjects st then wrNo s
    else if 9 ≤ w % 16 then wrOk s
    else
      let h := (s.stream st (w / 16)).holder
      s.caneEntryWrite r st h h
        (s.modCane st fun c => { c with win := putFour c.win (w / 16 * 64 + 4 * (w % 16)) v })
  else if caneInjects st then wrOk s
  else wrNo s

/-- Clear a counter of the Cane after it has been read (RC, R11). -/
def State.caneClear (s : State) (st off : Nat) : State :=
  s.modCane st fun c => match off with
    | 0x020 => { c with stray := 0 }
    | 0x024 => { c with iso := 0 }
    | 0x028 => { c with danglingCnt := 0 }
    | 0x02C => { c with foreignGrp := 0 }
    | 0x030 => { c with eccCe := 0 }
    | 0x040 => { c with rxDrop := 0 }
    | 0x044 => { c with emitStall := 0 }
    | 0x048 => { c with lookups := 0 }
    | _ => c

/-- Cycles of the fabric clock, 1.4 GHz, since the fabric left reset, from the timer clock of 4 ns (R163). -/
def State.fabricCycles (s : State) : Nat := (s.now - s.wheelAt) * 28 / 5
/-- The wheel position (R163) and the Thread position θ (R212). -/
def State.wheel (s : State) : Nat := s.fabricCycles % 512
def State.theta (s : State) : Nat := s.fabricCycles % 44

/-- Some Cane or Gather input of a station is dead. -/
def State.anyDead (s : State) (fab : Fabric) (st : Nat) : Bool :=
  [Dir.n, .e, .s, .w].any fun d => s.deadInput fab st d

/-- A stream register as a requester sees it (R183, R197); reading DROP, SENT and CWAIT clears them. -/
def State.streamRead (s : State) (r : Req) (st n reg : Nat) : RdRes :=
  let x := s.stream st n
  let mine := match r, x.holder with | .port p, some t => p == t | _, _ => true
  match reg with
  | 0 => rd s ((if x.en then 2 ^ 31 else 0) + x.tenant.val + (if mine then x.kind * 16 else 0))
  | 1 => rd s (if mine then x.dest.toNat else 0)
  | 2 => rd s (if mine then x.queue.length else 0)
  | 3 => if mine then rdThen (s.modStream st n fun y => { y with drop := 0 }) x.drop else rd s 0
  | 4 => if mine then rdThen (s.modStream st n fun y => { y with sent := 0 }) x.sent else rd s 0
  | 5 => if mine then rdThen (s.modStream st n fun y => { y with cwait := 0 }) x.cwait else rd s 0
  | _ => rd s 0

/-- Read a Cane register. To another tenant's port CANE_SVC and the windows and credits of an owned stream read zero:
R195 and R199 give no rule for that read (DESIGN CHOICE, notes/assumptions/56.md). -/
def State.caneRead (s : State) (r : Req) (st off : Nat) : RdRes :=
  let c := (s.station st).cane
  if off < 0x100 then
    match off with
    | 0x000 => rd s st
    | 0x004 => rd s (b2n (s.anyDead .cane st) * 8 + b2n c.ecUe * 4 + b2n c.dangling * 2 + b2n c.conflict)
    | 0x008 => rd s s.wheel
    | 0x00C => rd s c.linkErr.toNat
    | 0x010 => rd s (if (domainsAt st).2 = 0 then 0 else (domainsAt st).1 + c.dirBank)
    | 0x014 => rd s c.grpBank
    | 0x020 => rdThen (s.caneClear st off) c.stray
    | 0x024 => rdThen (s.caneClear st off) c.iso
    | 0x028 => rdThen (s.caneClear st off) c.danglingCnt
    | 0x02C => rdThen (s.caneClear st off) c.foreignGrp
    | 0x030 => rdThen (s.caneClear st off) c.eccCe
    | 0x040 => rdThen (s.caneClear st off) c.rxDrop
    | 0x044 => rdThen (s.caneClear st off) c.emitStall
    | 0x048 => rdThen (s.caneClear st off) c.lookups
    | _ => rd s 0
  else if off < 0x180 then
    if caneInjects st && decide (off < 0x110) then
      let t : Tenant := Fin.ofNat 4 ((off - 0x100) / 4)
      (s, some (visible r (some t) 0 (Tab.get c.svc 0 t.val)))
    else rd s 0
  else if off < 0x200 then
    if st = stHost ∧ off < 0x190 then
      let t : Tenant := Fin.ofNat 4 ((off - 0x180) / 4)
      (s, some (visible r (some t) 0 (BitVec.ofNat 32 ((s.shear t).hold.code * 16))))
    else rd s 0
  else if 0x2000 ≤ off ∧ off < 0x2800 then
    if caneInjects st then s.streamRead r st ((off - 0x2000) / 32) (off % 32 / 4) else rd s 0
  else if 0x4000 ≤ off ∧ off < 0x7000 then
    (s, some (s.slotRead .cane r st ((off - 0x4000) / 0x800) ((off % 0x800) / 4)))
  else
    let w := (off % 0x1000) / 4
    if caneInjects st && decide (w % 16 < 9) then
      let tab := if off < 0x9000 then c.win else c.cred
      (s, some (visible r (s.stream st (w / 16)).holder 0 (BitVec.ofNat 32 (fourBytes tab (w / 16 * 64 + 4 * (w % 16))))))
    else rd s 0

end Sys2Proof.Machine
end

