-- ==== Sys2Proof/Machine/PortsRegs.lean ====
section
/-!
DEFINITION. The resources of station PORTS and their registers: claims and releases, configuration rules, links,
encoders, decoders, egress match entries and GPIO pins (R376 to R408).
-/

namespace Sys2Proof.Machine

/-- Change PORTS. -/
def State.modIo (s : State) (f : Ports → Ports) : State := { s with io := f s.io }

/-! ### Ownership (R376 to R378) -/

/-- The keys of resources in the ownership table. -/
def ownIn (c : Nat) : Nat := c
def ownEnc (k : Nat) : Nat := 16 + k
def ownDec (k : Nat) : Nat := 80 + k
def ownPin (n : Nat) : Nat := 144 + n
/-- The owner of a resource: a tenant, or 4 for the MP. -/
def State.owner (s : State) (key : Nat) : Option Nat := Tab.get s.own none key
/-- The tenant that owns a resource. -/
def State.ownerTenant (s : State) (key : Nat) : Option Tenant :=
  match s.owner key with | some o => if h : o < 4 then some ⟨o, h⟩ else none | none => none
/-- FUNC of a pin. -/
def State.pinFunc (s : State) (n : Nat) : Nat := Tab.get s.io.func 0 n
/-- A tenant owns a pin with a function. -/
def State.ownsPin (s : State) (o : Option Nat) (n f : Nat) : Bool :=
  o.isSome && s.owner (ownPin n) == o && s.pinFunc n == f

/-- A requester may write the registers of a resource: its owner's port or the MP (R401). -/
def mayUse (r : Req) (o : Option Nat) : Bool :=
  match r with | .mp => true | .port p => o == some p.val | .smbus => false
/-- A requester meets a resource of another tenant: it reads zero and its writes are discarded (R378, R360). -/
def foreignTo (r : Req) (o : Option Nat) : Bool :=
  match r, o with | .port p, some t => t != p.val | _, _ => false
/-- A write of a register of a resource that o owns: performed for its owner's port and the MP, discarded for another
tenant's port, refused otherwise (R378, R401). -/
def resWrite (s : State) (r : Req) (o : Option Nat) (w : WrRes) : WrRes :=
  if mayUse r o then w else if foreignTo r o then wrOk s else wrNo s

/-- The tenant a claim is for (R377). -/
def claimant (r : Req) (owner : Tenant) : Option Tenant :=
  match r with | .port p => some p | .mp => some owner | .smbus => none

/-- A refused claim sets the bit of the writer's port (R377). -/
def State.refuseClaim (s : State) (r : Req) : WrRes :=
  match r with
  | .port p => (s.modIo fun x => { x with conflict := x.conflict ||| (1#4 <<< p.val) }, false)
  | _ => wrNo s

/-- CLAIM of a resource by its key; func is 0 but for a pin, of which 8 to 15 are refused (R377, R399). -/
def State.claim (s : State) (r : Req) (key : Nat) (owner : Tenant) (func : Nat) : WrRes :=
  match claimant r owner with
  | none => wrNo s
  | some t =>
    match s.owner key with
    | none =>
      let s1 := { s with own := Tab.put s.own none key (some t.val) }
      if key < 144 then wrOk s1
      else if 8 ≤ func then s.refuseClaim r
      else wrOk (s1.modIo fun x => { x with func := Tab.put x.func 0 (key - 144) func })
    | some o =>
      if o = t.val ∧ (key < 144 ∨ s.pinFunc (key - 144) = func) then wrOk s else s.refuseClaim r

/-- A released ingress channel: its queue, its counters and its receiver or link (R378). -/
def State.resetChannel (s : State) (c : Nat) : State :=
  let s1 := { s with pin := Tab.put s.pin [] c [], pinNoted := Tab.put s.pinNoted 0 c 0 }
  s1.modIo fun x => { x with
    chan := Tab.put x.chan {} c {}
    csi := Vector.ofFn fun i => if i.val = c then {} else x.csi[i.val]
    kel := Vector.ofFn fun i => if 2 + i.val = c then {} else x.kel[i.val] }

/-- A resource returns to its reset values, unowned (R378). -/
def State.resetResource (s : State) (key : Nat) : State :=
  let s1 := { s with own := Tab.put s.own none key none }
  if key < 16 then s1.resetChannel key
  else if key < 80 then s1.modIo fun x => { x with enc := Tab.put x.enc {} (key - 16) {} }
  else if key < 144 then s1.modIo fun x => { x with dec := Tab.put x.dec {} (key - 80) {} }
  else
    let n := key - 144
    s1.modIo fun x => { x with
      func := Tab.put x.func 0 n 0
      gpioOut := x.gpioOut &&& ~~~(1#32 <<< n)
      width := Tab.put x.width 1 n 1
      pulseEnd := Tab.put x.pulseEnd none n none }

/-- RELEASE may be performed: by the owner's port while the tenant is Stopped or Unloaded, by the MP while it is not
Running (R378). -/
def State.mayRelease (s : State) (r : Req) (o : Option Nat) : Bool :=
  match o with
  | none => r == .mp
  | some n =>
    if h : n < 4 then
      let st := (s.tenant ⟨n, h⟩).st
      match r with
      | .port p => p.val == n && (st == .stopped || st == .unloaded)
      | .mp => st != .running
      | .smbus => false
    else r == .mp

/-- RELEASE of a resource by its key. -/
def State.release (s : State) (r : Req) (key : Nat) : WrRes :=
  wrIf (s.mayRelease r (s.owner key)) s (s.resetResource key)

/-- A write of an ownership register (R402): a CLAIM goes before a RELEASE. -/
def State.ownWrite (s : State) (r : Req) (key : Nat) (v : Word) : WrRes :=
  if v.getLsbD 31 then s.claim r key (Fin.ofNat 4 (bitsOf v.toNat 28 2)) (bitsOf v.toNat 0 4)
  else if v.getLsbD 30 then s.release r key
  else wrOk s

/-- An ownership register as read (R402): FUNC is hidden from other tenants (R378). -/
def State.ownRead (s : State) (r : Req) (key : Nat) : Nat :=
  match s.owner key with
  | none => 0
  | some o => 2 ^ 19 + o % 4 * 2 ^ 16 + (if 144 ≤ key ∧ !foreignTo r (some o) then s.pinFunc (key - 144) else 0)

/-! ### Configuration writes (R401) -/

/-- A register that holds EN: a configuration field may change only while EN is 0. -/
def cfgFree (old new : Word) : Bool := !old.msb || (old &&& 0x7FFFFFFF) == (new &&& 0x7FFFFFFF)
/-- The values a write leaves are checked unless it only disables the resource. -/
def cfgChecked (old new : Word) : Bool := new.msb || (old &&& 0x7FFFFFFF) != (new &&& 0x7FFFFFFF)

/-! ### Time-critical levels (R392, R398, R400) -/

/-- The output gate is open. -/
def State.gateOpen (s : State) : Bool := s.pont.gate
/-- Outputs that the gate suppresses are counted (R400). -/
def State.countGated (s : State) (n : Nat) : State := s.modIo fun x => { x with gated := cnt32 x.gated n }
/-- Egress copies and values of a tenant that are dropped (R390, R391). -/
def State.egressDrop (s : State) (t : Option Nat) (n : Nat) : State :=
  match t with
  | some o => { s with egDrop := Tab.modify s.egDrop 0 o fun x => cnt16 x n }
  | none => s

/-! ### CSI-2 receivers (R381, R384, R404) -/

/-- CSI_CFG: EN, MODE, VC and DT. -/
def Csi.en (c : Csi) : Bool := c.cfg.msb
def Csi.frameMode (c : Csi) : Bool := c.cfg.getLsbD 30
def Csi.vc (c : Csi) : Nat := bitsOf c.cfg.toNat 26 2
def Csi.dt (c : Csi) : Nat := bitsOf c.cfg.toNat 16 6
/-- CSI_TD: WIDTH, HEIGHT, BIN as a count of pixels, PRIME and STEP_LOG2. -/
def Csi.width (c : Csi) : Nat := bitsOf c.td.toNat 21 11
def Csi.height (c : Csi) : Nat := bitsOf c.td.toNat 11 10
def Csi.bin (c : Csi) : Nat := 2 ^ bitsOf c.td.toNat 9 2
def Csi.prime (c : Csi) : Bool := c.td.getLsbD 8
def Csi.step (c : Csi) : Nat := bitsOf c.td.toNat 5 3

/-- CSI_CFG values that are supported. -/
def csiCfgOk (v : Word) : Bool :=
  let dt := bitsOf v.toNat 16 6
  bitsOf v.toNat 28 2 != 3 && (if v.getLsbD 30 then dt == 0x2A || dt == 0x2B else decide (0x30 ≤ dt) && decide (dt ≤ 0x37))
/-- CSI_TD values that are accepted (R384). -/
def csiTdOk (v : Word) : Bool :=
  let w := bitsOf v.toNat 21 11
  let h := bitsOf v.toNat 11 10
  let b := 2 ^ bitsOf v.toNat 9 2
  b != 8 && decide (w ≤ 1280) && decide (h ≤ 800) && w % b == 0 && h % b == 0 && decide (w / b * (h / b) ≤ 262144)
/-- CSI_EXT0 and CSI_EXT1 values within the stated ranges. -/
def csiExt0Ok (v : Word) : Bool := bitsOf v.toNat 30 2 != 3 && decide (bitsOf v.toNat 20 4 ≤ 8)
def csiExt1Ok (v : Word) : Bool :=
  let xw := bitsOf v.toNat 27 5
  let yw := bitsOf v.toNat 22 5
  let xb := bitsOf v.toNat 0 5
  decide (1 ≤ xw) && decide (xw ≤ 16) && decide (1 ≤ yw) && decide (yw ≤ 16) && decide (1 ≤ xb) && decide (xb ≤ 17)

/-- Change a receiver. -/
def State.modCsi (s : State) (n : Fin 2) (f : Csi → Csi) : State :=
  s.modIo fun x => { x with csi := x.csi.set n.val (f x.csi[n.val]) }

/-- Write CSI_CFG (R384, R401, R404): enabling a receiver in frame mode clears its reference store. -/
def State.csiCfgSet (s : State) (n : Fin 2) (v : Word) : WrRes :=
  let c := s.io.csi[n.val]
  if !cfgFree c.cfg v || (cfgChecked c.cfg v && !csiCfgOk v) then wrNo s
  else
    wrOk (s.modCsi n fun c =>
      let c1 := { c with cfg := v }
      if v.msb && !c.en then
        { c1 with refs := if v.getLsbD 30 then [] else c.refs, priming := v.getLsbD 30 && c.prime, inFrame := false,
                  line := 0, rows := [], tainted := false }
      else if !v.msb then { c1 with inFrame := false, line := 0, rows := [], tainted := false }
      else c1)

/-- Write a receiver's register. -/
def State.csiWrite (s : State) (n : Fin 2) (reg : Nat) (v : Word) : WrRes :=
  let c := s.io.csi[n.val]
  match reg with
  | 0x00 => s.csiCfgSet n v
  | 0x10 => wrIf ((!c.en || v == c.ext0) && csiExt0Ok v) s (s.modCsi n fun c => { c with ext0 := v })
  | 0x14 => wrIf ((!c.en || v == c.ext1) && csiExt1Ok v) s (s.modCsi n fun c => { c with ext1 := v })
  | 0x18 => wrIf ((!c.en || v == c.td) && csiTdOk v) s (s.modCsi n fun c => { c with td := v })
  | _ => wrOk s

/-- Read a receiver's register. CLK_ACTIVE is the level of the clock lane: a free value while the receiver is on. -/
def State.csiRead (s : State) (n : Fin 2) (reg : Nat) : RdRes :=
  let c := s.io.csi[n.val]
  match reg with
  | 0x00 => (s, some c.cfg)
  | 0x04 =>
    if c.en then rdThen s.spend (b2n c.inFrame * 2 + b2n (s.free.getLsbD 0)) else rd s (b2n c.inFrame * 2)
  | 0x08 =>
    rdThen (s.modCsi n fun c => { c with eccCorr := 0, eccUncorr := 0, crc := 0, discard := 0 })
      (c.eccCorr * 2 ^ 24 + c.eccUncorr * 2 ^ 16 + c.crc * 256 + c.discard)
  | 0x10 => (s, some c.ext0)
  | 0x14 => (s, some c.ext1)
  | 0x18 => (s, some c.td)
  | 0x1C => rdThen (s.modCsi n fun c => { c with frames := 0 }) c.frames
  | _ => rd s 0

/-! ### Kojan Event Links (R389, R390, R405) -/

/-- Change a link. -/
def State.modKel (s : State) (n : Fin 8) (f : Kel → Kel) : State :=
  s.modIo fun x => { x with kel := x.kel.set n.val (f x.kel[n.val]) }

/-- The channel of a link loses events: its next accepted one carries the gap marker. -/
def State.gapNext (s : State) (c : Nat) : State :=
  s.modIo fun x => { x with chan := Tab.modify x.chan {} c fun y => { y with gapNext := true } }

/-- What waits for a link that is not UP is discarded and counted (R390). -/
def State.flushKel (s : State) (n : Fin 8) : State :=
  let k := s.io.kel[n.val]
  (s.egressDrop (s.owner (ownIn (2 + n.val))) (k.txQ.length + k.valQ.length)).modKel n fun k =>
    { k with txQ := [], valQ := [] }

/-- An UP link falls back to TRAIN (R389): a retrain is counted and the next accepted event is marked. -/
def State.kelFall (s : State) (n : Fin 8) : State :=
  ((s.flushKel n).gapNext (2 + n.val)).modKel n fun k =>
    { k with st := 1, trainAt := s.now, retrains := cnt16 k.retrains }

/-- RETRAIN written to a link that is enabled. -/
def State.kelRetrainNow (s : State) (n : Fin 8) : State :=
  let k := s.io.kel[n.val]
  if !k.en then s
  else if k.st = 3 then s.kelFall n
  else s.modKel n fun k => { k with st := 1, trainAt := s.now }

/-- Write KEL_CTRL (R389, R405). -/
def State.kelCtrl (s : State) (n : Fin 8) (v : Word) : State :=
  let k := s.io.kel[n.val]
  let s1 :=
    if v.msb && !k.en then s.modKel n fun k => { k with en := true, st := 1, trainAt := s.now, rxSeq := 0, txSeq := 0 }
    else if !v.msb && k.en then (s.flushKel n).modKel n fun k => { k with en := false, st := 0 }
    else s
  if v.getLsbD 0 then s1.kelRetrainNow n else s1

/-- Read a link's register. -/
def State.kelRead (s : State) (n : Fin 8) (reg : Nat) : RdRes :=
  let k := s.io.kel[n.val]
  match reg with
  | 0x00 => rd s (b2n k.en * 2 ^ 31)
  | 0x04 => rd s k.st
  | 0x08 =>
    rdThen (s.modKel n fun k => { k with codeErr := 0, crcErr := 0, fmtErr := 0, seqErr := 0 })
      (k.codeErr * 2 ^ 24 + k.crcErr * 2 ^ 16 + k.fmtErr * 256 + k.seqErr)
  | 0x0C => rdThen (s.modKel n fun k => { k with retrains := 0 }) k.retrains
  | 0x10 => rdThen (s.modKel n fun k => { k with rxFrames := 0 }) k.rxFrames
  | 0x14 => rdThen (s.modKel n fun k => { k with txFrames := 0 }) k.txFrames
  | _ => rd s 0

/-! ### Encoders (R393, R394, R406) -/

/-- An encoder channel. -/
def State.enc (s : State) (k : Nat) : Enc := Tab.get s.io.enc {} k
def State.modEnc (s : State) (k : Nat) (f : Enc → Enc) : State :=
  s.modIo fun x => { x with enc := Tab.modify x.enc {} k f }
/-- FRIT_ENC_CFG: EN, MODE, SRC, BANK, LINK, PIN, GAIN and STEP. -/
def Enc.en (e : Enc) : Bool := e.cfg.msb
def Enc.mode (e : Enc) : Nat := bitsOf e.cfg.toNat 29 2
def Enc.src (e : Enc) : Nat := bitsOf e.cfg.toNat 27 2
def Enc.bank (e : Enc) : Nat := bitsOf e.cfg.toNat 24 3
def Enc.link (e : Enc) : Nat := bitsOf e.cfg.toNat 21 3
def Enc.pin (e : Enc) : Nat := bitsOf e.cfg.toNat 16 5
def Enc.gain (e : Enc) : Nat := bitsOf e.cfg.toNat 8 8
def Enc.step (e : Enc) : Nat := bitsOf e.cfg.toNat 0 4

/-- FRIT_ENC_CFG values that are accepted: MODE, SRC and BANK, and a bank of the same owner (R394). -/
def State.encCfgOk (s : State) (k : Nat) (v : Word) : Bool :=
  let bank := bitsOf v.toNat 24 3
  bitsOf v.toNat 29 2 != 3 && bitsOf v.toNat 27 2 != 3 && decide (bank ≤ 5) &&
    (s.owner (ownEnc k)).isSome && s.owner (ownIn (10 + bank)) == s.owner (ownEnc k)

/-- Write an encoder's register. -/
def State.encWrite (s : State) (k reg : Nat) (v : Word) : WrRes :=
  let e := s.enc k
  match reg with
  | 0 =>
    if !cfgFree e.cfg v || (cfgChecked e.cfg v && !s.encCfgOk k v) then wrNo s
    else wrOk (s.modEnc k fun e => { e with cfg := v, sat := false, done := false })
  | 2 => wrOk (s.modEnc k fun e => { e with val := v, done := false })
  | _ => wrOk s

/-! ### Decoders (R397, R398, R407) -/

/-- A decoder channel. -/
def State.dec (s : State) (k : Nat) : Dec := Tab.get s.io.dec {} k
def State.modDec (s : State) (k : Nat) (f : Dec → Dec) : State :=
  s.modIo fun x => { x with dec := Tab.modify x.dec {} k f }
/-- FRIT_DEC_CFG: EN, MODE, WIN_M1, SHIFT, PIN, LINK_EN, LINK and OUT_CHAN; SAFE, GAIN, MIN and MAX. -/
def Dec.en (d : Dec) : Bool := d.cfg.msb
def Dec.mode (d : Dec) : Nat := bitsOf d.cfg.toNat 29 2
def Dec.win (d : Dec) : Nat := bitsOf d.cfg.toNat 24 4 + 1
def Dec.shift (d : Dec) : Nat := bitsOf d.cfg.toNat 20 4
def Dec.pin (d : Dec) : Nat := bitsOf d.cfg.toNat 15 5
def Dec.linkEn (d : Dec) : Bool := d.cfg.getLsbD 14
def Dec.link (d : Dec) : Fin 8 := Fin.ofNat 8 (bitsOf d.cfg.toNat 11 3)
def Dec.outChan (d : Dec) : Nat := bitsOf d.cfg.toNat 5 6
def Dec.safe (d : Dec) : BitVec 16 := d.gain.extractLsb' 16 16
def Dec.gainInt (d : Dec) : Int := (d.gain.setWidth 16).toInt
def Dec.min (d : Dec) : Int := (d.lim.setWidth 16).toInt
def Dec.max (d : Dec) : Int := (d.lim.extractLsb' 16 16).toInt

/-- FRIT_DEC_CFG values that are accepted: a link and a PWM pin of the same owner (R397, R398). -/
def State.decCfgOk (s : State) (k : Nat) (v : Word) : Bool :=
  let o := s.owner (ownDec k)
  let d : Dec := { cfg := v }
  (!d.linkEn || (o.isSome && s.owner (ownIn (2 + d.link.val)) == o)) && (d.mode != 2 || s.ownsPin o d.pin 3)

/-- A decoder holds OUT at SAFE: disabled or in count mode. -/
def Dec.held (d : Dec) : Bool := !d.en || d.mode == 3

/-- Write FRIT_DEC_CFG (R397, R401, R407). -/
def State.decCfgSet (s : State) (k : Nat) (v : Word) : WrRes :=
  let d := s.dec k
  let new := v &&& 0xEFFFFFE0
  if !cfgFree d.cfg new || (cfgChecked d.cfg new && !s.decCfgOk k new) then wrNo s
  else
    wrOk (s.modDec k fun d =>
      let d1 := { d with cfg := new, gap := d.gap && !v.getLsbD 28 }
      let d2 := if d1.held then { d1 with out := d.safe } else d1
      if new.msb && !d.en then { d2 with nextAt := s.now, highEnd := none }
      else if !new.msb then { d2 with highEnd := none } else d2)

/-- Write a decoder's register. -/
def State.decWrite (s : State) (k reg : Nat) (v : Word) : WrRes :=
  let d := s.dec k
  match reg with
  | 0 => s.decCfgSet k v
  | 2 => wrIf (!d.en || v == d.gain) s (s.modDec k fun d => { d with gain := v })
  | 3 =>
    wrIf ((!d.en || v == d.lim) && decide ((v.setWidth 16).toInt ≤ (v.extractLsb' 16 16).toInt)) s
      (s.modDec k fun d => { d with lim := v })
  | 4 => wrOk (if d.en && d.mode == 3 then s else s.modDec k fun d => { d with out := v.setWidth 16 })
  | 5 =>
    wrIf ((!d.en || v.toNat == d.period) && decide (2 ≤ v.toNat)) s (s.modDec k fun d => { d with period := v.toNat })
  | _ => wrOk s

/-- Read a decoder's register. -/
def State.decRead (s : State) (k reg : Nat) : RdRes :=
  let d := s.dec k
  match reg with
  | 0 => rd s (d.cfg.toNat + b2n d.gap * 2 ^ 28)
  | 2 => (s, some d.gain)
  | 3 => (s, some d.lim)
  | 4 => rd s d.out.toNat
  | 5 => rd s d.period
  | 6 => rdThen (s.modDec k fun d => { d with cnt := 0 }) d.cnt
  | 7 => rdThen (s.modDec k fun d => { d with sum := 0 }) d.sum
  | _ => rd s 0

/-! ### Egress match entries (R391, R408) -/

/-- VALID, TENANT, KIND and TARGET of an entry. -/
def EmEnt.valid (x : EmEnt) : Bool := x.hi.msb
def EmEnt.tenant (x : EmEnt) : Tenant := Fin.ofNat 4 (bitsOf x.hi.toNat 29 2)
def EmEnt.kind (x : EmEnt) : Nat := bitsOf x.hi.toNat 27 2
def EmEnt.target (x : EmEnt) : Nat := bitsOf x.hi.toNat 0 6
def EmEnt.holder (x : EmEnt) : Option Tenant := if x.valid then some x.tenant else none
/-- An egress match entry. -/
def State.em (s : State) (i : Nat) : EmEnt := Tab.get s.io.em {} i

/-- The entry's target belongs to its tenant (R391). -/
def State.emTargetOk (s : State) (x : EmEnt) : Bool :=
  let o := some x.tenant.val
  match x.kind with
  | 0 => s.owner (ownDec x.target) == o
  | 1 => decide (x.target < 8) && s.owner (ownIn (2 + x.target)) == o
  | 2 => decide (x.target < 32) && s.ownsPin o x.target 4
  | _ => false

/-- PT_EM_LO stages the group (R200, R408). -/
def State.emLoWrite (s : State) (r : Req) (i : Nat) (v : Word) : WrRes :=
  wrOk (s.modIo fun x => { x with emStage := Tab.put x.emStage none r.key (some (i, v)) })

/-- PT_EM_HI commits the entry under R182, and empties the staging register (R200, R378, R391, R408). -/
def State.emHiWrite (s : State) (r : Req) (i : Nat) (v : Word) : WrRes :=
  let old := s.em i
  let group := match Tab.get s.io.emStage none r.key with
    | some (j, w) => if j = i then w.setWidth 16 else old.group
    | none => old.group
  let new : EmEnt := { group := group, hi := v }
  let s1 := s.modIo fun x => { x with emStage := Tab.put x.emStage none r.key none }
  if new.kind == 3 || (new.valid && !s.emTargetOk new) then wrNo s1
  else
    s1.caneEntryWrite r stPorts old.holder new.holder (s1.modIo fun x => { x with em := Tab.put x.em {} i new })

/-! ### GPIO (R399, R408) -/

/-- The pins of a mask that a requester's tenant owns, with a function if one is named. -/
def State.ownPins (s : State) (r : Req) (f : Option Nat) : BitVec 32 :=
  match r with
  | .port p =>
    (List.range 32).foldl (fun m n =>
      if s.owner (ownPin n) == some p.val && (f.isNone || f == some (s.pinFunc n)) then m ||| (1#32 <<< n) else m) 0
  | _ => if f.isNone then BitVec.allOnes 32 else 0

/-- Write a GPIO register at an offset from 0x4_6080 on. -/
def State.gpioWrite (s : State) (r : Req) (off : Nat) (v : Word) : WrRes :=
  if off = 0x88 then wrOk (s.modIo fun x => { x with gpioOut := x.gpioOut ||| (v &&& s.ownPins r (some 2)) })
  else if off = 0x8C then wrOk (s.modIo fun x => { x with gpioOut := x.gpioOut &&& ~~~(v &&& s.ownPins r (some 2)) })
  else if 0x100 ≤ off ∧ off < 0x180 then
    let n := (off - 0x100) / 4
    resWrite s r (s.owner (ownPin n))
      (wrIf (v != 0) s (s.modIo fun x => { x with width := Tab.put x.width 1 n v.toNat }))
  else wrOk s

/-! ### Driven and sensed levels -/

/-- The active level of pulses and PWM: the opposite of the safe level (R392, R400). -/
def State.activeLevel (s : State) : Bool := !s.straps.safepol

/-- Some PWM channel holds its pin active (R398). -/
def State.pwmHigh (s : State) (n : Nat) : Bool :=
  s.io.dec.any fun e => e.2.en && e.2.mode == 2 && e.2.pin == n && e.2.highEnd.isSome

/-- The level the output function of a pin drives, before the gate; none for an input (R399). -/
def State.pinDrive (s : State) (n : Nat) : Option Bool :=
  match s.pinFunc n with
  | 2 => some (s.io.gpioOut.getLsbD n)
  | 3 => some (if s.pwmHigh n then s.activeLevel else s.straps.safepol)
  | 4 => some (if (Tab.get s.io.pulseEnd none n).isSome then s.activeLevel else s.straps.safepol)
  | 7 => some (s.timers[(Config.timerOfPin n).val]).out
  | _ => none

/-- The level that PORTS drives on an output pin: the latched one while its hold lasts (R441). none: the pin is an input. -/
def State.heldLevel (s : State) (n : Nat) : Option Bool :=
  let held := match s.ownerTenant (ownPin n) with | some t => s.aon.padsHeld.getLsbD t.val | none => false
  (s.pinDrive n).map fun l => if held then s.io.padLatch.getLsbD n else l

/-- The level at the pad of an output pin: the safe level while the gate is closed, which acts after the hold (R400,
R442). none: the pin is an input. -/
def State.padLevel (s : State) (n : Nat) : Option Bool :=
  (s.heldLevel n).map fun l => if s.gateOpen then l else s.straps.safepol

/-- The level of a pin as its synchroniser sees it: the pad's driven level for an output. -/
def State.pinLevel (s : State) (n : Nat) : Bool := (s.padLevel n).getD (s.pinIn.getLsbD n)

/-- GPIO_IN as a requester reads it. -/
def State.gpioIn (s : State) (r : Req) : Word :=
  (List.range 32).foldl (fun m n => if s.pinLevel n then m ||| (1#32 <<< n) else m) 0 &&& s.ownPins r none

/-! ### The PORTS ranges (R401) -/

/-- Bits of PT_OWN outside its reserved ones but for FUNC: its read-only fields ignore what is written (R11, R402). -/
def ownMask : Word := 0xF00B0000
/-- Non-reserved bits of a PORTS register. -/
def portsMask (off : Nat) : Word :=
  if off = 0x4_0004 then 0xF
  else if 0x4_0100 ≤ off ∧ off < 0x4_0200 then (if off % 16 = 0 then ownMask else 0xFFFFFFFF)
  else if 0x4_1000 ≤ off ∧ off < 0x4_1200 then
    match off % 0x100 with
    | 0x00 => 0xFC3F0000 | 0x14 => 0xFFFFFFDF | 0x18 => 0xFFFFFFE0 | _ => 0xFFFFFFFF
  else if 0x4_2000 ≤ off ∧ off < 0x4_2200 then (if off % 0x40 = 0 then 0x80000001 else 0xFFFFFFFF)
  else if 0x4_3000 ≤ off ∧ off < 0x4_3400 then
    match off % 16 with | 0 => 0xFFFFFF0F | 4 => ownMask | _ => 0xFFFFFFFF
  else if 0x4_4000 ≤ off ∧ off < 0x4_4800 then
    match off % 32 with | 0 => 0xFFFFFFE0 | 4 => ownMask | 16 => 0xFFFF | 20 => 0xFFFF | _ => 0xFFFFFFFF
  else if 0x4_5000 ≤ off ∧ off < 0x4_5400 then (if off % 8 = 0 then 0xFFFF else 0xF800003F)
  else if 0x4_6000 ≤ off ∧ off < 0x4_6080 then ownMask ||| 0xF
  else if 0x4_6100 ≤ off ∧ off < 0x4_6180 then 0xFFFF
  else 0xFFFFFFFF

/-- An offset lies in a PORTS range. -/
def inPorts (off : Nat) : Bool := decide (0x4_0000 ≤ off) && decide (off < 0x4_8000)

/-- Write a PORTS register. -/
def State.portsWrite (s : State) (r : Req) (off : Nat) (v : Word) : WrRes :=
  if off = 0x4_0004 then wrOk (s.modIo fun x => { x with conflict := x.conflict &&& ~~~(v.setWidth 4) })
  else if off < 0x4_0100 then wrOk s
  else if off < 0x4_0200 then
    if off % 16 = 0 then s.ownWrite r (ownIn ((off - 0x4_0100) / 16)) v else wrOk s
  else if 0x4_1000 ≤ off ∧ off < 0x4_1200 then
    let n : Fin 2 := Fin.ofNat 2 ((off - 0x4_1000) / 0x100)
    resWrite s r (s.owner (ownIn n.val)) (s.csiWrite n (off % 0x100) v)
  else if 0x4_2000 ≤ off ∧ off < 0x4_2200 then
    let n : Fin 8 := Fin.ofNat 8 ((off - 0x4_2000) / 0x40)
    resWrite s r (s.owner (ownIn (2 + n.val))) (wrOk (if off % 0x40 = 0 then s.kelCtrl n v else s))
  else if 0x4_3000 ≤ off ∧ off < 0x4_3400 then
    let k := (off - 0x4_3000) / 16
    if off % 16 = 4 then s.ownWrite r (ownEnc k) v
    else resWrite s r (s.owner (ownEnc k)) (s.encWrite k (off % 16 / 4) v)
  else if 0x4_4000 ≤ off ∧ off < 0x4_4800 then
    let k := (off - 0x4_4000) / 32
    if off % 32 = 4 then s.ownWrite r (ownDec k) v
    else resWrite s r (s.owner (ownDec k)) (s.decWrite k (off % 32 / 4) v)
  else if 0x4_5000 ≤ off ∧ off < 0x4_5400 then
    let i := (off - 0x4_5000) / 8
    if off % 8 = 0 then s.emLoWrite r i v else s.emHiWrite r i v
  else if 0x4_6000 ≤ off ∧ off < 0x4_6080 then s.ownWrite r (ownPin ((off - 0x4_6000) / 4)) v
  else if 0x4_6080 ≤ off ∧ off < 0x4_6200 then s.gpioWrite r (off - 0x4_6000) v
  else wrOk s

/-- Read a global or ingress register. -/
def State.portsReadLow (s : State) (r : Req) (off : Nat) : RdRes :=
  let t := off % 16 / 4
  if off < 0x4_0010 then
    match off with
    | 0x4_0000 => rd s (b2n (!s.gateOpen))
    | 0x4_0004 => rd s s.io.conflict.toNat
    | 0x4_0008 => rdThen (s.modIo fun x => { x with gated := 0 }) s.io.gated
    | _ => rdThen (s.modIo fun x => { x with unmatched := 0 }) s.io.unmatched
  else if off < 0x4_0020 then rd s (Tab.get s.egress [] t).length
  else if off < 0x4_0030 then rdThen { s with egDrop := Tab.put s.egDrop 0 t 0 } (Tab.get s.egDrop 0 t)
  else if off < 0x4_0100 then rd s 0
  else
    let c := (off - 0x4_0100) / 16
    let x := Tab.get s.io.chan {} c
    if off % 16 = 0 then rd s (s.ownRead r (ownIn c))
    else if foreignTo r (s.owner (ownIn c)) then rd s 0
    else match off % 16 / 4 with
      | 1 => rd s (Tab.get s.pin [] c).length
      | 2 => rdThen (s.modIo fun y => { y with chan := Tab.put y.chan {} c { x with drop := 0 } }) x.drop
      | _ => rdThen (s.modIo fun y => { y with chan := Tab.put y.chan {} c { x with events := 0 } }) x.events

/-- Read a PORTS register. -/
def State.portsRead (s : State) (r : Req) (off : Nat) : RdRes :=
  if off < 0x4_0200 then s.portsReadLow r off
  else if 0x4_1000 ≤ off ∧ off < 0x4_1200 then
    let n : Fin 2 := Fin.ofNat 2 ((off - 0x4_1000) / 0x100)
    if foreignTo r (s.owner (ownIn n.val)) then rd s 0 else s.csiRead n (off % 0x100)
  else if 0x4_2000 ≤ off ∧ off < 0x4_2200 then
    let n : Fin 8 := Fin.ofNat 8 ((off - 0x4_2000) / 0x40)
    if foreignTo r (s.owner (ownIn (2 + n.val))) then rd s 0 else s.kelRead n (off % 0x40)
  else if 0x4_3000 ≤ off ∧ off < 0x4_3400 then
    let k := (off - 0x4_3000) / 16
    let e := s.enc k
    if off % 16 = 4 then rd s (s.ownRead r (ownEnc k))
    else if foreignTo r (s.owner (ownEnc k)) then rd s 0
    else match off % 16 / 4 with
      | 0 => (s, some e.cfg)
      | 2 => (s, some e.val)
      | _ => rd s (b2n e.done * 2 ^ 31 + b2n e.sat * 2 ^ 30 + e.state.toNat)
  else if 0x4_4000 ≤ off ∧ off < 0x4_4800 then
    let k := (off - 0x4_4000) / 32
    if off % 32 = 4 then rd s (s.ownRead r (ownDec k))
    else if foreignTo r (s.owner (ownDec k)) then rd s 0
    else s.decRead k (off % 32 / 4)
  else if 0x4_5000 ≤ off ∧ off < 0x4_5400 then
    let x := s.em ((off - 0x4_5000) / 8)
    (s, some (if off % 8 = 0 then visible r x.holder 0 (x.group.setWidth 32) else visible r x.holder 0xE0000000 x.hi))
  else if 0x4_6000 ≤ off ∧ off < 0x4_6080 then rd s (s.ownRead r (ownPin ((off - 0x4_6000) / 4)))
  else if off = 0x4_6080 then (s, some (s.gpioIn r))
  else if off = 0x4_6084 then (s, some (s.io.gpioOut &&& s.ownPins r none))
  else if 0x4_6100 ≤ off ∧ off < 0x4_6180 then
    let n := (off - 0x4_6100) / 4
    rd s (if foreignTo r (s.owner (ownPin n)) then 0 else Tab.get s.io.width 1 n)
  else rd s 0

end Sys2Proof.Machine
end

