-- ==== Sys2Proof/Machine/Aon.lean ====
section
/-!
DEFINITION. The always-on island: votes, sleep entry, wake sources and wake, and the always-on registers (R434 to
R446, R449 to R451).
-/

namespace Sys2Proof.Machine

/-- Change the always-on island. -/
def State.modAon (s : State) (f : Aon → Aon) : State := { s with aon := f s.aon }

/-- The ports that STRAP_HOST configures (R302). -/
def State.configured (s : State) (p : Port) : Bool :=
  match s.straps.host.toNat with | 0 => p == 0 | 1 => decide (p.val < 2) | 2 => true | _ => p == 0
/-- Lanes of each configured port (R302). -/
def State.lanes (s : State) : Nat := match s.straps.host.toNat with | 0 => 8 | 1 => 4 | 2 => 2 | _ => 4

/-! ### Level wake sources (R438) -/

/-- The pin whose level wakes the device, if any. -/
def State.levelPin (s : State) : Option Nat :=
  (List.range 32).find? fun n => s.aon.wakeLvl.getLsbD n && s.pinIn.getLsbD n == s.aon.wakePol.getLsbD n
/-- A level wake source is active. -/
def State.levelWake (s : State) : Bool := s.levelPin.isSome || s.pont.wakeReq

/-! ### Votes and entry (R435 to R437) -/

/-- The target of four votes, coded as VOTE; a port that is not configured votes HOLD. -/
def State.target (s : State) : Nat :=
  (List.finRange 4).foldl (fun m p => min m (if s.configured p then s.aon.votes[p.val] else 3)) 3

/-- A DMA channel is Running or Aborting. -/
def State.dmaActive (s : State) : Bool := s.dma.ch.any fun c => c.st == .running || c.st == .aborting
/-- A command is outstanding: a ring with HEAD unlike TAIL, or an asynchronous command other than a save that is being
written (R436). -/
def State.cmdOutstanding (s : State) : Bool :=
  (s.ports.any fun x => x.cmdHead != x.cmdTail) || !s.tests.isEmpty || s.lehr.jobs.any fun j => !j.phase.background

/-- The first cause that refuses entry; 0 for none (R436, R451). -/
def State.refusal (s : State) : Nat :=
  if (List.finRange 4).any fun t => !s.isStopped t then 1
  else if s.dmaActive then 2
  else if s.cmdOutstanding then 3
  else if s.levelWake then 4
  else 0

/-! ### Islands that leave NAP (R433, R443) -/

/-- A core's retained state differs, or a word of its memories cannot be corrected (R443): the core is stale and its
memories hold nothing known. -/
def State.retentionLost (s : State) (k : Nat) : State :=
  if (s.coreTenant k).isSome && s.coreExists k then
    (s.scramble k).modE k fun e => { e with cr := { e.cr with stale := true } }
  else s

/-- The island of a cluster leaves NAP (R433, R443). Which of its cores prove stale and how many words the check corrects
are free values: the rows whose effect it is do not name them
(notes/assumptions/60.md). -/
def State.islandLeaves (s : State) (cl : Nat) : State :=
  let bad := s.free.toNat
  let s1 := ((s.coresIn cl).filter fun k => bad.testBit (k % 32)).foldl State.retentionLost s.spend
  s1.spend.modAon fun a => { a with retCe := cnt16 a.retCe (s1.free.toNat % 65536) }

/-! ### Wake (R438, R439) -/

/-- An entry is aborted (R439): the device is awake again, and islands that were in NAP already leave it. -/
def State.abortEntry (s : State) : State :=
  let s1 := s.modAon fun a => { a with entering := none, aborted := true, st := 0 }
  if s.aon.st < 2 then s1
  else ((List.range 32).filter fun c => (s.tenantOf c).isSome).foldl State.islandLeaves s1

/-- A wake source acts: before the commit window it aborts an entry, inside it an edge is lost, and asleep it begins the
exit. bit is its bit of AON_WAKE_SRC, which an exit from NAP does not record (R440); a pin is recorded when it is the
first. -/
def State.wake (s : State) (bit : Nat) (level : Bool) (pin : Option Nat) : State :=
  let a := s.aon
  let seen : Aon := { a with
    waking := true
    srcBits := (if a.waking then a.srcBits else 0) ||| (1#7 <<< bit)
    srcSlots := if a.waking then a.srcSlots else 0
    srcPin := if a.waking && (a.srcBits &&& 0xC) != 0 then a.srcPin else pin.getD 0 }
  if a.window then (if level then s else s.modAon fun a => { a with lost := cnt16 a.lost })
  else if a.entering.isSome then s.abortEntry
  else if 3 ≤ a.st then { s with aon := seen }
  else if a.st = 2 then s.modAon fun a => { a with waking := true }
  else s

/-- The active level sources begin the exit once the device is asleep (R439). -/
def State.wakeLevels (s : State) : State :=
  let s1 := match s.levelPin with | some n => s.wake 3 true (some n) | none => s
  if s1.pont.wakeReq then s1.wake 6 true none else s1

/-- Begin entry, or refuse it with its cause (R436). -/
def State.tryEntry (s : State) (target : Nat) : State :=
  match s.refusal with
  | 0 => s.modAon fun a => { a with entering := some target }
  | c => s.modAon fun a => { a with refused := true, cause := c }

/-- What a vote write does (R436, R438). -/
def State.evaluate (s : State) : State :=
  let a := s.aon
  let t := s.target
  if a.waking then s
  else if a.entering.isSome then (if t = 0 then s.wake 1 false none else s)
  else if a.st = 0 then (if t = 0 then s else s.tryEntry t)
  else if t + 1 < a.st then s.wake 1 false none
  else if a.st = 2 ∧ 1 < t then s.modAon fun a => { a with entering := some t }
  else s

/-- A vote is written (R435, R436). -/
def State.voteWrite (s : State) (p : Port) (v : Nat) : State :=
  (s.modAon fun a => { a with votes := a.votes.set p.val v }).evaluate

/-! ### Pads (R441) -/

/-- A tenant has pads that a sleep holds: an output pin, or a link transmitter. -/
def State.hasPads (s : State) (t : Tenant) : Bool :=
  ((List.range 32).any fun n => s.ownerTenant (ownPin n) == some t && (s.pinDrive n).isSome) ||
    (List.range 8).any fun i => s.ownerTenant (ownIn (2 + i)) == some t

/-- PAD_RELEASE: a port's write ends the hold on its tenant's pads, the MP's on every pad. -/
def State.padRelease (s : State) (r : Req) : State :=
  s.modAon fun a => { a with padsHeld := match r with
    | .port p => a.padsHeld &&& ~~~(1#4 <<< p.val)
    | .mp => 0
    | .smbus => a.padsHeld }

/-! ### The Cool profile (R449) -/

/-- A tenant with DEEP set is Running. -/
def State.deepRuns (s : State) : Bool := (List.finRange 4).any fun t => (s.shear t).deep && (s.tenant t).st == .running

/-- AON_COOL.EN: the GDDR6 is in self-refresh while it is set; clearing it retrains every channel, in sleep only at the
exit (R434, R440). -/
def State.coolWrite (s : State) (en : Bool) : WrRes :=
  let s1 := s.modAon fun a => { a with cool := en }
  let on := en || !s.fabricRuns
  wrIf (!(en && s.deepRuns)) s
    { s1 with deep := s1.deep.map fun d =>
        { d with selfRef := on, chan := d.chan.map fun c => if c.trained then { c with sr := on } else c } }

/-! ### Registers (R450, R451) -/

/-- Non-reserved bits. -/
def aonMask (off : Nat) : Word :=
  if off = 0x004 then 0x3
  else if off = 0x008 then 0xF00000F7
  else if 0x010 ≤ off ∧ off < 0x020 then 0x3
  else if 0x020 ≤ off ∧ off < 0x030 then 0x80001FFF
  else if off = 0x080 then 0xFFFF03FF
  else if 0x090 ≤ off ∧ off < 0x0B0 then 0xFC1FFFFF
  else if off = 0x0C0 then 0x1
  else 0xFFFFFFFF

/-- A write that only port 0 and the MP may make. -/
def zeroOrMp (r : Req) : Bool := r == .port 0 || r == .mp

/-- The unit a GLORY slot names belongs to the writer (R445). -/
def State.slotUnitOk (s : State) (r : Req) (src unit : Nat) : Bool :=
  match src with
  | 0 => true
  | 1 => mayUse r (s.owner (ownPin unit))
  | 2 => mayUse r (s.owner (ownPin unit))
  | 3 => decide (unit < 2) && mayUse r (s.owner (ownIn unit))
  | 4 => decide (unit < 8) && mayUse r (s.owner (ownIn (2 + unit)))
  | _ => false

/-- Write AON_GLORY_SLOT (R445, R451). -/
def State.slotSet (s : State) (r : Req) (i : Nat) (v : Word) : WrRes :=
  let o := match r with | .port p => p.val | _ => 0
  wrIf (r != .smbus && s.slotUnitOk r (bitsOf v.toNat 28 3) (bitsOf v.toNat 16 5)) s
    (s.modAon fun a => { a with slots := Tab.put a.slots 0 i ((v &&& 0xF01FFFFF) ||| BitVec.ofNat 32 (o * 2 ^ 26)) })

/-- Write an always-on register. -/
def State.aonWrite (s : State) (r : Req) (off : Nat) (v : Word) : WrRes :=
  let pins := s.ownPins r none
  let mix (old : BitVec 32) : BitVec 32 := (old &&& ~~~pins) ||| (v &&& pins)
  if off = 0x004 then
    let s1 := if v.getLsbD 1 then s.padRelease r else s
    wrIf (r != .smbus) s (if v.getLsbD 0 then s1.wake 0 false none else s1)
  else if off = 0x008 then
    wrOk (s.modAon fun a =>
      { a with
        govLimit := a.govLimit && !v.getLsbD 2
        aborted := a.aborted && !v.getLsbD 1
        refused := a.refused && !v.getLsbD 0 })
  else if 0x010 ≤ off ∧ off < 0x020 then
    let p : Port := Fin.ofNat 4 ((off - 0x010) / 4)
    wrIf (ownsOrMp r p) s (s.voteWrite p (bitsOf v.toNat 0 2))
  else if 0x020 ≤ off ∧ off < 0x030 then
    let p : Port := Fin.ofNat 4 ((off - 0x020) / 4)
    wrIf (ownsOrMp r p) s (s.modAon fun a => { a with objs := Tab.put a.objs 0 p.val v })
  else if off = 0x040 then wrIf (r != .smbus) s (s.modAon fun a => { a with wakeEdge := mix a.wakeEdge })
  else if off = 0x044 then
    wrIf (r != .smbus) s ((s.modAon fun a => { a with wakeLvl := mix a.wakeLvl }).wakeLevels)
  else if off = 0x048 then
    wrIf (r != .smbus) s ((s.modAon fun a => { a with wakePol := mix a.wakePol }).wakeLevels)
  else if off = 0x04C then wrIf (zeroOrMp r) s (s.modAon fun a => { a with wakeTime := v.toNat })
  else if off = 0x080 then
    wrIf (zeroOrMp r && bitsOf v.toNat 0 10 != 0) s
      (s.modAon fun a => { a with gloryPeriod := bitsOf v.toNat 16 16, gloryWin := bitsOf v.toNat 0 10 })
  else if 0x090 ≤ off ∧ off < 0x0B0 then s.slotSet r ((off - 0x090) / 4) v
  else if off = 0x0C0 then (if zeroOrMp r then s.coolWrite (v.getLsbD 0) else wrNo s)
  else wrOk s

/-- The clusters that hold a stale core (R443). -/
def State.staleClusters (s : State) : Nat :=
  (List.range 32).foldl (fun m c => if (s.coresIn c).any fun k => (s.core k).e.cr.stale then m + 2 ^ c else m) 0

/-- AON_STATE.STATE: RUN while a tenant runs, IDLE while the device is awake otherwise (R434). -/
def State.powerState (s : State) : Nat :=
  if s.aon.st ≠ 0 then s.aon.st else if (List.finRange 4).any fun t => (s.tenant t).st == .running then 0 else 1

/-- Clear an RC counter of the always-on block. -/
def Aon.clearRc (a : Aon) (off : Nat) : Aon :=
  match off with
  | 0x054 => { a with lost := 0 }
  | 0x084 => { a with gloryCnt := 0 }
  | 0x0E4 => { a with retCe := 0 }
  | _ => a

/-- Read an always-on register. -/
def State.aonRead (s : State) (off : Nat) : RdRes :=
  let a := s.aon
  rdThen (s.modAon (·.clearRc off))
    (match off with
     | 0x000 => s.target * 256 + b2n a.entering.isSome * 128 + s.powerState
     | 0x008 => a.cause * 2 ^ 28 + a.padsHeld.toNat * 16 + b2n a.govLimit * 4 + b2n a.aborted * 2 + b2n a.refused
     | 0x010 => a.votes[0] | 0x014 => a.votes[1] | 0x018 => a.votes[2] | 0x01C => a.votes[3]
     | 0x020 => (Tab.get a.objs 0 0).toNat | 0x024 => (Tab.get a.objs 0 1).toNat
     | 0x028 => (Tab.get a.objs 0 2).toNat | 0x02C => (Tab.get a.objs 0 3).toNat
     | 0x040 => a.wakeEdge.toNat
     | 0x044 => a.wakeLvl.toNat
     | 0x048 => a.wakePol.toNat
     | 0x04C => a.wakeTime
     | 0x050 => a.srcPin * 2 ^ 16 + a.srcSlots.toNat * 256 + a.srcBits.toNat
     | 0x054 => a.lost
     | 0x080 => a.gloryPeriod * 2 ^ 16 + a.gloryWin
     | 0x084 => a.gloryCnt
     | 0x0C0 => b2n a.cool
     | 0x0C4 => s.govF * 2 ^ 24 + (if a.cool then 10 else 55) * 2 ^ 16 + a.power.toNat
     | 0x0E0 => s.staleClusters
     | 0x0E4 => a.retCe
     | o => if 0x090 ≤ o ∧ o < 0x0B0 then (Tab.get a.slots 0 ((o - 0x090) / 4)).toNat else 0)

end Sys2Proof.Machine
end

