-- ==== Sys2Proof/Machine/Digest.lean ====
section
/-!
DEFINITION. Check codes and digests: CRC-8 (R162), the CRC-16 of the Kojan Event Link (R387) and SHA3-256 (FIPS 202).
-/

namespace Sys2Proof.Machine

/-- One byte of a CRC of width w, most significant bit first. -/
def crcByte (w poly : Nat) (crc : Nat) (b : Byte) : Nat :=
  (List.range 8).foldl
    (fun c _ => if c.testBit (w - 1) then ((c <<< 1) ^^^ poly) % 2 ^ w else (c <<< 1) % 2 ^ w)
    (crc ^^^ (b.toNat <<< (w - 8)))

/-- CRC-8: x^8 + x^2 + x + 1, initial value 0 (R162). -/
def crc8 (bs : List Byte) : Nat := bs.foldl (crcByte 8 0x07) 0
/-- CRC-16: polynomial 0x1021, initial value 0xFFFF (R387). -/
def crc16 (bs : List Byte) : Nat := bs.foldl (crcByte 16 0x1021) 0xFFFF

/-! ### SHA3-256 -/

/-- The round constants and rotation offsets of Keccak-f[1600]. -/
def keccakRc : List (BitVec 64) :=
  [0x0000000000000001, 0x0000000000008082, 0x800000000000808A, 0x8000000080008000, 0x000000000000808B,
   0x0000000080000001, 0x8000000080008081, 0x8000000000008009, 0x000000000000008A, 0x0000000000000088,
   0x0000000080008009, 0x000000008000000A] ++
  [0x000000008000808B, 0x800000000000008B, 0x8000000000008089, 0x8000000000008003, 0x8000000000008002,
   0x8000000000000080, 0x000000000000800A, 0x800000008000000A, 0x8000000080008081, 0x8000000000008080,
   0x0000000080000001, 0x8000000080008008]
def keccakRot : List Nat :=
  [0, 1, 62, 28, 27, 36, 44, 6, 55, 20, 3, 10, 43, 25, 39, 41, 45, 15, 21, 8, 18, 2, 61, 56, 14]

/-- Lane i of the state. -/
def lane (a : List (BitVec 64)) (i : Nat) : BitVec 64 := a.getD i 0

/-- One round of Keccak-f[1600]. -/
def keccakRound (a : List (BitVec 64)) (rc : BitVec 64) : List (BitVec 64) :=
  let c := (List.range 5).map fun x => lane a x ^^^ lane a (x + 5) ^^^ lane a (x + 10) ^^^ lane a (x + 15) ^^^ lane a (x + 20)
  let d := (List.range 5).map fun x => lane c ((x + 4) % 5) ^^^ (lane c ((x + 1) % 5)).rotateLeft 1
  let t := (List.range 25).map fun i => lane a i ^^^ lane d (i % 5)
  let b := (List.range 25).map fun i =>
    let j := (i % 5 + 3 * (i / 5)) % 5 + 5 * (i % 5)
    (lane t j).rotateLeft (keccakRot.getD j 0)
  (List.range 25).map fun i =>
    let row := i / 5 * 5
    let v := lane b i ^^^ (~~~(lane b (row + (i + 1) % 5)) &&& lane b (row + (i + 2) % 5))
    if i = 0 then v ^^^ rc else v

/-- The permutation. -/
def keccakF (a : List (BitVec 64)) : List (BitVec 64) := keccakRc.foldl keccakRound a

/-- Absorb n whole blocks of 136 bytes. -/
def absorb (a : List (BitVec 64)) (bs : List Byte) : Nat → List (BitVec 64)
  | 0 => a
  | n + 1 =>
    absorb (keccakF ((List.range 25).map fun i =>
      if i < 17 then lane a i ^^^ BitVec.ofNat 64 (leNat ((bs.drop (8 * i)).take 8)) else lane a i)) (bs.drop 136) n

/-- The padding of a message of a length. -/
def sha3Pad (len : Nat) : List Byte :=
  let q := 136 - len % 136
  if q = 1 then [0x86] else 0x06 :: (List.replicate (q - 2) 0 ++ [0x80])

/-- The SHA3-256 digest of a message. -/
def sha3 (bs : List Byte) : List Byte :=
  let a := absorb (List.replicate 25 0) (bs ++ sha3Pad bs.length) (bs.length / 136 + 1)
  (a.take 4).flatMap fun w => leBytes 8 w.toNat

end Sys2Proof.Machine
end

