-- ==== Sys2Proof/Machine/Control.lean ====
section
/-!
DEFINITION. Branches, CALL, hardware loops and the block walk (R74, R118 to R121).
-/

namespace Sys2Proof.Machine

/-- Branch to the target when the condition holds (R118). -/
def branchIf (cond : Bool) (target : BitVec 12) (s : State) : Res := if cond then .jump s target false else .done s

/-- A LOOP may not end on such a word: a branch, CALL, LOOP, LOOPI, NXTBLK, END or RET, legal or not (R120). -/
def loopEndBad (w : Word) : Bool :=
  let op := fld w 26 6
  let fn := fld w 0 6
  (decide (0x30 ≤ op) && decide (op ≤ 0x35)) || (op == 0x38 && (fn == 1 || fn == 2))

/-- LOOP and LOOPI with their count (R120). -/
def loopStart (k : Nat) (count : Word) (target : BitVec 12) (s : State) : Res :=
  let pc := (s.core k).e.regs.pc
  if target.toNat ≤ pc.toNat then .fault 1
  else if s.ueAt (progAddr k target.toNat) then .fault 6
  else if loopEndBad (s.readWord (progAddr k target.toNat)) then .fault 1
  else if count = 0 then
    .goto (s.modE k fun e =>
      { e with regs := { e.regs with lc := 0 }, loop := { e.loop with on := false } }) (target + 1)
  else
    .goto (s.modE k fun e =>
      { e with regs := { e.regs with lc := count }, loop := ⟨true, pc + 1, target⟩ }) (pc + 1)

/-- The current block is left: a block that NXTBLK.A made current is stamped (R74). -/
def State.leaveBlock (s : State) (k : Nat) : State :=
  match (s.core k).e.blk.cur, (s.core k).e.blk.stampOnLeave with
  | some b, true => s.stamp k b.val
  | _, _ => s

/-- NXTBLK.A and NXTBLK.P with what they find (R74). -/
def walk (k : Nat) (g : GReg) (target : BitVec 12) (active : Bool) (s : State) : Res :=
  let e := (s.core k).e
  if e.st ≠ .update then .fault 4
  else
    match nextBlk (if active then e.blk.active else e.blk.pending) (if active then e.blk.curA else e.blk.curP) with
    | none =>
      .jump ((s.leaveBlock k).modE k fun e => { e with blk := { e.blk with cur := none, stampOnLeave := false } })
        target true
    | some b =>
      let same := !active && e.blk.cur == some b
      let s1 := (if same then s else s.leaveBlock k).modE k fun e =>
        let blk := { e.blk with cur := some b, stampOnLeave := active || (same && e.blk.stampOnLeave) }
        { e with blk :=
            if active then { blk with curA := b.val + 1 }
            else { blk with curP := b.val + 1, pending := clrBlk blk.pending b.val } }
      .done (s1.setG k g (BitVec.ofNat 32 (16 * b.val)))

/-- BR: always branches (R118) -/
def effIBr (_k : Nat) (target : BitVec 12) (s : State) : Res :=
  branchIf true target s
/-- BR executed by core c. -/
def execIBr (c : CoreId) (target : BitVec 12) (s : State) : Host.Outcome State Fault Refusal :=
  issued c (.iBr c target) (effIBr c.key target) s

/-- BEQ: branches on g[RA] == g[RB] (R118) -/
def effIBeq (k : Nat) (ra rb : GReg) (target : BitVec 12) (s : State) : Res :=
  let a := s.getG k ra
  let b := s.getG k rb
  branchIf (a == b) target s
/-- BEQ executed by core c. -/
def execIBeq (c : CoreId) (ra rb : GReg) (target : BitVec 12) (s : State) : Host.Outcome State Fault Refusal :=
  issued c (.iBeq c ra rb target) (effIBeq c.key ra rb target) s

/-- BNE: branches on g[RA] != g[RB] (R118) -/
def effIBne (k : Nat) (ra rb : GReg) (target : BitVec 12) (s : State) : Res :=
  let a := s.getG k ra
  let b := s.getG k rb
  branchIf (a != b) target s
/-- BNE executed by core c. -/
def execIBne (c : CoreId) (ra rb : GReg) (target : BitVec 12) (s : State) : Host.Outcome State Fault Refusal :=
  issued c (.iBne c ra rb target) (effIBne c.key ra rb target) s

/-- BLT: branches on signed < (R118) -/
def effIBlt (k : Nat) (ra rb : GReg) (target : BitVec 12) (s : State) : Res :=
  let a := s.getG k ra
  let b := s.getG k rb
  branchIf (decide (a.toInt < b.toInt)) target s
/-- BLT executed by core c. -/
def execIBlt (c : CoreId) (ra rb : GReg) (target : BitVec 12) (s : State) : Host.Outcome State Fault Refusal :=
  issued c (.iBlt c ra rb target) (effIBlt c.key ra rb target) s

/-- BGE: branches on signed ≥ (R118) -/
def effIBge (k : Nat) (ra rb : GReg) (target : BitVec 12) (s : State) : Res :=
  let a := s.getG k ra
  let b := s.getG k rb
  branchIf (decide (b.toInt ≤ a.toInt)) target s
/-- BGE executed by core c. -/
def execIBge (c : CoreId) (ra rb : GReg) (target : BitVec 12) (s : State) : Host.Outcome State Fault Refusal :=
  issued c (.iBge c ra rb target) (effIBge c.key ra rb target) s

/-- BLTU: branches on unsigned < (R118) -/
def effIBltu (k : Nat) (ra rb : GReg) (target : BitVec 12) (s : State) : Res :=
  let a := s.getG k ra
  let b := s.getG k rb
  branchIf (decide (a.toNat < b.toNat)) target s
/-- BLTU executed by core c. -/
def execIBltu (c : CoreId) (ra rb : GReg) (target : BitVec 12) (s : State) : Host.Outcome State Fault Refusal :=
  issued c (.iBltu c ra rb target) (effIBltu c.key ra rb target) s

/-- BGEU: branches on unsigned ≥ (R118) -/
def effIBgeu (k : Nat) (ra rb : GReg) (target : BitVec 12) (s : State) : Res :=
  let a := s.getG k ra
  let b := s.getG k rb
  branchIf (decide (b.toNat ≤ a.toNat)) target s
/-- BGEU executed by core c. -/
def execIBgeu (c : CoreId) (ra rb : GReg) (target : BitVec 12) (s : State) : Host.Outcome State Fault Refusal :=
  issued c (.iBgeu c ra rb target) (effIBgeu c.key ra rb target) s

/-- BZ: branches when g[RA] is 0 (R118) -/
def effIBz (k : Nat) (ra : GReg) (target : BitVec 12) (s : State) : Res :=
  branchIf (s.getG k ra == 0) target s
/-- BZ executed by core c. -/
def execIBz (c : CoreId) (ra : GReg) (target : BitVec 12) (s : State) : Host.Outcome State Fault Refusal :=
  issued c (.iBz c ra target) (effIBz c.key ra target) s

/-- BNZ: branches when g[RA] is not 0 (R118) -/
def effIBnz (k : Nat) (ra : GReg) (target : BitVec 12) (s : State) : Res :=
  branchIf (s.getG k ra != 0) target s
/-- BNZ executed by core c. -/
def execIBnz (c : CoreId) (ra : GReg) (target : BitVec 12) (s : State) : Host.Outcome State Fault Refusal :=
  issued c (.iBnz c ra target) (effIBnz c.key ra target) s

/-- BANY: branches when any bit of the mask is set (R118) -/
def effIBany (k : Nat) (m : MReg) (target : BitVec 12) (s : State) : Res :=
  branchIf (s.getM k m != 0) target s
/-- BANY executed by core c. -/
def execIBany (c : CoreId) (m : MReg) (target : BitVec 12) (s : State) : Host.Outcome State Fault Refusal :=
  issued c (.iBany c m target) (effIBany c.key m target) s

/-- BNONE: branches when no bit of the mask is set (R118) -/
def effIBnone (k : Nat) (m : MReg) (target : BitVec 12) (s : State) : Res :=
  branchIf (s.getM k m == 0) target s
/-- BNONE executed by core c. -/
def execIBnone (c : CoreId) (m : MReg) (target : BitVec 12) (s : State) : Host.Outcome State Fault Refusal :=
  issued c (.iBnone c m target) (effIBnone c.key m target) s

/-- CALL: LR takes the address of the following instruction (R119) -/
def effICall (k : Nat) (target : BitVec 12) (s : State) : Res :=
  .jump (s.modE k fun e => { e with regs := { e.regs with lr := (e.regs.pc + 1).setWidth 32 } }) target false
/-- CALL executed by core c. -/
def execICall (c : CoreId) (target : BitVec 12) (s : State) : Host.Outcome State Fault Refusal :=
  issued c (.iCall c target) (effICall c.key target) s

/-- LOOP: starts a hardware loop with its count in g (R120) -/
def effILoop (k : Nat) (g : GReg) (target : BitVec 12) (s : State) : Res :=
  loopStart k (s.getG k g) target s
/-- LOOP executed by core c. -/
def execILoop (c : CoreId) (g : GReg) (target : BitVec 12) (s : State) : Host.Outcome State Fault Refusal :=
  issued c (.iLoop c g target) (effILoop c.key g target) s

/-- LOOPI: starts a hardware loop with an immediate count (R120) -/
def effILoopi (k : Nat) (count : BitVec 10) (target : BitVec 12) (s : State) : Res :=
  loopStart k (count.setWidth 32) target s
/-- LOOPI executed by core c. -/
def execILoopi (c : CoreId) (count : BitVec 10) (target : BitVec 12) (s : State) : Host.Outcome State Fault Refusal :=
  issued c (.iLoopi c count target) (effILoopi c.key count target) s

/-- NXTBLK_A: the next block of the active set (R74, R121) -/
def effINxtblkA (k : Nat) (g : GReg) (target : BitVec 12) (s : State) : Res :=
  walk k g target true s
/-- NXTBLK_A executed by core c. -/
def execINxtblkA (c : CoreId) (g : GReg) (target : BitVec 12) (s : State) : Host.Outcome State Fault Refusal :=
  issued c (.iNxtblkA c g target) (effINxtblkA c.key g target) s

/-- NXTBLK_P: the next block of the pending set, whose bit it clears (R74, R121) -/
def effINxtblkP (k : Nat) (g : GReg) (target : BitVec 12) (s : State) : Res :=
  walk k g target false s
/-- NXTBLK_P executed by core c. -/
def execINxtblkP (c : CoreId) (g : GReg) (target : BitVec 12) (s : State) : Host.Outcome State Fault Refusal :=
  issued c (.iNxtblkP c g target) (effINxtblkP c.key g target) s

end Sys2Proof.Machine
end

