-- ==== Sys2Proof/Machine/LoadStore.lean ====
section
/-!
DEFINITION. Loads and stores through the memory views (R67, R68, R112 to R114).
-/

namespace Sys2Proof.Machine

/-- An SY load of an uncorrectable word does not complete, and the device fault of R147 follows, once. -/
def syHang (k i : Nat) (s : State) : Res :=
  .stall (if (s.core k).e.stall.isSome then s else s.eccFault (k / 32) 2 (viewEccAddr k 5 i)) .access 0

/-- LD: loads one element into a g register (R114) -/
def effILd (k : Nat) (reg ra : GReg) (view : Fin 7) (sfx : Fin 3) (off : BitVec 11) (s : State) : Res :=
  match s.viewIndex k view.val ra off with
  | none => .fault 2
  | some i =>
    if view.val = 5 ∧ s.ueAt (viewEccAddr k 5 i) then syHang k i s
    else if s.viewUe k view.val sfx.val i false then .fault 6
    else .done (s.setG k reg (s.viewLoad k view.val sfx.val i))
/-- LD executed by core c. -/
def execILd (c : CoreId) (reg ra : GReg) (view : Fin 7) (sfx : Fin 3) (off : BitVec 11) (s : State) : Host.Outcome State Fault Refusal :=
  issued c (.iLd c reg ra view sfx off) (effILd c.key reg ra view sfx off) s

/-- ST: stores a g register into one element (R114) -/
def effISt (k : Nat) (reg ra : GReg) (view : Fin 7) (sfx : Fin 3) (off : BitVec 11) (s : State) : Res :=
  if viewReadOnly view.val then .fault 3
  else match s.viewIndex k view.val ra off with
    | none => .fault 2
    | some i =>
      if s.viewUe k view.val sfx.val i true then .fault 6
      else
        let w := s.getG k reg
        .done ((s.viewStore k view.val sfx.val i w).noteClip k (storeClips view.val sfx.val w))
/-- ST executed by core c. -/
def execISt (c : CoreId) (reg ra : GReg) (view : Fin 7) (sfx : Fin 3) (off : BitVec 11) (s : State) : Host.Outcome State Fault Refusal :=
  issued c (.iSt c reg ra view sfx off) (effISt c.key reg ra view sfx off) s

/-- VLD: loads the masked elements of a block (R68, R114) -/
def effIVld (k : Nat) (reg : VReg) (ra : GReg) (view : Fin 7) (sfx : Fin 3) (m : MReg) (off : BitVec 11) (s : State) : Res :=
  match s.viewIndex k view.val ra off with
  | none => .fault 2
  | some i =>
    let base := 16 * (i / 16)
    let mask := s.getM k m
    if vany mask (fun e => s.viewUe k view.val sfx.val (base + e.val) false) then .fault 6
    else .done (s.setV k reg
      (vmask mask (vmap fun e => s.viewLoad k view.val sfx.val (base + e.val)) (s.getV k reg)))
/-- VLD executed by core c. -/
def execIVld (c : CoreId) (reg : VReg) (ra : GReg) (view : Fin 7) (sfx : Fin 3) (m : MReg) (off : BitVec 11) (s : State) : Host.Outcome State Fault Refusal :=
  issued c (.iVld c reg ra view sfx m off) (effIVld c.key reg ra view sfx m off) s

/-- VST: stores the masked elements of a block (R68, R114) -/
def effIVst (k : Nat) (reg : VReg) (ra : GReg) (view : Fin 7) (sfx : Fin 3) (m : MReg) (off : BitVec 11) (s : State) : Res :=
  match s.viewIndex k view.val ra off with
  | none => .fault 2
  | some i =>
    let base := 16 * (i / 16)
    let mask := s.getM k m
    let x := s.getV k reg
    if vany mask (fun e => s.viewUe k view.val sfx.val (base + e.val) true) then .fault 6
    else
      let t := (List.finRange 16).foldl (fun t e =>
        if mask.getLsbD e.val then t.viewStore k view.val sfx.val (base + e.val) x[e.val] else t) s
      .done (t.noteClip k (vany mask fun e => storeClips view.val sfx.val x[e.val]))
/-- VST executed by core c. -/
def execIVst (c : CoreId) (reg : VReg) (ra : GReg) (view : Fin 7) (sfx : Fin 3) (m : MReg) (off : BitVec 11) (s : State) : Host.Outcome State Fault Refusal :=
  issued c (.iVst c reg ra view sfx m off) (effIVst c.key reg ra view sfx m off) s

end Sys2Proof.Machine
end

