-- ==== Sys2Proof/Machine/Scalar.lean ====
section
/-!
DEFINITION. Scalar register and immediate instructions (R107, R108).
-/

namespace Sys2Proof.Machine

/-- rd takes a function of ra and rb. -/
def scalar2 (k : Nat) (rd ra rb : GReg) (f : Word → Word → Word) (s : State) : Res :=
  .done (s.setG k rd (f (s.getG k ra) (s.getG k rb)))

/-- rd takes a function of ra. -/
def scalar1 (k : Nat) (rd ra : GReg) (f : Word → Word) (s : State) : Res := .done (s.setG k rd (f (s.getG k ra)))

/-- A shift amount taken from a register: bits [4:0] only (R107). -/
def shAmt (w : Word) : Nat := w.toNat % 32

/-- ADD: rd = ra + rb (R107) -/
def effIAdd (k : Nat) (rd ra rb : GReg) (s : State) : Res :=
  scalar2 k rd ra rb (fun a b => a + b) s
/-- ADD executed by core c. -/
def execIAdd (c : CoreId) (rd ra rb : GReg) (s : State) : Host.Outcome State Fault Refusal :=
  issued c (.iAdd c rd ra rb) (effIAdd c.key rd ra rb) s

/-- SUB: rd = ra − rb (R107) -/
def effISub (k : Nat) (rd ra rb : GReg) (s : State) : Res :=
  scalar2 k rd ra rb (fun a b => a - b) s
/-- SUB executed by core c. -/
def execISub (c : CoreId) (rd ra rb : GReg) (s : State) : Host.Outcome State Fault Refusal :=
  issued c (.iSub c rd ra rb) (effISub c.key rd ra rb) s

/-- AND: rd = ra & rb (R107) -/
def effIAnd (k : Nat) (rd ra rb : GReg) (s : State) : Res :=
  scalar2 k rd ra rb (fun a b => a &&& b) s
/-- AND executed by core c. -/
def execIAnd (c : CoreId) (rd ra rb : GReg) (s : State) : Host.Outcome State Fault Refusal :=
  issued c (.iAnd c rd ra rb) (effIAnd c.key rd ra rb) s

/-- OR: rd = ra | rb (R107) -/
def effIOr (k : Nat) (rd ra rb : GReg) (s : State) : Res :=
  scalar2 k rd ra rb (fun a b => a ||| b) s
/-- OR executed by core c. -/
def execIOr (c : CoreId) (rd ra rb : GReg) (s : State) : Host.Outcome State Fault Refusal :=
  issued c (.iOr c rd ra rb) (effIOr c.key rd ra rb) s

/-- XOR: rd = ra ^ rb (R107) -/
def effIXor (k : Nat) (rd ra rb : GReg) (s : State) : Res :=
  scalar2 k rd ra rb (fun a b => a ^^^ b) s
/-- XOR executed by core c. -/
def execIXor (c : CoreId) (rd ra rb : GReg) (s : State) : Host.Outcome State Fault Refusal :=
  issued c (.iXor c rd ra rb) (effIXor c.key rd ra rb) s

/-- SLL: rd = ra << rb[4:0] (R107) -/
def effISll (k : Nat) (rd ra rb : GReg) (s : State) : Res :=
  scalar2 k rd ra rb (fun a b => a <<< shAmt b) s
/-- SLL executed by core c. -/
def execISll (c : CoreId) (rd ra rb : GReg) (s : State) : Host.Outcome State Fault Refusal :=
  issued c (.iSll c rd ra rb) (effISll c.key rd ra rb) s

/-- SRL: logical right shift by rb[4:0] (R107) -/
def effISrl (k : Nat) (rd ra rb : GReg) (s : State) : Res :=
  scalar2 k rd ra rb (fun a b => a >>> shAmt b) s
/-- SRL executed by core c. -/
def execISrl (c : CoreId) (rd ra rb : GReg) (s : State) : Host.Outcome State Fault Refusal :=
  issued c (.iSrl c rd ra rb) (effISrl c.key rd ra rb) s

/-- SRA: arithmetic right shift by rb[4:0] (R107) -/
def effISra (k : Nat) (rd ra rb : GReg) (s : State) : Res :=
  scalar2 k rd ra rb (fun a b => a.sshiftRight (shAmt b)) s
/-- SRA executed by core c. -/
def execISra (c : CoreId) (rd ra rb : GReg) (s : State) : Host.Outcome State Fault Refusal :=
  issued c (.iSra c rd ra rb) (effISra c.key rd ra rb) s

/-- MUL: low 32 bits of ra × rb (R107) -/
def effIMul (k : Nat) (rd ra rb : GReg) (s : State) : Res :=
  scalar2 k rd ra rb (fun a b => a * b) s
/-- MUL executed by core c. -/
def execIMul (c : CoreId) (rd ra rb : GReg) (s : State) : Host.Outcome State Fault Refusal :=
  issued c (.iMul c rd ra rb) (effIMul c.key rd ra rb) s

/-- MULHS: high 32 bits of the signed product (R107) -/
def effIMulhs (k : Nat) (rd ra rb : GReg) (s : State) : Res :=
  scalar2 k rd ra rb (fun a b => mulhsWord a b) s
/-- MULHS executed by core c. -/
def execIMulhs (c : CoreId) (rd ra rb : GReg) (s : State) : Host.Outcome State Fault Refusal :=
  issued c (.iMulhs c rd ra rb) (effIMulhs c.key rd ra rb) s

/-- MIN: signed minimum (R107) -/
def effIMin (k : Nat) (rd ra rb : GReg) (s : State) : Res :=
  scalar2 k rd ra rb (fun a b => sminWord a b) s
/-- MIN executed by core c. -/
def execIMin (c : CoreId) (rd ra rb : GReg) (s : State) : Host.Outcome State Fault Refusal :=
  issued c (.iMin c rd ra rb) (effIMin c.key rd ra rb) s

/-- MAX: signed maximum (R107) -/
def effIMax (k : Nat) (rd ra rb : GReg) (s : State) : Res :=
  scalar2 k rd ra rb (fun a b => smaxWord a b) s
/-- MAX executed by core c. -/
def execIMax (c : CoreId) (rd ra rb : GReg) (s : State) : Host.Outcome State Fault Refusal :=
  issued c (.iMax c rd ra rb) (effIMax c.key rd ra rb) s

/-- SLT: 1 if ra < rb, signed (R107) -/
def effISlt (k : Nat) (rd ra rb : GReg) (s : State) : Res :=
  scalar2 k rd ra rb (fun a b => if a.toInt < b.toInt then 1 else 0) s
/-- SLT executed by core c. -/
def execISlt (c : CoreId) (rd ra rb : GReg) (s : State) : Host.Outcome State Fault Refusal :=
  issued c (.iSlt c rd ra rb) (effISlt c.key rd ra rb) s

/-- SLTU: 1 if ra < rb, unsigned (R107) -/
def effISltu (k : Nat) (rd ra rb : GReg) (s : State) : Res :=
  scalar2 k rd ra rb (fun a b => if a.toNat < b.toNat then 1 else 0) s
/-- SLTU executed by core c. -/
def execISltu (c : CoreId) (rd ra rb : GReg) (s : State) : Host.Outcome State Fault Refusal :=
  issued c (.iSltu c rd ra rb) (effISltu c.key rd ra rb) s

/-- SLLI: rd = ra << SH (R107) -/
def effISlli (k : Nat) (rd ra : GReg) (sh : BitVec 5) (s : State) : Res :=
  scalar1 k rd ra (fun a => a <<< sh.toNat) s
/-- SLLI executed by core c. -/
def execISlli (c : CoreId) (rd ra : GReg) (sh : BitVec 5) (s : State) : Host.Outcome State Fault Refusal :=
  issued c (.iSlli c rd ra sh) (effISlli c.key rd ra sh) s

/-- SRLI: logical right shift by SH (R107) -/
def effISrli (k : Nat) (rd ra : GReg) (sh : BitVec 5) (s : State) : Res :=
  scalar1 k rd ra (fun a => a >>> sh.toNat) s
/-- SRLI executed by core c. -/
def execISrli (c : CoreId) (rd ra : GReg) (sh : BitVec 5) (s : State) : Host.Outcome State Fault Refusal :=
  issued c (.iSrli c rd ra sh) (effISrli c.key rd ra sh) s

/-- SRAI: arithmetic right shift by SH (R107) -/
def effISrai (k : Nat) (rd ra : GReg) (sh : BitVec 5) (s : State) : Res :=
  scalar1 k rd ra (fun a => a.sshiftRight sh.toNat) s
/-- SRAI executed by core c. -/
def execISrai (c : CoreId) (rd ra : GReg) (sh : BitVec 5) (s : State) : Host.Outcome State Fault Refusal :=
  issued c (.iSrai c rd ra sh) (effISrai c.key rd ra sh) s

/-- SAT_S8: clamp to −128…127 (R107) -/
def effISatS8 (k : Nat) (rd ra : GReg) (s : State) : Res :=
  scalar1 k rd ra (fun a => satWord (-128) 127 a) s
/-- SAT_S8 executed by core c. -/
def execISatS8 (c : CoreId) (rd ra : GReg) (s : State) : Host.Outcome State Fault Refusal :=
  issued c (.iSatS8 c rd ra) (effISatS8 c.key rd ra) s

/-- SAT_S16: clamp to −32,768…32,767 (R107) -/
def effISatS16 (k : Nat) (rd ra : GReg) (s : State) : Res :=
  scalar1 k rd ra (fun a => satWord (-32768) 32767 a) s
/-- SAT_S16 executed by core c. -/
def execISatS16 (c : CoreId) (rd ra : GReg) (s : State) : Host.Outcome State Fault Refusal :=
  issued c (.iSatS16 c rd ra) (effISatS16 c.key rd ra) s

/-- SAT_U8: clamp to 0…255 (R107) -/
def effISatU8 (k : Nat) (rd ra : GReg) (s : State) : Res :=
  scalar1 k rd ra (fun a => satWord 0 255 a) s
/-- SAT_U8 executed by core c. -/
def execISatU8 (c : CoreId) (rd ra : GReg) (s : State) : Host.Outcome State Fault Refusal :=
  issued c (.iSatU8 c rd ra) (effISatU8 c.key rd ra) s

/-- ABS: absolute value (R107) -/
def effIAbs (k : Nat) (rd ra : GReg) (s : State) : Res :=
  scalar1 k rd ra (fun a => absWord a) s
/-- ABS executed by core c. -/
def execIAbs (c : CoreId) (rd ra : GReg) (s : State) : Host.Outcome State Fault Refusal :=
  issued c (.iAbs c rd ra) (effIAbs c.key rd ra) s

/-- SRS: rd = sround(ra, SH), with one draw (R81, R107) -/
def effISrs (k : Nat) (rd ra : GReg) (sh : BitVec 5) (s : State) : Res :=
  let r := xorshift (s.core k).e.regs.rng
  .done ((s.setRng k r).setG k rd (sroundWith r (s.getG k ra).toInt sh.toNat))
/-- SRS executed by core c. -/
def execISrs (c : CoreId) (rd ra : GReg) (sh : BitVec 5) (s : State) : Host.Outcome State Fault Refusal :=
  issued c (.iSrs c rd ra sh) (effISrs c.key rd ra sh) s

/-- RAND: rd = xorshift_next (R81, R107) -/
def effIRand (k : Nat) (rd : GReg) (s : State) : Res :=
  let r := xorshift (s.core k).e.regs.rng
  .done ((s.setRng k r).setG k rd r)
/-- RAND executed by core c. -/
def execIRand (c : CoreId) (rd : GReg) (s : State) : Host.Outcome State Fault Refusal :=
  issued c (.iRand c rd) (effIRand c.key rd) s

/-- MULS: rd = sat32((ra × rb) >> SH) (R107) -/
def effIMuls (k : Nat) (rd ra rb : GReg) (sh : BitVec 5) (s : State) : Res :=
  scalar2 k rd ra rb (fun a b => mulsWord a b sh.toNat) s
/-- MULS executed by core c. -/
def execIMuls (c : CoreId) (rd ra rb : GReg) (sh : BitVec 5) (s : State) : Host.Outcome State Fault Refusal :=
  issued c (.iMuls c rd ra rb sh) (effIMuls c.key rd ra rb sh) s

/-- ADDI: rd = ra + sext(IMM18) (R108) -/
def effIAddi (k : Nat) (rd ra : GReg) (imm : BitVec 18) (s : State) : Res :=
  scalar1 k rd ra (fun a => a + imm.signExtend 32) s
/-- ADDI executed by core c. -/
def execIAddi (c : CoreId) (rd ra : GReg) (imm : BitVec 18) (s : State) : Host.Outcome State Fault Refusal :=
  issued c (.iAddi c rd ra imm) (effIAddi c.key rd ra imm) s

/-- ANDI: rd = ra & zext(IMM18) (R108) -/
def effIAndi (k : Nat) (rd ra : GReg) (imm : BitVec 18) (s : State) : Res :=
  scalar1 k rd ra (fun a => a &&& imm.setWidth 32) s
/-- ANDI executed by core c. -/
def execIAndi (c : CoreId) (rd ra : GReg) (imm : BitVec 18) (s : State) : Host.Outcome State Fault Refusal :=
  issued c (.iAndi c rd ra imm) (effIAndi c.key rd ra imm) s

/-- ORI: rd = ra | zext(IMM18) (R108) -/
def effIOri (k : Nat) (rd ra : GReg) (imm : BitVec 18) (s : State) : Res :=
  scalar1 k rd ra (fun a => a ||| imm.setWidth 32) s
/-- ORI executed by core c. -/
def execIOri (c : CoreId) (rd ra : GReg) (imm : BitVec 18) (s : State) : Host.Outcome State Fault Refusal :=
  issued c (.iOri c rd ra imm) (effIOri c.key rd ra imm) s

/-- XORI: rd = ra ^ zext(IMM18) (R108) -/
def effIXori (k : Nat) (rd ra : GReg) (imm : BitVec 18) (s : State) : Res :=
  scalar1 k rd ra (fun a => a ^^^ imm.setWidth 32) s
/-- XORI executed by core c. -/
def execIXori (c : CoreId) (rd ra : GReg) (imm : BitVec 18) (s : State) : Host.Outcome State Fault Refusal :=
  issued c (.iXori c rd ra imm) (effIXori c.key rd ra imm) s

/-- LI: rd = sext(IMM16) (R108) -/
def effILi (k : Nat) (rd : GReg) (imm : BitVec 16) (s : State) : Res :=
  .done (s.setG k rd (imm.signExtend 32))
/-- LI executed by core c. -/
def execILi (c : CoreId) (rd : GReg) (imm : BitVec 16) (s : State) : Host.Outcome State Fault Refusal :=
  issued c (.iLi c rd imm) (effILi c.key rd imm) s

/-- LIH: rd[31:16] = IMM16; rd[15:0] unchanged (R108) -/
def effILih (k : Nat) (rd : GReg) (imm : BitVec 16) (s : State) : Res :=
  .done (s.setG k rd (imm ++ (s.getG k rd).setWidth 16))
/-- LIH executed by core c. -/
def execILih (c : CoreId) (rd : GReg) (imm : BitVec 16) (s : State) : Host.Outcome State Fault Refusal :=
  issued c (.iLih c rd imm) (effILih c.key rd imm) s

end Sys2Proof.Machine
end

