-- ==== Sys2Proof/Machine/System.lean ====
section
/-!
DEFINITION. System, event, queue, sync and learning-control instructions (R122 to R127, R218 to R223).
-/

namespace Sys2Proof.Machine

/-- Queue window entry i of a cluster (R231). -/
def State.qwin (s : State) (cl i : Nat) : QWin := Tab.get (s.cluster cl).qwin {} i

/-- The queue window entry that names a destination queue (R218). -/
def State.findQWin (s : State) (cl : Nat) (dest : BitVec 12) : Option Nat :=
  (List.range 256).find? fun i => (s.qwin cl i).valid && (s.qwin cl i).dest == dest

/-- The destination word of QSEND names a queue the core may send to (R124). -/
def State.qdestOk (s : State) (k : Nat) (w : Word) : Bool :=
  decide (w.toNat < 2 ^ 12) && (s.tenantOf (bitsOf w.toNat 7 5)).isSome &&
    s.tenantOf (bitsOf w.toNat 7 5) == s.coreTenant k && decide (bitsOf w.toNat 2 5 < s.grade.perCluster)

/-- The push descriptor's data, or none when it is in error (R219). -/
def State.pushData (s : State) (cl : Nat) (high : Word) : Option (List Byte) :=
  let lenw := bitsOf high.toNat 24 7
  let offw := bitsOf high.toNat 0 18
  if 64 < lenw ∨ bitsOf high.toNat 18 6 ≠ 0 ∨ 2 ^ 18 < offw + lenw then none
  else some (s.readBytes (shAddr cl offw) (4 * lenw))

/-- The address of CORE_Qq_STAT of the queue a destination word names (R206, R232). -/
def queueRegAddr (dest : Nat) : Nat := coreWindow (dest / 4) + 0x4_9000 + 0x300 + 16 * (dest % 4)

/-- Send a descriptor whose credit has been taken from entry i (R218, R219). -/
def State.sendDesc (s : State) (k i : Nat) (dest : Nat) (high low : Word) : State :=
  let cl := k / 32
  let q := s.qwin cl i
  let t : Tenant := (s.tenantOf cl).getD 0
  match (if high.msb then s.pushData cl high else some []) with
  | none =>
    (s.modCluster cl fun c => { c with qwin := Tab.modify c.qwin {} i fun q => { q with cred := q.cred + 1 } }).gatherError
      cl q.flow
  | some data =>
    s.gatherSubmit cl q.flow
      { op := 1, len := data.length, src := cl, addr := queueRegAddr dest, aux := high ++ low, data := data,
        tenant := t, flow := q.flow, note := i }

/-- Return a receive queue entry's credit to its sender, or release the combined vector it announced (R221, R223). -/
def State.releaseEntry (s : State) (cl : Nat) (x : QEnt) : State :=
  let s1 := match x.origin with
    | some (st, i) => s.sendPkt cl (.qcred st i 1)
    | none => s
  match x.comb with
  | none => s1
  | some j =>
    let n := (Tab.get (s1.cluster cl).comb {} j).elems
    let s2 := s1.writeBytes (shAddr cl (0x3_C000 + 256 * j)) (List.replicate (4 * n) 0)
    s2.modCluster cl fun c => { c with comb := Tab.modify c.comb {} j fun q =>
      { q with done := false, sat := false, received := 0, round := (q.round + 1) % 65536 } }

/-- Change one receive queue of a core. -/
def State.modQ (s : State) (k : Nat) (q : Fin 4) (f : RecvQ → RecvQ) : State :=
  s.modCore k fun c => { c with q := c.q.set q.val (f c.q[q.val]) }

/-- A sync operand: the object number, or none when reserved bits are set (R126). -/
def syncObj (w : Word) : Option Nat := if w.toNat < 2 ^ 13 then some w.toNat else none

/-- NOP: no operation (R122) -/
def effINop (_k : Nat) (s : State) : Res :=
  .done s
/-- NOP executed by core c. -/
def execINop (c : CoreId) (s : State) : Host.Outcome State Fault Refusal :=
  issued c (.iNop c) (effINop c.key) s

/-- END: ends the running entry (R123) -/
def effIEnd (_k : Nat) (s : State) : Res :=
  .ended s
/-- END executed by core c. -/
def execIEnd (c : CoreId) (s : State) : Host.Outcome State Fault Refusal :=
  issued c (.iEnd c) (effIEnd c.key) s

/-- RET: branches to LR[11:0] (R119) -/
def effIRet (k : Nat) (s : State) : Res :=
  .jump s ((s.core k).e.regs.lr.setWidth 12) false
/-- RET executed by core c. -/
def execIRet (c : CoreId) (s : State) : Host.Outcome State Fault Refusal :=
  issued c (.iRet c) (effIRet c.key) s

/-- MFS: g[RD] = special register (R65) -/
def effIMfs (k : Nat) (rd : GReg) (sr : Byte) (s : State) : Res :=
  let t := s.setG k rd (s.mfs k sr.toNat)
  .done (if sr = 0x0C then t.spend else t)
/-- MFS executed by core c. -/
def execIMfs (c : CoreId) (rd : GReg) (sr : Byte) (s : State) : Host.Outcome State Fault Refusal :=
  issued c (.iMfs c rd sr) (effIMfs c.key rd sr) s

/-- MTS: special register = g[RA] (R65) -/
def effIMts (k : Nat) (sr : Byte) (ra : GReg) (s : State) : Res :=
  .done (s.mts k sr.toNat (s.getG k ra))
/-- MTS executed by core c. -/
def execIMts (c : CoreId) (sr : Byte) (ra : GReg) (s : State) : Host.Outcome State Fault Refusal :=
  issued c (.iMts c sr ra) (effIMts c.key sr ra) s

/-- EMIT: sends one event once the emit phase is open (R38, R50, R117) -/
def effIEmit (k : Nat) (ra rb : GReg) (s : State) : Res :=
  let e := (s.core k).e
  let n := (s.getG k ra).toNat
  if !mayEmit e then .fault 4
  else if 8192 ≤ n then .fault 2
  else if !e.fl.phase then .stall (s.reachGate k) .gate 0
  else match (s.reachGate k).emit k n ((s.getG k rb).setWidth 8) with
    | some t => .done t
    | none => .stall (s.reachGate k) .emit 0
/-- EMIT executed by core c. -/
def execIEmit (c : CoreId) (ra rb : GReg) (s : State) : Host.Outcome State Fault Refusal :=
  issued c (.iEmit c ra rb) (effIEmit c.key ra rb) s

/-- QSEND: sends a descriptor to a receive queue (R124, R218) -/
def effIQsend (k : Nat) (ra rb rd : GReg) (s : State) : Res :=
  let w := s.getG k ra
  if !s.qdestOk k w then .fault 7
  else match s.findQWin (k / 32) (w.setWidth 12) with
    | none => .stall s .qsend w
    | some i =>
      if (s.qwin (k / 32) i).cred = 0 then .stall s .qsend w
      else
        let s1 := s.modCluster (k / 32) fun c =>
          { c with qwin := Tab.modify c.qwin {} i fun q => { q with cred := q.cred - 1 } }
        .done (s1.sendDesc k i w.toNat (s.getG k rb) (s.getG k rd))
/-- QSEND executed by core c. -/
def execIQsend (c : CoreId) (ra rb rd : GReg) (s : State) : Host.Outcome State Fault Refusal :=
  issued c (.iQsend c ra rb rd) (effIQsend c.key ra rb rd) s

/-- The entry that the last QRECV on a queue popped is released by the next one (R221, R223). -/
def State.releaseKept (s : State) (k : Nat) (q : Fin 4) : State :=
  match (s.core k).q[q.val].kept with
  | some y => (s.releaseEntry (k / 32) y).modQ k q fun r => { r with kept := none }
  | none => s

/-- QRECV: removes the head descriptor (R125). The entry popped before is released at the QRECV, also when the queue is empty
and the QRECV stalls: the program has asked for the next message (R221, R223). DEDUCED (notes/assumptions/57.md). -/
def effIQrecv (k : Nat) (rd ra : GReg) (q : Fin 4) (s : State) : Res :=
  let s1 := s.releaseKept k q
  match (s.core k).q[q.val].entries with
  | [] => .stall s1 .qrecv (BitVec.ofNat 32 q.val)
  | x :: xs =>
    let s2 := s1.modQ k q fun r => { r with entries := xs, kept := some x, head := (r.head + 1) % 16 }
    .done ((s2.setG k rd (x.desc.extractLsb' 32 32)).setG k ra (x.desc.setWidth 32))
/-- QRECV executed by core c. -/
def execIQrecv (c : CoreId) (rd ra : GReg) (q : Fin 4) (s : State) : Host.Outcome State Fault Refusal :=
  issued c (.iQrecv c rd ra q) (effIQrecv c.key rd ra q) s

/-- QPEEK: the occupancy of a receive queue (R125) -/
def effIQpeek (k : Nat) (rd : GReg) (q : Fin 4) (s : State) : Res :=
  .done (s.setG k rd (BitVec.ofNat 32 (s.core k).q[q.val].entries.length))
/-- QPEEK executed by core c. -/
def execIQpeek (c : CoreId) (rd : GReg) (q : Fin 4) (s : State) : Host.Outcome State Fault Refusal :=
  issued c (.iQpeek c rd q) (effIQpeek c.key rd q) s

/-- SIG: adds to a sync object; posted (R126) -/
def effISig (k : Nat) (ra rb : GReg) (s : State) : Res :=
  match syncObj (s.getG k ra) with
  | none => .fault 7
  | some o => .done (s.sendPkt (k / 32) (.sync 0 o (s.getG k rb) (k % 32)))
/-- SIG executed by core c. -/
def execISig (c : CoreId) (ra rb : GReg) (s : State) : Host.Outcome State Fault Refusal :=
  issued c (.iSig c ra rb) (effISig c.key ra rb) s

/-- WAITS: stalls until a sync object's counter is at least g[RB] (R126) -/
def effIWaits (k : Nat) (ra rb : GReg) (s : State) : Res :=
  match syncObj (s.getG k ra) with
  | none => .fault 7
  | some o =>
    let v := s.getG k rb
    match (s.core k).e.waits with
    | some .met => .done s
    | some .refused => .fault 7
    | w =>
      .stall
        (if w = some (.asked o v) then s
         else (s.sendPkt (k / 32) (.sync 1 o v (k % 32))).modE k fun e => { e with waits := some (.asked o v) })
        .waits (BitVec.ofNat 32 o)
/-- WAITS executed by core c. -/
def execIWaits (c : CoreId) (ra rb : GReg) (s : State) : Host.Outcome State Fault Refusal :=
  issued c (.iWaits c ra rb) (effIWaits c.key ra rb) s

/-- MOD: the modulator value, saturated (R127) -/
def effIMod (k : Nat) (ra : GReg) (s : State) : Res :=
  .done (s.modE k fun e =>
    { e with md := { e.md with value := (satWord (-128) 127 (s.getG k ra)).setWidth 8 } })
/-- MOD executed by core c. -/
def execIMod (c : CoreId) (ra : GReg) (s : State) : Host.Outcome State Fault Refusal :=
  issued c (.iMod c ra) (effIMod c.key ra) s

/-- MSKIP: the next commit leaves the plastic rows unchanged (R127) -/
def effIMskip (k : Nat) (s : State) : Res :=
  .done (s.modE k fun e => { e with md := { e.md with skip := true } })
/-- MSKIP executed by core c. -/
def execIMskip (c : CoreId) (s : State) : Host.Outcome State Fault Refusal :=
  issued c (.iMskip c) (effIMskip c.key) s

end Sys2Proof.Machine
end

