-- ==== Sys2Proof/Machine/Vector.lean ====
section
/-!
DEFINITION. Vector and mask instructions (R109 to R111).
-/

namespace Sys2Proof.Machine

/-- Each masked element of vd takes a function of va and vb (R109). -/
def vector2 (k : Nat) (vd va vb : VReg) (m : MReg) (f : Word → Word → Word) (s : State) : Res :=
  let a := s.getV k va
  let b := s.getV k vb
  .done (s.setV k vd (vmask (s.getM k m) (vmap fun e => f a[e.val] b[e.val]) (s.getV k vd)))

/-- Each masked element of vd takes a function of va. -/
def vector1 (k : Nat) (vd va : VReg) (m : MReg) (f : Word → Word) (s : State) : Res :=
  let a := s.getV k va
  .done (s.setV k vd (vmask (s.getM k m) (vmap fun e => f a[e.val]) (s.getV k vd)))

/-- A vector saturation: sets STAT.VSAT when it clips a masked element (R110). -/
def vsat (k : Nat) (vd va : VReg) (m : MReg) (lo hi : Int) (s : State) : Res :=
  let a := s.getV k va
  let mask := s.getM k m
  .done ((s.setV k vd (vmask mask (vmap fun e => satWord lo hi a[e.val]) (s.getV k vd))).noteClip k
    (vany mask fun e => clips lo hi a[e.val]))

/-- A compare: writes all 16 bits of md; m0 ignores it (R110). -/
def vcmp (k : Nat) (md : MReg) (va vb : VReg) (f : Word → Word → Bool) (s : State) : Res :=
  let a := s.getV k va
  let b := s.getV k vb
  .done (s.setM k md (mmap fun e => f a[e.val] b[e.val]))

/-- A mask operation on two masks (R111). -/
def mask2 (k : Nat) (md ma mb : MReg) (f : BitVec 16 → BitVec 16 → BitVec 16) (s : State) : Res :=
  .done (s.setM k md (f (s.getM k ma) (s.getM k mb)))

/-- The n-th of a list of drawn words. -/
def drawn (l : List Word) (e : Fin 16) : Word := l.getD e.val 0

/-- The bits set in a mask. -/
def popMask (m : BitVec 16) : Nat := ((List.range 16).filter fun i => m.getLsbD i).length

/-- The sum of the masked elements, wrapping (R110). -/
def vsumWord (m : BitVec 16) (a : VVal) : Word :=
  (List.finRange 16).foldl (fun t e => if m.getLsbD e.val then t + a[e.val] else t) 0

/-- VADD: va + vb (R110) -/
def effIVadd (k : Nat) (vd va vb : VReg) (m : MReg) (s : State) : Res :=
  vector2 k vd va vb m (fun a b => a + b) s
/-- VADD executed by core c. -/
def execIVadd (c : CoreId) (vd va vb : VReg) (m : MReg) (s : State) : Host.Outcome State Fault Refusal :=
  issued c (.iVadd c vd va vb m) (effIVadd c.key vd va vb m) s

/-- VSUB: va − vb (R110) -/
def effIVsub (k : Nat) (vd va vb : VReg) (m : MReg) (s : State) : Res :=
  vector2 k vd va vb m (fun a b => a - b) s
/-- VSUB executed by core c. -/
def execIVsub (c : CoreId) (vd va vb : VReg) (m : MReg) (s : State) : Host.Outcome State Fault Refusal :=
  issued c (.iVsub c vd va vb m) (effIVsub c.key vd va vb m) s

/-- VAND: va & vb (R110) -/
def effIVand (k : Nat) (vd va vb : VReg) (m : MReg) (s : State) : Res :=
  vector2 k vd va vb m (fun a b => a &&& b) s
/-- VAND executed by core c. -/
def execIVand (c : CoreId) (vd va vb : VReg) (m : MReg) (s : State) : Host.Outcome State Fault Refusal :=
  issued c (.iVand c vd va vb m) (effIVand c.key vd va vb m) s

/-- VOR: va | vb (R110) -/
def effIVor (k : Nat) (vd va vb : VReg) (m : MReg) (s : State) : Res :=
  vector2 k vd va vb m (fun a b => a ||| b) s
/-- VOR executed by core c. -/
def execIVor (c : CoreId) (vd va vb : VReg) (m : MReg) (s : State) : Host.Outcome State Fault Refusal :=
  issued c (.iVor c vd va vb m) (effIVor c.key vd va vb m) s

/-- VXOR: va ^ vb (R110) -/
def effIVxor (k : Nat) (vd va vb : VReg) (m : MReg) (s : State) : Res :=
  vector2 k vd va vb m (fun a b => a ^^^ b) s
/-- VXOR executed by core c. -/
def execIVxor (c : CoreId) (vd va vb : VReg) (m : MReg) (s : State) : Host.Outcome State Fault Refusal :=
  issued c (.iVxor c vd va vb m) (effIVxor c.key vd va vb m) s

/-- VMIN: signed minimum (R110) -/
def effIVmin (k : Nat) (vd va vb : VReg) (m : MReg) (s : State) : Res :=
  vector2 k vd va vb m (fun a b => sminWord a b) s
/-- VMIN executed by core c. -/
def execIVmin (c : CoreId) (vd va vb : VReg) (m : MReg) (s : State) : Host.Outcome State Fault Refusal :=
  issued c (.iVmin c vd va vb m) (effIVmin c.key vd va vb m) s

/-- VMAX: signed maximum (R110) -/
def effIVmax (k : Nat) (vd va vb : VReg) (m : MReg) (s : State) : Res :=
  vector2 k vd va vb m (fun a b => smaxWord a b) s
/-- VMAX executed by core c. -/
def execIVmax (c : CoreId) (vd va vb : VReg) (m : MReg) (s : State) : Host.Outcome State Fault Refusal :=
  issued c (.iVmax c vd va vb m) (effIVmax c.key vd va vb m) s

/-- VSLLV: va << vb[4:0] (R110) -/
def effIVsllv (k : Nat) (vd va vb : VReg) (m : MReg) (s : State) : Res :=
  vector2 k vd va vb m (fun a b => a <<< (b.toNat % 32)) s
/-- VSLLV executed by core c. -/
def execIVsllv (c : CoreId) (vd va vb : VReg) (m : MReg) (s : State) : Host.Outcome State Fault Refusal :=
  issued c (.iVsllv c vd va vb m) (effIVsllv c.key vd va vb m) s

/-- VSRAV: arithmetic right shift by vb[4:0] (R110) -/
def effIVsrav (k : Nat) (vd va vb : VReg) (m : MReg) (s : State) : Res :=
  vector2 k vd va vb m (fun a b => a.sshiftRight (b.toNat % 32)) s
/-- VSRAV executed by core c. -/
def execIVsrav (c : CoreId) (vd va vb : VReg) (m : MReg) (s : State) : Host.Outcome State Fault Refusal :=
  issued c (.iVsrav c vd va vb m) (effIVsrav c.key vd va vb m) s

/-- VMUL: low 32 bits of va × vb (R110) -/
def effIVmul (k : Nat) (vd va vb : VReg) (m : MReg) (s : State) : Res :=
  vector2 k vd va vb m (fun a b => a * b) s
/-- VMUL executed by core c. -/
def execIVmul (c : CoreId) (vd va vb : VReg) (m : MReg) (s : State) : Host.Outcome State Fault Refusal :=
  issued c (.iVmul c vd va vb m) (effIVmul c.key vd va vb m) s

/-- VMULS: sat32((va × vb) >> SH) (R110) -/
def effIVmuls (k : Nat) (vd va vb : VReg) (m : MReg) (sh : BitVec 5) (s : State) : Res :=
  vector2 k vd va vb m (fun a b => mulsWord a b sh.toNat) s
/-- VMULS executed by core c. -/
def execIVmuls (c : CoreId) (vd va vb : VReg) (m : MReg) (sh : BitVec 5) (s : State) : Host.Outcome State Fault Refusal :=
  issued c (.iVmuls c vd va vb m sh) (effIVmuls c.key vd va vb m sh) s

/-- VABS: absolute value (R110) -/
def effIVabs (k : Nat) (vd va : VReg) (m : MReg) (s : State) : Res :=
  vector1 k vd va m absWord s
/-- VABS executed by core c. -/
def execIVabs (c : CoreId) (vd va : VReg) (m : MReg) (s : State) : Host.Outcome State Fault Refusal :=
  issued c (.iVabs c vd va m) (effIVabs c.key vd va m) s

/-- VSLL: va << SH (R110) -/
def effIVsll (k : Nat) (vd va : VReg) (m : MReg) (sh : BitVec 5) (s : State) : Res :=
  vector1 k vd va m (fun a => a <<< sh.toNat) s
/-- VSLL executed by core c. -/
def execIVsll (c : CoreId) (vd va : VReg) (m : MReg) (sh : BitVec 5) (s : State) : Host.Outcome State Fault Refusal :=
  issued c (.iVsll c vd va m sh) (effIVsll c.key vd va m sh) s

/-- VSRL: logical right shift by SH (R110) -/
def effIVsrl (k : Nat) (vd va : VReg) (m : MReg) (sh : BitVec 5) (s : State) : Res :=
  vector1 k vd va m (fun a => a >>> sh.toNat) s
/-- VSRL executed by core c. -/
def execIVsrl (c : CoreId) (vd va : VReg) (m : MReg) (sh : BitVec 5) (s : State) : Host.Outcome State Fault Refusal :=
  issued c (.iVsrl c vd va m sh) (effIVsrl c.key vd va m sh) s

/-- VSRA: arithmetic right shift by SH (R110) -/
def effIVsra (k : Nat) (vd va : VReg) (m : MReg) (sh : BitVec 5) (s : State) : Res :=
  vector1 k vd va m (fun a => a.sshiftRight sh.toNat) s
/-- VSRA executed by core c. -/
def execIVsra (c : CoreId) (vd va : VReg) (m : MReg) (sh : BitVec 5) (s : State) : Host.Outcome State Fault Refusal :=
  issued c (.iVsra c vd va m sh) (effIVsra c.key vd va m sh) s

/-- VSRS: sround(va, SH), one draw per element, masked-off ones included (R81, R110) -/
def effIVsrs (k : Nat) (vd va : VReg) (m : MReg) (sh : BitVec 5) (s : State) : Res :=
  let (l, r) := draws (s.core k).e.regs.rng 16
  let a := s.getV k va
  .done ((s.setRng k r).setV k vd
    (vmask (s.getM k m) (vmap fun e => sroundWith (drawn l e) a[e.val].toInt sh.toNat) (s.getV k vd)))
/-- VSRS executed by core c. -/
def execIVsrs (c : CoreId) (vd va : VReg) (m : MReg) (sh : BitVec 5) (s : State) : Host.Outcome State Fault Refusal :=
  issued c (.iVsrs c vd va m sh) (effIVsrs c.key vd va m sh) s

/-- VSAT_S8: clamp to −128…127 (R110) -/
def effIVsatS8 (k : Nat) (vd va : VReg) (m : MReg) (s : State) : Res :=
  vsat k vd va m (-128) 127 s
/-- VSAT_S8 executed by core c. -/
def execIVsatS8 (c : CoreId) (vd va : VReg) (m : MReg) (s : State) : Host.Outcome State Fault Refusal :=
  issued c (.iVsatS8 c vd va m) (effIVsatS8 c.key vd va m) s

/-- VSAT_S16: clamp to −32,768…32,767 (R110) -/
def effIVsatS16 (k : Nat) (vd va : VReg) (m : MReg) (s : State) : Res :=
  vsat k vd va m (-32768) 32767 s
/-- VSAT_S16 executed by core c. -/
def execIVsatS16 (c : CoreId) (vd va : VReg) (m : MReg) (s : State) : Host.Outcome State Fault Refusal :=
  issued c (.iVsatS16 c vd va m) (effIVsatS16 c.key vd va m) s

/-- VSAT_U8: clamp to 0…255 (R110) -/
def effIVsatU8 (k : Nat) (vd va : VReg) (m : MReg) (s : State) : Res :=
  vsat k vd va m 0 255 s
/-- VSAT_U8 executed by core c. -/
def execIVsatU8 (c : CoreId) (vd va : VReg) (m : MReg) (s : State) : Host.Outcome State Fault Refusal :=
  issued c (.iVsatU8 c vd va m) (effIVsatU8 c.key vd va m) s

/-- VSEL: m[e] ? va : vb, for all 16 elements (R110) -/
def effIVsel (k : Nat) (vd va vb : VReg) (m : MReg) (s : State) : Res :=
  .done (s.setV k vd (vmask (s.getM k m) (s.getV k va) (s.getV k vb)))
/-- VSEL executed by core c. -/
def execIVsel (c : CoreId) (vd va vb : VReg) (m : MReg) (s : State) : Host.Outcome State Fault Refusal :=
  issued c (.iVsel c vd va vb m) (effIVsel c.key vd va vb m) s

/-- VMOV: va (R110) -/
def effIVmov (k : Nat) (vd va : VReg) (m : MReg) (s : State) : Res :=
  vector1 k vd va m (fun a => a) s
/-- VMOV executed by core c. -/
def execIVmov (c : CoreId) (vd va : VReg) (m : MReg) (s : State) : Host.Outcome State Fault Refusal :=
  issued c (.iVmov c vd va m) (effIVmov c.key vd va m) s

/-- VBCAST: g into every masked element (R110) -/
def effIVbcast (k : Nat) (vd : VReg) (ga : GReg) (m : MReg) (s : State) : Res :=
  .done (s.setV k vd (vmask (s.getM k m) (vmap fun _ => s.getG k ga) (s.getV k vd)))
/-- VBCAST executed by core c. -/
def execIVbcast (c : CoreId) (vd : VReg) (ga : GReg) (m : MReg) (s : State) : Host.Outcome State Fault Refusal :=
  issued c (.iVbcast c vd ga m) (effIVbcast c.key vd ga m) s

/-- VIOTA: the element number (R110) -/
def effIViota (k : Nat) (vd : VReg) (m : MReg) (s : State) : Res :=
  .done (s.setV k vd (vmask (s.getM k m) (vmap fun e => BitVec.ofNat 32 e.val) (s.getV k vd)))
/-- VIOTA executed by core c. -/
def execIViota (c : CoreId) (vd : VReg) (m : MReg) (s : State) : Host.Outcome State Fault Refusal :=
  issued c (.iViota c vd m) (effIViota c.key vd m) s

/-- VRAND: xorshift_next per element, masked-off ones drawn too (R81, R110) -/
def effIVrand (k : Nat) (vd : VReg) (m : MReg) (s : State) : Res :=
  let (l, r) := draws (s.core k).e.regs.rng 16
  .done ((s.setRng k r).setV k vd (vmask (s.getM k m) (vmap fun e => drawn l e) (s.getV k vd)))
/-- VRAND executed by core c. -/
def execIVrand (c : CoreId) (vd : VReg) (m : MReg) (s : State) : Host.Outcome State Fault Refusal :=
  issued c (.iVrand c vd m) (effIVrand c.key vd m) s

/-- VEXT: one element into g (R110) -/
def effIVext (k : Nat) (gd : GReg) (va : VReg) (e : Fin 16) (s : State) : Res :=
  .done (s.setG k gd (s.getV k va)[e.val])
/-- VEXT executed by core c. -/
def execIVext (c : CoreId) (gd : GReg) (va : VReg) (e : Fin 16) (s : State) : Host.Outcome State Fault Refusal :=
  issued c (.iVext c gd va e) (effIVext c.key gd va e) s

/-- VINS: g into one element (R110) -/
def effIVins (k : Nat) (vd : VReg) (ga : GReg) (e : Fin 16) (s : State) : Res :=
  .done (s.setV k vd ((s.getV k vd).set e.val (s.getG k ga)))
/-- VINS executed by core c. -/
def execIVins (c : CoreId) (vd : VReg) (ga : GReg) (e : Fin 16) (s : State) : Host.Outcome State Fault Refusal :=
  issued c (.iVins c vd ga e) (effIVins c.key vd ga e) s

/-- VSUM: the sum of the masked elements, wrapping (R110) -/
def effIVsum (k : Nat) (gd : GReg) (va : VReg) (m : MReg) (s : State) : Res :=
  .done (s.setG k gd (vsumWord (s.getM k m) (s.getV k va)))
/-- VSUM executed by core c. -/
def execIVsum (c : CoreId) (gd : GReg) (va : VReg) (m : MReg) (s : State) : Host.Outcome State Fault Refusal :=
  issued c (.iVsum c gd va m) (effIVsum c.key gd va m) s

/-- VCMP_EQ: va == vb (R110) -/
def effIVcmpEq (k : Nat) (md : MReg) (va vb : VReg) (s : State) : Res :=
  vcmp k md va vb (fun a b => a == b) s
/-- VCMP_EQ executed by core c. -/
def execIVcmpEq (c : CoreId) (md : MReg) (va vb : VReg) (s : State) : Host.Outcome State Fault Refusal :=
  issued c (.iVcmpEq c md va vb) (effIVcmpEq c.key md va vb) s

/-- VCMP_NE: va != vb (R110) -/
def effIVcmpNe (k : Nat) (md : MReg) (va vb : VReg) (s : State) : Res :=
  vcmp k md va vb (fun a b => a != b) s
/-- VCMP_NE executed by core c. -/
def execIVcmpNe (c : CoreId) (md : MReg) (va vb : VReg) (s : State) : Host.Outcome State Fault Refusal :=
  issued c (.iVcmpNe c md va vb) (effIVcmpNe c.key md va vb) s

/-- VCMP_LT: signed va < vb (R110) -/
def effIVcmpLt (k : Nat) (md : MReg) (va vb : VReg) (s : State) : Res :=
  vcmp k md va vb (fun a b => decide (a.toInt < b.toInt)) s
/-- VCMP_LT executed by core c. -/
def execIVcmpLt (c : CoreId) (md : MReg) (va vb : VReg) (s : State) : Host.Outcome State Fault Refusal :=
  issued c (.iVcmpLt c md va vb) (effIVcmpLt c.key md va vb) s

/-- VCMP_LE: signed va ≤ vb (R110) -/
def effIVcmpLe (k : Nat) (md : MReg) (va vb : VReg) (s : State) : Res :=
  vcmp k md va vb (fun a b => decide (a.toInt ≤ b.toInt)) s
/-- VCMP_LE executed by core c. -/
def execIVcmpLe (c : CoreId) (md : MReg) (va vb : VReg) (s : State) : Host.Outcome State Fault Refusal :=
  issued c (.iVcmpLe c md va vb) (effIVcmpLe c.key md va vb) s

/-- VCMP_GT: signed va > vb (R110) -/
def effIVcmpGt (k : Nat) (md : MReg) (va vb : VReg) (s : State) : Res :=
  vcmp k md va vb (fun a b => decide (b.toInt < a.toInt)) s
/-- VCMP_GT executed by core c. -/
def execIVcmpGt (c : CoreId) (md : MReg) (va vb : VReg) (s : State) : Host.Outcome State Fault Refusal :=
  issued c (.iVcmpGt c md va vb) (effIVcmpGt c.key md va vb) s

/-- VCMP_GE: signed va ≥ vb (R110) -/
def effIVcmpGe (k : Nat) (md : MReg) (va vb : VReg) (s : State) : Res :=
  vcmp k md va vb (fun a b => decide (b.toInt ≤ a.toInt)) s
/-- VCMP_GE executed by core c. -/
def execIVcmpGe (c : CoreId) (md : MReg) (va vb : VReg) (s : State) : Host.Outcome State Fault Refusal :=
  issued c (.iVcmpGe c md va vb) (effIVcmpGe c.key md va vb) s

/-- MAND: md = ma & mb (R111) -/
def effIMand (k : Nat) (md ma mb : MReg) (s : State) : Res :=
  mask2 k md ma mb (fun x y => x &&& y) s
/-- MAND executed by core c. -/
def execIMand (c : CoreId) (md ma mb : MReg) (s : State) : Host.Outcome State Fault Refusal :=
  issued c (.iMand c md ma mb) (effIMand c.key md ma mb) s

/-- MOR: md = ma | mb (R111) -/
def effIMor (k : Nat) (md ma mb : MReg) (s : State) : Res :=
  mask2 k md ma mb (fun x y => x ||| y) s
/-- MOR executed by core c. -/
def execIMor (c : CoreId) (md ma mb : MReg) (s : State) : Host.Outcome State Fault Refusal :=
  issued c (.iMor c md ma mb) (effIMor c.key md ma mb) s

/-- MXOR: md = ma ^ mb (R111) -/
def effIMxor (k : Nat) (md ma mb : MReg) (s : State) : Res :=
  mask2 k md ma mb (fun x y => x ^^^ y) s
/-- MXOR executed by core c. -/
def execIMxor (c : CoreId) (md ma mb : MReg) (s : State) : Host.Outcome State Fault Refusal :=
  issued c (.iMxor c md ma mb) (effIMxor c.key md ma mb) s

/-- MANDN: md = ma & ~mb (R111) -/
def effIMandn (k : Nat) (md ma mb : MReg) (s : State) : Res :=
  mask2 k md ma mb (fun x y => x &&& ~~~y) s
/-- MANDN executed by core c. -/
def execIMandn (c : CoreId) (md ma mb : MReg) (s : State) : Host.Outcome State Fault Refusal :=
  issued c (.iMandn c md ma mb) (effIMandn c.key md ma mb) s

/-- MNOT: md = ~ma (R111) -/
def effIMnot (k : Nat) (md ma : MReg) (s : State) : Res :=
  .done (s.setM k md (~~~(s.getM k ma)))
/-- MNOT executed by core c. -/
def execIMnot (c : CoreId) (md ma : MReg) (s : State) : Host.Outcome State Fault Refusal :=
  issued c (.iMnot c md ma) (effIMnot c.key md ma) s

/-- MMOV: md = g[15:0] (R111) -/
def effIMmov (k : Nat) (md : MReg) (g : GReg) (s : State) : Res :=
  .done (s.setM k md ((s.getG k g).setWidth 16))
/-- MMOV executed by core c. -/
def execIMmov (c : CoreId) (md : MReg) (g : GReg) (s : State) : Host.Outcome State Fault Refusal :=
  issued c (.iMmov c md g) (effIMmov c.key md g) s

/-- MFM: g = zext(ma) (R111) -/
def effIMfm (k : Nat) (g : GReg) (ma : MReg) (s : State) : Res :=
  .done (s.setG k g ((s.getM k ma).setWidth 32))
/-- MFM executed by core c. -/
def execIMfm (c : CoreId) (g : GReg) (ma : MReg) (s : State) : Host.Outcome State Fault Refusal :=
  issued c (.iMfm c g ma) (effIMfm c.key g ma) s

/-- MPOP: the number of bits set in ma (R111) -/
def effIMpop (k : Nat) (g : GReg) (ma : MReg) (s : State) : Res :=
  .done (s.setG k g (BitVec.ofNat 32 (popMask (s.getM k ma))))
/-- MPOP executed by core c. -/
def execIMpop (c : CoreId) (g : GReg) (ma : MReg) (s : State) : Host.Outcome State Fault Refusal :=
  issued c (.iMpop c g ma) (effIMpop c.key g ma) s

end Sys2Proof.Machine
end

