-- ==== Sys2Proof/Machine/Debug.lean ====
section
/-!
DEFINITION. The core's debug access: halting, stepping and resuming the engine, and its architectural registers (R86
to R88, R99, R100).
-/

namespace Sys2Proof.Machine

/-- The effect of a decoded Mladza instruction on its core; none for the commands that are no instruction. -/
def effectOf (i : Instr) : Option (State → Res) :=
  match i with
  | .iAdd c rd ra rb => some (effIAdd c.key rd ra rb)
  | .iSub c rd ra rb => some (effISub c.key rd ra rb)
  | .iAnd c rd ra rb => some (effIAnd c.key rd ra rb)
  | .iOr c rd ra rb => some (effIOr c.key rd ra rb)
  | .iXor c rd ra rb => some (effIXor c.key rd ra rb)
  | .iSll c rd ra rb => some (effISll c.key rd ra rb)
  | .iSrl c rd ra rb => some (effISrl c.key rd ra rb)
  | .iSra c rd ra rb => some (effISra c.key rd ra rb)
  | .iMul c rd ra rb => some (effIMul c.key rd ra rb)
  | .iMulhs c rd ra rb => some (effIMulhs c.key rd ra rb)
  | .iMin c rd ra rb => some (effIMin c.key rd ra rb)
  | .iMax c rd ra rb => some (effIMax c.key rd ra rb)
  | .iSlt c rd ra rb => some (effISlt c.key rd ra rb)
  | .iSltu c rd ra rb => some (effISltu c.key rd ra rb)
  | .iSlli c rd ra sh => some (effISlli c.key rd ra sh)
  | .iSrli c rd ra sh => some (effISrli c.key rd ra sh)
  | .iSrai c rd ra sh => some (effISrai c.key rd ra sh)
  | .iSatS8 c rd ra => some (effISatS8 c.key rd ra)
  | .iSatS16 c rd ra => some (effISatS16 c.key rd ra)
  | .iSatU8 c rd ra => some (effISatU8 c.key rd ra)
  | .iAbs c rd ra => some (effIAbs c.key rd ra)
  | .iSrs c rd ra sh => some (effISrs c.key rd ra sh)
  | .iRand c rd => some (effIRand c.key rd)
  | .iMuls c rd ra rb sh => some (effIMuls c.key rd ra rb sh)
  | .iAddi c rd ra imm => some (effIAddi c.key rd ra imm)
  | .iAndi c rd ra imm => some (effIAndi c.key rd ra imm)
  | .iOri c rd ra imm => some (effIOri c.key rd ra imm)
  | .iXori c rd ra imm => some (effIXori c.key rd ra imm)
  | .iLi c rd imm => some (effILi c.key rd imm)
  | .iLih c rd imm => some (effILih c.key rd imm)
  | .iVadd c vd va vb m => some (effIVadd c.key vd va vb m)
  | .iVsub c vd va vb m => some (effIVsub c.key vd va vb m)
  | .iVand c vd va vb m => some (effIVand c.key vd va vb m)
  | .iVor c vd va vb m => some (effIVor c.key vd va vb m)
  | .iVxor c vd va vb m => some (effIVxor c.key vd va vb m)
  | .iVmin c vd va vb m => some (effIVmin c.key vd va vb m)
  | .iVmax c vd va vb m => some (effIVmax c.key vd va vb m)
  | .iVabs c vd va m => some (effIVabs c.key vd va m)
  | .iVsll c vd va m sh => some (effIVsll c.key vd va m sh)
  | .iVsrl c vd va m sh => some (effIVsrl c.key vd va m sh)
  | .iVsra c vd va m sh => some (effIVsra c.key vd va m sh)
  | .iVsllv c vd va vb m => some (effIVsllv c.key vd va vb m)
  | .iVsrav c vd va vb m => some (effIVsrav c.key vd va vb m)
  | .iVmul c vd va vb m => some (effIVmul c.key vd va vb m)
  | .iVmuls c vd va vb m sh => some (effIVmuls c.key vd va vb m sh)
  | .iVsrs c vd va m sh => some (effIVsrs c.key vd va m sh)
  | .iVsatS8 c vd va m => some (effIVsatS8 c.key vd va m)
  | .iVsatS16 c vd va m => some (effIVsatS16 c.key vd va m)
  | .iVsatU8 c vd va m => some (effIVsatU8 c.key vd va m)
  | .iVsel c vd va vb m => some (effIVsel c.key vd va vb m)
  | .iVmov c vd va m => some (effIVmov c.key vd va m)
  | .iVbcast c vd ga m => some (effIVbcast c.key vd ga m)
  | .iViota c vd m => some (effIViota c.key vd m)
  | .iVrand c vd m => some (effIVrand c.key vd m)
  | .iVext c gd va e => some (effIVext c.key gd va e)
  | .iVins c vd ga e => some (effIVins c.key vd ga e)
  | .iVsum c gd va m => some (effIVsum c.key gd va m)
  | .iVcmpEq c md va vb => some (effIVcmpEq c.key md va vb)
  | .iVcmpNe c md va vb => some (effIVcmpNe c.key md va vb)
  | .iVcmpLt c md va vb => some (effIVcmpLt c.key md va vb)
  | .iVcmpLe c md va vb => some (effIVcmpLe c.key md va vb)
  | .iVcmpGt c md va vb => some (effIVcmpGt c.key md va vb)
  | .iVcmpGe c md va vb => some (effIVcmpGe c.key md va vb)
  | .iMand c md ma mb => some (effIMand c.key md ma mb)
  | .iMor c md ma mb => some (effIMor c.key md ma mb)
  | .iMxor c md ma mb => some (effIMxor c.key md ma mb)
  | .iMandn c md ma mb => some (effIMandn c.key md ma mb)
  | .iMnot c md ma => some (effIMnot c.key md ma)
  | .iMmov c md g => some (effIMmov c.key md g)
  | .iMfm c g ma => some (effIMfm c.key g ma)
  | .iMpop c g ma => some (effIMpop c.key g ma)
  | .iVacc c vd => some (effIVacc c.key vd)
  | .iAclr c => some (effIAclr c.key)
  | .iDecay c vd va m ga => some (effIDecay c.key vd va m ga)
  | .iVscl c vd va m => some (effIVscl c.key vd va m)
  | .iPmark c m => some (effIPmark c.key m)
  | .iHold c m => some (effIHold c.key m)
  | .iBstamp c => some (effIBstamp c.key)
  | .iVtrupL c va m ga gb gc => some (effIVtrupL c.key va m ga gb gc)
  | .iVtrupH c va m ga gb gc => some (effIVtrupH c.key va m ga gb gc)
  | .iVemitU c va m => some (effIVemitU c.key va m)
  | .iVemitS c va m => some (effIVemitS c.key va m)
  | .iLd c reg ra view sfx off => some (effILd c.key reg ra view sfx off)
  | .iSt c reg ra view sfx off => some (effISt c.key reg ra view sfx off)
  | .iVld c reg ra view sfx m off => some (effIVld c.key reg ra view sfx m off)
  | .iVst c reg ra view sfx m off => some (effIVst c.key reg ra view sfx m off)
  | .iBr c target => some (effIBr c.key target)
  | .iBeq c ra rb target => some (effIBeq c.key ra rb target)
  | .iBne c ra rb target => some (effIBne c.key ra rb target)
  | .iBlt c ra rb target => some (effIBlt c.key ra rb target)
  | .iBge c ra rb target => some (effIBge c.key ra rb target)
  | .iBltu c ra rb target => some (effIBltu c.key ra rb target)
  | .iBgeu c ra rb target => some (effIBgeu c.key ra rb target)
  | .iBz c ra target => some (effIBz c.key ra target)
  | .iBnz c ra target => some (effIBnz c.key ra target)
  | .iBany c m target => some (effIBany c.key m target)
  | .iBnone c m target => some (effIBnone c.key m target)
  | .iCall c target => some (effICall c.key target)
  | .iLoop c g target => some (effILoop c.key g target)
  | .iLoopi c count target => some (effILoopi c.key count target)
  | .iNxtblkA c g target => some (effINxtblkA c.key g target)
  | .iNxtblkP c g target => some (effINxtblkP c.key g target)
  | .iNop c => some (effINop c.key)
  | .iEnd c => some (effIEnd c.key)
  | .iRet c => some (effIRet c.key)
  | .iMfs c rd sr => some (effIMfs c.key rd sr)
  | .iMts c sr ra => some (effIMts c.key sr ra)
  | .iEmit c ra rb => some (effIEmit c.key ra rb)
  | .iQsend c ra rb rd => some (effIQsend c.key ra rb rd)
  | .iQrecv c rd ra q => some (effIQrecv c.key rd ra q)
  | .iQpeek c rd q => some (effIQpeek c.key rd q)
  | .iSig c ra rb => some (effISig c.key ra rb)
  | .iWaits c ra rb => some (effIWaits c.key ra rb)
  | .iMod c ra => some (effIMod c.key ra)
  | .iMskip c => some (effIMskip c.key)
  | _ => none

/-- Execute the instruction at the pc of core k, as its own row would (R87). -/
def State.stepOne (s : State) (c : CoreId) : State :=
  match decodeWord c (s.fetch c.key) with
  | none => s.issue c (.iNop c) Res.done
  | some i =>
    match effectOf i with
    | some eff => s.issue c i eff
    | none => s

/-- HALT (R87, R274): at once between instructions; after the stalled instruction or the commit work in progress. -/
def State.dbgHalt (s : State) (k : Nat) : State :=
  let c := s.core k
  if c.e.dbg.halted then s
  else if c.e.stall.isSome || c.mrv.working then s.modE k fun e => { e with dbg := { e.dbg with haltReq := true } }
  else s.modE k fun e => { e with dbg := { e.dbg with halted := true, reason := 0, haltReq := false } }

/-- Start an UPDATE program that an edge has left waiting (R70). -/
def State.startDue (s : State) (k : Nat) : State :=
  let c := s.core k
  if c.e.st == .idle && c.e.fl.edgeDue && !c.mrv.busy then s.startUpdate k else s

/-- RESUME (R87, R100): a halted engine goes on from its pc, past a breakpoint there; a faulted one ignores it. -/
def State.dbgResume (s : State) (k : Nat) : State :=
  let e := (s.core k).e
  if !e.dbg.halted || e.st == .faulted then s
  else
    (s.modE k fun e =>
      { e with dbg := { e.dbg with halted := false, stepping := false, bpPassed := e.st.runs } }).startDue k

/-- STEP (R87, R100): a halted engine executes one instruction; one that stalls completes later. A faulted engine, and
an idle one with no entry due, executes nothing. -/
def State.dbgStep (s : State) (c : CoreId) : State :=
  let e := (s.core c.key).e
  if !e.dbg.halted || e.st == .faulted || e.dbg.stepping then s
  else
    let s1 := s.startDue c.key
    if (s1.core c.key).e.st.runs then (s1.modE c.key fun e => { e with dbg := { e.dbg with stepping := true } }).stepOne c else s1

/-- HALT_AT_EDGE (R87): the engine halts at the next edge, before the tick's first entry. -/
def State.dbgHaltAtEdge (s : State) (k : Nat) : State :=
  s.modE k fun e => { e with dbg := { e.dbg with haltAtEdge := true } }

/-- A write of CORE_DBG_CTRL: its actions from bit 0 upward (R99); ignored while debug is not enabled (R86). -/
def State.dbgCtrl (s : State) (c : CoreId) (v : Word) : State :=
  if !s.debugEnabled then s
  else
    let s1 := if v.getLsbD 0 then s.dbgHalt c.key else s
    let s2 := if v.getLsbD 1 then s1.dbgResume c.key else s1
    let s3 := if v.getLsbD 2 then s2.dbgStep c else s2
    if v.getLsbD 3 then s3.dbgHaltAtEdge c.key else s3

/-- The register that CORE_DBG_SEL selects (R88). -/
def State.dbgGet (s : State) (k sel : Nat) : Word :=
  let g := (s.core k).e.regs
  if sel < 0x10 then g.g.toList.getD sel 0
  else if sel < 0x90 then ((g.v.toList.getD ((sel - 0x10) / 16) VVal.zero).toList).getD (sel % 16) 0
  else if sel < 0x94 then (s.getM k (Fin.ofNat 4 (sel - 0x90))).setWidth 32
  else if 0xA0 ≤ sel ∧ sel < 0xB0 then s.mfs k (sel - 0xA0)
  else if sel = 0xB0 then g.pc.setWidth 32
  else 0

/-- Write the register that CORE_DBG_SEL selects (R88). -/
def State.dbgSet (s : State) (k sel : Nat) (w : Word) : State :=
  if sel < 0x10 then s.setG k (Fin.ofNat 16 sel) w
  else if sel < 0x90 then
    let r : VReg := Fin.ofNat 8 ((sel - 0x10) / 16)
    s.setV k r (vmap fun e => if e.val = sel % 16 then w else (s.getV k r)[e.val])
  else if sel < 0x94 then s.setM k (Fin.ofNat 4 (sel - 0x90)) (w.setWidth 16)
  else if 0xA0 ≤ sel ∧ sel < 0xB0 then s.mts k (sel - 0xA0) w
  else if sel = 0xB0 then s.modE k fun e => { e with regs := { e.regs with pc := w.setWidth 12 } }
  else s

end Sys2Proof.Machine
end

