-- ==== Sys2Proof/Machine/Deep.lean ====
section
/-!
DEFINITION. The Crucible row engines: the deep address space and who may reach it, the service of an event, sector
reads, segments, refresh, and the registers of MEM-W and MEM-E (R233 to R271).
-/

namespace Sys2Proof.Machine

/-! ### The deep address space (R240 to R243) -/

/-- The usable capacity in bytes (R233, R240). -/
def State.deepCap (s : State) : Nat := if s.memEcc then s.grade.capacity / 16 * 15 else s.grade.capacity
/-- Where a device address lies (R240): the engine, the channel of the device, and the address in that channel's DRAM. -/
structure DeepPlace where
  engine : Nat
  chan : Nat
  dram : Nat
  deriving DecidableEq, Repr
/-- The map of R240, of an address below the usable capacity. -/
def State.mapDeep (s : State) (a : Nat) : DeepPlace :=
  let half := s.deepCap / 2
  let east := decide (half ≤ a)
  let o := if east then a - half else a
  let g := if s.memEcc then 480 else 256
  { engine := b2n east, chan := 8 * b2n east + o / g % 8, dram := o / g / 8 * (if s.memEcc then 512 else 256) + o % g }
/-- The engine that serves a device address, and the channel among its eight (R240). -/
def State.deepEngineOf (s : State) (a : Nat) : Nat := (s.mapDeep a).engine
def State.deepChan (s : State) (a : Nat) : Nat := (s.mapDeep a).chan % 8
/-- The 64 MiB units a range touches (R241). -/
def unitsOf (a n : Nat) : List Nat :=
  if n = 0 then [] else (List.range ((a + n - 1) / 2 ^ 26 - a / 2 ^ 26 + 1)).map (· + a / 2 ^ 26)
/-- EN, LIMIT and BASE of MEM_TREG or MEM_SHR (R264). -/
def regionEn (w : Word) : Bool := w.msb
def regionLimit (w : Word) : Nat := bitsOf w.toNat 16 9
def regionBase (w : Word) : Nat := bitsOf w.toNat 0 9
/-- A unit lies in a region. -/
def inRegion (w : Word) (u : Nat) : Bool := regionEn w && decide (regionBase w ≤ u) && decide (u ≤ regionLimit w)
/-- MEM_TREG of a tenant. -/
def State.tregOf (s : State) (t : Tenant) : Word := Tab.get s.treg 0 t.val
/-- MEM_SHR: LOCK and OWNER. -/
def State.shrLocked (s : State) : Bool := regionEn s.shr && s.shr.getLsbD 30
def State.shrOwner (s : State) : Tenant := Fin.ofNat 4 (bitsOf s.shr.toNat 28 2)
/-- A tenant may read, and write, a unit of the deep tier (R207, R242). -/
def State.unitReadable (s : State) (t : Tenant) (u : Nat) : Bool :=
  inRegion (s.tregOf t) u || (s.shrLocked && inRegion s.shr u)
def State.unitWritable (s : State) (t : Tenant) (u : Nat) : Bool :=
  inRegion (s.tregOf t) u && !(s.shrLocked && inRegion s.shr u)
/-- A range lies below the usable capacity. -/
def State.deepFits (s : State) (a n : Nat) : Bool := decide (a + n ≤ s.deepCap)
/-- A tenant may read, and write, a range of the deep tier; in the Cool profile no request is served (R449). -/
def State.deepReadable (s : State) (t : Tenant) (a n : Nat) : Bool :=
  !s.aon.cool && s.deepFits a n && (unitsOf a n).all (s.unitReadable t)
def State.deepWritable (s : State) (t : Tenant) (a n : Nat) : Bool :=
  !s.aon.cool && s.deepFits a n && (unitsOf a n).all (s.unitWritable t)

/-! ### Row-table entries (R246 to R248, R269) -/

/-- The station of an engine. -/
def engStation (e : Engine) : Nat := 35 + e.val
/-- Fields of a row-table entry (R269). -/
def RowEnt.valid (x : RowEnt) : Bool := x.w0.msb
def RowEnt.tenant (x : RowEnt) : Tenant := Fin.ofNat 4 (bitsOf x.w0.toNat 29 2)
def RowEnt.format (x : RowEnt) : Nat := bitsOf x.w0.toNat 27 2
def RowEnt.mode (x : RowEnt) : Nat := bitsOf x.w0.toNat 26 1
def RowEnt.channel (x : RowEnt) : Nat := bitsOf x.w0.toNat 18 8
def RowEnt.outBase (x : RowEnt) : Nat := bitsOf x.w0.toNat 5 13
def RowEnt.slack (x : RowEnt) : Nat := bitsOf x.w0.toNat 0 5
def RowEnt.segWords (x : RowEnt) : Nat := bitsOf x.w1.toNat 24 5
def RowEnt.srcFirst (x : RowEnt) : Nat := bitsOf x.w1.toNat 0 24
def RowEnt.srcSpan (x : RowEnt) : Nat := bitsOf x.w2.toNat 0 18
def RowEnt.base32 (x : RowEnt) : Nat := bitsOf x.w3.toNat 0 30
def RowEnt.stride32 (x : RowEnt) : Nat := bitsOf x.w4.toNat 0 20
def RowEnt.c0 (x : RowEnt) : Nat := bitsOf x.w5.toNat 27 5
def RowEnt.nc (x : RowEnt) : Nat := bitsOf x.w5.toNat 22 5 + 1
def RowEnt.k0 (x : RowEnt) : Nat := bitsOf x.w5.toNat 17 5
def RowEnt.nk (x : RowEnt) : Nat := bitsOf x.w5.toNat 12 5 + 1
/-- Address and length of the row of a source (R248). -/
def RowEnt.rowAddr (x : RowEnt) (src : Nat) : Nat := 32 * x.base32 + (src - x.srcFirst) * 32 * x.stride32
def RowEnt.rowLen (x : RowEnt) : Nat := 8 * x.nc * x.nk * x.segWords
/-- A committed entry the engine refuses (R247). -/
def RowEnt.refused (x : RowEnt) (perCluster : Nat) : Bool :=
  x.format == 3 || x.segWords == 0 || decide (30 < x.segWords) || decide (64 < x.nc * x.nk) ||
  decide (32 < x.c0 + x.nc) || decide (perCluster < x.k0 + x.nk) ||
  decide ((match x.format with | 0 => 0 | 1 => 15 | _ => 31) < x.slack) || (x.format == 2 && x.outBase % 2 == 1)
/-- The tenant that holds a row-table entry. -/
def RowEnt.holder (x : RowEnt) : Option Tenant := if x.valid then some x.tenant else none

/-! ### Service of an event (R245, R254, R255) -/

/-- Sectors and staging chunks of a row. -/
def rowSectors (len : Nat) : Nat := (len + 31) / 32
def rowChunks (len : Nat) : Nat := (len + 255) / 256
/-- Staging chunks in use, by a tenant or by all. -/
def DeepEngine.chunksUsed (d : DeepEngine) (f : WinEntry → Bool) : Nat :=
  ((d.window.filter f).map fun w => rowChunks w.len).sum
/-- A tenant has a free window entry and the chunks for a row (R255). -/
def DeepEngine.mayAllocate (d : DeepEngine) (t : Tenant) (len : Nat) : Bool :=
  let q := Tab.get d.quota (0, 0) t.val
  decide ((d.window.filter fun w => w.tenant == t).length < q.1) &&
    decide (d.chunksUsed (fun w => w.tenant == t) + rowChunks len ≤ q.2) && decide (d.window.length < 128)
/-- The lowest free number of a window entry. -/
def DeepEngine.freeId (d : DeepEngine) : Nat :=
  ((List.range 128).find? fun i => d.window.all fun w => w.id != i).getD 0

/-- The head of a partition has left it: the rest stays, and its credit returns in lossless mode (R59, R181). -/
def State.popPartition (s : State) (e : Engine) (t : Tenant) (x : RxEv) : State :=
  let s1 := s.modDeep e fun d => { d with ingress := Tab.modify d.ingress [] t.val List.tail, turn := (t.val + 1) % 4 }
  if s.lossless t then s1.sendPkt (engStation e) (.caneCred x.src x.stream (32 + e.val) 1) else s1

/-- A discard of R245 steps 1 to 3 or of R253. -/
def State.noteUnserved (s : State) (e : Engine) : State :=
  s.modDeep e fun d => { d with unserved := true, unservedCnt := cnt16 d.unservedCnt }
/-- A discard of R245 step 4: the report carries the tenant and the group. -/
def State.noteRegion (s : State) (e : Engine) (x : RxEv) : State :=
  (s.modDeep e fun d => { d with region := true, regionErr := cnt16 d.regionErr }).reportFault (engStation e)
    (engStation e) 0x08 (BitVec.ofNat 40 (x.tenant.val * 2 ^ 38 + x.ev.grp.toNat))

/-- Attach an event to the entry of its row, or to a new one (R254). none: the tenant lacks a resource. -/
def State.attach (s : State) (e : Engine) (t : Tenant) (ev : DeepEv) (a len : Nat) : Option State :=
  let d := s.deep[e.val]
  let joins (w : WinEntry) : Bool := w.addr == a && w.len == len && decide (w.events.length < 8)
  match d.window.find? joins with
  | some w =>
    some (s.modDeep e fun d => { d with
      merged := cnt32 d.merged
      window := d.window.map fun v => if v.id = w.id then { v with events := v.events ++ [ev] } else v })
  | none =>
    if !d.mayAllocate t len then none
    else some (s.modDeep e fun d => { d with window := d.window ++ [⟨d.freeId, a, len, t, [ev], [], false⟩] })

/-- Steps 1 to 5 of R245 for the head of a partition. none: it stays at the head. -/
def State.serveHead (s : State) (e : Engine) (t : Tenant) (x : RxEv) : Option State :=
  let d := s.deep[e.val]
  let m := Tab.get d.map 0 x.ev.grp.toNat
  let i := m.toNat % 4096
  let r := Tab.get d.rows {} i
  let src := x.ev.src.toNat
  if !m.msb || !r.valid then some ((s.popPartition e t x).noteUnserved e)
  else if r.tenant ≠ t then
    some (((s.popPartition e t x).noteUnserved e).reportFault (engStation e) (engStation e) 0x08
      (BitVec.ofNat 40 (t.val * 2 ^ 38 + x.ev.grp.toNat)))
  else if src < r.srcFirst ∨ r.srcFirst + r.srcSpan < src then some ((s.popPartition e t x).noteUnserved e)
  else
    let a := r.rowAddr src
    let len := r.rowLen
    if !s.deepReadable t a len || s.deepEngineOf a ≠ e.val || s.deepEngineOf (a + len - 1) ≠ e.val then
      some ((s.popPartition e t x).noteRegion e x)
    else (s.popPartition e t x).attach e t ⟨i, x.ev.pay, x.ev.tag, x.ev.gap, t, 0⟩ a len

/-- ENGINE_EVENT_SERVICE (R245, R254, R255): the engine takes one event, from the tenants in turn; a partition whose
head lacks a resource is skipped. -/
def execEngineEventService (e : Engine) (s : State) : Host.Outcome State Fault Refusal :=
  let d := s.deep[e.val]
  let serve (i : Nat) : Option State :=
    let t : Tenant := Fin.ofNat 4 (d.turn + i)
    match Tab.get d.ingress [] t.val with
    | [] => none
    | x :: _ => s.serveHead e t x
  match (List.range 4).findSome? serve with
  | some t => .next t
  | none => .next s

/-! ### Sector reads (R236, R238, R258, R262) -/

/-- Note an ECC or EDC error: a corrected error never replaces another kind (R262). -/
def MemErr.note (x : MemErr) (kind chan addr : Nat) : MemErr :=
  if kind = 1 ∧ 2 ≤ x.kind then x else ⟨kind, chan, addr⟩

/-- A burst of a sector is over: the tries that its EDC code has failed are of no effect on a later one. -/
def State.clearEdc (s : State) (a : Nat) : State := { s with edc := Tab.put s.edc 0 a 0 }
/-- The engine whose channel serves a device address. -/
def State.deepEng (s : State) (a : Nat) : Engine := Fin.ofNat 2 (s.deepEngineOf a)

/-- A burst whose fourth retry fails (R236): its channel is failed, the address is recorded and the engine raises a device
fault. -/
def State.channelFails (s : State) (e : Engine) (a : Nat) : State :=
  let ch := s.deepChan a
  (s.modDeep e fun d => { d with
      edcFail := true
      err := d.err.note 3 ch a
      chan := d.chan.set (ch % 8) { d.chan[ch % 8] with failed := true } }).reportFault
    (engStation e) (engStation e) 0x06 (BitVec.ofNat 40 (8 * e.val + ch))
/-- A burst of a sector, of which so many tries fail (R236): the retries are counted. -/
def State.countRetries (s : State) (e : Engine) (failed : Nat) : State :=
  s.modDeep e fun d => { d with edcRetry := cnt32 d.edcRetry (min 4 failed) }
/-- A correctable error of inline ECC (R238). -/
def State.deepCe (s : State) (e : Engine) (a : Nat) : State :=
  s.modDeep e fun d => { d with eccCe := cnt16 d.eccCe, err := d.err.note 1 (s.deepChan a) a }
/-- An uncorrectable error of inline ECC (R258). -/
def State.deepUe (s : State) (e : Engine) (a : Nat) : State :=
  (s.modDeep e fun d => { d with ecUe := true, err := d.err.note 2 (s.deepChan a) a }).eccFault (engStation e) 6 a

/-! ### External accesses (R236, R238, R243, R258) -/

/-- What the bursts of an external access meet: all is well, an uncorrectable error, or a failed channel, of which the access
never completes. -/
inductive BurstEnd where
  | ok
  | uncorrectable
  | never
  deriving DecidableEq, Repr

/-- The 32-byte sectors that a range touches. -/
def sectorsOf (a n : Nat) : List Nat :=
  if n = 0 then [] else (List.range ((a + n - 1) / 32 - a / 32 + 1)).map fun i => 32 * (a / 32 + i)

/-- The burst of one sector for an external access: write tells its direction, and only a read is checked by inline ECC. -/
def State.extBurst (write : Bool) (x : State × BurstEnd) (a : Nat) : State × BurstEnd :=
  let s := x.1
  if x.2 ≠ .ok then x
  else
    let e := s.deepEng a
    let failed := Tab.get s.edc 0 a
    let s1 := (s.countRetries e failed).clearEdc a
    if 4 < failed then (s1.channelFails e a, .never)
    else if write || !s.memEcc then (s1, .ok)
    else if s.ueAt a then (s1.deepUe e a, .uncorrectable)
    else if s.ceAt a then (s1.deepCe e a, .ok)
    else (s1, .ok)

/-- The bursts of a tenant's external access to n bytes from a, in ascending order: none where it is no access of the deep
tier, or one that is refused. -/
def State.extBursts (s : State) (t : Tenant) (write : Bool) (a n : Nat) : State × BurstEnd :=
  if a < deepTop && (if write then s.deepWritable t a n else s.deepReadable t a n) then
    (sectorsOf a n).foldl (State.extBurst write) (s, .ok)
  else (s, .ok)

/-- What a write that never completes leaves in its range: free values. -/
def State.tornWrite (s : State) (a n : Nat) : State :=
  ({ s with freeCtr := s.freeCtr + n }).writeBytes a ((List.range n).map fun i => (Config.freeWord (s.freeCtr + i)).setWidth 8)

/-! ### Sector reads of rows (R236, R238, R258) -/

/-- The entry stages one more sector; the last one completes the row's read. -/
def WinEntry.stageSector (w : WinEntry) (bytes : List Byte) : WinEntry := { w with data := w.data ++ bytes }
/-- Every sector of the row has been staged. -/
def WinEntry.allRead (w : WinEntry) : Bool := decide (rowSectors w.len * 32 ≤ w.data.length)

/-- SECTOR_READ_DONE (R236, R238, R258): the next sector of a pending row returns. A failed channel leaves the access
incomplete, an uncorrectable error ends the row, and other data is staged. -/
def execSectorReadDone (e : Engine) (entry : Nat) (o : SectorOutcome) (s : State) :
    Host.Outcome State Fault Refusal :=
  match s.deep[e.val].window.find? fun w => w.id == entry with
  | none => .next s
  | some w =>
    let a := w.addr + w.data.length
    let failed := if o.edcFail then 5 else max o.retries (Tab.get s.edc 0 a)
    if w.hung || w.allRead then .next s
    else
      let s1 := ((s.modDeep e fun d => { d with sectors := cnt32 d.sectors }).countRetries e failed).clearEdc a
      if 4 < failed then
        .next ((s1.modDeep e fun d => { d with
          window := d.window.map fun v => if v.id = entry then { v with hung := true } else v }).channelFails e a)
      else if s.memEcc && (o.uncorrectable || s.ueAt a) then
        .next ((s1.modDeep e fun d => { d with window := d.window.filter fun v => v.id != entry }).deepUe e a)
      else
        let s2 := if s.memEcc && (o.corrected || s.ceAt a) then s1.deepCe e a else s1
        let w' := w.stageSector (s.readBytes a 32)
        .next (s2.modDeep e fun d => { d with
          rowsRead := if w'.allRead then cnt32 d.rowsRead else d.rowsRead
          window := d.window.map fun v => if v.id = entry then w' else v })

/-! ### Segments (R249, R250, R253, R254) -/

/-- The AUX operand of a segment (R250). -/
def segmentAux (r : RowEnt) (ev : DeepEv) : BitVec 64 :=
  let dense := r.format ≠ 0
  let f (n : Nat) : Nat := if dense then n else 0
  BitVec.ofNat 64
    (ev.tag.toNat * 2 ^ 60 + b2n ev.gap * 2 ^ 59 + b2n dense * 2 ^ 58 + f r.format * 2 ^ 56 + ev.pay.toNat * 2 ^ 48 +
      f r.mode * 2 ^ 47 + f r.channel * 2 ^ 39 + f r.outBase * 2 ^ 26 + f r.segWords * 2 ^ 21 + f r.slack * 2 ^ 16 +
      ev.entry)

/-- The payload of segment i of a row: its record words, or the stored header and the words it calls for (R249). -/
def segmentData (r : RowEnt) (data : List Byte) (i : Nat) : List Byte :=
  let all := (data.drop (8 * r.segWords * i)).take (8 * r.segWords)
  if r.format ≠ 0 then all
  else
    let h := rowHdr (BitVec.ofNat 64 (leNat (all.take 8)))
    all.take (8 * (1 + min h.length (r.segWords - 1)))

/-- The enabled row-port flows of tenant t that serve cluster c alone (R253). -/
def State.rowFlows (s : State) (e : Engine) (t : Tenant) (c : Nat) : List Nat :=
  (List.range 64).filter fun n =>
    let f := s.flow (engStation e) n
    f.en && f.tenant == t && f.clusters == 1#32 <<< c && f.edge == 0 && Tab.get s.deep[e.val].route 0 n != 0

/-- The next of the flows in turn after the one used last (R253). -/
def pickFlow (flows : List Nat) (last : Nat) : Option Nat :=
  match flows.find? fun n => last < n with
  | some n => some n
  | none => flows.head?

/-- Hand one segment to the Gather (R250, R253). -/
def State.handSegment (s : State) (e : Engine) (r : RowEnt) (ev : DeepEv) (data : List Byte) (i : Nat) : State :=
  let c := r.c0 + i / r.nk
  let k := r.k0 + i % r.nk
  let key := ev.tenant.val * 32 + c
  match pickFlow (s.rowFlows e ev.tenant c) (Tab.get s.deep[e.val].flowTurn 64 key) with
  | none => s.noteUnserved e
  | some n =>
    let bytes := segmentData r data i
    (s.modDeep e fun d => { d with segs := cnt32 d.segs, flowTurn := Tab.put d.flowTurn 64 key n }).queueOnFlow
      (engStation e) n
      { op := 2, len := bytes.length, src := engStation e, addr := coreWindow (c * 32 + k) + 0x4_8000,
        aux := segmentAux r ev, data := bytes, tenant := ev.tenant, flow := n }

/-- The next segment a window entry may hand over: the first event with segments left, and the segment. -/
def State.nextSegment (s : State) (e : Engine) (w : WinEntry) : Option (Nat × RowEnt × DeepEv) :=
  (List.range w.events.length).findSome? fun j =>
    match w.events[j]? with
    | none => none
    | some ev =>
      let r := Tab.get s.deep[e.val].rows {} ev.entry
      if ev.sent < r.nc * r.nk ∧ 8 * r.segWords * (ev.sent + 1) ≤ w.data.length then some (j, r, ev) else none

/-- Every segment of every attached event has been handed over (R254). -/
def State.entryDone (s : State) (e : Engine) (w : WinEntry) : Bool :=
  w.events.all fun ev =>
    let r := Tab.get s.deep[e.val].rows {} ev.entry
    decide (r.nc * r.nk ≤ ev.sent)

/-- SEGMENT_SEND (R250, R253 to R255): the engine hands the next segment of a window entry to the Gather; with the
last segment of its last event the entry retires. -/
def execSegmentSend (e : Engine) (entry : Nat) (s : State) : Host.Outcome State Fault Refusal :=
  match s.deep[e.val].window.find? fun w => w.id == entry with
  | none => .next s
  | some w =>
    match s.nextSegment e w with
    | none => .next s
    | some (j, r, ev) =>
      let w' := { w with events := w.events.set j { ev with sent := ev.sent + 1 } }
      let s1 := s.handSegment e r ev w.data ev.sent
      .next (s1.modDeep e fun d => { d with
        window := if s.entryDone e w' && !w.hung then d.window.filter fun v => v.id != entry
          else d.window.map fun v => if v.id = entry then w' else v })

/-- GDDR6_REFRESH (R239, R267): the controller refreshes the devices of an engine, and notes the temperature each
channel's device reports. -/
def execGddr6Refresh (e : Engine) (temps : List Byte) (s : State) : Host.Outcome State Fault Refusal :=
  if s.deep[e.val].selfRef then .next s
  else
    .next (s.modDeep e fun d => { d with
      chan := Vector.ofFn fun i => { d.chan[i.val] with temp := temps.getD i.val d.chan[i.val].temp } })

/-! ### Registers of MEM-W and MEM-E (R259 to R270) -/

/-- Every tenant is stopped. -/
def State.allStopped (s : State) : Bool := (List.finRange 4).all s.isStopped

/-- A write of MEM_CFG (R234, R237, R238): only the MP's; a change of rate or ECC needs every tenant stopped, and a
change of ECC leaves the deep tier undefined. -/
def State.memCfgSet (s : State) (r : Req) (v : Word) : WrRes :=
  let rate := bitsOf v.toNat 6 2
  let ecc := v.getLsbD 4
  if r ≠ .mp ∨ ((rate ≠ s.memRate ∨ ecc ≠ s.memEcc) ∧ s.allStopped = false) then wrNo s
  else
    wrOk { s with
      memRate := rate, memDbi := v.getLsbD 5, memEcc := ecc,
      deepGen := if ecc = s.memEcc then s.deepGen else nextGen s.deepGen }

/-- Two regions share a unit. -/
def regionsMeet (a b : Word) : Bool :=
  regionEn a && regionEn b && decide (regionBase a ≤ regionLimit b) && decide (regionBase b ≤ regionLimit a) &&
    decide (regionBase a ≤ regionLimit a) && decide (regionBase b ≤ regionLimit b)

/-- A write of MEM_TREG (R241). -/
def State.memTregSet (s : State) (r : Req) (t : Tenant) (v : Word) : WrRes :=
  let overlaps := (List.finRange 4).any fun u => u != t && regionsMeet v (s.tregOf u)
  let beyond := regionEn v && decide (s.deepCap < (regionLimit v + 1) * 2 ^ 26)
  wrIf (r == .mp && s.isStopped t && !overlaps && !beyond) s { s with treg := Tab.put s.treg 0 t.val v }

/-- A write of MEM_QUOTA (R265). -/
def State.memQuotaSet (s : State) (r : Req) (e : Engine) (t : Tenant) (v : Word) : WrRes :=
  let others := (List.finRange 4).filter (· != t)
  let q (u : Tenant) : Nat × Nat := Tab.get s.deep[e.val].quota (0, 0) u.val
  let n := bitsOf v.toNat 16 8
  let c := bitsOf v.toNat 0 13
  wrIf (ownsOrMp r t && s.isStopped t && decide ((others.map fun u => (q u).1).sum + n ≤ 128) &&
      decide ((others.map fun u => (q u).2).sum + c ≤ 4096)) s
    (s.modDeep e fun d => { d with quota := Tab.put d.quota (0, 0) t.val (n, c) })

/-- A write of MEM_FLOW_ROUTE k (R266): each field that changes follows R182 for its flow's tenant. -/
def State.memRouteSet (s : State) (r : Req) (e : Engine) (k : Nat) (v : Word) : WrRes :=
  let field (j : Nat) : Nat := bitsOf v.toNat (4 * j) 3
  let old (j : Nat) : Nat := Tab.get s.deep[e.val].route 0 (8 * k + j)
  let holder (j : Nat) : Option Tenant := (s.flow (engStation e) (8 * k + j)).holder
  let changed := (List.range 8).filter fun j => field j ≠ old j
  if (List.range 8).any fun j => decide (5 ≤ field j) then wrNo s
  else
    match changed.find? fun j => !(s.mayWriteEntry r (holder j) (holder j)).1 with
    | some j => s.gatherEntryWrite r (engStation e) (holder j) (holder j) s
    | none =>
      wrOk (s.modDeep e fun d => { d with
        route := Tab.modifyAll d.route 0 ((List.range 8).map (8 * k + ·)) fun n _ => field (n - 8 * k) })

/-- A write of a row-port injection entry (R268). -/
def State.rowPortSet (s : State) (r : Req) (e : Engine) (p slot : Nat) (v : Word) : WrRes :=
  let old := Tab.get s.deep[e.val].inj 0 (p * 512 + slot)
  let n := entStream v
  if entEn v && (Tab.get s.deep[e.val].route 0 n != p + 1 || !injAgrees v (s.flow (engStation e) n).holder) then wrNo s
  else
    s.gatherEntryWrite r (engStation e) (entHolder old) (entHolder v)
      (s.modDeep e fun d => { d with inj := Tab.put d.inj 0 (p * 512 + slot) (slotStored 5 v) })

/-- Words +0x04 to +0x14 of a row-table entry: staged for the requester (R269). -/
def State.rowStage (s : State) (r : Req) (e : Engine) (i w : Nat) (v : Word) : WrRes :=
  wrOk (s.modDeep e fun d => { d with stage := Tab.put d.stage none (r.key * 8 + w) (some (i, v)) })

/-- A word +0x00 of a row-table entry commits the entry with the words staged for it (R247, R269). -/
def State.rowCommit (s : State) (r : Req) (e : Engine) (i : Nat) (v : Word) : WrRes :=
  let d := s.deep[e.val]
  let old := Tab.get d.rows {} i
  let word (w : Nat) (o : Word) : Word :=
    match Tab.get d.stage none (r.key * 8 + w) with
    | some (j, x) => if j = i then x else o
    | none => o
  let new : RowEnt := ⟨v, word 1 old.w1, word 2 old.w2, word 3 old.w3, word 4 old.w4, word 5 old.w5⟩
  let s1 := s.modDeep e fun d =>
    { d with stage := Tab.modifyAll d.stage none ((List.range 8).map (r.key * 8 + ·)) fun _ _ => none }
  if new.valid && new.refused s.grade.perCluster then wrNo s1
  else
    s1.gatherEntryWrite r (engStation e) old.holder new.holder
      (s1.modDeep e fun d => { d with rows := Tab.put d.rows {} i new })

/-- The tenant a group map value names: that of its valid row-table entry. -/
def State.mapHolder (s : State) (e : Engine) (m : BitVec 16) : Option Tenant :=
  if m.msb then (Tab.get s.deep[e.val].rows {} (m.toNat % 4096)).holder else none

/-- A write of group map word j (R270): both entries, if R182 holds for every tenant that an old or new value
names. -/
def State.mapSet (s : State) (r : Req) (e : Engine) (j : Nat) (v : Word) : WrRes :=
  let d := s.deep[e.val]
  let lo := v.extractLsb' 0 16
  let hi := v.extractLsb' 16 16
  let named := [Tab.get d.map 0 (2 * j), Tab.get d.map 0 (2 * j + 1), lo, hi].map (s.mapHolder e)
  let new := s.modDeep e fun d => { d with map := Tab.put (Tab.put d.map 0 (2 * j) lo) 0 (2 * j + 1) hi }
  match named.find? fun t => t.isSome && !(s.mayWriteEntry r t t).1 with
  | some t => s.gatherEntryWrite r (engStation e) t t s
  | none => s.gatherEntryWrite r (engStation e) none none new

/-- Non-reserved bits of an engine register. -/
def deepMask32 (off : Nat) : Word :=
  if off = 0x1_4004 then 0xF0
  else if off = 0x1_4008 then 0x3F
  else if 0x1_4030 ≤ off ∧ off < 0x1_4040 then 0x00FF1FFF
  else if 0x1_4200 ≤ off ∧ off < 0x1_4210 then 0x81FF01FF
  else if off = 0x1_4210 then 0xF1FF01FF
  else if 0x1_4300 ≤ off ∧ off < 0x1_4320 then 0x77777777
  else if 0x1_8000 ≤ off ∧ off < 0x1_A000 then slotMask 5
  else if 0x4_0000 ≤ off ∧ off < 0x6_0000 then
    match off % 32 / 4 with
    | 0 => 0xFFFFFFFF | 1 => 0x1FFFFFFF | 2 => 0x3FFFF | 3 => 0x3FFFFFFF | 4 => 0xFFFFF | 5 => 0xFFFFF000
    | _ => 0
  else if 0x6_0000 ≤ off ∧ off < 0x8_0000 then 0x8FFF8FFF
  else 0xFFFFFFFF

/-- An offset lies in an engine range (R259). -/
def inDeep (off : Nat) : Bool :=
  (decide (0x1_4000 ≤ off) && decide (off < 0x1_4080)) || (decide (0x1_4200 ≤ off) && decide (off < 0x1_4220)) ||
  (decide (0x1_4300 ≤ off) && decide (off < 0x1_4320)) || (decide (0x1_5000 ≤ off) && decide (off < 0x1_5020)) ||
  (decide (0x1_8000 ≤ off) && decide (off < 0x1_A000)) || (decide (0x4_0000 ≤ off) && decide (off < 0x8_0000))

/-- Write an engine register. -/
def State.deepWrite (s : State) (r : Req) (e : Engine) (off : Nat) (v : Word) : WrRes :=
  if off = 0x1_4004 then (if e.val = 1 then wrNo s else s.memCfgSet r v)
  else if off = 0x1_4008 then
    wrOk (s.modDeep e fun d => { d with region := d.region && !v.getLsbD 2, unserved := d.unserved && !v.getLsbD 1 })
  else if 0x1_4030 ≤ off ∧ off < 0x1_4040 then s.memQuotaSet r e (Fin.ofNat 4 ((off - 0x1_4030) / 4)) v
  else if 0x1_4200 ≤ off ∧ off < 0x1_4210 then
    if e.val = 1 then wrNo s else s.memTregSet r (Fin.ofNat 4 ((off - 0x1_4200) / 4)) v
  else if off = 0x1_4210 then wrIf (r == .mp && e.val == 0) s { s with shr := v }
  else if 0x1_4300 ≤ off ∧ off < 0x1_4320 then s.memRouteSet r e ((off - 0x1_4300) / 4) v
  else if 0x1_8000 ≤ off ∧ off < 0x1_A000 then
    s.rowPortSet r e ((off - 0x1_8000) / 0x800) (off % 0x800 / 4) v
  else if 0x4_0000 ≤ off ∧ off < 0x6_0000 then
    let i := (off - 0x4_0000) / 32
    let w := off % 32 / 4
    if w = 0 then s.rowCommit r e i v else if w ≤ 5 then s.rowStage r e i w v else wrOk s
  else if 0x6_0000 ≤ off ∧ off < 0x8_0000 then s.mapSet r e ((off - 0x6_0000) / 4) v
  else wrOk s

/-- Clear an RC counter of an engine. -/
def DeepEngine.clear (d : DeepEngine) (off : Nat) : DeepEngine :=
  if 0x1_4040 ≤ off ∧ off < 0x1_4050 then { d with drop := Tab.put d.drop 0 ((off - 0x1_4040) / 4) 0 }
  else match off with
    | 0x1_4050 => { d with unservedCnt := 0 }
    | 0x1_4054 => { d with regionErr := 0 }
    | 0x1_4058 => { d with eccCe := 0 }
    | 0x1_4060 => { d with edcRetry := 0 }
    | 0x1_4064 => { d with rowsRead := 0 }
    | 0x1_4068 => { d with merged := 0 }
    | 0x1_406C => { d with segs := 0 }
    | 0x1_4070 => { d with sectors := 0 }
    | _ => d

/-- The present value of an engine's first range. -/
def State.deepIdent (s : State) (e : Engine) (off : Nat) : Nat :=
  let d := s.deep[e.val]
  let occ (t : Nat) : Nat := (Tab.get d.ingress [] t).length
  if 0x1_4030 ≤ off ∧ off < 0x1_4040 then
    let q := Tab.get d.quota (0, 0) ((off - 0x1_4030) / 4)
    q.1 * 2 ^ 16 + q.2
  else if 0x1_4040 ≤ off ∧ off < 0x1_4050 then Tab.get d.drop 0 ((off - 0x1_4040) / 4)
  else match off with
    | 0x1_4000 => b2n s.straps.mem * 2 + e.val
    | 0x1_4004 => s.memRate * 64 + b2n s.memDbi * 32 + b2n s.memEcc * 16
    | 0x1_4008 => b2n d.selfRef * 32 + b2n d.ecUe * 16 + b2n d.edcFail * 8 + b2n d.region * 4 + b2n d.unserved * 2 +
        b2n (d.chan.all (·.trained))
    | 0x1_400C => d.err.addr % 2 ^ 32
    | 0x1_4010 => d.err.kind * 2 ^ 30 + d.err.chan * 2 ^ 12 + d.err.addr / 2 ^ 32
    | 0x1_4020 => occ 1 * 2 ^ 16 + occ 0
    | 0x1_4024 => occ 3 * 2 ^ 16 + occ 2
    | 0x1_4028 => d.window.length * 2 ^ 24 + (4096 - d.chunksUsed fun _ => true)
    | 0x1_4050 => d.unservedCnt
    | 0x1_4054 => d.regionErr
    | 0x1_4058 => d.eccCe
    | 0x1_4060 => d.edcRetry
    | 0x1_4064 => d.rowsRead
    | 0x1_4068 => d.merged
    | 0x1_406C => d.segs
    | 0x1_4070 => d.sectors
    | _ => 0

/-- Words of a committed row-table entry. -/
def RowEnt.word (x : RowEnt) (w : Nat) : Word :=
  match w with | 0 => x.w0 | 1 => x.w1 | 2 => x.w2 | 3 => x.w3 | 4 => x.w4 | 5 => x.w5 | _ => 0

/-- Read an engine register. -/
def State.deepRead (s : State) (r : Req) (e : Engine) (off : Nat) : RdRes :=
  let d := s.deep[e.val]
  if off < 0x1_4080 then rdThen (s.modDeep e fun d => d.clear off) (s.deepIdent e off)
  else if 0x1_4200 ≤ off ∧ off < 0x1_4210 then (s, some (Tab.get s.treg 0 ((off - 0x1_4200) / 4)))
  else if off = 0x1_4210 then (s, some s.shr)
  else if 0x1_4300 ≤ off ∧ off < 0x1_4320 then
    rd s ((List.range 8).foldl (fun n j => n + Tab.get d.route 0 (8 * ((off - 0x1_4300) / 4) + j) * 16 ^ j) 0)
  else if 0x1_5000 ≤ off ∧ off < 0x1_5020 then
    let c := d.chan[(off - 0x1_5000) / 4 % 8]
    rd s (c.temp.toNat * 256 + b2n c.failed * 4 + b2n c.trained * 2 + b2n c.sr)
  else if 0x1_8000 ≤ off ∧ off < 0x1_A000 then
    let w := Tab.get d.inj 0 ((off - 0x1_8000) / 4)
    (s, some (visible r (entHolder w) 0x8C000000 w))
  else if 0x4_0000 ≤ off ∧ off < 0x6_0000 then
    let x := Tab.get d.rows {} ((off - 0x4_0000) / 32)
    (s, some (visible r x.holder (if off % 32 = 0 then 0xE0000000 else 0) (x.word (off % 32 / 4))))
  else if 0x6_0000 ≤ off ∧ off < 0x8_0000 then
    let j := (off - 0x6_0000) / 4
    let lo := Tab.get d.map 0 (2 * j)
    let hi := Tab.get d.map 0 (2 * j + 1)
    let see (m : BitVec 16) : Word := visible r (s.mapHolder e m) 0x8000 (m.setWidth 32)
    (s, some ((see hi <<< 16) ||| see lo))
  else rd s 0

end Sys2Proof.Machine
end

