-- ==== Sys2Proof/Machine/GatherRegs.lean ====
section
/-!
DEFINITION. The Thread, watchdog, fault collector, Gather and messaging registers of a station block (R228 to R231,
R271, R509).
-/

namespace Sys2Proof.Machine

/-- An offset lies in a range of R228, R271 or R509 that every station or some stations have. -/
def inGather (off : Nat) : Bool :=
  (decide (0x7000 ≤ off) && decide (off < 0x8000)) || (decide (0xA000 ≤ off) && decide (off < 0xB400)) ||
  (decide (0xC000 ≤ off) && decide (off < 0xF000)) || (decide (0x1_0000 ≤ off) && decide (off < 0x1_0A00)) ||
  (decide (0x1_1000 ≤ off) && decide (off < 0x1_1A00)) || (decide (0x1_2000 ≤ off) && decide (off < 0x1_2800)) ||
  (decide (0x1_3000 ≤ off) && decide (off < 0x1_3400))

/-- Non-reserved bits. -/
def gatherMask (off : Nat) : Word :=
  if off = 0x7100 then 0xFFFF
  else if off = 0x7104 then 0x8000071F
  else if off = 0x7200 then 0x1F
  else if off = 0x7310 then 0x1
  else if off = 0xA000 then 0x7
  else if 0xB000 ≤ off ∧ off < 0xB400 then
    match off % 16 / 4 with | 0 => 0x80000003 | 2 => 0xFF | _ => 0xFFFFFFFF
  else if 0xC000 ≤ off ∧ off < 0xF000 then slotMask ((off - 0xC000) / 0x800)
  else if 0x1_2000 ≤ off ∧ off < 0x1_2800 then (if off % 8 = 0 then 0x8003FFFF else 0x00000F0F)
  else if 0x1_3000 ≤ off ∧ off < 0x1_3400 then
    match off % 16 / 4 with | 0 => 0x80FF007F | 1 => 0xFFFF | _ => 0xFFFFFFFF
  else 0xFFFFFFFF

/-- Change a flow. -/
def State.modFlow (s : State) (st n : Nat) (f : Flow → Flow) : State :=
  s.modGather st fun g => { g with flows := Tab.modify g.flows {} n f }

/-- No enabled entry of a row-port injection table of another tenant names flow n (R170, R268). -/
def State.rowPortFree (s : State) (st n : Nat) (t : Tenant) : Bool :=
  let free (d : DeepEngine) : Bool := d.inj.all fun e => !entEn e.2 || entStream e.2 != n || entTenant e.2 == t
  if st = stMemW then free s.deep[0] else if st = stMemE then free s.deep[1] else true

/-- Write a register of flow n (R182, R230). -/
def State.flowWrite (s : State) (r : Req) (st n reg : Nat) (v : Word) : WrRes :=
  let x := s.flow st n
  match reg with
  | 0 =>
    let en := v.msb
    let t : Tenant := Fin.ofNat 4 (bitsOf v.toNat 0 2)
    if en && !(s.injFree .gather st n t && s.rowPortFree st n t) then wrNo s
    else
      s.gatherEntryWrite r st x.holder (if en then some t else none)
        (s.modFlow st n fun y =>
          if en then { y with en := true, tenant := t }
          else { y with en := false, tenant := 0, clusters := 0, edge := 0 })
  | 1 => s.gatherEntryWrite r st x.holder x.holder (s.modFlow st n fun y => { y with clusters := v })
  | 2 => s.gatherEntryWrite r st x.holder x.holder (s.modFlow st n fun y => { y with edge := v.setWidth 8 })
  | _ => wrOk s

/-- The tenant of a cluster is stopped; a cluster without a tenant counts as stopped. -/
def State.clusterStopped (s : State) (cl : Nat) : Bool :=
  match s.tenantOf cl with | some t => s.isStopped t | none => true

/-- A combining queue. -/
def State.comb (s : State) (cl k : Nat) : Combine := Tab.get (s.cluster cl).comb {} k
/-- Another combining queue of the cluster is bound to a receive queue (R223). -/
def State.boundElsewhere (s : State) (cl k lcore q : Nat) : Bool :=
  (List.range 64).any fun j => j != k && (s.comb cl j).en && (s.comb cl j).lcore == lcore && (s.comb cl j).queue == q

/-- Write a queue window or combining queue register (R231). -/
def State.msgWrite (s : State) (cl off : Nat) (v : Word) : WrRes :=
  if off < 0x1_2800 then
    let i := (off - 0x1_2000) / 8
    if off % 8 = 0 then
      wrOk (s.modCluster cl fun c => { c with qwin := Tab.modify c.qwin {} i fun q =>
        { q with valid := v.msb, flow := bitsOf v.toNat 12 6, dest := v.setWidth 12 } })
    else
      wrIf (s.clusterStopped cl) s (s.modCluster cl fun c => { c with qwin := Tab.modify c.qwin {} i fun q =>
        { q with window := bitsOf v.toNat 0 4 } })
  else
    let k := (off - 0x1_3000) / 16
    match off % 16 / 4 with
    | 0 =>
      let lcore := bitsOf v.toNat 2 5
      let q := bitsOf v.toNat 0 2
      wrIf (s.clusterStopped cl && !(v.msb && s.boundElsewhere cl k lcore q)) s
        (s.modCluster cl fun c => { c with comb := Tab.modify c.comb {} k fun x =>
          { x with en := v.msb, len := bitsOf v.toNat 16 8, lcore := lcore, queue := q } })
    | 1 =>
      wrIf (s.clusterStopped cl && v != 0) s
        (s.modCluster cl fun c => { c with comb := Tab.modify c.comb {} k fun x => { x with count := v.toNat } })
    | _ => wrOk s

/-- Clear the P, C and W keys of a collector's seen set (R502, R509). -/
def clearPcwKeys (seen : BitVec 256) : BitVec 256 := seen &&& 0xFFFFFFFFFFFFFFFF#256

/-- Write a register of the Thread, watchdog, landing split, collector or Gather ranges. -/
def State.gatherRegWrite (s : State) (r : Req) (st off : Nat) (v : Word) : WrRes :=
  let cluster := decide (st < 32)
  if off < 0x7040 then wrOk s
  else if 0x7100 ≤ off ∧ off < 0x7140 then
    if !cluster then wrNo s
    else match off with
      | 0x7100 => wrOk (s.modCluster st fun c => { c with wdLimit := v.toNat })
      | 0x7104 => wrOk (s.modCluster st fun c => { c with wdFired := c.wdFired && !v.msb })
      | _ => wrOk s
  else if off = 0x7200 then
    wrIf (cluster && s.clusterStopped st && decide (v.toNat ≤ 16)) s
      (s.modCluster st fun c => { c with lbWslots := v.toNat })
  else if 0x7300 ≤ off ∧ off < 0x7340 then
    if off = 0x7310 then
      wrIf (r == .mp) s (if v.getLsbD 0 then
        s.modStation st fun x => { x with fc := { x.fc with seen := clearPcwKeys x.fc.seen } } else s)
    else wrOk s
  else if off < 0x8000 then wrOk s
  else if off < 0xA100 then
    if off = 0xA000 then
      wrOk (s.modGather st fun g => { g with err := g.err && !v.getLsbD 1, conflict := g.conflict && !v.getLsbD 0 })
    else wrOk s
  else if off < 0xB000 then wrOk s
  else if off < 0xB400 then
    if gatherInjects st then s.flowWrite r st ((off - 0xB000) / 16) (off % 16 / 4) v else wrNo s
  else if off < 0xF000 then s.slotWrite .gather r st ((off - 0xC000) / 0x800) (off % 0x800 / 4) v
  else if off < 0x1_0A00 then
    let w := (off - 0x1_0000) / 4
    let n := w / 10
    let past := (List.range 4).any fun j => 64 < bitsOf v.toNat (8 * j) 8
    if !gatherInjects st || past then wrNo s
    else
      s.gatherEntryWrite r st (s.flow st n).holder (s.flow st n).holder
        (s.modGather st fun g => { g with win := putFour g.win (4 * w) v })
  else if off < 0x1_1A00 then (if gatherInjects st then wrOk s else wrNo s)
  else if cluster then s.msgWrite st off v else wrNo s

/-- Clear an RC counter of these ranges. -/
def State.gatherClear (s : State) (st off : Nat) : State :=
  match off with
  | 0x7004 => s.modThread st fun t => { t with tx := 0 }
  | 0x7008 => s.modThread st fun t => { t with rx := 0 }
  | 0x700C => s.modThread st fun t => { t with err := 0 }
  | 0x710C => s.modCluster st fun c => { c with wdCnt := 0 }
  | 0x7304 => s.modStation st fun x => { x with fc := { x.fc with suppr := 0 } }
  | 0xA010 => s.modGather st fun g => { g with pktTx := 0 }
  | 0xA014 => s.modGather st fun g => { g with pktRx := 0 }
  | 0xA018 => s.modGather st fun g => { g with errCnt := 0 }
  | 0xA01C => s.modGather st fun g => { g with cwait := 0 }
  | 0xA020 => s.modGather st fun g => { g with iso := 0 }
  | 0xA024 => s.modGather st fun g => { g with stray := 0 }
  | _ => s

/-- The present value of a control, status or counter register of these ranges. -/
def State.gatherIdent (s : State) (st off : Nat) : Nat :=
  let x := s.station st
  let c := s.cluster st
  let g := x.gather
  match off with
  | 0x7000 => b2n x.thread.crc * 128 + s.theta
  | 0x7004 => x.thread.tx
  | 0x7008 => x.thread.rx
  | 0x700C => x.thread.err
  | 0x7100 => if st < 32 then c.wdLimit else 0
  | 0x7104 => if st < 32 then b2n c.wdFired * 2 ^ 31 + c.wdInsn * 256 + c.wdCore else 0
  | 0x7108 => if st < 32 then c.wdArg.toNat else 0
  | 0x710C => if st < 32 then c.wdCnt else 0
  | 0x7200 => if st < 32 then c.lbWslots else 0
  | 0x7300 => (Tab.get x.thread.queues [] 0).length
  | 0x7304 => x.fc.suppr
  | 0x7308 => x.fc.last.toNat % 2 ^ 32
  | 0x730C => bitsOf x.fc.last.toNat 48 6 * 2 ^ 24 + bitsOf x.fc.last.toNat 40 8 * 2 ^ 16 + bitsOf x.fc.last.toNat 32 8
  | 0xA000 => b2n (s.anyDead .gather st) * 4 + b2n g.err * 2 + b2n g.conflict
  | 0xA004 => g.linkErr.toNat
  | 0xA008 => (g.cells.filter fun e => e.2.isSome).length
  | 0xA010 => g.pktTx
  | 0xA014 => g.pktRx
  | 0xA018 => g.errCnt
  | 0xA01C => g.cwait
  | 0xA020 => g.iso
  | 0xA024 => g.stray
  | _ => 0

/-- Read a queue window or combining queue register (R231). -/
def State.msgRead (s : State) (cl off : Nat) : Nat :=
  if off < 0x1_2800 then
    let q := s.qwin cl ((off - 0x1_2000) / 8)
    if off % 8 = 0 then b2n q.valid * 2 ^ 31 + q.flow * 2 ^ 12 + q.dest.toNat else q.cred * 256 + q.window
  else
    let x := s.comb cl ((off - 0x1_3000) / 16)
    match off % 16 / 4 with
    | 0 => b2n x.en * 2 ^ 31 + x.len * 2 ^ 16 + x.lcore * 4 + x.queue
    | 1 => x.count
    | 2 => b2n x.done * 2 ^ 31 + b2n x.sat * 2 ^ 30 + x.received
    | _ => x.round

/-- Read a register of flow n (R183, R230). -/
def State.flowRead (s : State) (r : Req) (st n reg : Nat) : RdRes :=
  let x := s.flow st n
  let mine := match r, x.holder with | .port p, some t => p == t | _, _ => true
  match reg with
  | 0 => rd s (b2n x.en * 2 ^ 31 + x.tenant.val)
  | 1 => rd s (if mine then x.clusters.toNat else 0)
  | 2 => rd s (if mine then x.edge.toNat else 0)
  | _ => if mine then rdThen (s.modFlow st n fun y => { y with sent := 0 }) x.sent else rd s 0

/-- Read a register of these ranges. -/
def State.gatherRegRead (s : State) (r : Req) (st off : Nat) : RdRes :=
  if off < 0xB000 then rdThen (s.gatherClear st off) (s.gatherIdent st off)
  else if off < 0xB400 then
    if gatherInjects st then s.flowRead r st ((off - 0xB000) / 16) (off % 16 / 4) else rd s 0
  else if off < 0xF000 then (s, some (s.slotRead .gather r st ((off - 0xC000) / 0x800) (off % 0x800 / 4)))
  else if off < 0x1_1A00 then
    let w := off % 0x1000 / 4
    let g := (s.station st).gather
    if gatherInjects st then
      (s, some (visible r (s.flow st (w / 10)).holder 0
        (BitVec.ofNat 32 (fourBytes (if off < 0x1_1000 then g.win else g.cred) (4 * w)))))
    else rd s 0
  else if st < 32 then rd s (s.msgRead st off) else rd s 0

end Sys2Proof.Machine
end

