-- ==== Sys2Proof/Machine/CoreRegs.lean ====
section
/-!
DEFINITION. The core register window and the cluster receive unit's registers (R89 to R102, R151 to R159, R232, R279,
R295 to R299).
-/

namespace Sys2Proof.Machine

/-- A core is halted or its tenant is stopped (R30, R75, R96). -/
def State.coreQuiet (s : State) (k : Nat) : Bool := (s.core k).e.dbg.halted || s.clusterStopped (k / 32)

/-- Non-reserved bits of a core register. -/
def coreMaskBits (off : Nat) : Word :=
  if off = 0x004 then 1
  else if 0x020 ≤ off ∧ off ≤ 0x028 then 0x80000FFF
  else if off = 0x02C then 0x800F0FFF
  else if off = 0x080 then 0xF
  else if off = 0x088 then 0xFF
  else if 0x090 ≤ off ∧ off < 0x0A0 then 0x80000FFF
  else if off = 0x200 then 0x0FFF001F
  else if off = 0x204 then 0xF0
  else if off = 0x280 then 0xE00000FF
  else if 0x2A0 ≤ off ∧ off < 0x300 then
    match (off - 0x2A0) % 12 / 4 with | 0 => 0xFFFFFFFF | 1 => 0xFFFF7FFF | _ => 0xFFFFFF0F
  else if 0x300 ≤ off ∧ off < 0x340 ∧ off % 16 = 4 then 0x8003FFFF
  else if 0x400 ≤ off ∧ off < 0x800 then 0x3F
  else 0xFFFFFFFF

/-- An entry register as written (R96, R97). -/
def entryOf (v : Word) : EntryReg :=
  { en := v.msb, addr := v.setWidth 12, qmask := v.extractLsb' 16 4 }

/-- A word of a rule descriptor is refused (R299). -/
def ruleRefused (w : Nat) (v : Word) : Bool :=
  match w with
  | 0 => bitsOf v.toNat 30 2 == 3
  | 1 => bitsOf v.toNat 8 7 == 0 || decide (sextNat 4 (bitsOf v.toNat 0 4) < sextNat 4 (bitsOf v.toNat 4 4))
  | _ => decide (12 < bitsOf v.toNat 0 4)

/-- Write a core register of the identity, control, entry and debug ranges. -/
def State.coreWriteLow (s : State) (c : CoreId) (off : Nat) (v : Word) : WrRes :=
  let k := c.key
  let quiet := s.coreQuiet k
  let cr (f : CoreRegs → CoreRegs) : State := s.modE k fun e => { e with cr := f e.cr }
  match off with
  | 0x004 => wrOk (cr fun r => { r with seedSrc := v.getLsbD 0 })
  | 0x008 => wrOk (cr fun r => { r with seed := v })
  | 0x020 => wrIf quiet s (cr fun r => { r with entTick := { entryOf v with qmask := 0 } })
  | 0x024 => wrIf quiet s (cr fun r => { r with entUpdate := { entryOf v with qmask := 0 } })
  | 0x028 => wrIf quiet s (cr fun r => { r with entEpoch := { entryOf v with qmask := 0 } })
  | 0x02C => wrIf quiet s (cr fun r => { r with entMessage := entryOf v })
  | 0x080 => wrOk (s.dbgCtrl c v)
  | 0x088 =>
    wrOk (if s.debugEnabled then s.modE k fun e => { e with dbg := { e.dbg with sel := v.setWidth 8 } } else s)
  | 0x08C => wrOk (if s.debugEnabled && (s.core k).e.dbg.halted then s.dbgSet k (s.core k).e.dbg.sel.toNat v else s)
  | _ =>
    if 0x090 ≤ off ∧ off < 0x0A0 ∧ s.debugEnabled then
      wrOk (s.modE k fun e =>
        { e with dbg := { e.dbg with bp := Vector.ofFn fun i => if 0x090 + 4 * i.val = off then v else e.dbg.bp[i.val] } })
    else wrOk s

/-- Word w of a 512-bit block set, and the set with that word replaced. -/
def setWord (x : BitVec 512) (w : Nat) : Word := x.extractLsb' (32 * w) 32
def putWord (x : BitVec 512) (w : Nat) (v : Word) : BitVec 512 :=
  (x &&& ~~~((0xFFFFFFFF#512) <<< (32 * w))) ||| (v.setWidth 512 <<< (32 * w))

/-- Write a core register. -/
def State.coreWrite (s : State) (c : CoreId) (off : Nat) (v : Word) : WrRes :=
  let k := c.key
  let quiet := s.coreQuiet k
  let stopped := s.clusterStopped (k / 32)
  if off < 0x100 then s.coreWriteLow c off v
  else if 0x140 ≤ off ∧ off < 0x180 then
    wrIf quiet s (s.modE k fun e => { e with blk := { e.blk with held := putWord e.blk.held ((off - 0x140) / 4) v } })
  else if 0x1C0 ≤ off ∧ off < 0x200 then
    let w := (off - 0x1C0) / 4
    wrOk (s.modE k fun e =>
      { e with blk := { e.blk with sat := putWord e.blk.sat w (setWord e.blk.sat w &&& ~~~v) } })
  else if off = 0x200 then
    let n := bitsOf v.toNat 0 4
    if !stopped then wrNo s
    else
      wrOk (s.modI k fun i =>
        if n ≤ 12 then { i with salt := v.extractLsb' 16 12, filtEn := v.getLsbD 4, filtLog2 := n } else i)
  else if off = 0x204 then
    wrOk (s.modI k fun i => { i with rowErr := i.rowErr && !v.getLsbD 6 })
  else if off = 0x280 then
    wrIf stopped s (s.modCore k fun x => { x with mrv := { x.mrv with ctrl := v } })
  else if 0x2A0 ≤ off ∧ off < 0x300 then
    let n := (off - 0x2A0) / 12
    let w := (off - 0x2A0) % 12 / 4
    if !stopped || ruleRefused w v then wrNo s
    else
      wrOk (s.modCore k fun x => { x with mrv := { x.mrv with
        rules := Tab.modify x.mrv.rules {} n fun d =>
          match w with | 0 => { d with a := v } | 1 => { d with b := v } | _ => { d with c := v } } })
  else if 0x300 ≤ off ∧ off < 0x340 ∧ off % 16 = 4 then
    if !stopped || v.extractLsb' 0 6 != 0 then wrNo s
    else
      wrOk (s.modQ k (Fin.ofNat 4 ((off - 0x300) / 16)) fun q =>
        { q with areaEn := v.msb, areaBase := v.setWidth 18 })
  else if 0x400 ≤ off ∧ off < 0x800 then wrOk (s.setScaleReg k ((off - 0x400) / 4) (v.setWidth 6))
  else if 0x800 ≤ off ∧ off < 0x1000 then wrIf quiet s (s.setBlkEntry k ((off - 0x800) / 4) v)
  else wrOk s

/-- CORE_STATUS (R93). -/
def State.coreStatus (s : State) (k : Nat) : Nat :=
  let e := (s.core k).e
  let waits := match e.stall with
    | some x => x.kind == .gate || (x.kind == .emit && s.coreLossless k)
    | none => false
  b2n e.cr.stale * 128 + b2n e.fl.gate * 64 + b2n waits * 32 + b2n (e.dbg.halted && e.dbg.reason != 4) * 16 + e.st.code

/-- CORE_DBG_STAT but for PC (R100). -/
def Debug.stat (d : Debug) : Nat :=
  b2n d.halted * 2 ^ 31 + d.reason * 2 ^ 28 + b2n d.stepping * 2 ^ 27 + (if d.reason = 2 then d.bpHit.val else 0) * 2 ^ 12

/-- The integration unit is working on an item (R154). The rows take whole items, so BUSY reads 1 while the emit phase is
open and an item waits: DESIGN CHOICE (notes/assumptions/57.md). -/
def State.intBusy (s : State) (k : Nat) : Bool :=
  (s.core k).e.fl.phase && !((s.core k).i.fifo.isEmpty && (s.core k).i.segs.isEmpty)

/-- A combining queue is bound to a receive queue (R232). -/
def State.isBound (s : State) (cl lcore q : Nat) : Bool :=
  (List.range 64).any fun j => (s.comb cl j).en && (s.comb cl j).lcore == lcore && (s.comb cl j).queue == q

/-- The combining queue bound to a receive queue. -/
def State.boundComb (s : State) (cl lcore q : Nat) : Option Nat :=
  (List.range 64).find? fun j => (s.comb cl j).en && (s.comb cl j).lcore == lcore && (s.comb cl j).queue == q

/-- Read a register of a receive queue (R232). -/
def State.queueRead (s : State) (k q reg : Nat) : Nat :=
  let x := (s.core k).q.toList.getD q {}
  let head := match x.entries with | y :: _ => y.desc | [] => 0
  match reg with
  | 0 => b2n (s.isBound (k / 32) (k % 32) q) * 256 + b2n x.kept.isSome * 128 + x.entries.length
  | 1 => b2n x.areaEn * 2 ^ 31 + x.areaBase.toNat
  | 2 => head.toNat % 2 ^ 32
  | _ => head.toNat / 2 ^ 32

/-- Read a core register of the first range. -/
def State.coreReadLow (s : State) (c : CoreId) (off : Nat) : RdRes :=
  let k := c.key
  let e := (s.core k).e
  let entry (r : EntryReg) : Nat := b2n r.en * 2 ^ 31 + r.qmask.toNat * 2 ^ 16 + r.addr.toNat
  match off with
  | 0x000 => (s, some (s.coreId k))
  | 0x004 => rd s (b2n e.cr.seedSrc)
  | 0x00C => rd s (s.coreStatus k)
  | 0x010 => rd s (e.cr.fault.cause.toNat * 2 ^ 16 + e.cr.fault.entry.toNat * 2 ^ 12 + e.cr.fault.pc.toNat)
  | 0x014 => rd s e.cr.updCc.toNat
  | 0x018 => rd s e.cr.gateCc.toNat
  | 0x020 => rd s (entry e.cr.entTick)
  | 0x024 => rd s (entry e.cr.entUpdate)
  | 0x028 => rd s (entry e.cr.entEpoch)
  | 0x02C => rd s (entry e.cr.entMessage)
  | 0x040 => rdThen (s.modE k fun e => { e with cr := { e.cr with dupEmit := 0 } }) e.cr.dupEmit
  | 0x044 => rdThen (s.modE k fun e => { e with cr := { e.cr with emitCnt := 0 } }) e.cr.emitCnt
  | 0x084 =>
    if e.dbg.halted then rd s (e.dbg.stat + e.regs.pc.toNat)
    else rdThen s.spend (e.dbg.stat + s.free.toNat % 4096)
  | 0x088 => rd s e.dbg.sel.toNat
  | 0x08C =>
    if s.debugEnabled && e.dbg.halted then
      ((if e.dbg.sel = 0xAC then s.spend else s), some (s.dbgGet k e.dbg.sel.toNat))
    else rd s 0
  | _ => rd s (if 0x090 ≤ off ∧ off < 0x0A0 then (e.dbg.bp.toList.getD ((off - 0x090) / 4) 0).toNat else 0)

/-- Clear an RC counter of a core. -/
def State.coreClear (s : State) (k off : Nat) : State :=
  match off with
  | 0x20C => s.modI k fun i => { i with drop := 0 }
  | 0x210 => s.modI k fun i => { i with late := 0 }
  | 0x214 => s.modI k fun i => { i with rowErrCnt := 0 }
  | 0x218 => s.modI k fun i => { i with eccCe := 0 }
  | 0x220 => s.modI k fun i => { i with filtHit := 0 }
  | 0x224 => s.modI k fun i => { i with recCnt := 0 }
  | 0x228 => s.modI k fun i => { i with bankStall := 0 }
  | 0x22C => s.modI k fun i => { i with segCnt := 0 }
  | 0x28C => s.modCore k fun c => { c with mrv := { c.mrv with steps := 0 } }
  | 0x290 => s.modCore k fun c => { c with mrv := { c.mrv with create := 0 } }
  | 0x294 => s.modCore k fun c => { c with mrv := { c.mrv with prune := 0 } }
  | 0x298 => s.modCore k fun c => { c with mrv := { c.mrv with full := 0 } }
  | 0x340 => s.modCore k fun c => { c with qErr := 0 }
  | _ => s

/-- The present value of an integration unit, Marver or receive queue register. -/
def State.coreIdent (s : State) (k off : Nat) : Nat :=
  let c := s.core k
  match off with
  | 0x200 => c.i.salt.toNat * 2 ^ 16 + b2n c.i.filtEn * 16 + c.i.filtLog2
  | 0x204 => b2n c.i.ecUe * 128 + b2n c.i.rowErr * 64 + b2n (!c.i.segs.isEmpty) * 32 + b2n (s.intBusy k) * 16
  | 0x208 => c.i.segs.length * 256 + c.i.fifo.length
  | 0x20C => c.i.drop
  | 0x210 => c.i.late
  | 0x214 => c.i.rowErrCnt
  | 0x218 => c.i.eccCe
  | 0x21C => c.i.eccKind * 2 ^ 30 + c.i.eccWord
  | 0x220 => c.i.filtHit
  | 0x224 => c.i.recCnt
  | 0x228 => c.i.bankStall
  | 0x22C => c.i.segCnt
  | 0x280 => c.mrv.ctrl.toNat
  | 0x284 => b2n c.mrv.working * 2 ^ 31 + b2n c.e.md.skip * 2 ^ 30 + b2n c.mrv.apply * 2 ^ 29 + c.e.md.value.toNat
  | 0x288 => c.mrv.cc.toNat
  | 0x28C => c.mrv.steps
  | 0x290 => c.mrv.create
  | 0x294 => c.mrv.prune
  | 0x298 => c.mrv.full
  | 0x340 => c.qErr
  | _ =>
    if 0x2A0 ≤ off ∧ off < 0x300 then
      let d := Tab.get c.mrv.rules {} ((off - 0x2A0) / 12)
      match (off - 0x2A0) % 12 / 4 with | 0 => d.a.toNat | 1 => d.b.toNat | _ => d.c.toNat
    else if 0x300 ≤ off ∧ off < 0x340 then s.queueRead k ((off - 0x300) / 16) (off % 16 / 4)
    else 0

/-- Read a core register. -/
def State.coreRead (s : State) (c : CoreId) (off : Nat) : RdRes :=
  let k := c.key
  let b := (s.core k).e.blk
  if off < 0x100 then s.coreReadLow c off
  else if off < 0x140 then (s, some (setWord b.active ((off - 0x100) / 4)))
  else if off < 0x180 then (s, some (setWord b.held ((off - 0x140) / 4)))
  else if off < 0x1C0 then (s, some (setWord b.pending ((off - 0x180) / 4)))
  else if off < 0x200 then (s, some (setWord b.sat ((off - 0x1C0) / 4)))
  else if off < 0x380 then rdThen (s.coreClear k off) (s.coreIdent k off)
  else if off < 0x400 then rd s 0
  else if off < 0x800 then rd s (s.scaleReg k ((off - 0x400) / 4)).toNat
  else (s, some (s.blkEntry k ((off - 0x800) / 4)))

/-! ### The cluster receive unit (R151, R158, R159) -/

/-- An offset lies in a receive unit range. -/
def inRx (off : Nat) : Bool :=
  (decide (0x1000 ≤ off) && decide (off < 0x1100)) || (decide (0x4_0000 ≤ off) && decide (off < 0x8_0000))

/-- Write a receive unit register (R151). -/
def State.rxWrite (s : State) (cl off : Nat) (v : Word) : WrRes :=
  if off < 0x1100 then wrOk s
  else
    let g := (off - 0x4_0000) / 4
    if !s.clusterStopped cl then wrNo s
    else if g = 0 then wrOk s
    else wrOk { s with masks := Tab.put s.masks 0 (cl * 65536 + g) (s.physMask cl v) }

/-- Read a receive unit register (R159). -/
def State.rxRead (s : State) (cl off : Nat) : RdRes :=
  let c := s.cluster cl
  match off with
  | 0x1000 => rd s c.rx.length
  | 0x1004 => rdThen (s.modCluster cl fun c => { c with foreign := 0 }) c.foreign
  | 0x1008 => rdThen (s.modCluster cl fun c => { c with holdFc := 0 }) c.holdFc
  | 0x100C => rdThen (s.modCluster cl fun c => { c with events := 0 }) c.events
  | _ => if off < 0x1100 then rd s 0 else (s, some (s.coreMask cl ((off - 0x4_0000) / 4)))

end Sys2Proof.Machine
end

