-- ==== Sys2Proof/Machine/Mem.lean ====
section
/-!
DEFINITION. External accesses to the device memories: which memory an address lies in, who may reach it, and reading
and writing it whole (R29 to R31, R131, R207, R241 to R243).
-/

namespace Sys2Proof.Machine

/-- A register write with a reserved bit set is undefined for that register (R12): what is written is a free value. -/
def State.maskedWrite (s : State) (mask v : Word) (f : State → Word → WrRes) : WrRes :=
  if v &&& ~~~mask = 0 then f s v else f s.spend (s.free &&& mask)

/-- The core whose window holds an address. -/
def coreAt (a : Nat) : CoreId :=
  ⟨Fin.ofNat 32 ((a - coreBase) / 0x200_0000), Fin.ofNat 32 ((a - coreBase) % 0x200_0000 / 0x8_0000)⟩

/-- An address lies in the window of a logical core of the grade (R29). -/
def State.inCoreWindow (s : State) (a : Nat) : Bool :=
  decide (coreBase ≤ a) && decide (a < coreBase + 0x4000_0000) &&
    decide ((a - coreBase) % 0x200_0000 / 0x8_0000 < s.grade.perCluster)
/-- An address lies in cluster shared memory (R29). -/
def inShared (a : Nat) : Bool := decide (sharedBase ≤ a) && decide (a < sharedBase + 0x200_0000)

/-- The end of the memory of R30 that a window offset lies in; none where the window is unmapped. -/
def windowEnd (off : Nat) : Option Nat :=
  if off < 0x3_0000 then some 0x3_0000
  else if off < 0x3_8000 then some 0x3_8000
  else if off < 0x4_0000 then some 0x4_0000
  else if off < 0x4_4000 then some 0x4_4000
  else if off < 0x4_8000 then some 0x4_8000
  else if off < 0x4_9000 then some 0x4_9000
  else if off < 0x4_A000 then some 0x4_A000
  else none

/-- The end of the memory of R29 or R30 that an address lies in. -/
def State.memEnd (s : State) (a : Nat) : Option Nat :=
  if a < deepTop then (if a < s.deepCap then some s.deepCap else none)
  else if s.inCoreWindow a then (windowEnd (a % 0x8_0000)).map (a - a % 0x8_0000 + ·)
  else if inShared a then some (a - a % 0x10_0000 + 0x10_0000)
  else none

/-- A range lies in one memory of R29 or R30. -/
def State.oneMemory (s : State) (a n : Nat) : Bool :=
  match s.memEnd a with | some e => decide (0 < n) && decide (a + n ≤ e) | none => false

/-- The station that performs an access to an address (R206, R240, R363). -/
def State.stationOf (s : State) (a : Nat) : Nat :=
  if a < deepTop then stMemW + s.deepEngineOf a
  else if a < sharedBase then (a - coreBase) / 0x200_0000
  else (a - sharedBase) / 0x10_0000

/-- The cluster of a core or shared memory address belongs to a tenant (R25); the memories of its cores are reached only
while its island is not in NAP, its shared memory whatever the island's state (R432). -/
def State.clusterOf (s : State) (t : Tenant) (a : Nat) : Bool :=
  s.tenantOf (s.stationOf a) == some t && (decide (s.aon.st < 2) || inShared a)

/-- A memory write that the rules of the memory allow a tenant (R28, R30, R31, R207, R242). -/
def State.mayStore (s : State) (t : Tenant) (a n : Nat) : Bool :=
  s.oneMemory a n &&
  (if a < deepTop then s.deepWritable t a n
   else s.clusterOf t a &&
     (if s.inCoreWindow a then
        let off := a % 0x8_0000
        if off < 0x3_0000 || (decide (0x4_4000 ≤ off) && decide (off < 0x4_8000)) then s.coreQuiet (coreAt a).key
        else decide (off < 0x4_4000)
      else true))

/-- Write bytes and clear the ECC errors of the words they replace (R131). A write into an open combining vector races
with the additions and leaves free values (R223). -/
def State.storeBytes (s : State) (a : Nat) (bs : List Byte) : State :=
  let (s0, bs) := s.racedBytes a bs
  (s0.writeBytes a bs).clearEcc a bs.length

/-- Write the words of a core register range one after the other; none where one is refused. -/
def State.storeRegs (s : State) (a : Nat) : List Byte → Option State
  | b0 :: b1 :: b2 :: b3 :: bs =>
    let off := a % 0x8_0000 - 0x4_9000
    match s.maskedWrite (coreMaskBits off) (BitVec.ofNat 32 (leNat [b0, b1, b2, b3]))
        (fun s v => s.coreWrite (coreAt a) off v) with
    | (t, true) => t.storeRegs (a + 4) bs
    | (_, false) => none
  | [] => some s
  | _ => none

/-- An external WRITE of a tenant, whole or not at all (R207). -/
def State.extWrite (s : State) (t : Tenant) (a : Nat) (bs : List Byte) : Option State :=
  if s.mayStore t a bs.length then some (s.storeBytes a bs)
  else if s.inCoreWindow a && decide (0x4_9000 ≤ a % 0x8_0000) && s.oneMemory a bs.length && s.clusterOf t a &&
      a % 4 == 0 then s.storeRegs a bs
  else none

/-- Read the words of a core register range one after the other. -/
def State.loadRegs (s : State) (a : Nat) : Nat → State × List Byte
  | 0 => (s, [])
  | n + 1 =>
    let (t, w) := s.coreRead (coreAt a) (a % 0x8_0000 - 0x4_9000)
    let (u, bs) := t.loadRegs (a + 4) n
    (u, leBytes 4 (w.getD 0).toNat ++ bs)

/-- An external READ of a tenant (R207, R242). -/
def State.extRead (s : State) (t : Tenant) (a n : Nat) : Option (State × List Byte) :=
  if !s.oneMemory a n then none
  else if a < deepTop then (if s.deepReadable t a n then some (s, s.readBytes a n) else none)
  else if !s.clusterOf t a then none
  else if s.inCoreWindow a && decide (0x4_9000 ≤ a % 0x8_0000) then
    (if a % 4 = 0 ∧ n % 4 = 0 then some (s.loadRegs a (n / 4)) else none)
  else some (s, s.readBytes a n)

end Sys2Proof.Machine
end

