-- ==== Sys2Proof/Machine/Pontil.lean ====
section
/-!
DEFINITION. The Pontil: the safe state, its actions, monitors and watchdogs, the safety SPI, its registers, and what it
and MGMT do with FAULT packets; the tamper and scan events of the security island (R477, R482, R483, R489 to R504, R507,
R508).
-/

namespace Sys2Proof.Machine

/-- Change the Pontil. -/
def State.modPont (s : State) (f : Pontil → Pontil) : State := { s with pont := f s.pont }

/-! ### Stopping a tenant (R356, R499) -/

/-- A START that has not completed is aborted (R317). -/
def State.abortStart (s : State) (t : Tenant) : State :=
  if (s.tenant t).starting then
    ((s.modTenant t fun x => { x with starting := false }).modShear t fun x => { x with first := false }).finish t 6
  else s

/-- A PATCH that waits for its hold is aborted (R317). -/
def State.abortPatch (s : State) (t : Tenant) : State :=
  if (s.tenant t).patching.isSome then (s.modTenant t fun x => { x with patching := none }).finish t 6 else s

/-- Stopping begins (R356 step 1): no further edge fires, and a hold request is cancelled. cmd: a STOP command waits for
the end. -/
def State.beginStop (s : State) (t : Tenant) (cmd : Bool) : State :=
  let s1 := (s.abortStart t).abortPatch t
  (s1.modTenant t fun x => { x with st := .stopping, stop := some ⟨cmd, s.now + 250000, false⟩ }).modShear t fun x =>
    { x with stopping := true, hold := if x.hold == .requested then .running else x.hold }

/-! ### The safe state and actions (R415, R494, R498, R499) -/

/-- PSTOP of a tenant is set, with a NOTE record of CODE 4 when it was not (R415, R494). -/
def State.setPstop (s : State) (t : Tenant) : State :=
  if (s.shear t).pstop then s else (s.modShear t fun x => { x with pstop := true }).note t 4

/-- The MP stops a Running tenant of a Faulted device and notes it (R499). -/
def State.faultedStop (s : State) (t : Tenant) : State :=
  let s1 := s.modShear t fun x => { x with pstop := true }
  if (s.tenant t).st = .running then (s1.note t 4).beginStop t false else s1

/-- The output gate closes (R400): a PWM period in progress goes no further, since outputs resume at the next period start, and
a frame in progress ends with ABORT. -/
def State.closeGate (s : State) : State :=
  { s.modPont fun p => { p with gate := false } with
    io := { s.io with
      dec := Tab.modifyAll s.io.dec {} (s.io.dec.map (·.1)) fun _ d => { d with highEnd := none }
      kel := s.io.kel.map fun k => { k with sentBy := min s.now k.sentBy, aborted := k.aborted || decide (s.now < k.sentBy) } } }

/-- The safe state (R498): the gate closes, PSTOP is set for every tenant, the first source is latched, FAULT_N is
driven, the MP is interrupted and a sleeping device is woken. -/
def State.enterSafe (s : State) (src : Nat) (detail : Nat) : State :=
  let first := !s.pont.faulted
  let s1 := s.closeGate.modPont fun p =>
    { p with
      faulted := true
      src := if first then src else p.src
      detail := if first then BitVec.ofNat 22 detail else p.detail
      wakeReq := p.wakeReq || decide (2 ≤ s.aon.st) || s.aon.entering.isSome }
  let s2 := { s1 with mpIrq := s1.mpIrq + 1, smb := { s1.smb with alert := s1.smb.alert || first } }
  ((List.finRange 4).foldl State.faultedStop s2).wakeLevels

/-- An action field acts (R494): with no single owning tenant, 1 acts as 2. -/
def State.act (s : State) (a : Nat) (t : Option Tenant) (src detail : Nat) : State :=
  match a, t with
  | 0, _ => { s with mpIrq := s.mpIrq + 1 }
  | 1, some t => s.setPstop t
  | _, _ => s.enterSafe src detail

/-- FAULT_N is driven low: from the deassertion of reset until boot step 1 passes, and while Faulted (R500). -/
def State.faultLow (s : State) : Bool := !s.boot.inReset && (s.pont.faulted || s.pont.hard || !s.pont.selfOk)

/-- An expiry acts once and is remembered (R492, R493, R508). -/
def State.expired (s : State) (t : Tenant) : State :=
  s.modPont fun p => { p with expired := p.expired ||| (1#4 <<< t.val) }

/-- TICK_LIVENESS_EXPIRY (R492): TIMEOUT µs without an edge. -/
def execTickLivenessExpiry (t : Tenant) (s : State) : Host.Outcome State Fault Refusal :=
  let w := s.pont.wd[t.val]
  if s.wdPaused t || w.timeout == 0 || !w.armed then .next s
  else
    let s1 := ((s.passTo (w.since + 250 * w.timeout)).expired t).modPont fun p =>
      { p with wd := p.wd.set t.val { w with armed := false } }
    .next (s1.act w.act (some t) 4 t.val)

/-- HEARTBEAT_EXPIRY (R493): TIMEOUT × 100 µs without a heartbeat. -/
def execHeartbeatExpiry (p : Port) (s : State) : Host.Outcome State Fault Refusal :=
  let h := s.pont.hb[p.val]
  if !h.en || !h.armed then .next s
  else
    let s1 := ((s.passTo (h.since + 25000 * h.timeout)).expired p).modPont fun x =>
      { x with hb := x.hb.set p.val { h with armed := false } }
    .next (s1.act h.act (some p) 5 p.val)

/-- MONITOR_TRIP (R491): the monitor's bit is recorded and the safe state entered. -/
def execMonitorTrip (monitor : Fin 7) (s : State) : Host.Outcome State Fault Refusal :=
  .next ((s.modPont fun p => { p with mon := p.mon ||| (1#7 <<< monitor.val) }).enterSafe 2 monitor.val)

/-- LOCKSTEP_MISMATCH (R490): the safe state, held in hardware until reset. -/
def execLockstepMismatch (s : State) : Host.Outcome State Fault Refusal :=
  .next ((s.modPont fun p => { p with hard := true }).enterSafe 1 0)

/-! ### FAULT packets (R502, R503) -/

/-- The single owning tenant of a fault's origin: that of a cluster. -/
def State.originTenant (s : State) (origin : Nat) : Option Tenant := if origin < 32 then s.tenantOf origin else none

/-- The Pontil acts on a fault it takes from the tap (R503). -/
def State.tapFault (s : State) (origin code : Nat) : State :=
  let detail := origin * 2 ^ 16 + code * 2 ^ 8
  match faultClass code with
  | 0 => s.enterSafe 3 detail
  | 1 => s.act s.pont.actP (s.originTenant origin) 8 detail
  | 2 => s.act s.pont.actC (s.originTenant origin) 8 detail
  | _ => s.act s.pont.actW (s.originTenant origin) 8 detail

/-- Note of the FAULT packet in a slot that MGMT, or the tap, has taken it. It stays in its slot until that has come
back to its owner (R215). -/
def State.markFault (s : State) (slot : Nat) (f : SlotPkt → SlotPkt) : State :=
  { s with thread := Tab.modify s.thread none slot fun o => o.map f }

/-- The notes of the packet in a slot: taken by MGMT, and by the tap. -/
def State.faultTaken (s : State) (slot : Nat) : Bool × Bool :=
  match s.slotPkt slot with | some x => (x.mgmtDone, x.tapDone) | none => (false, false)

/-- FAULT_AT_TAP (R503): the Pontil takes the FAULT packet of a slot. -/
def execFaultAtTap (slot : Fin 44) (s : State) : Host.Outcome State Fault Refusal :=
  match s.takeSlot slot.val with
  | (s, some (.fault origin code _)) =>
    .next (if (s.faultTaken slot.val).2 then s
      else (s.markFault slot.val fun x => { x with tapDone := true }).tapFault origin code)
  | (s, _) => .next s

/-- The fault summary takes a report (R503): the first report, the origins seen, and what each origin has reported. -/
def State.summarise (s : State) (reporter origin code : Nat) (detail : BitVec 40) : State :=
  let o := Tab.get s.fa.orig {} origin
  let new := !s.fa.seen.getLsbD origin
  let o1 : FaOrig :=
    { classes := o.classes ||| (1#4 <<< (3 - faultClass code))
      first := if new then code else o.first
      dup := if new then o.dup else cnt16 o.dup }
  { s with
    fa := { s.fa with
      first := some (s.fa.first.getD (reporter, origin, code, detail))
      seen := s.fa.seen ||| (1#64 <<< origin)
      orig := Tab.put s.fa.orig {} origin o1 }
    mpIrq := if s.fa.first.isNone || new then s.mpIrq + 1 else s.mpIrq }

/-- FAULT (R503): MGMT takes the FAULT packet of a slot into the summary, and notes a program fault to its tenant. -/
def execFault (slot : Fin 44) (s : State) : Host.Outcome State Fault Refusal :=
  match s.takeSlot slot.val with
  | (s, some (.fault origin code detail)) =>
    let s1 := ((s.markFault slot.val fun x => { x with mgmtDone := true }).noteRx stMgmt).summarise slot.val origin
      code detail
    .next (if (s.faultTaken slot.val).1 then s
      else match code, s.originTenant origin with
        | 0x01, some t => s1.note t 1
        | _, _ => s1)
  | (s, _) => .next s

/-! ### Pontil registers (R507, R508) -/

/-- Non-reserved bits. -/
def pontMask (off : Nat) : Word :=
  match off with
  | 0x010 => 0x3F
  | 0x014 => 0xFF
  | _ =>
    if 0x020 ≤ off ∧ off < 0x030 then 0x70FFFFFF
    else if 0x030 ≤ off ∧ off < 0x040 then 0xBFFFFFFF
    else 0xFFFFFFFF

/-- PSTOP of the four tenants. -/
def State.pstops (s : State) : Nat :=
  (List.finRange 4).foldl (fun m t => m + b2n (s.shear t).pstop * 2 ^ t.val) 0

/-- Read a Pontil register. -/
def State.pontGet (s : State) (off : Nat) : Nat :=
  let p := s.pont
  let wd (w : PontWd) : Nat := b2n w.dbgPause * 2 ^ 30 + w.act * 2 ^ 28 + w.timeout
  let hb (h : PontHb) : Nat := b2n h.en * 2 ^ 31 + h.act * 2 ^ 28 + h.obj * 2 ^ 15 + h.timeout
  match off with
  | 0x000 => Config.pontVersion.toNat
  | 0x004 =>
    b2n p.faulted * 2 ^ 31 + b2n p.gate * 2 ^ 30 + b2n p.selfOk * 2 ^ 29 + b2n s.boot.ready * 2 ^ 28 +
      p.expired.toNat * 16 + s.pstops
  | 0x008 => p.src * 2 ^ 28 + p.detail.toNat
  | 0x00C => p.mon.toNat
  | 0x010 => p.actW * 16 + p.actC * 4 + p.actP
  | 0x014 => p.spiTimeout
  | 0x018 => p.errLen * 2 ^ 16 + p.errCrc
  | 0x01C => p.temp.toNat
  | 0x020 => wd p.wd[0] | 0x024 => wd p.wd[1] | 0x028 => wd p.wd[2] | 0x02C => wd p.wd[3]
  | 0x030 => hb p.hb[0] | 0x034 => hb p.hb[1] | 0x038 => hb p.hb[2] | 0x03C => hb p.hb[3]
  | _ => 0

/-- A WRITE of a PO register through the safety SPI: false where the value or the register is refused (R494, R508). -/
def State.pontPut (s : State) (off : Nat) (v : Word) : WrRes :=
  let n := v.toNat
  let act := bitsOf n 28 2
  if off = 0x010 then
    wrIf (bitsOf n 0 2 != 3 && bitsOf n 2 2 != 3 && bitsOf n 4 2 != 3) s
      (s.modPont fun p => { p with actP := bitsOf n 0 2, actC := bitsOf n 2 2, actW := bitsOf n 4 2 })
  else if off = 0x014 then wrOk (s.modPont fun p => { p with spiTimeout := bitsOf n 0 8 })
  else if 0x020 ≤ off ∧ off < 0x030 then
    wrIf (act != 3) s (s.modPont fun p =>
      { p with wd := Vector.ofFn fun i =>
        if 0x020 + 4 * i.val = off then
          { p.wd[i.val] with dbgPause := v.getLsbD 30, act := act, timeout := bitsOf n 0 24 }
        else p.wd[i.val] })
  else if 0x030 ≤ off ∧ off < 0x040 then
    wrIf (act != 3 && !(v.msb && bitsOf n 0 15 == 0)) s (s.modPont fun p =>
      { p with hb := Vector.ofFn fun i =>
        let h := p.hb[i.val]
        if 0x030 + 4 * i.val = off then
          { en := v.msb, act := act, obj := bitsOf n 15 13, timeout := bitsOf n 0 15,
            since := if v.msb && !h.en then s.now else h.since, armed := h.armed || (v.msb && !h.en) }
        else h })
  else wrNo s

/-! ### The safety SPI (R495 to R497) -/

/-- Fields of a request frame: byte 0 is shifted first. -/
def spiCmd (f : BitVec 64) : Nat := bitsOf f.toNat 56 8
def spiAddr (f : BitVec 64) : Nat := bitsOf f.toNat 40 16
def spiData (f : BitVec 64) : Word := f.extractLsb' 8 32
/-- Byte i of a frame. -/
def spiByte (f : BitVec 64) (i : Nat) : Byte := f.extractLsb' (56 - 8 * i) 8
/-- The frame's CRC passes. -/
def spiCrcOk (f : BitVec 64) : Bool := crc8 ((List.range 7).map (spiByte f)) == (spiByte f 7).toNat

/-- The response with a status, the echoed command and data, and FLAGS as they stand. -/
def State.spiResponse (s : State) (status cmd : Nat) (data : Word) : BitVec 64 :=
  let flags := b2n s.pont.faulted * 128 + b2n s.pont.gate * 64 + b2n s.boot.ready * 32 + b2n s.pont.selfOk * 16 + s.pstops
  let body : List Byte := [BitVec.ofNat 8 status, BitVec.ofNat 8 cmd, data.extractLsb' 24 8, data.extractLsb' 16 8,
    data.extractLsb' 8 8, data.extractLsb' 0 8, BitVec.ofNat 8 flags]
  BitVec.ofNat 64 (body.foldl (fun n b => n * 256 + b.toNat) 0 * 256 + crc8 body)

/-- The response to the previous frame is shifted out, and the one to this frame stands ready. -/
def State.spiReply (s0 s : State) (status : Nat) (f : BitVec 64) (data : Word := 0) : State :=
  let out := if s0.pont.respValid then s0.pont.resp else s0.spiResponse 4 0 0
  s.modPont fun p => { p with miso := out, resp := s.spiResponse status (spiCmd f) data, respValid := true }

/-- A frame arrives: one whose CRC fails is counted and not performed, one whose CRC passes restarts the SPI timeout and
is performed if its command is cmd. A command of no row has status 0x02; a frame of another row's command is not this
row's, and nothing happens. -/
def State.spiFrame (s : State) (cmd : Nat) (f : BitVec 64) (act : State → State × Nat × Word) : State :=
  if !spiCrcOk f then s.spiReply (s.modPont fun p => { p with errCrc := cnt16 p.errCrc }) 1 f
  else
    let s1 := s.modPont fun p => { p with lastGood := s.now }
    if spiCmd f = cmd then let (t, st, d) := act s1; s.spiReply t st f d
    else if [0x01, 0x02, 0x03, 0x10, 0x11, 0x12, 0x13, 0x14].contains (spiCmd f) then s
    else s.spiReply s1 2 f

/-- OPEN may succeed (R497). -/
def State.mayOpen (s : State) : Bool :=
  s.pont.selfOk && s.boot.ready && !s.pont.faulted && decide (s.pont.spiTimeout ≠ 0)

/-- The tenant of a PSTOP or PRESUME frame. -/
def spiTenant (f : BitVec 64) : Tenant := Fin.ofNat 4 (spiData f).toNat

/-- SPI_READ (R496). -/
def execSpiRead (frame : BitVec 64) (s : State) : Host.Outcome State Fault Refusal :=
  .next (s.spiFrame 0x01 frame fun s => (s, 0, BitVec.ofNat 32 (s.pontGet (4 * spiAddr frame))))

/-- SPI_WRITE (R496): a reserved bit makes the register undefined (R12). -/
def execSpiWrite (frame : BitVec 64) (s : State) : Host.Outcome State Fault Refusal :=
  .next (s.spiFrame 0x02 frame fun s =>
    let off := 4 * spiAddr frame
    match s.maskedWrite (pontMask off) (spiData frame) (fun s v => s.pontPut off v) with
    | (t, true) => (t, 0, 0)
    | (_, false) => (s, 2, 0))

/-- SPI_NOP (R496). -/
def execSpiNop (frame : BitVec 64) (s : State) : Host.Outcome State Fault Refusal :=
  .next (s.spiFrame 0x03 frame fun s => (s, 0, 0))

/-- OPEN (R496, R497): DATA other than 0xA55A is a value refused. -/
def execSpiOpen (frame : BitVec 64) (s : State) : Host.Outcome State Fault Refusal :=
  .next (s.spiFrame 0x10 frame fun s =>
    if spiData frame ≠ 0xA55A then (s, 2, 0)
    else if s.mayOpen then (s.modPont fun p => { p with gate := true }, 0, 0) else (s, 3, 0))

/-- CLOSE (R496). -/
def execSpiClose (frame : BitVec 64) (s : State) : Host.Outcome State Fault Refusal :=
  .next (s.spiFrame 0x11 frame fun s => (s.closeGate, 0, 0))

/-- SAFE (R496): the safe state with SRC 6. -/
def execSpiSafe (frame : BitVec 64) (s : State) : Host.Outcome State Fault Refusal :=
  .next (s.spiFrame 0x12 frame fun s => (s.enterSafe 6 0, 0, 0))

/-- PSTOP (R496). -/
def execSpiPstop (frame : BitVec 64) (s : State) : Host.Outcome State Fault Refusal :=
  .next (s.spiFrame 0x13 frame fun s => (s.setPstop (spiTenant frame), 0, 0))

/-- PRESUME (R496): refused while Faulted. -/
def execSpiPresume (frame : BitVec 64) (s : State) : Host.Outcome State Fault Refusal :=
  .next (s.spiFrame 0x14 frame fun s =>
    if s.pont.faulted then (s, 3, 0)
    else (s.modShear (spiTenant frame) fun x => { x with pstop := false }, 0, 0))

/-- SPI_TIMEOUT (R497): TIMEOUT ms without a good frame while the gate is open. -/
def execSpiTimeout (s : State) : Host.Outcome State Fault Refusal :=
  if !s.pont.gate || s.pont.spiTimeout = 0 then .next s
  else .next ((s.passTo (s.pont.lastGood + 250000 * s.pont.spiTimeout)).enterSafe 7 0)

/-- SPI_WRONG_LENGTH_FRAME (R495): discarded and counted. -/
def execSpiWrongLengthFrame (s : State) : Host.Outcome State Fault Refusal :=
  .next (s.modPont fun p => { p with errLen := cnt16 p.errLen })

/-! ### Tamper, TRNG and scan (R477, R482, R483) -/

/-- Change the security island. -/
def State.modSec (s : State) (f : Sec → Sec) : State := { s with sec := f s.sec }

/-- Secure SRAM is wiped: it holds the parison keys and a token under check (R476). -/
def State.wipeSecure (s : State) : State :=
  s.modSec fun x => { x with token := [], keys := x.keys.map fun k => { k with window := [], enrolled := none } }

/-- A tamper or TRNG fault of the security island (R501). -/
def State.secFault (s : State) : State := s.reportFault stSec stSec 0x0D (s.sec.detect.setWidth 40)

/-- A tamper event (R483): secure SRAM is wiped, the detector recorded, the event counted and a device fault raised. -/
def State.tamper (s : State) (detector : Nat) : State :=
  let s1 := s.wipeSecure.modSec fun x => { x with detect := x.detect ||| (1#4 <<< detector) }
  { s1 with fuses := { s1.fuses with tamperCnt := cnt16 s1.fuses.tamperCnt } }.secFault

/-- TAMPER_EVENT (R483). -/
def execTamperEvent (detector : Fin 4) (s : State) : Host.Outcome State Fault Refusal := .next (s.tamper detector.val)

/-- TRNG_HEALTH_FAIL (R477): the TRNG is unavailable until reset, and a device fault is raised. -/
def execTrngHealthFail (s : State) : Host.Outcome State Fault Refusal :=
  .next (s.modSec fun x => { x with trngFail := true }).secFault

/-- FULL_SCAN (R482): in TEST and RETURNED the island wipes, disconnects the keys and asks for the safe state; in any
other state the instruction is a tamper event. -/
def execFullScan (s : State) : Host.Outcome State Fault Refusal :=
  if s.fuses.lc = 0 ∨ s.fuses.lc = 3 then
    .next ((s.wipeSecure.modSec fun x => { x with keysOff := true, scan := true }).enterSafe 9 0)
  else .next (s.tamper 3)

end Sys2Proof.Machine
end

