-- ==== Sys2Proof/Machine/Boot.lean ====
section
/-!
DEFINITION. Reset and boot: the strap defaults, firmware images, the boot steps, the cullet list and the remap table,
lifecycle transitions (R302, R306, R452 to R469, R478 to R480, R515).
-/

namespace Sys2Proof.Machine

/-- Change the boot state. -/
def State.modBoot (s : State) (f : Boot → Boot) : State := { s with boot := f s.boot }

/-! ### Strap defaults (R454) -/

/-- Tenants that STRAP_HOST configures. -/
def tenantCount (x : Straps) : Nat := match x.host.toNat with | 1 => 2 | 2 => 4 | _ => 1
/-- The default tenant of cluster c. -/
def defaultCluster (x : Straps) (c : Nat) : Nat :=
  match tenantCount x, x.ten with
  | 1, _ => 0
  | 2, false => c / 16
  | 2, true => if c < 24 then 0 else 1
  | _, false => c / 8
  | _, true => if c < 24 then 0 else if c < 27 then 1 else if c < 30 then 2 else 3
/-- The default tenant of sync block b. -/
def defaultBlock (x : Straps) (b : Nat) : Nat :=
  match tenantCount x, x.ten with
  | 1, _ => 0
  | 2, false => b / 8
  | 2, true => if b < 12 then 0 else 1
  | _, false => b / 4
  | _, true => if b < 12 then 0 else if b < 14 then 1 else if b < 15 then 2 else 3

/-- The tables of the default tenant map. -/
def defaultClusters (x : Straps) : Tab (Option Tenant) :=
  (List.range 32).map fun c => (c, some (Fin.ofNat 4 (defaultCluster x c)))
def defaultBlocks (x : Straps) : Tab (Option Tenant) :=
  (List.range 16).map fun b => (b, some (Fin.ofNat 4 (defaultBlock x b)))

/-- The shares of an engine's window and staging pool (R265). -/
def defaultQuota (x : Straps) : Tab (Nat × Nat) :=
  (List.range (tenantCount x)).map fun t => (t, (128 / tenantCount x, 4096 / tenantCount x))

/-! ### Reset (R306, R452) -/

/-- Reset of the whole device: every register and volatile memory at its reset value, the straps latched, the lifecycle
state that the fuses hold in effect. What is not volatile stays: fuses, firmware slots, Lehr saves and the cullet list,
and so does what is outside the device. The deep tier's content is undefined from here on. -/
def State.deviceReset (s : State) (straps : Straps) : State :=
  { ({} : State) with
    now := s.now
    wheelAt := s.now
    freeCtr := s.freeCtr + 1
    grade := s.grade
    straps := straps
    assign := defaultClusters straps
    syncOwn := defaultBlocks straps
    deep := Vector.replicate 2 { quota := defaultQuota straps }
    deepGen := nextGen s.deepGen
    pinIn := s.pinIn
    fuses := { s.fuses with lc := s.fuses.blown }
    lehr := s.lehr.lose (s.free.getLsbD 0)
    nor := s.nor
    cullet := s.cullet
    starts := s.starts
    hostMem := s.hostMem
    replies := s.replies
    boot := { powered := s.boot.powered }
    pending := s.pending }

/-- The device is held in reset (R306, R515). -/
def State.heldReset (s : State) (straps : Straps) : State :=
  (s.deviceReset straps).modBoot fun b => { b with inReset := true }

/-! ### Firmware images (R455 to R457) -/

/-- n bytes of an image from an offset. -/
def imageBytes (img : Tab Byte) (off n : Nat) : List Byte := (List.range n).map fun i => Tab.get img 0 (off + i)

/-- VERSION, SVN and BODY_DIGEST of an image. -/
structure FwInfo where
  version : Word
  svn : Nat
  digest : List Byte
  deriving DecidableEq, Repr

/-- The outcome of checking an image: valid, valid but for its SVN, or not valid. -/
inductive FwCheck where
  | ok (i : FwInfo)
  | oldSvn
  | bad
  deriving DecidableEq, Repr

/-- The firmware key of the lifecycle state (R478): none in SCRAPPED. -/
def State.fwKey (s : State) : Option Nat := match s.fuses.lc with | 0 => some 0 | 4 => none | _ => some 1

/-- Check an image under R456. -/
def State.checkImage (s : State) (img : Tab Byte) : FwCheck :=
  let len := leNat (imageBytes img 0x00C 4)
  let svn := leNat (imageBytes img 0x008 4)
  let digest := imageBytes img 0x010 32
  let form := imageBytes img 0 4 == [0x4B, 0x46, 0x57, 0x49] && decide (1 ≤ len) && decide (len ≤ 1961984) &&
    (imageBytes img 0x030 208).all (· == 0) && (imageBytes img 0xA74 1420).all (· == 0)
  let signed := match s.fwKey with
    | some k => Config.verifyRom k (sha3 (imageBytes img 0 256)) (imageBytes img 0x100 2420)
    | none => false
  if !form || !signed || sha3 (imageBytes img 4096 len) != digest then .bad
  else if svn < s.fuses.minSvn then .oldSvn
  else .ok ⟨BitVec.ofNat 32 (leNat (imageBytes img 0x004 4)), svn, digest⟩

/-- Check a NOR slot: one never written holds the released image of shipment, signed with the production key (R529). -/
def State.checkSlot (s : State) (i : Fin 2) : FwCheck :=
  match s.nor[i.val] with
  | some img => s.checkImage img
  | none =>
    if s.fwKey ≠ some 1 then .bad
    else if Config.fwSvn.toNat < s.fuses.minSvn then .oldSvn
    else .ok ⟨Config.fwVersion, Config.fwSvn.toNat, (List.range 32).map Config.fwDigest⟩

/-- The slot to run: the valid one of higher VERSION, A when they are equal; else the cause (R457, R475). -/
def State.pickSlot (s : State) : (Nat × FwInfo) ⊕ Nat :=
  match s.checkSlot 0, s.checkSlot 1 with
  | .ok a, .ok b => if a.version.toNat < b.version.toNat then .inl (1, b) else .inl (0, a)
  | .ok a, _ => .inl (0, a)
  | _, .ok b => .inl (1, b)
  | .oldSvn, _ => .inr 3
  | _, .oldSvn => .inr 3
  | _, _ => .inr 1

/-! ### The cullet list and repair (R465 to R468) -/

/-- Add a defect that is not on the list; a full list takes no more. -/
def State.addCullet (s : State) (kind source loc : Nat) : State :=
  if s.cullet.any fun e => e.kind == kind && e.loc == loc then s
  else if 4094 ≤ s.cullet.length then s.modBoot fun b => { b with culletFull := true }
  else
    let e : Cullet := ⟨kind, source, s.starts, loc⟩
    { s with cullet := s.cullet ++ [e] }.modBoot fun b =>
      { b with newEntries := b.newEntries + 1 }

/-- LOCATION of a row or a column of a macro among the model's names. -/
def spareLoc (c : FailCell) (row : Bool) : Nat := c.macro_ * 2 ^ 32 + if row then c.row else c.col
/-- KIND of a row or column defect (R465). -/
def spareKind (row : Bool) : Nat := if row then 1 else 2
/-- A cell's row or column is repaired by the fuses, or from the cullet list (R467). -/
def State.spared (s : State) (c : FailCell) (row : Bool) : Bool :=
  (s.fuses.repairs.any fun x => x.1 == row && spareLoc x.2 row == spareLoc c row) ||
    s.cullet.any fun e => e.kind == spareKind row && e.loc == spareLoc c row
/-- Spares of a kind that the fuses and the list already use in a macro. -/
def State.sparesUsed (s : State) (m : Nat) (row : Bool) : Nat :=
  (s.fuses.repairs.filter fun x => x.1 == row && x.2.macro_ == m).length +
    (s.cullet.filter fun e => e.kind == spareKind row && e.loc / 2 ^ 32 == m).length

/-- Rows and columns that cover a macro's failing cells with so many spare rows and columns, a row first; none where they do
not suffice. -/
def coverCells (rows cols : Nat) : Nat → List FailCell → Option (List (FailCell × Bool))
  | _, [] => some []
  | 0, _ => none
  | fuel + 1, c :: cs =>
    let byRow := if rows = 0 then none
      else (coverCells (rows - 1) cols fuel (cs.filter fun x => x.row != c.row)).map ((c, true) :: ·)
    byRow.orElse fun _ =>
      if cols = 0 then none else (coverCells rows (cols - 1) fuel (cs.filter fun x => x.col != c.col)).map ((c, false) :: ·)

/-- The soft repair of a macro (R467): what the cullet list does not repair yet takes of the 2 spare rows and 2 spare columns;
none where the macro is unrepairable. -/
def State.macroRepair (s : State) (cells : List FailCell) (m : Nat) : Option (List (FailCell × Bool)) :=
  coverCells (2 - s.sparesUsed m true) (2 - s.sparesUsed m false) 4
    (cells.filter fun c => c.macro_ == m && !s.spared c true && !s.spared c false)

/-- The cells of unrepairable macros. -/
def State.unrepaired (s : State) (cells : List FailCell) : List FailCell :=
  cells.filter fun c => (s.macroRepair cells c.macro_).isNone
/-- The cores with an unrepairable macro, each once. -/
def State.brokenCores (s : State) (cells : List FailCell) : List Nat :=
  ((s.unrepaired cells).filterMap fun c => c.core.map Fin.val).eraseDups
/-- The rows and columns that soft repair newly takes join the cullet list (R466, R467). -/
def State.softRepair (s : State) (cells : List FailCell) : State :=
  (((cells.map (·.macro_)).eraseDups).filterMap (s.macroRepair cells)).flatten.foldl
    (fun s x => s.addCullet (spareKind x.2) 1 (spareLoc x.1 x.2)) s

/-- The good physical cores of a cluster, in ascending order: those that neither the fuses, nor the cullet list, nor a list of
defects retires (R467, R468). -/
def State.goodCores (s : State) (bad : List Nat) (cl : Nat) : List Nat :=
  (List.range 36).filter fun i =>
    !bad.contains (cl * 36 + i) && !s.fuses.retired.contains (cl * 36 + i) &&
      !s.cullet.any fun e => e.kind == 3 && e.loc == cl * 36 + i

/-- The remap table and the spares (R468). -/
def State.remapAll (s : State) (bad : List Nat) : State :=
  let n := s.grade.perCluster
  s.modBoot fun b => { b with
    remap := (List.range 32).map fun c => (c, (s.goodCores bad c).take n)
    spares := (List.range 32).foldl (fun t c => Tab.put t [] c ((s.goodCores bad c).drop n)) [] }

/-! ### The boot steps (R458 to R461) -/

/-- A step fails (R461): recorded, shown on SMB_ALERT_N, and reported as a device fault. -/
def State.bootFail (s : State) (stage cause : Nat) : State :=
  let s1 := s.modBoot fun b => { b with fail := true, stage := stage, cause := cause }
  { s1 with smb := { s1.smb with alert := true } }.reportFault stMgmt stMgmt 0x0E (BitVec.ofNat 40 (stage * 256 + cause))

/-- A link comes up at a width of the port's lanes or fewer and at one of the rates: what the two ends negotiate is a free
value (R303, R337). -/
def State.linkUp (s : State) (p : Port) : State :=
  let widths := [1, 2, 4, 8].filter fun w => decide (w ≤ s.lanes)
  s.spend.modPort p fun x => { x with
    linkUp := true
    width := widths.getD (s.free.toNat % widths.length) 1
    rate := s.free.toNat / 8 % 5 + 1 }

/-- Step 10: the device declares itself ready (R459). -/
def State.declareReady (s : State) (ms : Nat) : State :=
  let s1 := s.modBoot fun b =>
    { b with ready := true, fail := false, stage := 10, cause := 0, time := satAdd 65535 0 ms }
  let s2 := { s1 with
    deep := s1.deep.map fun d => { d with chan := d.chan.map fun c => { c with trained := true } }
    smb := { s1.smb with alert := true }
    now := s1.now + 250000 * ms
    wheelAt := s1.now + 250000 * ms }
  (List.finRange 4).foldl (fun s p => if s.configured p then s.linkUp p else s) s2

/-- Steps 3 to 10 with the image of a slot, by what the physical tests find. -/
def State.bootFrom3 (s : State) (slot : Nat) (i : FwInfo) (f : BootFindings) : State :=
  let s1 := s.modBoot fun b =>
    { b with slot := slot, fw := i.version, svn := i.svn, bodyDigest := i.digest, cells := f.cells }
  let s2 := if f.culletOk then s1 else { s1 with cullet := [] }.modBoot fun b => { b with culletLost := true }
  let broken := s2.brokenCores f.cells
  let bad := broken ++ f.badCores
  if (s2.unrepaired f.cells).any fun c => c.core.isNone then s2.bootFail 3 0x04
  else if f.bistFail then s2.bootFail 4 0x05
  else
    let s3 := (f.badCores.foldl (fun s c => s.addCullet 3 2 c)
      (broken.foldl (fun s c => s.addCullet 3 1 c) (s2.softRepair f.cells))).modBoot fun b =>
        { b with counted := true, retired := bad }
    if (List.range 32).any fun c => (s3.goodCores bad c).length < s3.grade.perCluster then s3.bootFail 6 0x06
    else
      let s4 := s3.remapAll bad
      if f.selfTestFail then s4.bootFail 7 0x05
      else if s4.straps.mem ≠ s4.grade.clamshell then s4.bootFail 8 0x07
      else if !f.memTrains then s4.bootFail 8 0x08
      else if !f.linksOk then s4.bootFail 9 0x09
      else if !f.edcOk then s4.bootFail 9 0x0A
      else if !f.lanesOk then s4.bootFail 9 0x0B
      else s4.declareReady f.ms

/-- Step 1: the Pontil's self-check (R490), then what STRAP_BOOT selects. -/
def State.boot1 (s : State) (f : BootFindings) : State :=
  if !f.pontilOk then
    ((s.modPont fun p => { p with hard := true }).enterSafe 1 0).bootFail 1 0x0D
  else
    let s1 := (s.modPont fun p => { p with selfOk := true }).modBoot fun b => { b with stage := 1 }
    match s1.straps.boot.toNat with
    | 0 =>
      match s1.pickSlot with
      | .inl (slot, i) => s1.bootFrom3 slot i f
      | .inr cause => s1.bootFail 2 cause
    | 1 => s1
    | _ => s1.modBoot fun b => { b with cause := 0x0C }

/-- PERST_PORT0 (R306, R452, R458): deassertion resets the device, latches the straps and boots. -/
def execPerstPort0 (straps : Straps) (f : BootFindings) (s : State) : Host.Outcome State Fault Refusal :=
  if !s.boot.powered then .next s
  else .next ({ s.deviceReset straps with starts := s.starts + 1 }.boot1 f)

/-- PERST_PORT0_ASSERT (R306): the whole device is reset and stays so. -/
def execPerstPort0Assert (s : State) : Host.Outcome State Fault Refusal := .next (s.heldReset s.straps)

/-- POWER_ON (R452, R515): the supplies are in range; the module leaves its self-held reset and latches the straps. -/
def execPowerOn (straps : Straps) (s : State) : Host.Outcome State Fault Refusal :=
  .next ((s.heldReset straps).modBoot fun b => { b with powered := true })

/-- SUPPLY_OUT_OF_RANGE (R515): the module holds itself in reset whatever PERST# does; the loss of VIN while awake
trips the VIN monitor first. -/
def execSupplyOutOfRange (vin : Bool) (s : State) : Host.Outcome State Fault Refusal :=
  let s1 := if vin && s.boot.ready && s.aon.st == 0 then
      (s.modPont fun p => { p with mon := p.mon ||| 1#7 }).enterSafe 2 0 else s
  .next ((s1.heldReset s1.straps).modBoot fun b => { b with powered := false })

/-! ### BOOT_CTRL (R460, R474) -/

/-- Host push and recovery, before readiness (R460). -/
def State.hostPush (s : State) : Bool := !s.boot.inReset && !s.boot.ready && s.straps.boot.toNat == 1
def State.recovery (s : State) : Bool := !s.boot.inReset && !s.boot.ready && decide (2 ≤ s.straps.boot.toNat)

/-- GO in host push: the image in the window is verified, and the boot goes on from step 3 (R460). A step that has failed
stays failed until the next reset (R461). -/
def State.go (s : State) (f : BootFindings) : State :=
  if !s.hostPush || (s.boot.fail && s.boot.cause != 2 && s.boot.cause != 3) || !s.pont.selfOk then s
  else
    let refuse (cause : Nat) : State :=
      { s with smb := { s.smb with alert := s.smb.alert || !s.boot.fail } }.modBoot fun b =>
        { b with fail := true, stage := 2, cause := cause }
    match s.checkImage s.boot.window with
    | .ok i => (s.modBoot fun b => { b with fail := false, cause := 0 }).bootFrom3 2 i f
    | .oldSvn => refuse 3
    | .bad => refuse 2

/-- NOR_WRITE in recovery: the window is copied to a slot, only if it holds a valid image (R460). -/
def State.norWrite (s : State) (slotB : Bool) : State :=
  if !s.recovery then s
  else
    match s.checkImage s.boot.window with
    | .ok _ => { s with nor := s.nor.set (b2n slotB) (some s.boot.window) (by cases slotB <;> decide) }
    | _ => s.modBoot fun b => { b with cause := 2 }

/-- Write BOOT_CTRL (R474): from port 0 or SMBus, in host push or recovery. -/
def State.bootCtrl (s : State) (r : Req) (v : Word) (f : BootFindings) : WrRes :=
  if (r == .port 0 || r == .smbus) && (s.hostPush || s.recovery) then
    let s1 := if v.getLsbD 30 then s.norWrite (v.getLsbD 29) else s
    wrOk (if v.msb then s1.go f else s1)
  else wrNo s

/-! ### Lifecycle transitions (R479, R480) -/

/-- Length of a token, and its fields. -/
def tokenLen : Nat := 0x40 + 2420
def tokenNat (t : List Byte) (off n : Nat) : Nat := leNat ((t.drop off).take n)

/-- A transition exists; and whether its token needs the Ikinov lifecycle key (R479). -/
def transitionKey (a b : Nat) : Option Bool :=
  match a, b with
  | 0, 1 => some true
  | 0, 2 => some true
  | 1, 2 => some false
  | 1, 3 => some true
  | 2, 3 => some true
  | _, 4 => if a < 4 then some false else none
  | _, _ => none

/-- RESULT of checking a token (R480, R506): 0 when every check passes. -/
def State.checkToken (s : State) (t : List Byte) : Nat :=
  let from_ := tokenNat t 4 1
  let dest := tokenNat t 5 1
  let sig := (t.drop 0x40).take 2420
  if t.take 4 ≠ [0x4B, 0x4C, 0x43, 0x54] ∨ tokenNat t 6 2 ≠ 0 ∨ tokenNat t 0x0C 20 ≠ 0 then 1
  else
    match (if from_ = s.fuses.lc then transitionKey from_ dest else none) with
    | none => 2
    | some signed =>
      if tokenNat t 8 4 ≠ s.fuses.trans ∨ (t.drop 0x20).take 32 ≠ (List.range 32).map Config.dieByte then 3
      else if signed && !Config.verifyRom 2 (sha3 (t.take 0x40)) sig then 4
      else if !signed && sig.any (· != 0) then 4
      else 0

/-- The pool blocks of the Lehr store that are in service (R286, R293). -/
def Lehr.pool (l : Lehr) : List Nat := ((List.range 504).map (· + 8)).filter fun b => !l.retired.contains b

/-- Every save set is released and every pool block erased (R479): no commit record stands for a set any more. -/
def Lehr.eraseAll (l : Lehr) : Lehr :=
  { l with sets := Vector.replicate 16 {}, journal := [], wear := Tab.modifyAll l.wear 0 l.pool fun _ n => n + 1 }
/-- The whole store but the cullet list is erased, the journal and the wear table with it (R479). -/
def Lehr.scrap (l : Lehr) : Lehr := { l.eraseAll with jnext := 0, wear := [] }

/-- What a transition wipes and blows (R479): secure SRAM and every parison key; from DEVELOP or PRODUCTION to RETURNED,
and to SCRAPPED, the Lehr store too; to SCRAPPED, the identity seed. -/
def State.transition (s : State) (dest : Nat) : State :=
  let s1 := s.modSec fun x => { x with keys := Vector.replicate 4 {}, token := [] }
  let s2 := { s1 with
    fuses := { s1.fuses with
      blown := dest
      trans := s1.fuses.trans + 1
      seed := if s.fuses.lc = 0 ∧ dest < 4 then true else s1.fuses.seed && dest != 4 } }
  if dest = 3 then { s2 with lehr := s2.lehr.eraseAll }
  else if 3 < dest then { s2 with lehr := s2.lehr.scrap }
  else s2

/-- TRANSITION written to SEC_LC_CTRL (R480, R506): the island takes the token from the window and is busy. -/
def State.lcCtrl (s : State) (r : Req) (v : Word) : WrRes :=
  if (r == .port 0 || r == .smbus) && s.recovery then
    wrOk (if v.getLsbD 0 && !s.sec.busy then
      s.modSec fun x => { x with busy := true, token := imageBytes s.boot.window 0 tokenLen } else s)
  else wrNo s

/-- LIFECYCLE_TRANSITION_END (R480): the token has been checked; if every check passed and the wipes and fuses succeed,
the transition is made. -/
def execLifecycleTransitionEnd (ok : Bool) (s : State) : Host.Outcome State Fault Refusal :=
  if !s.sec.busy then .next s
  else
    let res := s.checkToken s.sec.token
    let dest := tokenNat s.sec.token 5 1
    let s1 := if res = 0 ∧ ok then s.transition dest else s
    .next (s1.modSec fun x => { x with busy := false, token := [], result := if res = 0 ∧ !ok then 6 else res })

end Sys2Proof.Machine
end

