-- ==== Sys2Proof/Machine/Dma.lean ====
section
/-!
DEFINITION. The DMA engine: channels, descriptors, bursts on the Gather and on the host path, completion, errors and
recovery, and its registers (R359 to R375).
-/

namespace Sys2Proof.Machine

/-- A DMA channel. -/
def State.dmaCh (s : State) (n : Fin 16) : DmaCh := s.dma.ch[n.val]
/-- Change a DMA channel. -/
def State.modDma (s : State) (n : Fin 16) (f : DmaCh → DmaCh) : State :=
  { s with dma := { s.dma with ch := s.dma.ch.set n.val (f s.dma.ch[n.val]) } }

/-! ### Descriptors (R361, R362) -/

/-- Fields of a descriptor's CTRL word. -/
def ctlSig (c : BitVec 64) : Bool := c.getLsbD 55
def ctlObj (c : BitVec 64) : Nat := bitsOf c.toNat 42 13
def ctlFence (c : BitVec 64) : Bool := c.getLsbD 41
def ctlEnd (c : BitVec 64) : Bool := c.getLsbD 40
def ctlNextHost (c : BitVec 64) : Bool := c.getLsbD 39
def ctlDstHost (c : BitVec 64) : Bool := c.getLsbD 38
def ctlSrcHost (c : BitVec 64) : Bool := c.getLsbD 37
def ctlLen (c : BitVec 64) : Nat := bitsOf c.toNat 0 24
def DmaDesc.len (d : DmaDesc) : Nat := ctlLen d.ctrl
def DmaDesc.dstHost (d : DmaDesc) : Bool := ctlDstHost d.ctrl
def DmaDesc.srcHost (d : DmaDesc) : Bool := ctlSrcHost d.ctrl

/-- The descriptor that 32 bytes at an address spell. -/
def parseDesc (key addr : Nat) (host : Bool) (bs : List Byte) : DmaDesc :=
  { key := key, at_ := addr, host := host, src := leNat (bs.take 8), dst := leNat ((bs.drop 8).take 8),
    ctrl := BitVec.ofNat 64 (leNat ((bs.drop 16).take 8)), next := leNat ((bs.drop 24).take 8) }

/-- A range of one side of a descriptor breaks R362. -/
def State.badRange (s : State) (host : Bool) (a n : Nat) : Bool :=
  if host then decide (2 ^ 64 < a + n) else decide (2 ^ 44 ≤ a) || !s.oneMemory a n

/-- A descriptor error (R362). -/
def State.descBad (s : State) (d : DmaDesc) : Bool :=
  let c := d.ctrl.toNat
  d.len == 0 || bitsOf c 56 8 != 0 || bitsOf c 24 13 != 0 || d.next % 32 != 0 ||
  (ctlEnd d.ctrl && d.next != 0) || (!ctlEnd d.ctrl && !ctlNextHost d.ctrl && decide (2 ^ 44 ≤ d.next)) ||
  s.badRange d.srcHost d.src d.len || s.badRange d.dstHost d.dst d.len

/-! ### Routes and requests (R363) -/

/-- The route entry of a tenant toward a station. -/
def State.dmaRoute (s : State) (t : Tenant) (st : Nat) : Word := Tab.get s.dma.rt 0 (t.val * 40 + st)
/-- A route leads to the station: EN, and an enabled flow of the tenant whose only destination it is. -/
def State.routeOk (s : State) (t : Tenant) (st : Nat) : Bool :=
  let e := s.dmaRoute t st
  let f := s.flow stDma (bitsOf e.toNat 0 6)
  e.msb && f.en && f.tenant == t && f.dests == [st]

/-- The note of a burst in its Gather packet, and the address its READ reply is sent to: the spec gives the funnel
none, so the model numbers it beyond the listed ranges. -/
def burstNote (n : Fin 16) (id : Nat) : Nat := n.val * 2 ^ 27 + id % 2 ^ 27
def funnelBase : Nat := 0x500_0000_0000

/-- The oldest descriptor that has not completed, or the one being fetched. -/
def DmaCh.track (c : DmaCh) : DmaCh :=
  match c.descs, c.fetch with
  | d :: _, _ => { c with cur := d.at_, curHost := d.host }
  | [], some (a, h) => { c with cur := a, curHost := h }
  | [], none => c

/-- A channel that is released (R359): its burst numbers go on. -/
def DmaCh.freed (c : DmaCh) : DmaCh := { nextId := c.nextId }
/-- A channel returns to Idle (R368, R370), or is released if an FLR asked for that (R371). -/
def DmaCh.toIdle (c : DmaCh) : DmaCh :=
  if c.releaseAfter then c.freed
  else { c with st := .idle, descs := [], bursts := [], fetch := none, failing := none, remain := 0 }

/-- Bytes of the current descriptor that are not acknowledged (R374). -/
def DmaCh.left (c : DmaCh) : Nat := match c.descs with | d :: _ => d.len - d.acked | [] => c.remain
/-- A descriptor with host writes that no zero-length read acknowledges yet (R367, R370). -/
def DmaCh.unflushed (c : DmaCh) : Option DmaDesc :=
  c.descs.find? fun d => d.dstHost && decide (0 < d.wrIssued) && !d.flushed

/-- A channel that starts no more bursts has finished those in flight: it halts, or, with every write acknowledged, goes to Idle
(R369, R370). -/
def State.dmaSettle (s : State) (n : Fin 16) : State :=
  let c := s.dmaCh n
  if !c.bursts.isEmpty then s
  else
    match c.st, c.failing with
    | .aborting, _ => if c.unflushed.isSome then s else s.modDma n DmaCh.toIdle
    | .running, some e =>
      let s1 := s.modDma n fun c =>
        { c.track with st := .halted, err := e, failing := none, remain := c.left, descs := [], fetch := none }
      if c.obj.msb then s1.sendPkt stDma (.sync 0 (bitsOf c.obj.toNat 0 13) 1 (32 + c.owner.val)) else s1
    | _, _ => s

/-- The first error of a channel (R369). -/
def State.dmaFail (s : State) (n : Fin 16) (e : DmaErr) : State :=
  (s.modDma n fun c => { c with failing := some (c.failing.getD e) }).dmaSettle n

/-- Put a burst into flight. -/
def DmaCh.fly (c : DmaCh) (b : Burst) : DmaCh :=
  { c with bursts := c.bursts ++ [{ b with id := c.nextId }], nextId := c.nextId + 1 }

/-- A device-side access of a channel: none if it has no route, some none if no memory answers (R363, R369). -/
def State.dmaRequest (s : State) (n : Fin 16) (write : Bool) (a len : Nat) (data : List Byte) : Option (Option State) :=
  let c := s.dmaCh n
  let st := s.stationOf a
  if (s.memEnd a).isNone then some none
  else if !s.routeOk c.owner st then none
  else
    let e := (s.dmaRoute c.owner st).toNat
    let note := burstNote n c.nextId
    some (some (s.queueOnFlow stDma (bitsOf e 0 6)
      { op := if write then 0 else 3, len := len, src := stDma, addr := a,
        aux := if write then 0 else BitVec.ofNat 64 (bitsOf e 8 6 * 2 ^ 52 + funnelBase + note * 256),
        data := data, tenant := c.owner, flow := bitsOf e 0 6, note := note }))

/-- An access names a flow of the tenant with more than one destination: it is not sent, counted and reported (R208). -/
def State.dmaManyDests (s : State) (t : Tenant) (st : Nat) : State :=
  let e := s.dmaRoute t st
  let n := bitsOf e.toNat 0 6
  let f := s.flow stDma n
  if e.msb && f.en && f.tenant == t && decide (1 < f.dests.length) then s.gatherError stDma n else s

/-- Start a device-side burst. -/
def State.dmaDevice (s : State) (n : Fin 16) (b : Burst) (data : List Byte) : State :=
  match s.dmaRequest n (b.dir == 2) b.addr b.len data with
  | none => (s.dmaManyDests (s.dmaCh n).owner (s.stationOf b.addr)).dmaFail n ⟨4, b.dir, false, b.addr⟩
  | some none => s.dmaFail n ⟨2, b.dir, false, b.addr⟩
  | some (some t) => t.modDma n fun c => c.fly b

/-- Fetch a descriptor (R363, R368): a read of 32 bytes. -/
def State.dmaFetch (s : State) (n : Fin 16) (a : Nat) (host : Bool) : State :=
  let b : Burst := { id := 0, dir := 0, host := host, addr := a, len := 32, desc := 0, off := 0 }
  let s1 := s.modDma n fun c => { c with fetch := some (a, host) }.track
  if host then s1.modDma n fun c => c.fly b else s1.dmaDevice n b []

/-- START (R374): the first descriptor is fetched from DMA_CH_NEXT, and nothing remains of one before. -/
def State.dmaStart (s : State) (n : Fin 16) : State :=
  let c := s.dmaCh n
  (s.modDma n fun c => { c with st := .running, descs := [], bursts := [], failing := none, remain := 0 }).dmaFetch n c.next.toNat
    c.firstSpace

/-- RESUME of a halted channel (R370): the current descriptor is fetched again. -/
def State.dmaResume (s : State) (n : Fin 16) : State :=
  let c := s.dmaCh n
  (s.modDma n fun c => { c with st := .running, descs := [], err := {}, remain := 0 }).dmaFetch n c.cur c.curHost

/-- The zero-length read that acknowledges a descriptor's host writes (R367). -/
def DmaCh.flush (c : DmaCh) (d : DmaDesc) : DmaCh :=
  let last := (d.dst + d.wrIssued - 1) / 4 * 4
  let c1 := c.fly { id := 0, dir := 3, host := true, addr := last, len := 0, desc := d.key, off := d.wrIssued }
  { c1 with descs := c1.descs.map fun x => if x.key = d.key then { x with flushed := true } else x }

/-- ABORT (R370): a running channel starts nothing more, but for the zero-length read that its host writes need, and ends once
every write issued is acknowledged. -/
def State.dmaAbort (s : State) (n : Fin 16) : State :=
  match (s.dmaCh n).st with
  | .halted => s.modDma n fun c => { c.toIdle with err := {} }
  | .running =>
    (s.modDma n fun c => { c with st := .aborting }).dmaSettle n
  | _ => s

/-! ### Bursts (R364, R366, R368) -/

/-- Bytes of a burst from an address: to the next boundary of a unit, or to the end of the range. -/
def burstLen (unit a left : Nat) : Nat := min left (unit - a % unit)
/-- R and W of a channel's descriptor: 256 bytes, and on the host side no more than the port's maximum read request size and
maximum payload size (R303). -/
def State.readUnit (s : State) (n : Fin 16) (d : DmaDesc) : Nat :=
  if d.srcHost then min 256 (s.port (s.dmaCh n).owner).maxRead else 256
def State.writeUnit (s : State) (n : Fin 16) (d : DmaDesc) : Nat :=
  if d.dstHost then min 256 (s.port (s.dmaCh n).owner).maxPayload else 256
/-- The length of a descriptor's next read burst, and of its next write burst. -/
def State.readLen (s : State) (n : Fin 16) (d : DmaDesc) : Nat :=
  burstLen (s.readUnit n d) (d.src + d.rdIssued) (d.len - d.rdIssued)
def State.writeLen (s : State) (n : Fin 16) (d : DmaDesc) : Nat :=
  burstLen (s.writeUnit n d) (d.dst + d.wrIssued) (d.len - d.wrIssued)

/-- The descriptor whose bytes are still to be written, if the channel works on one. -/
def DmaCh.working (c : DmaCh) : Option DmaDesc := c.descs.find? fun d => d.wrIssued < d.len

/-- Bytes n of a descriptor from an offset on have all been read. -/
def DmaDesc.haveBytes (d : DmaDesc) (off n : Nat) : Bool :=
  (List.range n).all fun i => (Tab.get d.got none (off + i)).isSome

/-- Bursts in flight but for descriptor fetches. -/
def DmaCh.inflight (c : DmaCh) : Nat := (c.bursts.filter fun b => b.dir != 0).length

/-- The next burst of a channel that is ready: true for a write. Reads keep within the 1 KiB funnel and, with FENCE,
wait for the descriptors before. -/
def State.dmaReady (s : State) (n : Fin 16) : Option (Bool × DmaDesc) :=
  let c := s.dmaCh n
  if c.st != .running || c.failing.isSome || decide (4 ≤ c.inflight) then none
  else
    match c.working with
    | none => none
    | some d =>
      let w := s.writeLen n d
      let r := s.readLen n d
      let fenced := ctlFence d.ctrl && (match c.descs with | x :: _ => x.key != d.key | [] => false)
      if d.haveBytes d.wrIssued w then some (true, d)
      else if d.rdIssued < d.len && decide (d.rdIssued + r - d.wrIssued ≤ 1024) && !fenced then some (false, d)
      else none

/-- Replace a descriptor of the list. -/
def DmaCh.putDesc (c : DmaCh) (d : DmaDesc) : DmaCh :=
  { c with descs := c.descs.map fun x => if x.key = d.key then d else x }

/-- Completed descriptors leave the list in order (R367): counted, and signalled. fuel bounds their number. -/
def State.dmaComplete (s : State) (n : Fin 16) : Nat → State
  | 0 => s
  | fuel + 1 =>
    let c := s.dmaCh n
    match c.descs with
    | [] => s
    | d :: ds =>
      if d.acked < d.len then s
      else
        let s1 := s.modDma n fun c =>
          let c1 := { c with descs := ds, done := cnt32 c.done, bytes := cnt32 c.bytes d.len }
          if ctlEnd d.ctrl && c.st == .running && c.failing.isNone then c1.toIdle else c1.track
        let s2 := if ctlSig d.ctrl then s1.sendPkt stDma (.sync 0 (ctlObj d.ctrl) 1 (32 + c.owner.val)) else s1
        s2.dmaComplete n fuel

/-- The last write burst of a descriptor has been issued: the next descriptor is fetched (R368), and host writes are
flushed (R367). -/
def State.dmaIssued (s : State) (n : Fin 16) (d : DmaDesc) : State :=
  if d.wrIssued < d.len then s
  else
    let s1 := if d.dstHost then s.modDma n fun c => c.flush d else s
    if ctlEnd d.ctrl || (s1.dmaCh n).failing.isSome then s1 else s1.dmaFetch n d.next (ctlNextHost d.ctrl)

/-- Start a write burst. -/
def State.dmaWriteBurst (s : State) (n : Fin 16) (d : DmaDesc) (linkUp : Bool) : State :=
  let a := d.dst + d.wrIssued
  let len := s.writeLen n d
  let data := (List.range len).map fun i => (Tab.get d.got none (d.wrIssued + i)).getD 0
  let d1 := { d with wrIssued := d.wrIssued + len }
  if d.dstHost then
    if !linkUp then s.dmaFail n ⟨3, 2, true, a⟩
    else ((s.hostStore (s.dmaCh n).owner a data).modDma n fun c => c.putDesc d1).dmaIssued n d1
  else
    let s1 := s.dmaDevice n { id := 0, dir := 2, host := false, addr := a, len := len, desc := d.key, off := d.wrIssued }
      data
    if (s1.dmaCh n).failing.isSome || (s1.dmaCh n).st != .running then s1
    else (s1.modDma n fun c => c.putDesc d1).dmaIssued n d1

/-- Start a read burst. -/
def State.dmaReadBurst (s : State) (n : Fin 16) (d : DmaDesc) (linkUp : Bool) : State :=
  let a := d.src + d.rdIssued
  let len := s.readLen n d
  let b : Burst := { id := 0, dir := 1, host := d.srcHost, addr := a, len := len, desc := d.key, off := d.rdIssued }
  let s0 := s.modDma n fun c => c.putDesc { d with rdIssued := d.rdIssued + len }
  if d.srcHost then (if !linkUp then s.dmaFail n ⟨3, 1, true, a⟩ else s0.modDma n fun c => c.fly b)
  else s0.dmaDevice n b []

/-- The channel that starts the next burst: the highest priority with one ready, in turn within it (R366). -/
def State.dmaPick (s : State) : Option (Fin 16) :=
  [3, 2, 1, 0].findSome? fun p =>
    ((List.range 16).map fun i => (Fin.ofNat 16 (Tab.get s.dma.turn 0 p + i) : Fin 16)).find? fun n =>
      (s.dmaCh n).prio == p && (s.dmaReady n).isSome

/-- An aborting channel whose host writes want their zero-length read, with room for it among its 4 bursts (R364, R370). -/
def State.dmaFlushDue (s : State) : Option (Fin 16 × DmaDesc) :=
  (List.finRange 16).findSome? fun n =>
    let c := s.dmaCh n
    if c.st == .aborting && decide (c.inflight < 4) then c.unflushed.map fun d => (n, d) else none
/-- The zero-length read of an aborting channel; with the link down no request is sent, and none is waited for. -/
def State.dmaFlush (s : State) (n : Fin 16) (d : DmaDesc) (linkUp : Bool) : State :=
  if linkUp then s.modDma n fun c => c.flush d
  else (s.modDma n fun c => c.putDesc { d with flushed := true }).dmaSettle n

/-- DMA_BURST_START (R364, R366): the engine starts one burst; linkUp tells whether a host request can be sent. -/
def execDmaBurstStart (linkUp : Bool) (s : State) : Host.Outcome State Fault Refusal :=
  if 32 ≤ ((s.dma.ch.toList.map DmaCh.inflight).sum) then .next s
  else
    match s.dmaFlushDue, s.dmaPick with
    | some (n, d), _ => .next (s.dmaFlush n d linkUp)
    | none, none => .next s
    | none, some n =>
      let s1 := { s with dma := { s.dma with turn := Tab.put s.dma.turn 0 (s.dmaCh n).prio ((n.val + 1) % 16) } }
      match s.dmaReady n with
      | some (true, d) => .next (s1.dmaWriteBurst n d linkUp)
      | some (false, d) => .next (s1.dmaReadBurst n d linkUp)
      | none => .next s

/-- Take a burst out of flight. -/
def DmaCh.land (c : DmaCh) (id : Nat) : DmaCh := { c with bursts := c.bursts.filter fun b => b.id != id }

/-- Bytes of a descriptor are acknowledged, or read. -/
def DmaCh.ack (c : DmaCh) (key k : Nat) : DmaCh :=
  { c with descs := c.descs.map fun d => if d.key = key then { d with acked := d.acked + k } else d }
def DmaCh.fill (c : DmaCh) (key off : Nat) (bs : List Byte) : DmaCh :=
  { c with descs := c.descs.map fun d =>
      if d.key = key then
        { d with got := (List.range bs.length).foldl (fun g i => Tab.put g none (off + i) (bs[i]?)) d.got }
      else d }

/-- What a burst comes to: its data, or an error with its cause; none while no answer has come. -/
def Burst.answer (b : Burst) (hostData : Option (List Byte)) : Option (Except Nat (List Byte)) :=
  if b.host then
    match hostData with
    | some bs => if b.dir = 3 ∨ bs.length = b.len then some (.ok bs) else some (.error 3)
    | none => some (.error 3)
  else
    match b.resp with
    | none => none
    | some (true, bs) => some (.ok bs)
    | some (false, _) => some (.error 2)

/-- A burst ends: its data or acknowledgement counts, or its error is noted (R367, R369). -/
def State.burstEnd (s : State) (n : Fin 16) (b : Burst) (r : Except Nat (List Byte)) : State :=
  let s1 := s.modDma n fun c => c.land b.id
  match r with
  | .error cause =>
    if (s.dmaCh n).st = .aborting then s1.dmaSettle n else s1.dmaFail n ⟨cause, b.dir, b.host, b.addr⟩
  | .ok bs =>
    let s2 := s1.modDma n fun c =>
      match b.dir with
      | 1 => c.fill b.desc b.off bs
      | 2 => c.ack b.desc b.len
      | _ => c.ack b.desc b.off
    (s2.dmaComplete n (s2.dmaCh n).descs.length).dmaSettle n

/-- DMA_BURST_RESPONSE (R364, R367, R369): the answer to a burst is taken; a host read's data comes with the command. -/
def execDmaBurstResponse (ch : Fin 16) (burst : Nat) (hostData : Option (List Byte)) (s : State) :
    Host.Outcome State Fault Refusal :=
  match (s.dmaCh ch).bursts.find? fun b => b.id == burst && b.dir != 0 with
  | none => .next s
  | some b =>
    match b.answer hostData with
    | none => .next s
    | some r => .next (s.burstEnd ch b r)

/-- A descriptor has been read: it is checked before any byte moves (R362). -/
def State.descRead (s : State) (n : Fin 16) (b : Burst) (r : Except Nat (List Byte)) : State :=
  let s1 := s.modDma n fun c => c.land b.id
  if (s.dmaCh n).st = .aborting then s1.dmaSettle n
  else
    match r with
    | .error cause => (s1.modDma n fun c => { c with remain := 0 }).dmaFail n ⟨cause, 0, b.host, b.addr⟩
    | .ok bs =>
      let d := parseDesc b.id b.addr b.host bs
      if s.descBad d then (s1.modDma n fun c => { c with remain := d.len }).dmaFail n ⟨1, 0, b.host, b.addr⟩
      else
        (s1.modDma n fun c => { c with
          fetch := none
          descs := c.descs ++ [d] }.track).dmaSettle n

/-- DESCRIPTOR_FETCH (R362, R368, R369): a channel's descriptor read returns. -/
def execDescriptorFetch (ch : Fin 16) (hostData : Option (List Byte)) (s : State) : Host.Outcome State Fault Refusal :=
  match (s.dmaCh ch).bursts.find? fun b => b.dir == 0 with
  | none => .next s
  | some b =>
    match b.answer hostData with
    | none => .next s
    | some r => .next (s.descRead ch b r)

/-- A completion timeout ends a channel's host read as a host-side error (R369). -/
def State.dmaTimeout (s : State) (n : Fin 16) (fetch : Bool) (id : Nat) : State :=
  match (s.dmaCh n).bursts.find? fun b => b.host && (if fetch then b.dir == 0 else b.id == id && b.dir != 0) with
  | none => s
  | some b => if fetch then s.descRead n b (.error 3) else s.burstEnd n b (.error 3)

/-- The answer of the Gather to a burst of the engine: a credit's status, or a reply's data (R210). -/
def State.dmaAnswer (s : State) (note : Nat) (ok : Bool) (data : Option (List Byte)) : State :=
  let n : Fin 16 := Fin.ofNat 16 (note / 2 ^ 27)
  s.modDma n fun c => { c with bursts := c.bursts.map fun b =>
    if b.host || b.id % 2 ^ 27 != note % 2 ^ 27 then b
    else
      match data with
      | some bs => { b with resp := some (true, bs) }
      | none => if !ok then { b with resp := some (false, []) } else if b.dir = 2 then { b with resp := some (true, []) } else b }

/-! ### Registers (R359, R360, R370 to R375) -/

/-- A requester owns a channel: its tenant's port, or the MP. -/
def DmaCh.mine (c : DmaCh) (r : Req) : Bool := match r with | .port p => c.owner == p | .mp => true | .smbus => false

/-- CLAIM of a channel (R359). -/
def State.dmaClaim (s : State) (r : Req) (n : Fin 16) (owner : Tenant) : WrRes :=
  match claimant r owner with
  | none => wrNo s
  | some t =>
    let c := s.dmaCh n
    if c.st = .free then wrOk (s.modDma n fun c => { owner := t, st := .idle, nextId := c.nextId })
    else if c.owner = t then wrOk s
    else match r with
      | .port p => ({ s with dma := { s.dma with conflict := s.dma.conflict ||| (1#4 <<< p.val) } }, false)
      | _ => wrNo s

/-- RELEASE of a channel (R359). -/
def State.dmaRelease (s : State) (r : Req) (n : Fin 16) : WrRes :=
  let c := s.dmaCh n
  wrIf (match r with | .port _ => c.st == .idle | .mp => c.st != .running | .smbus => false) s (s.modDma n DmaCh.freed)

/-- Write DMA_CH_CTRL (R359, R360, R370, R374). -/
def State.dmaCtrl (s : State) (r : Req) (n : Fin 16) (v : Word) : WrRes :=
  let c := s.dmaCh n
  let cmds := (List.range 5).filter fun i => v.getLsbD (27 + i)
  let fields (c : DmaCh) : DmaCh := { c with firstSpace := v.getLsbD 16, prio := bitsOf v.toNat 0 2 }
  if 1 < cmds.length then wrOk s
  else if v.getLsbD 31 then s.dmaClaim r n (Fin.ofNat 4 (bitsOf v.toNat 20 2))
  else if c.st = .free then wrNo s
  else if !c.mine r then wrOk s
  else
    match cmds with
    | [3] => s.dmaRelease r n
    | [2] => wrOk (s.dmaAbort n)
    | [1] => wrIf (c.st == .halted) s (s.dmaResume n)
    | [0] => wrIf (c.st == .idle) s ((s.modDma n fields).dmaStart n)
    | _ => wrIf (c.st == .idle) s (s.modDma n fields)

/-- Write another register of a channel (R360, R374). -/
def State.dmaChWrite (s : State) (r : Req) (n : Fin 16) (reg : Nat) (v : Word) : WrRes :=
  let c := s.dmaCh n
  if reg = 0 then s.dmaCtrl r n v
  else if c.st = .free then wrNo s
  else if !c.mine r then wrOk s
  else
    match reg with
    | 0x08 => wrIf (c.st == .idle) s (s.modDma n fun c => { c with next := c.next.extractLsb' 32 32 ++ v })
    | 0x0C => wrIf (c.st == .idle) s (s.modDma n fun c => { c with next := v ++ c.next.setWidth 32 })
    | 0x28 => wrIf (c.st == .idle) s (s.modDma n fun c => { c with obj := v })
    | _ => wrOk s

/-- A write of a route entry (R371, R375). -/
def State.dmaRtWrite (s : State) (r : Req) (k : Nat) (v : Word) : WrRes :=
  let t : Tenant := Fin.ofNat 4 (k / 40)
  let busy := s.dma.ch.toList.any fun c => c.owner == t && (c.st == .running || c.st == .aborting)
  wrIf (ownsOrMp r t && !busy && v &&& 0x7FFFC0C0 == 0) s { s with dma := { s.dma with rt := Tab.put s.dma.rt 0 k v } }

/-- Non-reserved bits of a DMA register. -/
def dmaMask (off : Nat) : Word :=
  if 0x3_1000 ≤ off ∧ off < 0x3_1400 then
    match off % 64 with | 0x00 => 0xF8310003 | 0x08 => 0xFFFFFFE0 | 0x28 => 0x80001FFF | _ => 0xFFFFFFFF
  else 0xFFFFFFFF

/-- An offset lies in a DMA range. -/
def inDma (off : Nat) : Bool :=
  (decide (0x3_0000 ≤ off) && decide (off < 0x3_0010)) || (decide (0x3_1000 ≤ off) && decide (off < 0x3_1400)) ||
    (decide (0x3_2000 ≤ off) && decide (off < 0x3_2280))

/-- Write a DMA register: in the global and route registers a reserved bit is refused (R375). -/
def State.dmaWrite (s : State) (r : Req) (off : Nat) (v : Word) : WrRes :=
  if off = 0x3_0004 then
    wrIf (v &&& 0xFFFFFFF0 == 0) s { s with dma := { s.dma with conflict := s.dma.conflict &&& ~~~(v.setWidth 4) } }
  else if off < 0x3_1000 then wrOk s
  else if off < 0x3_1400 then s.dmaChWrite r (Fin.ofNat 16 ((off - 0x3_1000) / 64)) (off % 64) v
  else s.dmaRtWrite r ((off - 0x3_2000) / 4) v

/-- DMA_STATUS (R375). -/
def State.dmaStatus (s : State) : Nat :=
  (List.range 16).foldl (fun n i =>
    let c := s.dma.ch.toList.getD i {}
    n + (if c.st = .halted then 2 ^ (16 + i) else 0) + (if c.st = .running ∨ c.st = .aborting then 2 ^ i else 0)) 0

/-- Read a register of a channel (R360, R373, R374). -/
def State.dmaChRead (s : State) (r : Req) (n : Fin 16) (reg : Nat) : RdRes :=
  let c := s.dmaCh n
  if c.st != .free && !c.mine r then
    rd s (if reg = 4 then c.owner.val * 2 ^ 30 + c.st.code * 256 else 0)
  else
    match reg with
    | 0x00 => rd s (b2n c.firstSpace * 2 ^ 16 + c.prio)
    | 0x04 => rd s (c.owner.val * 2 ^ 30 + c.st.code * 256 + min 4 c.inflight)
    | 0x08 => rd s c.next.toNat
    | 0x0C => rd s (c.next.toNat / 2 ^ 32)
    | 0x10 => rd s c.cur
    | 0x14 => rd s (c.cur / 2 ^ 32)
    | 0x18 => rd s c.left
    | 0x1C => rd s c.err.addr
    | 0x20 => rd s (c.err.addr / 2 ^ 32)
    | 0x24 => rd s (c.err.cause * 2 ^ 28 + c.err.dir * 2 ^ 26 + b2n c.err.host * 2 ^ 25)
    | 0x28 => (s, some c.obj)
    | 0x2C => rdThen (s.modDma n fun c => { c with done := 0 }) c.done
    | 0x30 => rdThen (s.modDma n fun c => { c with bytes := 0 }) c.bytes
    | _ => rd s 0

/-- Read a DMA register. -/
def State.dmaRead (s : State) (r : Req) (off : Nat) : RdRes :=
  if off = 0x3_0000 then rd s s.dmaStatus
  else if off = 0x3_0004 then rd s s.dma.conflict.toNat
  else if off < 0x3_1000 then rd s 0
  else if off < 0x3_1400 then s.dmaChRead r (Fin.ofNat 16 ((off - 0x3_1000) / 64)) (off % 64)
  else (s, some (Tab.get s.dma.rt 0 ((off - 0x3_2000) / 4)))

/-- Every channel of a tenant is aborted and released (R306, R371). -/
def State.dmaReleaseAll (s : State) (t : Tenant) : State :=
  (List.finRange 16).foldl (fun s n =>
    let c := s.dmaCh n
    if c.st = .free ∨ c.owner ≠ t then s
    else
      let s1 := (s.modDma n fun c => { c with releaseAfter := true }).dmaAbort n
      if (s1.dmaCh n).st = .idle then s1.modDma n DmaCh.freed else s1) s

end Sys2Proof.Machine
end

