-- ==== Sys2Proof/Machine/Sync.lean ====
section
/-!
DEFINITION. The sync unit: sync objects, their operations and notifications, and its registers (R329 to R334, R338,
R339).
-/

namespace Sys2Proof.Machine

/-- A sync object. -/
def State.syncAt (s : State) (n : Nat) : SyncObj := Tab.get s.sync {} n
/-- The tenant of an object's block, if any (R329). -/
def State.syncOwnerOf (s : State) (n : Nat) : Option Tenant := Tab.get s.syncOwn none (n / 512)

/-- ABOVE after an operation or a threshold write; a change from 0 to 1 makes a notification pend (R333). -/
def SyncObj.settle (o : SyncObj) : SyncObj :=
  let now := decide (o.thr.toNat ≤ o.cnt.toNat)
  { o with above := now, npend := o.npend || (now && !o.above && o.nmode != 0) }

/-- Change an object and settle it. -/
def State.modSync (s : State) (n : Nat) (f : SyncObj → SyncObj) : State :=
  { s with sync := Tab.modify s.sync {} n fun o => (f o).settle }

/-- ADD v (R330): signed, saturating with OVF and UNF. -/
def SyncObj.add (o : SyncObj) (v : Word) : SyncObj :=
  let x : Int := o.cnt.toNat + v.toInt
  if 0xFFFFFFFF < x then { o with cnt := 0xFFFFFFFF, ovf := true }
  else if x < 0 then { o with cnt := 0, unf := true }
  else { o with cnt := BitVec.ofInt 32 x }

/-- SET v (R330). -/
def SyncObj.set (o : SyncObj) (v : Word) : SyncObj := { o with cnt := v }

/-- A rejected operation: counted and recorded at the requester's port, with a NOTE record (R331). -/
def State.syncReject (s : State) (t : Option Tenant) (n : Nat) : State :=
  match t with
  | none => s
  | some p =>
    (s.modPort p fun x =>
      { x with syncForeign := cnt16 x.syncForeign, syncLast := BitVec.ofNat 32 n, foreign := true }).note p 3

/-- The requester may operate on the object (R329, R331). -/
def State.syncMay (s : State) (t : Option Tenant) (n : Nat) : Bool := t.isSome && s.syncOwnerOf n == t

/-- ADD or SET by a requester. -/
def State.syncChange (s : State) (t : Option Tenant) (n : Nat) (f : SyncObj → SyncObj) : State :=
  if s.syncMay t n then s.modSync n f else s.syncReject t n

/-- READ by a requester: zero when rejected (R331). -/
def State.syncRead (s : State) (t : Option Tenant) (n : Nat) : State × Word :=
  if s.syncMay t n then (s, (s.syncAt n).cnt) else (s.syncReject t n, 0)

/-- The tenant a SYNC packet speaks for: the cluster's, or the one a shared station acts for (R331). -/
def State.syncTenant (s : State) (st who : Nat) : Option Tenant :=
  if st < 32 then s.tenantOf st else if h : who - 32 < 4 then some ⟨who - 32, h⟩ else none

/-- The core still waits for the answer to this request. -/
def State.waitsFor (s : State) (k n : Nat) (v : Word) : Bool := (s.core k).e.waits == some (.asked n v)

/-- Answer the WAITS of a core, if it still waits for the answer to this request. -/
def State.answerWaits (s : State) (k n : Nat) (v : Word) (w : WaitsReply) : State :=
  if s.waitsFor k n v then s.modE k fun e => { e with waits := some w } else s

/-- The destination writes its reply into a slot: RSP, a status and a word (R215, R216). -/
def State.putReply (s : State) (slot status : Nat) (w : Word) : State :=
  { s with thread := Tab.modify s.thread none slot fun o => o.map fun x => { x with reply := some (status, w) } }

/-- The status of a WAITS at the sync unit: 0 met, 1 not met, 2 refused (R126, R216, R331). -/
def State.waitsStatus (s : State) (t : Option Tenant) (n : Nat) (v : Word) : Nat :=
  if !s.syncMay t n then 2 else if v.toNat ≤ (s.syncAt n).cnt.toNat then 0 else 1

/-- A WAITS and a READ at the sync unit: the operation and its reply in the slot. -/
def State.syncWaits (s : State) (slot : Nat) (t : Option Tenant) (n : Nat) (v : Word) : State :=
  let s1 := if s.syncMay t n then s else s.syncReject t n
  s1.putReply slot (s.waitsStatus t n v) (s.syncAt n).cnt
def State.syncReadReply (s : State) (slot : Nat) (t : Option Tenant) (n : Nat) : State :=
  (s.syncRead t n).1.putReply slot (if s.syncMay t n then 0 else 2) (s.syncRead t n).2

/-- SYNC (R215, R330, R331): the sync unit takes the packet in a slot and performs its operation: a SIG frees the slot; a
WAITS or READ leaves its reply there. -/
def execSync (slot : Fin 44) (s : State) : Host.Outcome State Fault Refusal :=
  match s.takeSlot slot.val with
  | (s, some (.sync op n v who)) =>
    let s1 := s.noteRx stSync
    let t := s.syncTenant slot.val who
    match op with
    | 0 => .next ((s1.freeSlot slot.val).syncChange t n (·.add v))
    | 1 => .next (s1.syncWaits slot.val t n v)
    | _ => .next (s1.syncReadReply slot.val t n)
  | (s, _) => .next s

/-- The owner of a slot takes a reply (R126, R217): a WAITS met or refused is answered, and one not met is sent again. -/
def State.takeReply (s : State) (st : Nat) (p : Pkt) (status : Nat) : State :=
  match p with
  | .sync 1 n v who =>
    let k := st * 32 + who
    match status with
    | 0 => s.answerWaits k n v .met
    | 1 => if s.waitsFor k n v then s.modThread st fun x => { x with again := x.again ++ [p] } else s
    | _ => s.answerWaits k n v .refused
  | _ => s

/-- A doorbell acts on its object for its port (R333): kind 0 ADD, 1 SET. -/
def State.doorbell (s : State) (p : Port) (index : Nat) (v : Word) : State :=
  s.syncChange (some p) (index % 8192) fun o => if bitsOf index 13 2 = 0 then o.add v else o.set v

/-- DOORBELL (R333): the sync unit takes a doorbell that HOST forwarded in its port's slot. -/
def execDoorbell (slot : Fin 44) (s : State) : Host.Outcome State Fault Refusal :=
  match s.takeSlot slot.val with
  | (s, some (.doorbell p index v)) => .next (((s.freeSlot slot.val).noteRx stSync).doorbell (Fin.ofNat 4 p) index v)
  | (s, _) => .next s

/-- A doorbell that waits at HOST travels at once. -/
def State.passDoorbell (s : State) (x : Pkt) : State :=
  match x with
  | .doorbell p index v =>
    ((s.modThread stHost fun t => { t with tx := cnt32 t.tx }).noteRx stSync).doorbell (Fin.ofNat 4 p) index v
  | _ => s

/-- The doorbells that a port has sent act before what the port requests next, in the order received (R23, R330, R334):
that in its slot, then those that wait at HOST. -/
def State.flushPort (s : State) (p : Port) : State :=
  let s1 := match s.slotPkt (40 + p.val) with
    | some ⟨.doorbell q index v, _, _, none, false⟩ =>
      ((s.freeSlot (40 + p.val)).noteRx stSync).doorbell (Fin.ofNat 4 q) index v
    | _ => s
  let waiting := Tab.get (s1.station stHost).thread.portQ [] p.val
  if waiting.isEmpty then s1
  else waiting.foldl State.passDoorbell (s1.modThread stHost fun t => { t with portQ := Tab.put t.portQ [] p.val [] })

/-- NOTIFY_SEND (R333): the unit sends the notification that pends at an object, while it is powered (R434). -/
def execNotifySend (n : Fin 8192) (s : State) : Host.Outcome State Fault Refusal :=
  let o := s.syncAt n.val
  match o.npend && s.fabricRuns, s.syncOwnerOf n.val with
  | true, some t =>
    .next ({ s with sync := Tab.put s.sync {} n.val { o with npend := false } }.sendPkt stSync
      (.notify t.val n.val o.cnt))
  | _, _ => .next s

/-- The notification write of a port (R333): the counter and the tenant's next sequence number. -/
def State.notifyWrite (s : State) (p : Port) (n : Nat) (v : Word) : State :=
  let q := s.nseq[p.val] + 1
  { s with nseq := s.nseq.set p.val q }.hostStore p (((s.port p).nbase &&& 0xFFFFFFFFFFFF0000#64).toNat + 8 * n)
    (leBytes 4 v.toNat ++ leBytes 4 q.toNat)

/-- The tap sees a NOTIFY: the heartbeats that name its object restart (R493). -/
def State.heartbeat (s : State) (n : Nat) : State :=
  let beat (h : PontHb) : PontHb := if h.obj = n then { h with since := s.now, armed := true } else h
  { s with pont := { s.pont with hb := s.pont.hb.map beat } }

/-- NOTIFY (R333): HOST writes the notification and raises the object's vector, as NMODE selects. -/
def execNotify (slot : Fin 44) (s : State) : Host.Outcome State Fault Refusal :=
  match s.takeSlot slot.val with
  | (s, some (.notify p n v)) =>
    let port : Port := Fin.ofNat 4 p
    let o := s.syncAt n
    let s1 := ((s.freeSlot slot.val).noteRx stHost).heartbeat n
    let s2 := if o.nmode % 2 = 1 ∧ (s.port port).nbase.getLsbD 0 then s1.notifyWrite port n v else s1
    .next (if 2 ≤ o.nmode then s2.raiseIrq port o.vector else s2)
  | (s, _) => .next s

/-! ### Registers (R338, R339) -/

/-- An offset lies in the sync unit's ranges of the SYNC station block. -/
def inSyncRegs (off : Nat) : Bool := decide (0x4_0000 ≤ off) && decide (off < 0x6_0000)

/-- Non-reserved bits. -/
def syncMask (off : Nat) : Word :=
  if off < 0x5_0000 then 0xFFFFFFFF
  else if off < 0x5_8000 then 0xF000033F
  else if off < 0x5_8040 then 0x80000003
  else 0xFFFFFFFF

/-- The object of an offset in one of the three object ranges. -/
def syncObjOf (off : Nat) : Nat := off % 0x8000 / 4

/-- A requester may see the registers of an object: the owner's port, or the MP (R338). -/
def State.syncVisible (s : State) (r : Req) (n : Nat) : Bool :=
  match r with | .port p => s.syncOwnerOf n == some p | .mp => true | .smbus => false

/-- SYNC_CNT as a SET (R339): by a port under R331, by the MP on any owned object. -/
def State.syncCntWrite (s : State) (r : Req) (n : Nat) (v : Word) : State :=
  match r with
  | .port p => s.syncChange (some p) n (·.set v)
  | .mp => s.syncChange (s.syncOwnerOf n) n (·.set v)
  | .smbus => s

/-- SYNC_THR (R339). -/
def State.syncThrWrite (s : State) (r : Req) (n : Nat) (v : Word) : State :=
  if s.syncVisible r n then s.modSync n fun o => { o with thr := v } else s

/-- SYNC_CFG (R339). -/
def State.syncCfgWrite (s : State) (r : Req) (n : Nat) (v : Word) : WrRes :=
  if !s.syncVisible r n then wrOk s
  else if bitsOf v.toNat 0 6 < 4 then wrNo s
  else
    wrOk { s with sync := Tab.modify s.sync {} n fun o =>
      { o with ovf := o.ovf && !v.getLsbD 29, unf := o.unf && !v.getLsbD 28, nmode := bitsOf v.toNat 8 2,
               vector := bitsOf v.toNat 0 6 } }

/-- Write a register of the sync unit. -/
def State.syncWrite (s : State) (r : Req) (off : Nat) (v : Word) : WrRes :=
  if off < 0x4_8000 then wrOk (s.syncCntWrite r (syncObjOf off) v)
  else if off < 0x5_0000 then wrOk (s.syncThrWrite r (syncObjOf off) v)
  else if off < 0x5_8000 then s.syncCfgWrite r (syncObjOf off) v
  else if off < 0x5_8040 then
    let o : Option Tenant := if v.msb then some (Fin.ofNat 4 (bitsOf v.toNat 0 2)) else none
    wrOk (if r = .mp then { s with syncOwn := Tab.put s.syncOwn none ((off - 0x5_8000) / 4) o } else s)
  else wrOk s

/-- Read a register of the sync unit. -/
def State.syncRegRead (s : State) (r : Req) (off : Nat) : RdRes :=
  let n := syncObjOf off
  let o := s.syncAt n
  if off < 0x4_8000 then
    match r with
    | .port p => let (t, w) := s.syncRead (some p) n; (t, some w)
    | .mp => (s, some (if (s.syncOwnerOf n).isSome then o.cnt else 0))
    | .smbus => rd s 0
  else if off < 0x5_0000 then (s, some (if s.syncVisible r n then o.thr else 0))
  else if off < 0x5_8000 then
    rd s (if s.syncVisible r n then
      b2n o.above * 2 ^ 31 + b2n o.npend * 2 ^ 30 + b2n o.ovf * 2 ^ 29 + b2n o.unf * 2 ^ 28 + o.nmode * 256 + o.vector
      else 0)
  else if off < 0x5_8040 then
    rd s (match Tab.get s.syncOwn none ((off - 0x5_8000) / 4) with | some t => 2 ^ 31 + t.val | none => 0)
  else if off < 0x5_8050 then (s, some (s.nseq.toList.getD ((off - 0x5_8040) / 4) 0))
  else rd s 0

end Sys2Proof.Machine
end

