-- ==== Sys2Proof/Machine/HostRegs.lean ====
section
/-!
DEFINITION. The port page, its rings' registers and BAR4 (R312 to R325, R336, R337).
-/

namespace Sys2Proof.Machine

/-! ### The command ring (R313 to R318) -/

/-- A waiting WAITSYNC is aborted with status 6 (R316, R318). -/
def State.abortWait (s : State) (p : Port) : State := if (s.port p).waiting then s.finish p 6 else s

/-- A write of HI_CMD_TAIL (R313): refused behind HEAD or more than the ring's size ahead of it. -/
def State.cmdTailSet (s : State) (p : Port) (v : Word) : WrRes :=
  let x := s.port p
  wrIf (decide ((v - x.cmdHead).toNat ≤ 2 ^ x.cmdSize)) s (s.modPort p fun x => { x with cmdTail := v })

/-- A write of HI_CMD_CTRL: ABORT and RESUME (R316, R318). -/
def State.cmdCtrl (s : State) (p : Port) (v : Word) : State :=
  let s1 := if v.getLsbD 1 then s.abortWait p else s
  if v.getLsbD 0 then s1.modPort p fun x => { x with cmdHalt := false } else s1

/-- Commands fetched and not being executed are dropped when the ring is disabled (R318). -/
def State.dropFetched (s : State) (p : Port) : State :=
  let busy := s.cmdBusy p
  s.modPort p fun x => { x with fetched := if busy then x.fetched.take 1 else [] }

/-- A write of HI_CMD_CFG (R337). -/
def State.cmdCfgSet (s : State) (p : Port) (v : Word) : WrRes :=
  let x := s.port p
  let en := v.msb
  let size := bitsOf v.toNat 0 4
  if size < 4 ∨ 12 < size ∨ (x.cmdEn ∧ size ≠ x.cmdSize) then wrNo s
  else if en && !x.cmdEn then
    wrOk (s.modPort p fun x => { x with cmdEn := true, cmdSize := size, cmdHead := 0, cmdTail := 0, cmdHalt := false })
  else if !en && x.cmdEn then
    wrOk (((s.abortWait p).dropFetched p).modPort p fun x => { x with cmdEn := false })
  else wrOk (s.modPort p fun x => { x with cmdSize := size })

/-! ### The event ring (R319 to R325) -/

/-- A write of HI_EV_CFG (R337). -/
def State.evCfgSet (s : State) (p : Port) (v : Word) : WrRes :=
  let x := s.port p
  let en := v.msb
  let size := bitsOf v.toNat 0 5
  let maxn := bitsOf v.toNat 16 12
  if size < 9 ∨ 21 < size ∨ maxn = 0 ∨ maxn = 4095 ∨ (x.evEn ∧ (size ≠ x.evSize ∨ maxn ≠ x.evMaxn)) then wrNo s
  else
    wrOk (s.modPort p fun x =>
      if en && !x.evEn then
        { x with evEn := true, evSize := size, evMaxn := maxn, evHead := 0, evTail := 0, seq := 0 }
      else { x with evEn := en, evSize := size, evMaxn := maxn })

/-- A write of HI_EV_HEAD (R319): refused behind its value or ahead of TAIL. -/
def State.evHeadSet (s : State) (p : Port) (v : Word) : WrRes :=
  let x := s.port p
  wrIf (decide ((v - x.evHead).toNat ≤ (x.evTail - x.evHead).toNat)) s (s.modPort p fun x => { x with evHead := v })

/-! ### The port page (R336, R337) -/

/-- Non-reserved bits of a port page register. -/
def pageMask (off : Nat) : Word :=
  match off with
  | 0x004 => 0x1B
  | 0x010 => 0x1FF
  | 0x020 => 0xFFFFF000
  | 0x028 => 0x8000000F
  | 0x034 => 0x3
  | 0x040 => 0xFFFFF000
  | 0x048 => 0x8FFF001F
  | 0x054 => 0xFFFFFFF8
  | 0x05C => 0x00FFFFFF
  | 0x0A0 => 0xFFFF0001
  | _ => 0xFFFFFFFF

/-- The low and the high half of a 64-bit register replaced. -/
def putLo (x : BitVec 64) (v : Word) : BitVec 64 := x.extractLsb' 32 32 ++ v
def putHi (x : BitVec 64) (v : Word) : BitVec 64 := v ++ x.setWidth 32

/-- Write a port page register. -/
def State.pageWrite (s : State) (p : Port) (off : Nat) (v : Word) : WrRes :=
  let x := s.port p
  match off with
  | 0x004 => wrOk (s.modPort p fun x => { x with foreign := x.foreign && !v.getLsbD 1, pwerr := x.pwerr && !v.getLsbD 0 })
  | 0x010 => wrOk (s.modPort p fun x => { x with b2Base := v.setWidth 9 })
  | 0x020 => wrIf (!x.cmdEn) s (s.modPort p fun x => { x with cmdBase := putLo x.cmdBase v })
  | 0x024 => wrIf (!x.cmdEn) s (s.modPort p fun x => { x with cmdBase := putHi x.cmdBase v })
  | 0x028 => s.cmdCfgSet p v
  | 0x02C => s.cmdTailSet p v
  | 0x034 => wrOk (s.cmdCtrl p v)
  | 0x040 => wrIf (!x.evEn) s (s.modPort p fun x => { x with evBase := putLo x.evBase v })
  | 0x044 => wrIf (!x.evEn) s (s.modPort p fun x => { x with evBase := putHi x.evBase v })
  | 0x048 => s.evCfgSet p v
  | 0x04C => s.evHeadSet p v
  | 0x054 => wrIf (!x.evEn) s (s.modPort p fun x => { x with evWb := putLo x.evWb v })
  | 0x058 => wrIf (!x.evEn) s (s.modPort p fun x => { x with evWb := putHi x.evWb v })
  | 0x05C => wrIf (decide (bitsOf v.toNat 16 8 ≠ 0)) s (s.modPort p fun x => { x with evMod := v })
  | 0x0A0 => wrOk (s.modPort p fun x => { x with nbase := putLo x.nbase v })
  | 0x0A4 => wrOk (s.modPort p fun x => { x with nbase := putHi x.nbase v })
  | _ => wrOk s

/-- Events in an injection queue. -/
def State.injOcc (s : State) (p : Port) (q : Nat) : Nat := (Tab.get s.inj [] (2 * p.val + q)).length

/-- Clear an RC counter of the port page. -/
def PortSt.clearRc (x : PortSt) (off : Nat) : PortSt :=
  match off with
  | 0x060 => { x with evDrop := 0 }
  | 0x064 => { x with evOversize := 0 }
  | 0x088 => { x with injDrop0 := 0 }
  | 0x08C => { x with injDrop1 := 0 }
  | 0x0B0 => { x with syncForeign := 0 }
  | 0x0C0 => { x with sleepReq := 0 }
  | _ => x

/-- Read a port page register. -/
def State.pageRead (s : State) (p : Port) (off : Nat) : RdRes :=
  let x := s.port p
  rdThen (s.modPort p (·.clearRc off))
    (match off with
     | 0x000 => (if x.linkUp then x.width * 2 ^ 12 + x.rate * 2 ^ 8 else 0) + p.val
     | 0x004 => b2n x.sleep * 16 + b2n x.cmdHalt * 8 + b2n x.foreign * 2 + b2n x.pwerr
     | 0x008 => x.errLo.toNat
     | 0x00C => x.errHi.toNat
     | 0x010 => x.b2Base.toNat
     | 0x020 => x.cmdBase.toNat % 2 ^ 32
     | 0x024 => x.cmdBase.toNat / 2 ^ 32
     | 0x028 => b2n x.cmdEn * 2 ^ 31 + x.cmdSize
     | 0x02C => x.cmdTail.toNat
     | 0x030 => x.cmdHead.toNat
     | 0x040 => x.evBase.toNat % 2 ^ 32
     | 0x044 => x.evBase.toNat / 2 ^ 32
     | 0x048 => b2n x.evEn * 2 ^ 31 + x.evMaxn * 2 ^ 16 + x.evSize
     | 0x04C => x.evHead.toNat
     | 0x050 => x.evTail.toNat
     | 0x054 => x.evWb.toNat % 2 ^ 32
     | 0x058 => x.evWb.toNat / 2 ^ 32
     | 0x05C => x.evMod.toNat
     | 0x060 => x.evDrop
     | 0x064 => x.evOversize
     | 0x080 => s.injOcc p 0
     | 0x084 => s.injOcc p 1
     | 0x088 => x.injDrop0
     | 0x08C => x.injDrop1
     | 0x0A0 => x.nbase.toNat % 2 ^ 32
     | 0x0A4 => x.nbase.toNat / 2 ^ 32
     | 0x0B0 => x.syncForeign
     | 0x0B4 => x.syncLast.toNat
     | 0x0C0 => x.sleepReq
     | _ => 0)

/-! ### BAR4 (R312, R325, R326, R334) -/

/-- HOST forwards a doorbell to the sync unit, in the port's own slot and in the order received (R333, R334). -/
def State.forwardDoorbell (s : State) (p : Port) (kind n : Nat) (v : Word) : State :=
  s.modThread stHost fun t =>
    { t with portQ := Tab.modify t.portQ [] p.val (· ++ [.doorbell p.val (kind * 8192 + n) v]) }

/-- A doorbell write of 4 bytes, or an aligned one of 8 (R312); any other is discarded under R307. -/
def State.doorbellWrite (s : State) (p : Port) (kind off : Nat) (bs : List Byte) : State :=
  let w (i : Nat) : Word := BitVec.ofNat 32 (leNat ((bs.drop i).take 4))
  let n := off % 0x8000 / 4
  if bs.length = 4 ∧ off % 4 = 0 then s.forwardDoorbell p kind n (w 0)
  else if bs.length = 8 ∧ off % 8 = 0 then (s.forwardDoorbell p kind n (w 0)).forwardDoorbell p kind (n + 1) (w 4)
  else s.refusedWrite p 2 off

/-- Words written into an injection window: each enters the queue with the queue's own domain, or is dropped at a
full queue and marks the tail (R326). -/
def State.injectWords (s : State) (p : Port) (q : Nat) : List Byte → State
  | b0 :: b1 :: b2 :: b3 :: bs =>
    let w := leNat [b0, b1, b2, b3]
    let key := 2 * p.val + q
    let l := Tab.get s.inj [] key
    let marked := match l.getLast? with | some e => l.dropLast ++ [{ e with gap := true }] | none => l
    let e : LookEv := ⟨BitVec.ofNat 24 ((48 + key) * 2 ^ 18 + bitsOf w 8 18), BitVec.ofNat 8 w, 0, false, p⟩
    let s1 :=
      if 1024 ≤ l.length then
        { s with inj := Tab.put s.inj [] key marked }.modPort p fun x =>
          if q = 0 then { x with injDrop0 := cnt16 x.injDrop0 } else { x with injDrop1 := cnt16 x.injDrop1 }
      else { s with inj := Tab.put s.inj [] key (l ++ [e]) }
    s1.injectWords p q bs
  | _ => s

/-- A write into an injection window from an offset of the two: whole words (R312, R326). -/
def State.injectionWrite (s : State) (p : Port) (off : Nat) (bs : List Byte) : State :=
  if off % 4 = 0 ∧ bs.length % 4 = 0 then s.injectWords p (off / 0x1000) bs else s.refusedWrite p 2 (0x1_0000 + off)

/-- A write of the MSI-X table; clearing a mask bit signals a vector that pends (R325). -/
def State.msixWrite (s : State) (p : Port) (off : Nat) (v : Word) : State :=
  let n := off / 16
  let put (k : Nat) (w : Word) : State := s.modPort p fun x => { x with msix := Tab.put x.msix 0 (3 * n + k) w }
  match off % 16 / 4 with
  | 0 => put 0 (v &&& 0xFFFFFFFC)
  | 1 => put 1 v
  | 2 => put 2 v
  | _ =>
    let bit := 1#64 <<< n
    s.modPort p fun x =>
      { x with msixMask := if v.getLsbD 0 then x.msixMask ||| bit else x.msixMask &&& ~~~bit }.sendPending

/-- Write 4 bytes of BAR4. -/
def State.bar4Write (s : State) (p : Port) (off : Nat) (v : Word) : WrRes :=
  if off < 0x8000 then wrOk (s.forwardDoorbell p 0 (off / 4) v)
  else if off < 0x1_0000 then wrOk (s.forwardDoorbell p 1 (off % 0x8000 / 4) v)
  else if off < 0x1_1000 then wrOk (s.injectWords p 0 (leBytes 4 v.toNat))
  else if off < 0x1_2000 then wrOk (s.injectWords p 1 (leBytes 4 v.toNat))
  else if 0xF_0000 ≤ off ∧ off < 0xF_0400 then wrOk (s.msixWrite p (off - 0xF_0000) v)
  else if 0xF_8000 ≤ off ∧ off < 0xF_8008 then wrOk s
  else wrNo s

/-- Read 4 bytes of BAR4 (R312). -/
def State.bar4Read (s : State) (p : Port) (off : Nat) : RdRes :=
  let x := s.port p
  if off < 0x1_0000 then let (t, w) := s.syncRead (some p) (off % 0x8000 / 4); (t, some w)
  else if off < 0x1_2000 then rd s 0
  else if 0xF_0000 ≤ off ∧ off < 0xF_0400 then
    let n := (off - 0xF_0000) / 16
    let k := off % 16 / 4
    rd s (if k = 3 then b2n (x.msixMask.getLsbD n) else (Tab.get x.msix 0 (3 * n + k)).toNat)
  else if 0xF_8000 ≤ off ∧ off < 0xF_8008 then rd s (bitsOf x.pba.toNat (8 * (off - 0xF_8000)) 32)
  else rdNo s

end Sys2Proof.Machine
end

