-- ==== Sys2Proof/Machine/MpRegs.lean ====
section
/-!
DEFINITION. The registers of MGMT and SEC: the Lehr store, the boot block, the fault summary and the security island
(R300, R301, R473, R474, R484, R485, R505, R506, R509).
-/

namespace Sys2Proof.Machine

/-! ### Lehr registers (R300, R301) -/

/-- The blocks that saves occupy. -/
def LehrSet.blocks (x : LehrSet) : List Nat :=
  (x.newest.map (·.blocks)).getD [] ++ (x.older.map (·.blocks)).getD []
/-- The free pool blocks (R293). -/
def Lehr.free (l : Lehr) : List Nat :=
  let used := l.sets.toList.flatMap LehrSet.blocks
  l.pool.filter fun b => !used.contains b

/-- A command on the set is in progress or waits (R292, R301). -/
def Lehr.setBusy (l : Lehr) (n : Nat) : Nat := b2n (l.jobs.any fun j => j.set == n)

/-- Read a Lehr register. Before the journal scan has ended they read their reset values, but for the commands that wait
for it. -/
def State.lehrRead (s : State) (off : Nat) : RdRes :=
  let l := s.lehr
  if off = 0x5_0008 then rdThen { s with lehr := { l with err := 0 } } l.err
  else if !l.ready then
    rd s (if 0x5_0100 ≤ off ∧ off < 0x5_0180 ∧ off % 8 = 0 then l.setBusy ((off - 0x5_0100) / 8) * 2 ^ 26 else 0)
  else if off = 0x5_0000 then
    rd s (2 ^ 31 + b2n (l.jobs.any fun j => j.phase == .writing) * 2 ^ 30 + l.free.length * 2 ^ 16 + l.retired.length)
  else if off = 0x5_0004 then rd s ((l.wear.filter fun e => 8 ≤ e.1).foldl (fun m e => max m (min 0xFFFFF e.2)) 0)
  else if 0x5_0100 ≤ off ∧ off < 0x5_0180 then
    let n := (off - 0x5_0100) / 8
    let x := l.sets.toList.getD n {}
    if off % 8 = 0 then
      rd s (b2n x.owner.isSome * 2 ^ 31 + (match x.owner with | some t => t.val | none => 0) * 2 ^ 29 +
        b2n x.newest.isSome * 2 ^ 28 + b2n x.older.isSome * 2 ^ 27 + l.setBusy n * 2 ^ 26 +
        (match x.newest with | some v => v.blocks.length | none => 0))
    else rd s (match x.newest with | some v => v.seq.toNat | none => 0)
  else rd s 0

/-! ### The boot block (R473, R474) -/

/-- Cores of a cluster that the remap table uses or holds as spares. -/
def State.goodCount (s : State) (c : Nat) : Nat := if s.boot.counted then (s.goodCores s.boot.retired c).length else 0

/-- Read a boot block register. -/
def State.bootRead (s : State) (off : Nat) : Nat :=
  let b := s.boot
  let x := s.straps
  match off with
  | 0x000 =>
    b2n x.ten * 512 + b2n x.dbg * 256 + b2n x.safepol * 128 + b2n x.mem * 64 + x.host.toNat * 16 + x.boot.toNat
  | 0x004 =>
    b2n b.ready * 2 ^ 31 + b2n b.fail * 2 ^ 30 + b.slot * 2 ^ 28 + b.stage * 2 ^ 24 + b.cause * 2 ^ 16 +
      b2n b.culletLost * 2 + b2n b.culletFull
  | 0x00C => b.fw.toNat
  | 0x010 => b.newEntries * 2 ^ 16 + s.cullet.length
  | 0x014 => b.time
  | 0x018 => b.rotations * 2 ^ 16 + b.defects * 256 + b.staleCnt
  | o =>
    if 0x100 ≤ o ∧ o < 0x180 then
      let c := (o - 0x100) / 4
      s.goodCount c * 256 + (Tab.get b.spares [] c).length
    else 0

/-! ### The fault summary (R509) -/

/-- FA_CTRL.CLEAR. -/
def State.faCtrl (s : State) (r : Req) (v : Word) : WrRes := wrIf (r == .mp) s (if v.getLsbD 0 then { s with fa := {} } else s)

/-- Read a fault summary register. -/
def State.faRead (s : State) (off : Nat) : Nat :=
  match off with
  | 0x000 => match s.fa.first with | some (_, _, _, d) => d.toNat % 2 ^ 32 | none => 0
  | 0x004 =>
    match s.fa.first with
    | some (rep, o, c, d) => 2 ^ 31 + rep * 2 ^ 24 + o * 2 ^ 16 + c * 2 ^ 8 + d.toNat / 2 ^ 32
    | none => 0
  | 0x008 => s.fa.seen.toNat % 2 ^ 32
  | 0x00C => s.fa.seen.toNat / 2 ^ 32
  | o =>
    if 0x100 ≤ o ∧ o < 0x200 then
      let x := Tab.get s.fa.orig {} ((o - 0x100) / 4)
      x.classes.toNat * 2 ^ 24 + x.first * 2 ^ 16 + x.dup
    else 0

/-! ### MGMT -/

/-- An offset lies in a range of the MGMT block. -/
def inMgmt (off : Nat) : Bool :=
  (decide (0x5_0000 ≤ off) && decide (off < 0x5_0200)) || (decide (0x6_0000 ≤ off) && decide (off < 0x6_0200)) ||
  (decide (0x7_0000 ≤ off) && decide (off < 0x7_0200))

/-- Non-reserved bits. -/
def mgmtMask (off : Nat) : Word := if off = 0x6_0008 then 0xE0000000 else if off = 0x7_0010 then 1 else 0xFFFFFFFF

/-- Write a register of MGMT; f is what the physical tests of a boot find, for GO. -/
def State.mgmtWrite (s : State) (r : Req) (off : Nat) (v : Word) (f : BootFindings) : WrRes :=
  if off = 0x6_0008 then s.bootCtrl r v f
  else if off = 0x7_0010 then s.faCtrl r v
  else wrOk s

/-- Read a register of MGMT. -/
def State.mgmtRead (s : State) (off : Nat) : RdRes :=
  if off < 0x6_0000 then s.lehrRead off
  else if off < 0x7_0000 then rd s (s.bootRead (off - 0x6_0000))
  else rd s (s.faRead (off - 0x7_0000))

/-! ### The security island (R484, R485, R505, R506) -/

/-- A parison key. -/
def State.parKey (s : State) (t : Tenant) : ParKey := s.sec.keys[t.val]
def State.modKey (s : State) (t : Tenant) (f : ParKey → ParKey) : State :=
  s.modSec fun x => { x with keys := x.keys.set t.val (f x.keys[t.val]) }

/-- SEC_CTRL: SVN_COMMIT from port 0 once the device is ready raises the minimum SVN (R484). -/
def State.secCtrl (s : State) (r : Req) (v : Word) : WrRes :=
  if r != .port 0 || !s.boot.ready then wrNo s
  else if !v.getLsbD 0 then wrOk s
  else if 64 < s.boot.svn then wrNo s
  else wrOk { s with fuses := { s.fuses with minSvn := max s.fuses.minSvn s.boot.svn } }

/-- COMMIT (R485): the window's key is enrolled while the tenant is Unloaded or Stopped and the key is not locked. -/
def State.keyCommit (s : State) (t : Tenant) : WrRes :=
  wrIf (!(s.parKey t).locked && s.isStopped t) s
    (s.modKey t fun k => { k with enrolled := some (imageBytes k.window 0 1312) })
/-- LOCK (R485). -/
def State.keyLock (s : State) (t : Tenant) : State := s.modKey t fun k => { k with locked := true }

/-- Write SEC_PK_CTRL: COMMIT, then LOCK; by the tenant's port or the MP. -/
def State.keyCtrl (s : State) (r : Req) (t : Tenant) (v : Word) : WrRes :=
  if !ownsOrMp r t then wrNo s
  else
    match (if v.getLsbD 30 then s.keyCommit t else wrOk s) with
    | (u, true) => wrOk (if v.msb then u.keyLock t else u)
    | (_, false) => wrNo s

/-- Four bytes of the key window. -/
def State.keyWindow (s : State) (r : Req) (t : Tenant) (off : Nat) (v : Word) : WrRes :=
  let put (w : Tab Byte) : Tab Byte :=
    (List.range 4).foldl (fun w i => Tab.put w 0 (off + i) (v.extractLsb' (8 * i) 8)) w
  wrIf (ownsOrMp r t && !(s.parKey t).locked) s (s.modKey t fun k => { k with window := put k.window })

/-- The identity public key and its digest, while the identity seed is held (R481). -/
def State.idPk (s : State) : List Byte := if s.fuses.seed then (List.range 1312).map Config.idPkByte else List.replicate 1312 0
def State.idDigest (s : State) : List Byte := if s.fuses.seed then sha3 s.idPk else List.replicate 32 0
/-- The die identifier digest. -/
def dieDigest : List Byte := (List.range 32).map Config.dieByte

/-- Word i of a list of bytes. -/
def wordOf (bs : List Byte) (i : Nat) : Nat := leNat ((bs.drop (4 * i)).take 4)

/-- An offset lies in the security island's ranges. -/
def inSec (off : Nat) : Bool := decide (0x4_0000 ≤ off) && decide (off < 0x4_4000)

/-- Non-reserved bits. -/
def secMask (off : Nat) : Word :=
  if off = 0x4_0004 ∨ off = 0x4_0010 then 1
  else if 0x4_0020 ≤ off ∧ off < 0x4_0030 then 0xF0000000
  else 0xFFFFFFFF

/-- Write a register of SEC. -/
def State.secWrite (s : State) (r : Req) (off : Nat) (v : Word) : WrRes :=
  if off = 0x4_0004 then s.lcCtrl r v
  else if off = 0x4_0010 then s.secCtrl r v
  else if 0x4_0020 ≤ off ∧ off < 0x4_0030 then s.keyCtrl r (Fin.ofNat 4 ((off - 0x4_0020) / 4)) v
  else if 0x4_1000 ≤ off ∧ off < 0x4_3000 ∧ (off - 0x4_1000) % 0x800 < 1312 then
    s.keyWindow r (Fin.ofNat 4 ((off - 0x4_1000) / 0x800)) ((off - 0x4_1000) % 0x800) v
  else wrOk s

/-- The lifecycle state permits core debug (R478). -/
def Fuses.dbgOk (f : Fuses) : Bool := f.lc == 0 || f.lc == 1 || f.lc == 3

/-- Read a register of SEC. -/
def State.secRead (s : State) (r : Req) (off : Nat) : RdRes :=
  let x := s.sec
  if 0x4_0020 ≤ off ∧ off < 0x4_0030 then
    let k := s.parKey (Fin.ofNat 4 ((off - 0x4_0020) / 4))
    rd s (b2n k.locked * 2 ^ 29 + b2n k.enrolled.isSome * 2 ^ 28)
  else if 0x4_0100 ≤ off ∧ off < 0x4_0120 then rd s (wordOf dieDigest ((off - 0x4_0100) / 4))
  else if 0x4_0120 ≤ off ∧ off < 0x4_0140 then rd s (wordOf s.idDigest ((off - 0x4_0120) / 4))
  else if 0x4_1000 ≤ off ∧ off < 0x4_3000 ∧ (off - 0x4_1000) % 0x800 < 1312 then
    let t : Tenant := Fin.ofNat 4 ((off - 0x4_1000) / 0x800)
    rd s (if ownsOrMp r t then leNat (imageBytes (s.parKey t).window ((off - 0x4_1000) % 0x800) 4) else 0)
  else if 0x4_3000 ≤ off ∧ off < 0x4_3000 + 1312 then rd s (wordOf s.idPk ((off - 0x4_3000) / 4))
  else
    rd s (match off with
      | 0x4_0000 => s.fuses.trans % 256 * 2 ^ 16 + b2n x.scan * 512 + b2n s.fuses.dbgOk * 256 + s.fuses.lc
      | 0x4_0008 => b2n x.busy * 2 ^ 31 + x.result
      | 0x4_000C => min 65535 s.boot.svn * 2 ^ 16 + s.fuses.minSvn
      | 0x4_0014 => b2n x.trngFail * 2 ^ 31 + b2n x.keysOff * 2 ^ 30
      | 0x4_0018 => s.fuses.tamperCnt * 2 ^ 16 + x.detect.toNat
      | _ => 0)

end Sys2Proof.Machine
end

