-- ==== Sys2Proof/Machine/PciCfg.lean ====
section
/-!
DEFINITION. The configuration space of a host port: identification, the capability lists, and the registers of the
capabilities whose settings the spec's rules depend on (R303 to R305, R307, R308, R325, R328). The spec names the
capabilities and the values; where a register stands in them is the PCI Express base specification's (PRESUMED), and the
place of each capability in the space is the model's (DESIGN CHOICE): notes/assumptions/61.md.
-/

namespace Sys2Proof.Machine

/-- The capability list, in order: offset and capability ID: power management, PCI Express and MSI-X (R303, R305). -/
def capList : List (Nat × Nat) := [(0x40, 0x01), (0x50, 0x10), (0xA0, 0x11)]

/-- The extended capability list, in order: AER, Secondary PCI Express, Data Link Feature, Physical Layer 16.0 GT/s, Lane
Margining at the Receiver, Physical Layer 32.0 GT/s, L1 PM Substates, LTR and Resizable BAR (R303, R305). -/
def extCapList : List (Nat × Nat) :=
  [(0x100, 0x0001), (0x150, 0x0019), (0x180, 0x0025), (0x190, 0x0026), (0x1C0, 0x0027), (0x210, 0x002A),
   (0x240, 0x001E), (0x250, 0x0018), (0x260, 0x0015)]

/-- The pointer to the capability after entry i of a list; 0 after the last. -/
def nextCap (l : List (Nat × Nat)) (i : Nat) : Nat := (l.getD (i + 1) (0, 0)).1

/-- The header word of a capability at an offset, without the bits of its own that the word holds. -/
def capHeader (off : Nat) : Nat :=
  match capList.findIdx? (·.1 == off) with
  | some i => (capList.getD i (0, 0)).2 + nextCap capList i * 2 ^ 8
  | none =>
    match extCapList.findIdx? (·.1 == off) with
    | some i => (extCapList.getD i (0, 0)).2 + 2 ^ 16 + nextCap extCapList i * 2 ^ 20
    | none => 0

/-- Read a word of the configuration space of a port (R303 to R305, R308, R325). -/
def State.cfgRead (s : State) (p : Port) (off : Nat) : Nat :=
  let x := s.port p
  let c := x.cfg
  capHeader off +
  match off with
  | 0x000 => s.grade.deviceId * 2 ^ 16 + 0x1F5C
  | 0x004 => 2 ^ 20
  | 0x008 => 0x120000 * 2 ^ 8 + Config.stepping.toNat
  | 0x02C => p.val * 2 ^ 16 + 0x1F5C
  | 0x034 => 0x40
  | 0x044 => 2 ^ 3 + (if c.d3 then 3 else 0)
  | 0x050 => 2 * 2 ^ 16
  | 0x054 => 2 ^ 28 + 2 ^ 15 + 2
  | 0x058 => c.readReq * 2 ^ 12 + c.payload * 2 ^ 5 + b2n c.relaxed * 2 ^ 4
  | 0x05C => 2 * 2 ^ 10 + s.lanes * 2 ^ 4 + 5
  | 0x060 => (if x.linkUp then x.width * 2 ^ 20 + x.rate * 2 ^ 16 else 0) + b2n c.noWidth * 2 ^ 9
  | 0x080 => b2n c.noSpeed * 2 ^ 5 + 5
  | 0x0A0 => b2n c.msixEn * 2 ^ 31 + b2n c.fnMask * 2 ^ 30 + 63 * 2 ^ 16
  | 0x0A4 => 0xF_0000 + 4
  | 0x0A8 => 0xF_8000 + 4
  | 0x104 => c.aerUnc.toNat
  | 0x110 => c.aerCor.toNat
  | 0x264 => 0x000F_F000
  | 0x268 => c.bar2 * 2 ^ 8 + 2 ^ 5 + 2
  | _ => 0

/-- A write of the configuration registers of a port that the rules depend on. A value that the port does not support
leaves its field unchanged; read-only fields ignore writes. -/
def PciCfg.put (c : PciCfg) (off : Nat) (v : Word) : PciCfg :=
  let n := v.toNat
  match off with
  | 0x044 => { c with d3 := if bitsOf n 0 2 = 3 then true else if bitsOf n 0 2 = 0 then false else c.d3 }
  | 0x058 =>
    { c with
      readReq := if bitsOf n 12 3 ≤ 5 then bitsOf n 12 3 else c.readReq
      payload := if bitsOf n 5 3 ≤ 2 then bitsOf n 5 3 else c.payload
      relaxed := bitOf n 4 }
  | 0x060 => { c with noWidth := bitOf n 9 }
  | 0x080 => { c with noSpeed := bitOf n 5 }
  | 0x0A0 => { c with msixEn := bitOf n 31, fnMask := bitOf n 30 }
  | 0x104 => { c with aerUnc := c.aerUnc &&& ~~~v }
  | 0x110 => { c with aerCor := c.aerCor &&& ~~~v }
  | 0x268 => { c with bar2 := if 8 ≤ bitsOf n 8 6 ∧ bitsOf n 8 6 ≤ 15 then bitsOf n 8 6 else c.bar2 }
  | _ => c

/-- Write a word of the configuration space: vectors that pend and may now be sent are sent (R325). -/
def State.cfgWrite (s : State) (p : Port) (off : Nat) (v : Word) : State :=
  s.modPort p fun x => { x with cfg := x.cfg.put off v }.sendPending

end Sys2Proof.Machine
end

