-- ==== Sys2Proof/Machine/TimerRegs.lean ====
section
/-!
DEFINITION. The registers of the Shears and of the general timers (R409, R416, R418 to R426).
-/

namespace Sys2Proof.Machine

/-! ### The Shears (R409, R424, R425) -/

/-- The owner of a sync object's block of 512 (R329). -/
def State.syncOwner (s : State) (obj : Nat) : Option Tenant := Tab.get s.syncOwn none (obj / 512)

/-- A period within the limits of R409. -/
def Shears.periodOk (x : Shears) (p : Nat) : Bool :=
  decide ((if x.deep then 5000 else 250) ≤ p) && decide (p ≤ 250000000)

/-- Write SH_PERIOD (R409): staged while the tenant runs. -/
def State.shPeriodSet (s : State) (r : Req) (t : Tenant) (v : Word) : WrRes :=
  let sh := s.shear t
  if !ownsOrMp r t || !sh.periodOk v.toNat then wrNo s
  else if s.isStopped t then wrOk (s.modShear t fun x => { x with period := v.toNat, staged := none })
  else wrOk (s.modShear t fun x => { x with staged := some v.toNat })

/-- Write a register of a Shears. -/
def State.shWrite (s : State) (r : Req) (t : Tenant) (reg : Nat) (v : Word) : WrRes :=
  let ok := ownsOrMp r t && s.isStopped t
  match reg with
  | 0x00 => wrIf ok s (s.modShear t fun x => { x with deep := v.getLsbD 1, lossless := v.getLsbD 0 })
  | 0x04 => s.shPeriodSet r t v
  | 0x08 => wrIf ok s (s.modShear t fun x => { x with epochLen := v.toNat })
  | _ => wrOk s

/-- Read a register of a Shears. -/
def State.shRead (s : State) (t : Tenant) (reg : Nat) : RdRes :=
  let sh := s.shear t
  match reg with
  | 0x00 => rd s (b2n sh.deep * 2 + b2n sh.lossless)
  | 0x04 => rd s (sh.staged.getD sh.period)
  | 0x08 => rd s sh.epochLen
  | 0x0C => rd s (b2n sh.pstop * 512 + b2n sh.staged.isSome * 256 + sh.tag.toNat * 16 + sh.state.code)
  | 0x10 => (s, some sh.tick)
  | 0x14 => rdThen (s.modShear t fun x => { x with overrun := 0 }) sh.overrun
  | 0x18 => rdThen (s.modShear t fun x => { x with stretchCnt := 0 }) sh.stretchCnt
  | 0x1C => rdThen (s.modShear t fun x => { x with stretchTime := 0 }) sh.stretchTime
  | 0x20 => rd s sh.lastLen
  | _ => rd s 0

/-! ### General timers (R416, R418 to R422, R426) -/

/-- CLAIM of a timer through TMR_OWN (R377, R416). -/
def State.timerClaim (s : State) (r : Req) (n : Fin 16) (owner : Tenant) : WrRes :=
  match claimant r owner with
  | none => wrNo s
  | some t =>
    match s.timers[n.val].owner with
    | none => wrOk (s.modTimer n fun x => { x with owner := some t.val })
    | some o => if o = t.val then wrOk s else s.refuseClaim r

/-- RELEASE of a timer: it returns to its reset values (R378, R416). -/
def State.timerRelease (s : State) (r : Req) (n : Fin 16) : WrRes :=
  wrIf (s.mayRelease r s.timers[n.val].owner) s (s.modTimer n fun _ => {})

/-- A source that a trigger or a capture channel names is accepted: it exists, and a timer or pin it names belongs to
the timer's tenant (R416, R418). -/
def State.sourceOk (s : State) (o : Option Nat) (src evt : Nat) : Bool :=
  evt != 3 &&
  (if src < 16 then (s.timer src).owner == o
   else if src < 18 then true
   else if src < 32 then false
   else s.ownsPin o (src - 32) 6)

/-- TMR_TRIG values that are accepted (R416, R418, R426). -/
def State.trigOk (s : State) (o : Option Nat) (v : Word) : Bool :=
  let slave := bitsOf v.toNat 29 3
  let src := bitsOf v.toNat 0 6
  let evt := bitsOf v.toNat 8 2
  decide (slave ≤ 4) && !(slave == 1 && (src == 16 || src == 17)) && s.sourceOk o src evt

/-- Write TMR_CTRL (R417, R418, R424): disabling clears RUN, and enabling sets it but in mode 3. -/
def State.tmrCtrlSet (s : State) (n : Fin 16) (v : Word) : WrRes :=
  let t := s.timers[n.val]
  if !cfgFree t.ctrl v || bitsOf v.toNat 28 2 == 3 || bitsOf v.toNat 26 2 == 3 then wrNo s
  else
    wrOk (s.modTimer n fun x => { x with
      ctrl := v
      run := if !v.msb then false else if t.en then x.run else t.slave != 3 })

/-- Replace one half of a 64-bit comparator. -/
def halfLo (x : Nat) (v : Word) : Nat := x / 2 ^ 32 * 2 ^ 32 + v.toNat
def halfHi (x : Nat) (v : Word) : Nat := v.toNat * 2 ^ 32 + x % 2 ^ 32

/-- Change a capture channel. -/
def State.modCap (s : State) (n : Fin 16) (k : Fin 4) (f : CapChan → CapChan) : State :=
  s.modTimer n fun x => { x with cap := x.cap.set k.val (f x.cap[k.val]) }

/-- Write TMR_CAPk_CFG (R416, R421, R424). -/
def State.capCfgSet (s : State) (n : Fin 16) (k : Fin 4) (v : Word) : WrRes :=
  let t := s.timers[n.val]
  let src := bitsOf v.toNat 0 6
  let evt := bitsOf v.toNat 8 2
  wrIf (!t.en && s.sourceOk t.owner src evt) s (s.modCap n k fun c => { c with cfg := v })

/-- The sync object that a timer signals belongs to its tenant (R416). -/
def State.objOk (s : State) (o : Option Nat) (v : Word) : Bool :=
  bitsOf v.toNat 30 2 == 0 ||
    match s.syncOwner (bitsOf v.toNat 0 13), o with
    | some t, some n => t.val == n || n == 4
    | none, some n => n == 4
    | _, none => false

/-- Write a timer's register other than TMR_OWN. -/
def State.timerWrite (s : State) (n : Fin 16) (reg : Nat) (v : Word) : WrRes :=
  let t := s.timers[n.val]
  match reg with
  | 0x04 => s.tmrCtrlSet n v
  | 0x08 => wrIf (!t.en && s.trigOk t.owner v) s (s.modTimer n fun x => { x with trig := v })
  | 0x0C => wrOk (s.modTimer n fun x => { x with ovf := x.ovf && !v.getLsbD 2, mat := x.mat && !v.getLsbD 1 })
  | 0x10 => wrOk (s.modTimer n fun x => { x with load := some (x.setHi.toNat * 2 ^ 32 + v.toNat) })
  | 0x18 => wrOk (s.modTimer n fun x => { x with cmp := halfLo x.cmp v })
  | 0x1C => wrOk (s.modTimer n fun x => { x with cmp := halfHi x.cmp v })
  | 0x20 => wrOk (s.modTimer n fun x => { x with per := halfLo x.per v })
  | 0x24 => wrOk (s.modTimer n fun x => { x with per := halfHi x.per v })
  | 0x28 => wrIf (s.objOk t.owner v) s (s.modTimer n fun x => { x with obj := v })
  | 0x2C => wrOk (s.modTimer n fun x => { x with setHi := v })
  | _ =>
    let k : Fin 4 := Fin.ofNat 4 ((reg - 0x40) / 16)
    if 0x40 ≤ reg ∧ reg < 0x80 then
      match reg % 16 / 4 with
      | 0 => s.capCfgSet n k v
      | 3 => wrOk (s.modCap n k fun c => { c with empty := c.empty && !v.getLsbD 3 })
      | _ => wrOk s
    else wrOk s

/-- Read TMR_CNT_LO: the high word is latched (R419). -/
def State.cntLoRead (s : State) (n : Fin 16) : RdRes :=
  let t := s.timers[n.val]
  rdThen (s.modTimer n fun x => { x with cntHi := BitVec.ofNat 32 (t.cnt / 2 ^ 32) }) (t.cnt % 2 ^ 32)

/-- Read TMR_CAPk_LO: the oldest capture is popped and its high word latched; an empty queue sets EMPTY (R422). -/
def State.capRead (s : State) (n : Fin 16) (k : Fin 4) : RdRes :=
  match s.timers[n.val].cap[k.val].queue with
  | [] => rdThen (s.modCap n k fun c => { c with empty := true }) 0
  | (x, _) :: rest =>
    rdThen (s.modCap n k fun c => { c with queue := rest, hi := BitVec.ofNat 32 (x / 2 ^ 32) }) (x % 2 ^ 32)

/-- TMR_OWN as read. -/
def Timer.ownWord (t : Timer) : Nat := match t.owner with | some o => 2 ^ 19 + o % 4 * 2 ^ 16 | none => 0

/-- Read a timer's register other than TMR_OWN. -/
def State.timerRead (s : State) (n : Fin 16) (reg : Nat) : RdRes :=
  let t := s.timers[n.val]
  match reg with
  | 0x04 => (s, some t.ctrl)
  | 0x08 => (s, some t.trig)
  | 0x0C => rd s (b2n t.out * 16 + b2n t.run * 8 + b2n t.ovf * 4 + b2n t.mat * 2)
  | 0x10 => s.cntLoRead n
  | 0x14 => (s, some t.cntHi)
  | 0x18 => rd s (t.cmp % 2 ^ 32)
  | 0x1C => rd s (t.cmp / 2 ^ 32)
  | 0x20 => rd s (t.per % 2 ^ 32)
  | 0x24 => rd s (t.per / 2 ^ 32)
  | 0x28 => (s, some t.obj)
  | _ =>
    let k : Fin 4 := Fin.ofNat 4 ((reg - 0x40) / 16)
    let c := t.cap[k.val]
    if 0x40 ≤ reg ∧ reg < 0x80 then
      match reg % 16 / 4 with
      | 0 => (s, some c.cfg)
      | 1 => s.capRead n k
      | 2 => (s, some c.hi)
      | _ =>
        rdThen (s.modCap n k fun c => { c with drop := 0 })
          (c.drop * 2 ^ 24 + c.queue.length * 16 + b2n c.empty * 8 +
            b2n (match c.queue with | (_, g) :: _ => g | [] => false) * 4)
    else rd s 0

/-! ### The timer ranges (R424) -/

/-- Non-reserved bits of a timer register. -/
def timerMask (off : Nat) : Word :=
  if off < 0x4_8100 then
    match off % 0x40 with | 0x00 => 3 | 0x04 => 0x0FFFFFFF | 0x08 => 0xFFFF | _ => 0xFFFFFFFF
  else
    match off % 0x80 with
    | 0x00 => ownMask
    | 0x04 => 0xFFC0FFFF
    | 0x08 => 0xE000033F
    | 0x0C => 0x1E
    | 0x28 => 0xC0001FFF
    | 0x40 => 0x8000033F | 0x50 => 0x8000033F | 0x60 => 0x8000033F | 0x70 => 0x8000033F
    | 0x4C => 0xFF00007C | 0x5C => 0xFF00007C | 0x6C => 0xFF00007C | 0x7C => 0xFF00007C
    | _ => 0xFFFFFFFF

/-- An offset lies in a timer range. -/
def inTimers (off : Nat) : Bool := decide (0x4_8000 ≤ off) && decide (off < 0x5_0000)

/-- The timer whose registers hold an offset. -/
def timerAt (off : Nat) : Fin 16 := Fin.ofNat 16 ((off - 0x4_9000) / 0x80)

/-- TMR_CTRL, TMR_TRIG and the TMR_CAPk_CFG, whose writes only the owner's port and the MP may make (R424). -/
def ownerOnly (reg : Nat) : Bool := [0x04, 0x08, 0x40, 0x50, 0x60, 0x70].contains reg

/-- The MP takes a free timer for the device's own use by writing its registers (R416; how it does is not stated,
notes/assumptions/59.md, DESIGN CHOICE). -/
def State.mpTakes (s : State) (r : Req) (n : Fin 16) : State :=
  if r == .mp && s.timers[n.val].owner.isNone then s.modTimer n fun x => { x with owner := some 4 } else s

/-- Write a register of the timer ranges. -/
def State.timersWrite (s : State) (r : Req) (off : Nat) (v : Word) : WrRes :=
  if off < 0x4_8100 then s.shWrite r (Fin.ofNat 4 ((off - 0x4_8000) / 0x40)) (off % 0x40) v
  else if 0x4_9000 ≤ off ∧ off < 0x4_9800 then
    let n := timerAt off
    if off % 0x80 = 0 then
      (if v.getLsbD 31 then s.timerClaim r n (Fin.ofNat 4 (bitsOf v.toNat 28 2))
       else if v.getLsbD 30 then s.timerRelease r n else wrOk s)
    else
      let reg := off % 0x80
      let o := s.timers[n.val].owner
      if ownerOnly reg && !mayUse r o then wrNo s
      else
        match (s.mpTakes r n).timerWrite n reg v with
        | (u, true) => resWrite s r o (wrOk u)
        | (_, false) => resWrite s r o (wrNo s)
  else wrOk s

/-- Read a register of the timer ranges. -/
def State.timersRead (s : State) (r : Req) (off : Nat) : RdRes :=
  if off < 0x4_8100 then s.shRead (Fin.ofNat 4 ((off - 0x4_8000) / 0x40)) (off % 0x40)
  else if 0x4_9000 ≤ off ∧ off < 0x4_9800 then
    let n := timerAt off
    if off % 0x80 = 0 then rd s s.timers[n.val].ownWord
    else if foreignTo r s.timers[n.val].owner then rd s 0
    else s.timerRead n (off % 0x80)
  else rd s 0

end Sys2Proof.Machine
end

