-- ==== Sys2Proof/Machine/Regs.lean ====
section
/-!
DEFINITION. Register accesses: where an address of the register region leads, who may reach it, and the write and the
read of any register of the device by any requester (R11, R12, R29, R32, R307, R309, R310, R328, R432, R460).
-/

namespace Sys2Proof.Machine

/-- Where an address of the register region leads (R32, R309). -/
inductive Place where
  | station (st off : Nat)
  | pontil (off : Nat)
  | aon (off : Nat)
  | page (p : Port) (off : Nat)
  | core (c : CoreId) (off : Nat)
  | bar4 (p : Port) (off : Nat)
  | config (p : Port) (off : Nat)
  /-- an unmapped offset of a BAR, or of the register region -/
  | nowhere
  /-- in no BAR of the port -/
  | outside
  deriving DecidableEq, Repr

/-- The model's addresses of BAR4 and of the configuration space of the requesting port: beyond the listed ranges (R29), for
REG_WR and REG_RD alone. -/
def bar4Base : Nat := 0x800_0000_0000
def cfgBase : Nat := 0x900_0000_0000

/-- The core whose window holds a BAR0 offset from 0x340_0000 on (R309). -/
def aliasCore (x : Nat) : CoreId := ⟨Fin.ofNat 32 (x / 0x2_0000), Fin.ofNat 32 (x % 0x2_0000 / 0x1000)⟩

/-- Where an offset of the register region leads; the aliases exist for a port (R309). The spec gives the Pontil and
always-on blocks no size: each is taken to be 4 KiB, as a port page is, and an offset beyond it is unmapped (DESIGN CHOICE,
notes/assumptions/56.md). -/
def placeOff (r : Req) (x : Nat) : Place :=
  if x < 40 * 0x10_0000 then .station (x / 0x10_0000) (x % 0x10_0000)
  else if 0x300_0000 ≤ x ∧ x < 0x300_1000 then .pontil (x - 0x300_0000)
  else if 0x310_0000 ≤ x ∧ x < 0x310_1000 then .aon (x - 0x310_0000)
  else
    match r with
    | .port p =>
      if 0x320_0000 ≤ x ∧ x < 0x320_1000 then .page p (x - 0x320_0000)
      else if 0x340_0000 ≤ x ∧ x < 0x380_0000 then .core (aliasCore (x - 0x340_0000)) (x % 0x1000)
      else .nowhere
    | _ => .nowhere

/-- Where an address leads: a register, or a core register window at its place in the core memories (R29, R30). -/
def placeOf (r : Req) (a : Nat) : Place :=
  if regBase ≤ a ∧ a < regBase + 0x400_0000 then (if a % 4 = 0 then placeOff r (a - regBase) else .nowhere)
  else if coreBase ≤ a ∧ a < coreBase + 0x4000_0000 ∧ 0x4_9000 ≤ a % 0x8_0000 ∧ a % 0x8_0000 < 0x4_A000 then
    (if a % 4 = 0 then .core (coreAt a) (a % 0x1000) else .nowhere)
  else
    match r with
    | .port p =>
      if bar4Base ≤ a ∧ a < bar4Base + 0x10_0000 then (if a % 4 = 0 then .bar4 p (a - bar4Base) else .nowhere)
      else if cfgBase ≤ a ∧ a < cfgBase + 0x1000 ∧ a % 4 = 0 then .config p (a - cfgBase)
      else .outside
    | _ => .nowhere

/-- What stands between a requester and a register. -/
inductive Gate where
  /-- the access reaches the register -/
  | ok
  /-- it meets an error response -/
  | error
  /-- a register of another tenant: it reads as zero and discards writes -/
  | hidden
  /-- the device sleeps: Unsupported Request, and the request is counted (R328) -/
  | asleep
  /-- the address lies in no BAR of the port, or the function is in D3hot: Unsupported Request (R303, R307) -/
  | unsupported
  deriving DecidableEq, Repr

/-- The tenant that owns what a place names alone: a cluster's, or a port page's. -/
def State.placeTenant (s : State) (pl : Place) : Option Tenant :=
  match pl with
  | .station st off =>
    if st < 32 then s.tenantOf st
    else if st = stHost ∧ 0x4_0000 ≤ off ∧ off < 0x4_4000 then some (Fin.ofNat 4 ((off - 0x4_0000) / 0x1000))
    else none
  | .page p _ => some p
  | .core c _ => s.tenantOf c.cl.val
  | .bar4 p _ => some p
  | _ => none

/-- A core window leads to no core: beyond the grade, or of a cluster in NAP (R310, R432). -/
def State.noCore (s : State) (c : CoreId) : Bool :=
  decide (s.grade.perCluster ≤ c.lc.val) || s.tenantOf c.cl.val == none || decide (2 ≤ s.aon.st)

/-- The device is in GLORY or HOLD, or on its way there (R328, R437). -/
def State.asleep (s : State) : Bool :=
  decide (3 ≤ s.aon.st) || (match s.aon.entering with | some t => decide (2 ≤ t) | none => false)

/-- The function of a port is in D3hot: it completes configuration requests alone (R303; PRESUMED, the PCI Express base
specification's meaning of the state). -/
def State.inD3 (s : State) (r : Req) : Bool := match r with | .port p => (s.port p).cfg.d3 | _ => false

/-- The gate of an access once the device is ready. A core beyond the grade in a cluster of another tenant is hidden like the
rest of the cluster: the spec does not say which of R29 and R310 comes first (DESIGN CHOICE, notes/assumptions/56.md). -/
def State.gateReady (s : State) (r : Req) (pl : Place) : Gate :=
  match pl with
  | .config .. => .ok
  | .outside => .unsupported
  | .nowhere => if s.inD3 r then .unsupported else if s.asleep then .asleep else .error
  | .core c _ =>
    if s.inD3 r then .unsupported else
    if s.asleep then .asleep
    else
      match r, s.tenantOf c.cl.val with
      | .port p, some t => if p ≠ t then .hidden else if s.noCore c then .error else .ok
      | _, _ => if s.noCore c then .error else .ok
  | .aon _ => if s.inD3 r then .unsupported else .ok
  | .pontil _ => if s.inD3 r then .unsupported else .ok
  | _ =>
    if s.inD3 r then .unsupported
    else if s.asleep then .asleep
    else
      match r, s.placeTenant pl with
      | .port p, some t => if p ≠ t then .hidden else .ok
      | _, _ => .ok

/-- The registers a host reaches before readiness: the boot block at the start of BAR0, on port 0, and in recovery the
lifecycle registers of SEC (R460, R480). -/
def State.earlyPlace (s : State) (p : Port) (pl : Place) : Option Place :=
  if p ≠ 0 ∨ !(s.hostPush || s.recovery || s.boot.fail) then none
  else
    match pl with
    | .config .. => some pl
    | .station 0 off => if off < 0x1000 then some (.station stMgmt (0x6_0000 + off)) else none
    | .station 39 off => if s.recovery && decide (0x4_0000 ≤ off) && decide (off < 0x4_000C) then some pl else none
    | _ => none

/-- The place an access reaches, behind its gate. The SMBus has its own commands and makes no register access. -/
def State.gateOf (s : State) (r : Req) (a : Nat) : Gate × Place :=
  let pl := placeOf r a
  if s.boot.inReset then (.error, pl)
  else
    match r with
    | .smbus => (.error, pl)
    | .mp => (s.gateReady r pl, pl)
    | .port p =>
      if !s.configured p then (.error, pl)
      else if !s.boot.ready then
        match s.earlyPlace p pl with
        | some q => (.ok, q)
        | none => (.error, pl)
      else (s.gateReady r pl, pl)

/-! ### Station blocks (R32) -/

/-- The group window and the directory window of a station block (R189). -/
def inGroupWindow (off : Nat) : Bool := decide (0x2_0000 ≤ off) && decide (off < 0x4_0000)
def inDirWindow (off : Nat) : Bool := decide (0x8_0000 ≤ off) && decide (off < 0x10_0000)

/-- Write an entry of the group window, through the bank CANE_GRP_BANK shows (R193, R200). -/
def State.groupWrite (s : State) (r : Req) (st off : Nat) (v : Word) : WrRes :=
  if !caneInjects st then wrNo s
  else
    let g := (s.station st).cane.grpBank * 16384 + (off - 0x2_0000) / 8
    if off % 8 = 0 then s.grpLoWrite r st g v else s.grpHiWrite r st g v

/-- Read an entry of the group window (R183, R200). -/
def State.groupRead (s : State) (r : Req) (st off : Nat) : RdRes :=
  if !caneInjects st then rd s 0
  else
    let e := s.group st ((s.station st).cane.grpBank * 16384 + (off - 0x2_0000) / 8)
    (s, some (if off % 8 = 0 then visible r (grpHolder e) 0 (e.setWidth 32)
      else visible r (grpHolder e) 0xE0000000 (e.extractLsb' 32 32)))

/-- The domain that the directory window of a station shows (R193, R201). -/
def State.shownDomain (s : State) (st : Nat) : Nat := (domainsAt st).1 + (s.station st).cane.dirBank

/-- Write a word of the directory window (R174, R201). -/
def State.dirWindowWrite (s : State) (r : Req) (st off : Nat) (v : Word) : WrRes :=
  if (domainsAt st).2 = 0 then wrNo s else s.dirWrite r (s.shownDomain st) ((off - 0x8_0000) / 4) v

/-- Read a word of the directory window (R201). -/
def State.dirWindowRead (s : State) (st off : Nat) : RdRes :=
  if (domainsAt st).2 = 0 then rd s 0
  else
    let k := s.shownDomain st * 2 ^ 18 + 2 * ((off - 0x8_0000) / 4)
    rd s ((Tab.get s.dir 0 (k + 1)).toNat * 65536 + (Tab.get s.dir 0 k).toNat)

/-- The port page that an offset of the HOST block leads to (R32, R336). -/
def inPages (off : Nat) : Bool := decide (0x4_0000 ≤ off) && decide (off < 0x4_4000)
def pageAt (off : Nat) : Port := Fin.ofNat 4 ((off - 0x4_0000) / 0x1000)

/-- The engine of a MEM station. -/
def engineAt (st : Nat) : Engine := Fin.ofNat 2 (st - 35)

/-- Write a register of a station's own ranges; none where the offset lies in none of them. -/
def State.ownRangeWrite (s : State) (r : Req) (st off : Nat) (v : Word) (f : BootFindings) : Option WrRes :=
  if st < 32 then (if inRx off then some (s.maskedWrite 0xFFFFFFFF v fun s v => s.rxWrite st off v) else none)
  else
    match st with
    | 32 => if inPages off then
        some (s.maskedWrite (pageMask (off % 0x1000)) v fun s v => s.pageWrite (pageAt off) (off % 0x1000) v) else none
    | 33 => if inDma off then some (s.maskedWrite (dmaMask off) v fun s v => s.dmaWrite r off v) else none
    | 34 =>
      if inPorts off then some (s.maskedWrite (portsMask off) v fun s v => s.portsWrite r off v)
      else if inTimers off then some (s.maskedWrite (timerMask off) v fun s v => s.timersWrite r off v)
      else none
    | 37 => if inSyncRegs off then some (s.maskedWrite (syncMask off) v fun s v => s.syncWrite r off v) else none
    | 38 => if inMgmt off then some (s.maskedWrite (mgmtMask off) v fun s v => s.mgmtWrite r off v f) else none
    | 39 => if inSec off then some (s.maskedWrite (secMask off) v fun s v => s.secWrite r off v) else none
    | st => if inDeep off then
        some (s.maskedWrite (deepMask32 off) v fun s v => s.deepWrite r (engineAt st) off v) else none

/-- Read a register of a station's own ranges. -/
def State.ownRangeRead (s : State) (r : Req) (st off : Nat) : Option RdRes :=
  if st < 32 then (if inRx off then some (s.rxRead st off) else none)
  else
    match st with
    | 32 => if inPages off then some (s.pageRead (pageAt off) (off % 0x1000)) else none
    | 33 => if inDma off then some (s.dmaRead r off) else none
    | 34 => if inPorts off then some (s.portsRead r off) else if inTimers off then some (s.timersRead r off) else none
    | 37 => if inSyncRegs off then some (s.syncRegRead r off) else none
    | 38 => if inMgmt off then some (s.mgmtRead off) else none
    | 39 => if inSec off then some (s.secRead r off) else none
    | st => if inDeep off then some (s.deepRead r (engineAt st) off) else none

/-- Write a register of a station block: its own ranges, then those every station has. An offset that is not listed
ignores writes (R32). -/
def State.stationWrite (s : State) (r : Req) (st off : Nat) (v : Word) (f : BootFindings) : WrRes :=
  match s.ownRangeWrite r st off v f with
  | some x => x
  | none =>
    if inCane off then s.maskedWrite (caneMask off) v fun s v => s.caneWrite r st off v
    else if inGather off then s.maskedWrite (gatherMask off) v fun s v => s.gatherRegWrite r st off v
    else if inGroupWindow off then s.maskedWrite (caneMask off) v fun s v => s.groupWrite r st off v
    else if inDirWindow off then s.dirWindowWrite r st off v
    else wrOk s

/-- Read a register of a station block. -/
def State.stationRead (s : State) (r : Req) (st off : Nat) : RdRes :=
  match s.ownRangeRead r st off with
  | some x => x
  | none =>
    if inCane off then s.caneRead r st off
    else if inGather off then s.gatherRegRead r st off
    else if inGroupWindow off then s.groupRead r st off
    else if inDirWindow off then s.dirWindowRead st off
    else rd s 0

/-! ### Any register -/

/-- Write the register at a place that the gate lets through. -/
def State.placeWrite (s : State) (r : Req) (pl : Place) (v : Word) (f : BootFindings) : WrRes :=
  match pl with
  | .station st off => s.stationWrite r st off v f
  | .pontil _ => wrOk s
  | .aon off => s.maskedWrite (aonMask off) v fun s v => s.aonWrite r off v
  | .page p off => s.maskedWrite (pageMask off) v fun s v => s.pageWrite p off v
  | .core c off =>
    if s.portLoads r then wrNo s else s.maskedWrite (coreMaskBits off) v fun s v => s.coreWrite c off v
  | .bar4 p off => s.bar4Write p off v
  | .config p off => wrOk (s.cfgWrite p off v)
  | .nowhere => wrNo s
  | .outside => wrNo s

/-- Read the register at a place that the gate lets through. -/
def State.placeRead (s : State) (r : Req) (pl : Place) : RdRes :=
  match pl with
  | .station st off => s.stationRead r st off
  | .pontil off => rd s (s.pontGet off)
  | .aon off => s.aonRead off
  | .page p off => s.pageRead p off
  | .core c off => s.coreRead c off
  | .bar4 p off => s.bar4Read p off
  | .config p off => rd s (s.cfgRead p off)
  | .nowhere => rdNo s
  | .outside => rdNo s

/-- The station that an access travels to on the Thread (R23, R216, R310): MGMT serves the Pontil and always-on blocks. A
doorbell write has a packet of its own, and the rest of BAR4 and the configuration space are HOST's. -/
def Place.dst (pl : Place) (write : Bool) : Option Nat :=
  match pl with
  | .station st _ => some st
  | .pontil _ => some stMgmt
  | .aon _ => some stMgmt
  | .page _ _ => some stHost
  | .core c _ => some c.cl.val
  | .bar4 _ off => if !write && decide (off < 0x1_0000) then some stSync else none
  | _ => none

/-- The station whose slot a requester's packets travel in. -/
def slotStation : Req → Nat
  | .port _ => stHost
  | _ => stMgmt

/-- The Thread counters after an access of a requester has gone to a station (R229). -/
def State.carried (s : State) (r : Req) (d : Nat) : State :=
  (s.modThread (slotStation r) fun t => { t with tx := cnt32 t.tx }).noteRx d

/-- An access travels on the Thread, behind the doorbells that its port has sent before it (R23, R229, R334). -/
def State.viaThread (s : State) (r : Req) (pl : Place) (write : Bool) : State :=
  match pl.dst write with
  | none => s
  | some d => (match r with | .port p => s.flushPort p | _ => s).carried r d

/-- A host request made while the device sleeps is counted (R328). -/
def State.noteSleepReq (s : State) (r : Req) : State :=
  match r with
  | .port p => s.modPort p fun x => { x with sleepReq := cnt16 x.sleepReq }
  | _ => s

/-- A host's request shows that its link is up: it comes up with the port's first request after it went down. -/
def State.linkSeen (s : State) (r : Req) : State :=
  match r with
  | .port p => if s.boot.ready && s.configured p && !(s.port p).linkUp then s.linkUp p else s
  | _ => s

/-- A register write (R11, R12, R307): the state, and whether it was performed. -/
def State.regWrite (s : State) (r : Req) (a : Nat) (v : Word) (f : BootFindings := {}) : WrRes :=
  match s.gateOf r a with
  | (.ok, pl) => ((s.linkSeen r).viaThread r pl true).placeWrite r pl v f
  | (.hidden, pl) => wrOk ((s.linkSeen r).viaThread r pl true)
  | (.asleep, _) => wrNo (s.noteSleepReq r)
  | (.unsupported, _) => wrNo s
  | (.error, _) => wrNo s

/-- A register read. -/
def State.regRead (s : State) (r : Req) (a : Nat) : RdRes :=
  match s.gateOf r a with
  | (.ok, pl) => ((s.linkSeen r).viaThread r pl false).placeRead r pl
  | (.hidden, pl) => rd ((s.linkSeen r).viaThread r pl false) 0
  | (.asleep, _) => rdNo (s.noteSleepReq r)
  | (.unsupported, _) => rdNo s
  | (.error, _) => rdNo s

/-- BAR and offset of a port's register address (R309). -/
def barOf (r : Req) (a : Nat) : Nat × Nat :=
  if a < regBase then
    match placeOf r a with
    | .core c off => (0, 0x340_0000 + c.cl.val * 0x2_0000 + c.lc.val * 0x1000 + off)
    | _ => (0, a)
  else if a < bar4Base then (0, a - regBase)
  else (2, a - bar4Base)

/-- The reply of a register access is kept for its requester. -/
def State.reply (s : State) (r : Req) (ok : Bool) (w : Word) : State :=
  { s with replies := Tab.put s.replies none r.key (some (ok, w)) }

/-- The port answers requests: it is configured and the device is ready. -/
def State.answering (s : State) (p : Port) : Bool := s.configured p && s.boot.ready

/-- A write that is not performed, by its gate: recorded and logged where it meets an error response, logged where it is
unsupported, and neither in sleep (R307, R328). -/
def State.writeRefused (s : State) (p : Port) (a : Nat) (g : Gate) : State :=
  match g with
  | .asleep => s
  | .unsupported => s.logAer p 20
  | _ => s.refusedWrite p (barOf (.port p) a).1 (barOf (.port p) a).2

/-- The completion of a port's read request (R307): its status, logged where it is an error. -/
def State.readDone (s : State) (p : Port) (g : Gate) (ok : Bool) : State :=
  let status := if ok then 0 else match g with | .asleep => 1 | .unsupported => 1 | _ => 4
  let s1 := s.modPort p fun x => { x with cpl := status }
  if ok then s1 else match g with | .asleep => s1 | .unsupported => s1.logAer p 20 | _ => s1.logAer p 15

/-- A register write as a command (R307). -/
def State.cmdWrite (s : State) (r : Req) (a : Nat) (v : Word) (f : BootFindings := {}) : State :=
  match s.regWrite r a v f with
  | (t, true) => t.reply r true 0
  | (t, false) =>
    match r with
    | .port p => (if s.answering p then t.writeRefused p a (s.gateOf r a).1 else t).reply r false 0
    | _ => t.reply r false 0

/-- A register read as a command. -/
def State.cmdRead (s : State) (r : Req) (a : Nat) : State :=
  let t := s.regRead r a
  let u := match r with
    | .port p => if s.answering p then t.1.readDone p (s.gateOf r a).1 t.2.isSome else t.1
    | _ => t.1
  u.reply r t.2.isSome (t.2.getD 0)

/-- The address of a register of a station block. -/
def stReg (st off : Nat) : Nat := regBase + st * 0x10_0000 + off

/-- REG_WR (R11, R12, R29, R32, R309, R310): a requester writes one 32-bit register. -/
def execRegWr (r : Req) (addr : BitVec 44) (v : Word) (s : State) : Host.Outcome State Fault Refusal :=
  .next (s.cmdWrite r addr.toNat v)

/-- REG_RD (R11, R29, R32, R309, R310): a requester reads one 32-bit register. -/
def execRegRd (r : Req) (addr : BitVec 44) (s : State) : Host.Outcome State Fault Refusal :=
  .next (s.cmdRead r addr.toNat)

end Sys2Proof.Machine
end

