-- ==== Sys2Proof/Machine/Gather.lean ====
section
/-!
DEFINITION. The Gather: sending the flits of a packet, and what a destination does with each kind of packet (R202 to
R211, R218 to R223, R250 to R252).
-/

namespace Sys2Proof.Machine

/-! ### Sending (R204, R209, R252) -/

/-- The injection entry of a flow in a slot, and the router input it presents its flits at: a row port's of a MEM station
whose ROUTE names one, else the station's own LOCAL input (R252). -/
def State.injectionOf (s : State) (st f slot : Nat) : Word × Nat × Dir :=
  let rowPort (e : Engine) (col : Nat) (d : Dir) : Word × Nat × Dir :=
    match Tab.get s.deep[e.val].route 0 f with
    | 0 => (s.slotEntry .gather st 5 slot, st, .l)
    | r => (Tab.get s.deep[e.val].inj 0 ((r - 1) * 512 + slot), stAt col (r - 1), d)
  if st = stMemW then rowPort 0 0 .w
  else if st = stMemE then rowPort 1 9 .e
  else (s.slotEntry .gather st 5 slot, st, .l)

/-- The credit counter of a flow toward a destination station (R209). -/
def State.gathCredit (s : State) (st f d : Nat) : Nat := (Tab.get (s.station st).gather.cred 0 (f * 40 + d)).toNat

/-- A credit is held for every destination of a flow. -/
def State.hasCredits (s : State) (st f : Nat) : Bool :=
  (s.flow st f).dests.all fun d => decide (0 < s.gathCredit st f d)

/-- Consume one credit for each destination of a flow. -/
def State.takeCredits (s : State) (st f : Nat) : State :=
  s.modGather st fun g =>
    { g with cred := Tab.modifyAll g.cred 0 ((s.flow st f).dests.map (f * 40 + ·)) fun _ v => v - 1 }

/-- The flow after one more flit of its head packet has been sent; the last one takes the packet off the queue, and it
awaits its credit. -/
def Flow.sendFlit (x : Flow) (p : GPkt) : Flow :=
  if x.flits + 1 < packetFlits p.len then { x with flits := x.flits + 1 }
  else { x with flits := 0, queue := x.queue.tail, sent := cnt32 x.sent, out := x.out ++ [p.note] }

/-- A cell is emptied. -/
def State.freeCell (s : State) (st cell : Nat) : State :=
  s.modGather st fun g => { g with cells := Tab.put g.cells none cell none }

/-- A packet has been performed: its cell is free and its credit returns. -/
def State.gatherDone (s : State) (st cell : Nat) (p : GPkt) : State :=
  (s.freeCell st cell).sendPkt st (.gathCred p.src p.flow 1 false 0 0)

/-- The reply to a READ has been sent: the READ is done (R210). -/
def State.replySent (s : State) (st : Nat) (p : GPkt) : State :=
  match p.ack with
  | none => s
  | some cell =>
    match Tab.get (s.station st).gather.cells none cell with
    | some c => if c.busy then s.gatherDone st cell c.pkt else s
    | none => s

/-- GATHER_FLOW_SEND (R204, R208 to R210, R252): a flow that holds a slot sends one flit of its head packet. The first
needs a credit for every destination and consumes them; a flow that lacks one counts the slot. A flit that enters at a row
port has its BEACON where the router expects it (R184). -/
def execGatherFlowSend (st : Station) (flow : Fin 64) (slot : Fin 512) (s : State) : Host.Outcome State Fault Refusal :=
  let (ent, at_, d) := s.injectionOf st.val flow.val slot.val
  let x := s.flow st.val flow.val
  let busy := s.flight.any fun p => p.fab == .gather && p.st == at_ && p.input == d && p.slot == slot.val
  if !gatherInjects st.val || !entEn ent || entStream ent ≠ flow.val || !x.en || busy then .next s
  else
    match x.queue with
    | [] => .next s
    | p :: _ =>
      if x.flits = 0 ∧ s.hasCredits st.val flow.val = false then
        .next (s.modGather st.val fun g => { g with cwait := cnt32 g.cwait })
      else
        let last := decide (packetFlits p.len ≤ x.flits + 1)
        let s1 := if x.flits = 0 then s.takeCredits st.val flow.val else s
        let s2 := s1.modFlow st.val flow.val fun y => y.sendFlit p
        let s3 := if last then (s2.modGather st.val fun g => { g with pktTx := cnt32 g.pktTx }).replySent st.val p else s2
        let flit : Flit := { body := .gather p x.flits, tenant := entTenant ent, src := st.val, stream := flow.val }
        .next (s3.present ⟨.gather, at_, d, slot.val, flit.seal .gather (slot.val == 2)⟩)

/-! ### Cells and credits (R207, R209, R210) -/

/-- The packet in a cell that may be processed: no earlier packet of its flow stands in a cell, a READ whose reply has not
been sent among them (R210). -/
def State.cellPkt (s : State) (st cell : Nat) : Option GPkt :=
  let cells := (s.station st).gather.cells
  match Tab.get cells none cell with
  | none => none
  | some c =>
    let before := cells.any fun e => match e.2 with
      | some x => x.pkt.src == c.pkt.src && x.pkt.flow == c.pkt.flow && decide (x.order < c.order)
      | none => false
    if before || c.busy then none else some c.pkt

/-- A packet is refused under R207: its cell is free and its credit returns. -/
def State.gatherRefuse (s : State) (st cell : Nat) (p : GPkt) : State :=
  ((s.freeCell st cell).gatherError st p.flow).sendPkt st (.gathCred p.src p.flow 1 true (p.addr / 64) p.note)

/-- Perform a packet that some outcome stands for, or refuse it. -/
def State.performed (s : State) (st cell : Nat) (p : GPkt) : Option State → State
  | some t => t.gatherDone st cell p
  | none => s.gatherRefuse st cell p

/-- A packet of no operation: a reserved OP, or the reserved header bit set (R205, R206). -/
def GPkt.bad (p : GPkt) : Bool := decide (5 ≤ p.op) || p.rsvd

/-- What a row of operation op does with the packet of a cell: f of one of its own; a bad packet is refused whatever row
finds it. -/
def State.cellOp (s : State) (st cell op : Nat) (f : GPkt → State) : State :=
  match s.cellPkt st cell with
  | some p => if p.bad then s.gatherRefuse st cell p else if p.op = op then f p else s
  | none => s

/-! ### WRITE and READ (R206, R207) -/

/-- A WRITE at its destination station. A READ reply to the DMA engine's funnel answers its burst (R363, R364). -/
def State.gatherStore (s : State) (st : Nat) (p : GPkt) : Option State :=
  if p.len = 0 then none
  else if st = stDma ∧ funnelBase ≤ p.addr then some (s.dmaAnswer ((p.addr - funnelBase) / 256) true (some p.data))
  else if s.stationOf p.addr ≠ st then none
  else s.extWrite p.tenant p.addr p.data

/-- A packet that has begun keeps its cell: a READ until its reply has been sent (R210), and one that never completes for
good (R236). -/
def State.keepCell (s : State) (st cell : Nat) : State :=
  s.modGather st fun g =>
    { g with cells := Tab.modify g.cells none cell fun o => o.map fun c => { c with busy := true } }

/-- GATHER_WRITE (R206, R207, R210, R236): the WRITE in a cell is performed whole or refused, and its credit returned; on a
channel that fails it never completes. -/
def execGatherWrite (st : Station) (cell : Fin 64) (s : State) : Host.Outcome State Fault Refusal :=
  .next (s.cellOp st.val cell.val 0 fun p =>
    if (s.gatherStore st.val p).isNone then s.gatherRefuse st.val cell.val p
    else
      match s.extBursts p.tenant true p.addr p.data.length with
      | (t, .never) => (t.tornWrite p.addr p.data.length).keepCell st.val cell.val
      | (t, _) => t.performed st.val cell.val p (t.gatherStore st.val p))

/-- RFLOW and RADDR of a READ. -/
def readFlow (p : GPkt) : Nat := bitsOf p.aux.toNat 52 6
def readAddr (p : GPkt) : Nat := bitsOf p.aux.toNat 0 44

/-- The reply flow may carry the reply: an enabled flow of the packet's tenant with one destination, through the LOCAL
input (R208, R253). -/
def State.replyFlowOk (s : State) (st : Nat) (p : GPkt) : Bool :=
  let f := s.flow st (readFlow p)
  let rowPort := (st == stMemW && Tab.get s.deep[0].route 0 (readFlow p) != 0) ||
    (st == stMemE && Tab.get s.deep[1].route 0 (readFlow p) != 0)
  f.en && f.tenant == p.tenant && decide (f.dests.length ≤ 1) && !rowPort

/-- The reply range lies in one memory, or in the DMA engine's funnel. -/
def State.replyRangeOk (s : State) (p : GPkt) : Bool :=
  decide (funnelBase ≤ readAddr p) || s.oneMemory (readAddr p) p.len

/-- A READ at its destination station: the data goes back as a WRITE on the reply flow. -/
def State.gatherLoad (s : State) (st cell : Nat) (p : GPkt) : Option State :=
  if p.len = 0 ∨ s.stationOf p.addr ≠ st ∨ s.replyFlowOk st p = false ∨ s.replyRangeOk p = false then none
  else
    (s.extRead p.tenant p.addr p.len).map fun x =>
      x.1.queueOnFlow st (readFlow p)
        { op := 0, len := x.2.length, src := st, addr := readAddr p, aux := 0, data := x.2, tenant := p.tenant,
          flow := readFlow p, ack := some cell }

/-- GATHER_READ (R206, R207, R210, R236, R258): the READ in a cell is performed, or refused; on a channel that fails it never
completes. -/
def execGatherRead (st : Station) (cell : Fin 64) (s : State) : Host.Outcome State Fault Refusal :=
  .next (s.cellOp st.val cell.val 3 fun p =>
    if (s.gatherLoad st.val cell.val p).isNone then s.gatherRefuse st.val cell.val p
    else
      match s.extBursts p.tenant false p.addr p.len with
      | (t, .never) => t.keepCell st.val cell.val
      | (t, .uncorrectable) => t.gatherRefuse st.val cell.val p
      | (t, .ok) =>
        match t.gatherLoad st.val cell.val p with
        | some u => u.keepCell st.val cell.val
        | none => t.gatherRefuse st.val cell.val p)

/-! ### BCAST (R206, R208) -/

/-- The cores of a cluster that a BCAST names. -/
def State.bcastCores (s : State) (st : Nat) (p : GPkt) : List Nat :=
  (s.coresIn st).filter fun k => p.aux.getLsbD (k % 32)

/-- A BCAST's range lies in one memory of a core window (R206). -/
def bcastRangeOk (p : GPkt) : Bool :=
  decide (p.len ≠ 0) && decide (p.addr < 2 ^ 19) &&
    match windowEnd p.addr with | some e => decide (p.addr + p.len ≤ e) | none => false

/-- A BCAST at a cluster: every named core's window is written, or nothing is. -/
def State.gatherBcast (s : State) (st : Nat) (p : GPkt) : Option State :=
  if 32 ≤ st ∨ bcastRangeOk p = false then none
  else (s.bcastCores st p).foldl (fun o k => o.bind fun t => t.extWrite p.tenant (coreWindow k + p.addr) p.data) (some s)

/-- BCAST (R206 to R208): the BCAST in a cell is performed, or refused. -/
def execBcast (st : Station) (cell : Fin 64) (s : State) : Host.Outcome State Fault Refusal :=
  .next (s.cellOp st.val cell.val 4 fun p => s.performed st.val cell.val p (s.gatherBcast st.val p))

/-! ### QDESC (R219, R220, R222, R223) -/

/-- The core and the queue whose CORE_Qq_STAT register an address is (R206). -/
def queueAt (a : Nat) : Nat × Fin 4 := ((coreAt a).key, Fin.ofNat 4 (a % 0x8_0000 % 0x40 / 16))

/-- The address is a queue's register, of a core of the cluster and of the packet's tenant. -/
def State.queueOk (s : State) (st : Nat) (p : GPkt) : Bool :=
  let q := queueAt p.addr
  s.inCoreWindow p.addr && q.1 / 32 == st && p.addr == queueRegAddr (q.1 * 4 + q.2.val) && s.clusterOf p.tenant p.addr

/-- The combining queue bound to a receive queue, if any (R222). -/
def State.combOf (s : State) (k : Nat) (q : Fin 4) : Option Nat :=
  (List.range 64).find? fun j =>
    let x := s.comb (k / 32) j
    x.en && x.lcore == k % 32 && x.queue == q.val

/-- The queue has an entry free: 16, with the popped one that is kept (R218, R221). -/
def RecvQ.room (q : RecvQ) : Bool := decide (q.entries.length + b2n q.kept.isSome < 16)

/-- A descriptor lands in the tail entry of a queue. -/
def State.landDesc (s : State) (k : Nat) (q : Fin 4) (x : QEnt) : State :=
  s.modQ k q fun r => { r with entries := r.entries ++ [x] }

/-- Word offset of a combining queue's vector (R222). -/
def combBase (j : Nat) : Nat := 0x3_C000 + 256 * j

/-- Add word i of the data to element e + i of a vector; the sum saturates, and SAT tells whether one has (R222). -/
def State.combAdd (s : State) (cl j e : Nat) (data : List Byte) : State :=
  (List.range (data.length / 4)).foldl (fun s i =>
    let a := shAddr cl (combBase j + e + i)
    let x := (s.readWord a).toInt + (BitVec.ofNat 32 (leNat ((data.drop (4 * i)).take 4))).toInt
    (s.writeWord a (BitVec.ofInt 32 (sat32 x))).modCluster cl fun c =>
      { c with comb := Tab.modify c.comb {} j fun y => { y with sat := y.sat || decide (sat32 x ≠ x) } }) s

/-- The contributions have reached COUNT: one descriptor lands in the consumer's queue (R223). -/
def State.combLand (s : State) (cl j : Nat) : State :=
  let x := s.comb cl j
  if x.received < x.count then s
  else
    let high : Word := BitVec.ofNat 32 (2 ^ 31 + combBase j)
    let low : Word := BitVec.ofNat 32 (b2n x.sat * 2 ^ 31 + 2 ^ 30 + x.round)
    (s.landDesc (cl * 32 + x.lcore) (Fin.ofNat 4 x.queue) ⟨high ++ low, none, some j⟩).modCluster cl fun c =>
      { c with comb := Tab.modify c.comb {} j fun y => { y with done := true } }

/-- What a QDESC packet comes to: it waits in its cell, is refused, or lands. -/
inductive Landing where
  | waits
  | refused
  | lands (s : State)

/-- A contribution to a combining queue (R222): it waits while the consumer holds the vector, and one past the vector's
end is refused. -/
def State.contribute (s : State) (cl j : Nat) (p : GPkt) : Landing :=
  let x := s.comb cl j
  let e := p.aux.toNat % 256
  if x.done then .waits
  else if x.elems < e + p.data.length / 4 then .refused
  else
    let s1 := (s.combAdd cl j e p.data).modCluster cl fun c =>
      { c with comb := Tab.modify c.comb {} j fun y => { y with received := y.received + 1 } }
    .lands ((s1.combLand cl j).sendPkt cl (.qcred p.src p.note 1))

/-- A message that lands in a receive queue (R219, R220). Its area entry lies in the cluster's shared memory, or the message
is refused (R207). -/
def State.landMessage (s : State) (k : Nat) (q : Fin 4) (p : GPkt) : Landing :=
  let r := (s.core k).q[q.val]
  let push := p.aux.msb
  let e := (r.head + r.entries.length) % 16
  let base := r.areaBase.toNat + 64 * e
  if push && (!r.areaEn || decide (2 ^ 18 < base + max 1 (p.data.length / 4))) then .refused
  else if !r.room then .waits
  else
    let s1 := if push then s.writeBytes (shAddr (k / 32) base) p.data else s
    let d : BitVec 64 :=
      if push then (p.aux &&& 0xFFFC0000FFFFFFFF#64) ||| (BitVec.ofNat 64 base <<< 32) else p.aux
    .lands (s1.landDesc k q ⟨d, some (p.src, p.note), none⟩)

/-- QDESC at its cluster. -/
def State.landQdesc (s : State) (st : Nat) (p : GPkt) : Landing :=
  let (k, q) := queueAt p.addr
  if !s.queueOk st p || p.len % 4 ≠ 0 || decide (256 < p.len) then .refused
  else
    match p.aux.msb, s.combOf k q with
    | true, some j => s.contribute st j p
    | _, _ => s.landMessage k q p

/-- A refused QDESC that names a core of the cluster counts in that core's CORE_Q_ERR (R232). -/
def State.countQueueErr (s : State) (st : Nat) (p : GPkt) : State :=
  if s.inCoreWindow p.addr && (coreAt p.addr).cl.val == st then
    s.modCore (coreAt p.addr).key fun c => { c with qErr := cnt16 c.qErr }
  else s

/-- QDESC (R206, R207, R219, R220, R222, R223, R232): the descriptor in a cell lands in its queue with its data, or is added
into a bound combining queue; it waits while it has no place. -/
def execQdesc (st : Station) (cell : Fin 64) (s : State) : Host.Outcome State Fault Refusal :=
  .next (s.cellOp st.val cell.val 1 fun p =>
    match s.landQdesc st.val p with
    | .waits => s
    | .refused => (s.countQueueErr st.val p).gatherRefuse st.val cell.val p
    | .lands t => t.gatherDone st.val cell.val p)

/-! ### SEGMENT (R250, R251) -/

/-- HDR, and the words of the row: the formed header and the records, or the payload as it is. -/
def segHdr (p : GPkt) : Bool := p.aux.getLsbD 58
def segWords (p : GPkt) : Nat := p.len / 8 + b2n (segHdr p)

/-- A SEGMENT packet is well formed for its cluster (R250). -/
def State.segmentOk (s : State) (st : Nat) (p : GPkt) : Bool :=
  decide (st < 32) && decide (0 < p.len) && decide (p.len ≤ 240) && p.len % 8 == 0 &&
  (p.src == stMemW || p.src == stMemE) && s.inCoreWindow p.addr && p.addr % 0x8_0000 == 0x4_8000 &&
  s.stationOf p.addr == st && s.clusterOf p.tenant p.addr &&
  (!segHdr p || 8 * bitsOf p.aux.toNat 21 5 == p.len)

/-- The row header formed from AUX (R135, R251). -/
def formedHeader (aux : BitVec 64) : BitVec 64 :=
  let n := aux.toNat
  BitVec.ofNat 64 (bitsOf n 56 2 * 2 ^ 61 + bitsOf n 21 5 * 2 ^ 48 + bitsOf n 26 13 * 2 ^ 35 + bitsOf n 39 8 * 2 ^ 27 +
    bitsOf n 47 1 * 2 ^ 26 + bitsOf n 16 5 * 2 ^ 14)

/-- First slot and number of slots of an engine's part: 0 MEM-W, 1 MEM-E (R251, R271). -/
def State.lbPart (s : State) (cl : Nat) (e : Engine) : Nat × Nat :=
  let w := (s.cluster cl).lbWslots
  if e.val = 0 then (0, w) else (w, 16 - w)

/-- The next slot of an engine's part in cyclic order, if it is free. -/
def State.nextLbSlot (s : State) (k : Nat) (e : Engine) : Option Nat :=
  let (lo, n) := s.lbPart (k / 32) e
  let i := (s.core k).i
  let slot := lo + i.nextSlot[e.val] % n
  if n = 0 ∨ i.segs.any (fun g => g.slot.val == slot) then none else some slot

/-- Write a segment into a landing slot (R251); with GAP, every core of the cluster sets its gap flag (R57). -/
def State.landSegment (s : State) (k : Nat) (e : Engine) (slot : Nat) (p : GPkt) : State :=
  let row := (if segHdr p then leBytes 8 (formedHeader p.aux).toNat else []) ++ p.data
  let s1 := s.writeBytes (lbAddr k (64 * slot)) (leBytes 8 p.aux.toNat ++ row)
  let s2 := if p.aux.getLsbD 59 then s1.markGap (k / 32) else s1
  let g : Seg := { slot := Fin.ofNat 16 slot, words := segWords p, src := p.src, flow := p.flow }
  s2.modI k fun i =>
    { i with segs := i.segs ++ [{ g with order := i.arrived }]
             arrived := i.arrived + 1
             nextSlot := i.nextSlot.set e.val ((i.nextSlot[e.val] + 1) % max 1 (s.lbPart (k / 32) e).2) }

/-- SEGMENT_LAND (R207, R250, R251): the segment in a cell lands in the next slot of its engine's part, and waits while
there is none. Its credit returns once the segment has been integrated or discarded. -/
def execSegmentLand (st : Station) (cell : Fin 64) (s : State) : Host.Outcome State Fault Refusal :=
  .next (s.cellOp st.val cell.val 2 fun p =>
    if !s.segmentOk st.val p then s.gatherRefuse st.val cell.val p
    else
      let k := (coreAt p.addr).key
      let e : Engine := if p.src = stMemW then 0 else 1
      match s.nextLbSlot k e with
      | none => s
      | some slot => (s.landSegment k e slot p).freeCell st.val cell.val)

end Sys2Proof.Machine
end

