-- ==== Sys2Proof/Machine/Host.lean ====
section
/-!
DEFINITION. The commands of the host interface: BAR2 and BAR4 accesses, the command ring and its simplest commands, the
event ring, injection, and the resets of a port (R306, R307, R311 to R328).
-/

namespace Sys2Proof.Machine

/-! ### Requests of a host (R307, R311, R312, R326, R328) -/

/-- A host request to BAR2 or to a window of BAR4, made of a device that can answer it: a function in D3hot does not support
it; a sleeping device discards it and counts it (R303, R328); before readiness nothing answers. refused is what a request
that meets no answer leaves. -/
def State.hostRequest (s : State) (p : Port) (refused : State → State) (f : State → State) : State :=
  if s.boot.inReset || !s.answering p then refused s
  else if s.inD3 (.port p) then refused (s.logAer p 20)
  else if s.asleep then refused (s.noteSleepReq (.port p))
  else f (s.linkSeen (.port p))

/-- ADD_DOORBELL_WRITE (R312, R333): a write into the ADD doorbells. -/
def execAddDoorbellWrite (p : Port) (off : BitVec 20) (bytes : List Byte) (s : State) :
    Host.Outcome State Fault Refusal :=
  if off.toNat < 0x8000 then .next (s.hostRequest p id fun s => s.doorbellWrite p 0 off.toNat bytes) else .next s

/-- SET_DOORBELL_WRITE (R312, R333): a write into the SET doorbells. -/
def execSetDoorbellWrite (p : Port) (off : BitVec 20) (bytes : List Byte) (s : State) :
    Host.Outcome State Fault Refusal :=
  if 0x8000 ≤ off.toNat ∧ off.toNat < 0x1_0000 then
    .next (s.hostRequest p id fun s => s.doorbellWrite p 1 off.toNat bytes)
  else .next s

/-- INJECTION_WINDOW_WRITE (R312, R326): a write into an injection window, from an offset of the two windows, that of queue 0
in the lower 4 KiB. -/
def execInjectionWindowWrite (p : Port) (off : BitVec 13) (bytes : List Byte) (s : State) :
    Host.Outcome State Fault Refusal :=
  .next (s.hostRequest p id fun s => s.injectionWrite p off.toNat bytes)

/-- HOST_INJ_RELEASE (R42, R214, R327): HOST sees the tenant's emit phase open and notes the occupancy of its two injection
queues. The events noted are then released by EVENT_LOOKUP at HOST, one at a time. -/
def execHostInjRelease (t : Tenant) (s : State) : Host.Outcome State Fault Refusal :=
  if !(s.shear t).openHost then .next s
  else
    let note (n : Tab Nat) (q : Nat) : Tab Nat := Tab.put n 0 q (Tab.get s.inj [] q).length
    .next ({ s with injNoted := note (note s.injNoted (2 * t.val)) (2 * t.val + 1) }.modShear t fun x =>
      { x with openHost := false })

/-- The deep-tier address of a BAR2 offset (R311). -/
def State.bar2Addr (s : State) (p : Port) (off : Nat) : Nat := (s.port p).b2Base.toNat * 0x400_0000 + off

/-- BAR2 of port 0 shows the image window: in host push and in recovery, unless a boot step has failed (R460, R461). -/
def State.windowOpen (s : State) (p : Port) : Bool :=
  p == 0 && (s.hostPush || s.recovery) && (!s.boot.fail || s.boot.cause == 2 || s.boot.cause == 3)

/-- BAR2_WRITE (R236, R243, R307, R311, R352, R460): performed if every byte lies in the tenant's region and in no locked part
of it, and the tenant is not Loading; before readiness, if it lies in an image window. -/
def execBar2Write (p : Port) (off : Nat) (bytes : List Byte) (s : State) : Host.Outcome State Fault Refusal :=
  if (s.port p).bar2Size < off + bytes.length then .next (if s.answering p then s.logAer p 20 else s)
  else if s.windowOpen p then
    .next (if 0x20_0000 < off + bytes.length then s
      else s.modBoot fun b => { b with
        window := (List.range bytes.length).foldl (fun w i => Tab.put w 0 (off + i) (bytes.getD i 0)) b.window })
  else
    .next (s.hostRequest p id fun s =>
      let a := s.bar2Addr p off
      if s.portLoads (.port p) && !inShared a then s.refusedWrite p 1 off
      else
        match s.extBursts p true a bytes.length with
        | (t, .never) => t.tornWrite a bytes.length
        | (t, _) => match t.extWrite p a bytes with | some u => u | none => t.refusedWrite p 1 off)

/-- BAR2_READ (R236, R258, R307, R311, R460): the bytes, if each lies in the tenant's region or in the locked shared region;
before readiness, those of the image window. -/
def execBar2Read (p : Port) (off : Nat) (len : Nat) (s : State) : Host.Outcome State Fault Refusal :=
  let put (s : State) (r : Option (List Byte)) (status : Nat) : State :=
    s.modPort p fun x => { x with bar2 := r, cpl := status }
  if (s.port p).bar2Size < off + len then .next (put (if s.answering p then s.logAer p 20 else s) none 1)
  else if s.windowOpen p then
    .next (if 0x20_0000 < off + len then put s none 4 else put s (some (imageBytes s.boot.window off len)) 0)
  else
    .next (s.hostRequest p (fun s => put s none 1) fun s =>
      let a := s.bar2Addr p off
      match s.extBursts p false a len with
      | (t, .never) => put t none 8
      | (t, .uncorrectable) => put (t.logAer p 15) none 4
      | (t, .ok) =>
        match t.extRead p a len with
        | some (u, bs) => put u (some bs) 0
        | none => put (t.logAer p 15) none 4)

/-! ### The command ring (R313 to R318) -/

/-- An opcode of R315. -/
def knownOpcode (n : Nat) : Bool := decide (n ≤ 0x0E)

/-- The ring may fetch: enabled, not halted, nothing fetched before it and nothing holding it, and entries waiting. -/
def State.mayFetch (s : State) (p : Port) : Bool :=
  let x := s.port p
  x.cmdEn && !x.cmdHalt && x.fetched.isEmpty && !s.cmdBusy p && !x.completionWaits && x.cmdHead != x.cmdTail && !s.asleep

/-- A read error on a fetch halts the ring (R318). Vector 0 is raised as the NOTE record is written (R325). -/
def State.fetchFails (s : State) (p : Port) : State :=
  if s.mayFetch p then (s.modPort p fun x => { x with cmdHalt := true }).note p 2 else s

/-- Entries read from the ring, from the place of entry HEAD on (R313): at most 8, and no more than the ring holds. -/
def State.takeEntries (s : State) (p : Port) (es : List (List (BitVec 64))) : State :=
  s.modPort p fun x =>
    let n := min 8 (x.cmdTail - x.cmdHead).toNat
    { x with
      fetchAt := x.cmdBase.toNat + 64 * (x.cmdHead.toNat % 2 ^ x.cmdSize)
      fetched := (es.take n).mapIdx fun i ws => { words := ws.take 8, counter := x.cmdHead + BitVec.ofNat 32 i } }

/-- CMD_FETCH (R313, R316 to R318): a command of no opcode ends with status 1; else up to 8 entries are read from the
ring: none, if the read fails. -/
def execCmdFetch (p : Port) (entries : Option (List (List (BitVec 64)))) (s : State) :
    Host.Outcome State Fault Refusal :=
  match s.curCmd p with
  | some c => .next (if knownOpcode c.opcode then s else s.finish p 1)
  | none =>
    match entries with
    | none => .next (s.fetchFails p)
    | some es => .next (if s.mayFetch p then s.takeEntries p es else s)

/-- No reserved bit of a command is set: masks are the named bits of words 1, 2, and so on (R314). -/
def Cmd.legal (c : Cmd) (masks : List Nat) : Bool :=
  (c.word 0).toNat &&& 0xFFFF0000FFFFFE00 == 0 &&
    (List.range 7).all fun i => (c.word (i + 1)).toNat &&& (2 ^ 64 - 1 - masks.getD i 0) == 0

/-- The current command of a port, if it has an opcode: with a reserved bit set it ends with status 1 (R314, R317). -/
def State.command (s : State) (p : Port) (opcode : Nat) (masks : List Nat) (f : Cmd → State) : State :=
  match s.curCmd p with
  | none => s
  | some c => if c.opcode ≠ opcode then s else if !c.legal masks then s.finish p 1 else f c

/-- Fields of a command's operand words. -/
def Cmd.field (c : Cmd) (k pos w : Nat) : Nat := bitsOf (c.word k).toNat pos w

/-- NOP (R315). -/
def execNopCommand (p : Port) (s : State) : Host.Outcome State Fault Refusal :=
  .next (s.command p 0x00 [] fun _ => s.finish p 0)

/-- Masks of a whole word, of 13 bits and of 32 bits. -/
def m64 : Nat := 2 ^ 64 - 1
def m32 : Nat := 2 ^ 32 - 1
def m13 : Nat := 2 ^ 13 - 1

/-- The sync operation of SIGSYNC (R315, R330, R331): one on another tenant's object is rejected, with status 3. -/
def State.sigsync (s : State) (p : Port) (c : Cmd) : State :=
  let n := c.field 1 0 13
  let s1 := (s.flushPort p).syncChange (some p) n (·.add (BitVec.ofNat 32 (c.field 2 0 32)))
  s1.finish p (if s.syncMay (some p) n then 0 else 3)

/-- SIGSYNC (R315). -/
def execSigsync (p : Port) (s : State) : Host.Outcome State Fault Refusal :=
  .next (s.command p 0x0D [m13, m32] fun c => s.sigsync p c)

/-- WAITSYNC looks at its object (R315, R316, R331): it completes once the counter has reached the value, and holds the ring
until then. -/
def State.waitsync (s : State) (p : Port) (c : Cmd) : State :=
  let n := c.field 1 0 13
  if !s.syncMay (some p) n then (s.syncReject (some p) n).finish p 3
  else if c.field 2 0 32 ≤ (s.syncAt n).cnt.toNat then s.finish p 0
  else s.modPort p fun x => { x with waiting := true }

/-- WAITSYNC (R315, R316, R330): taken up, or, while it waits, looked at again, behind the doorbells that the port has
sent. -/
def execWaitsync (p : Port) (s : State) : Host.Outcome State Fault Refusal :=
  if (s.port p).waiting then
    match (s.port p).fetched with
    | c :: _ => .next ((s.flushPort p).waitsync p c)
    | [] => .next s
  else .next (s.command p 0x0C [m13, m32] fun c => (s.flushPort p).waitsync p c)

/-! ### The event ring (R319 to R325) -/

/-- Length of a record in words. -/
def RecBody.len : RecBody → Nat
  | .events _ _ evs => 1 + evs.length
  | .completion .. => 3
  | .note .. => 2

/-- TYPE and INFO of a record (R320, R321). -/
def RecBody.head : RecBody → Nat × Nat
  | .events tag gap evs => (1, tag.toNat * 2 ^ 12 + b2n (gap || evs.any (·.gap)) * 2 ^ 11)
  | .completion op st .. => (2, op * 256 + st)
  | .note code _ => (3, code)

/-- The words of a record after its header (R321). -/
def RecBody.body : RecBody → List Nat
  | .events _ _ evs => evs.map fun e => b2n e.gap * 2 ^ 48 + e.word
  | .completion _ _ detail tag counter _ => [detail.toNat * 2 ^ 32 + tag, counter.toNat]
  | .note _ detail => [detail.toNat]

/-- A record's words, its header with a record number. -/
def RecBody.words (r : RecBody) (seq : Word) : List Nat :=
  (r.head.1 * 2 ^ 60 + r.len * 2 ^ 48 + r.head.2 * 2 ^ 32 + seq.toNat) :: r.body

/-- Free words of the event ring, and words up to its end (R319, R323). -/
def PortSt.evFree (x : PortSt) : Nat := 2 ^ x.evSize - (x.evTail - x.evHead).toNat
def PortSt.evEnd (x : PortSt) : Nat := 2 ^ x.evSize - x.evTail.toNat % 2 ^ x.evSize

/-- Write words at the event ring's tail and advance it; then write the tail back (R323, R324). -/
def State.ringPut (s : State) (p : Port) (ws : List Nat) (advance : Nat) : State :=
  let x := s.port p
  let a := x.evBase.toNat + 8 * (x.evTail.toNat % 2 ^ x.evSize)
  let tail := x.evTail + BitVec.ofNat 32 advance
  ((s.hostStore p a (ws.flatMap (leBytes 8))).hostStore p x.evWb.toNat (leBytes 8 tail.toNat)).modPort p fun x =>
    { x with evTail := tail }

/-- Vector 2 is raised and moderation starts again (R325). -/
def State.raiseMod (s : State) (p : Port) : State :=
  (s.raiseIrq p 2).modPort p fun x => { x with modCount := 0, modSince := none }

/-- COUNT and TIME of HI_EV_MOD, and FLUSH. -/
def PortSt.modLimit (x : PortSt) : Nat := bitsOf x.evMod.toNat 8 8
def PortSt.modTime (x : PortSt) : Nat := bitsOf x.evMod.toNat 0 8
def PortSt.flush (x : PortSt) : Nat := bitsOf x.evMod.toNat 16 8

/-- A record counts for moderation (R325). -/
def State.moderate (s : State) (p : Port) : State :=
  let n := (s.port p).modCount + 1
  if (s.port p).modLimit ≠ 0 ∧ (s.port p).modLimit ≤ n then s.raiseMod p
  else s.modPort p fun x => { x with modCount := n, modSince := some (x.modSince.getD s.now) }

/-- The vector that a record raises as it is written (R325). -/
def RecBody.vector : RecBody → Option Nat
  | .events .. => none
  | .completion _ _ _ _ _ irq => if irq then some 1 else none
  | .note .. => some 0

/-- The first waiting record is written at the tail. -/
def State.placeRecord (s : State) (p : Port) (r : RecBody) : State :=
  let s1 := (s.ringPut p (r.words (s.port p).seq) r.len).modPort p fun x =>
    { x with recs := x.recs.tail, seq := x.seq + 1 }
  let s2 := match r.vector with | some v => s1.raiseIrq p v | none => s1
  s2.moderate p

/-- A record too long for the ring is dropped (R323 step 1). -/
def State.dropRecord (s : State) (p : Port) (r : RecBody) : State :=
  s.modPort p fun x =>
    { x with
      recs := x.recs.tail
      evOversize := cnt16 x.evOversize
      evDrop := match r with | .events _ _ evs => cnt16 x.evDrop evs.length | _ => x.evDrop
      gapPend := match r with | .events .. => true | _ => x.gapPend }

/-- Place a record by the steps of R323. -/
def State.tryRecord (s : State) (p : Port) (r : RecBody) : State :=
  let x := s.port p
  let end_ := x.evEnd
  if 2 ^ x.evSize < r.len then s.dropRecord p r
  else if r.len ≤ end_ then (if r.len ≤ x.evFree then s.placeRecord p r else s)
  else if end_ ≤ x.evFree then
    let s1 := s.ringPut p [(if end_ ≤ 4095 then end_ else 0) * 2 ^ 48] end_
    if r.len ≤ (s1.port p).evFree then s1.placeRecord p r else s1
  else s

/-- EVENT_RECORD_WRITE (R320, R321, R323 to R325): the device places the first waiting record, if the ring has space. -/
def execEventRecordWrite (p : Port) (s : State) : Host.Outcome State Fault Refusal :=
  match (s.port p).recs with
  | [] => .next s
  | r :: _ => if (s.port p).evEn && decide (s.aon.st < 3) then .next (s.tryRecord p r) else .next s

/-- The open EVENTS record closes: it takes the mark of readout drops since the record before (R321, R322). -/
def PortSt.closeRecord (x : PortSt) : PortSt :=
  match x.openRec with
  | [] => x
  | e :: _ => { x with recs := x.recs ++ [.events e.tag x.gapPend x.openRec], openRec := [], gapPend := false }

/-- HOST takes one readout copy into the open record (R322). -/
def PortSt.drainOne (x : PortSt) (now : Nat) : PortSt :=
  match x.readout with
  | [] => x
  | e :: rest =>
    let other := match x.openRec with | o :: _ => o.tag != e.tag | [] => false
    let x1 := if other then x.closeRecord else x
    let x2 := { x1 with
      readout := rest
      openAt := if x1.openRec.isEmpty then now else x1.openAt
      openRec := x1.openRec ++ [e] }
    if x2.evMaxn ≤ x2.openRec.length then x2.closeRecord else x2

/-- READOUT_DRAIN (R322, R323, R337): a copy moves from the readout queue to the open record. While a record waits or the
ring is disabled, copies stay in the queue. -/
def execReadoutDrain (p : Port) (s : State) : Host.Outcome State Fault Refusal :=
  let x := s.port p
  if !x.evEn || !x.recs.isEmpty || decide (3 ≤ s.aon.st) then .next s
  else .next (s.modPort p fun x => x.drainOne s.now)

/-- EVENTS_FLUSH (R322): FLUSH × 100 ns after its first event, the open record closes. -/
def execEventsFlush (p : Port) (s : State) : Host.Outcome State Fault Refusal :=
  if (s.port p).openRec.isEmpty then .next s
  else .next ((s.passTo ((s.port p).openAt + 25 * (s.port p).flush)).modPort p PortSt.closeRecord)

/-- EV_MOD_TIMER (R325): TIME µs after the first record not yet signalled, vector 2 is raised. -/
def execEvModTimer (p : Port) (s : State) : Host.Outcome State Fault Refusal :=
  match (s.port p).modSince with
  | some t => if (s.port p).modTime = 0 then .next s else .next ((s.passTo (t + 250 * (s.port p).modTime)).raiseMod p)
  | none => .next s

/-! ### Resets of a port (R306, R371, R378, R416) -/

/-- The configuration space after an FLR: of what the host has set, the payload size, the disables of autonomous link
changes and the AER log stay (PRESUMED: the PCI Express base specification's rule). -/
def PciCfg.afterFlr (c : PciCfg) : PciCfg :=
  { payload := c.payload, noSpeed := c.noSpeed, noWidth := c.noWidth, aerUnc := c.aerUnc, aerCor := c.aerCor }

/-- The port after an FLR: its link, the vectors it has signalled, what it has returned and the readout queue, which the
stop empties, stay. -/
def PortSt.afterFlr (x : PortSt) : PortSt :=
  { linkUp := x.linkUp, width := x.width, rate := x.rate, sleep := x.sleep, former := x.former, irqs := x.irqs,
    readout := x.readout, bar2 := x.bar2, fetchAt := x.fetchAt, cpl := x.cpl, cfg := x.cfg.afterFlr }

/-- Every PORTS resource and timer of a tenant is released (R378, R416). -/
def State.releaseResources (s : State) (t : Tenant) : State :=
  let s1 := ((List.range 176).filter fun k => s.owner k == some t.val).foldl State.resetResource s
  { s1 with timers := s1.timers.map fun x => if x.owner = some t.val then {} else x }

/-- Commands that an FLR has caught complete in silence (R306). -/
def State.silence (s : State) (p : Port) : State :=
  let hush (a : Async) : Async := if a.port = p then { a with silent := true } else a
  { s with
    lehr := { s.lehr with jobs := s.lehr.jobs.map fun j => { j with who := hush j.who } }
    tests := s.tests.map fun j => { j with who := hush j.who } }

/-- The tenant has no usable parison (R346, R350). -/
def State.unload (s : State) (t : Tenant) : State :=
  s.modTenant t fun x =>
    { x with st := .unloaded, parison := List.replicate 32 0, abstract := List.replicate 32 0,
             patch := List.replicate 32 0, header := [], loading := none }

/-- A LOAD abandoned, or failed in its write pass, leaves the tenant Unloaded (R306, R352, R353); how much has been written is
not said, so its memories are undefined. -/
def State.loadSpoilt (s : State) (t : Tenant) : State :=
  ((s.clustersOf t).foldl (fun s c => s.scramble (1024 + c)) ((s.coresOf t).foldl State.scramble s)).unload t

/-- The tenant of a port stops as the STOP command does, with no completion, and a LOAD in progress is abandoned (R306,
R352, R356). -/
def State.flrStop (s : State) (t : Tenant) : State :=
  match (s.tenant t).st with
  | .running => s.beginStop t false
  | .stopping => s.modTenant t fun x => { x with stop := x.stop.map fun j => { j with cmd := false } }
  | .loading => s.loadSpoilt t
  | _ => (s.abortStart t).abortPatch t

/-- An FLR of a port (R306). -/
def State.flr (s : State) (p : Port) : State :=
  let s1 := ((s.flrStop p).silence p).modPort p PortSt.afterFlr
  let s2 := { s1 with
    inj := Tab.put (Tab.put s1.inj [] (2 * p.val) []) [] (2 * p.val + 1) []
    injNoted := Tab.put (Tab.put s1.injNoted 0 (2 * p.val) 0) 0 (2 * p.val + 1) 0 }
  (s2.dmaReleaseAll p).releaseResources p

/-- FLR (R306). -/
def execFlr (p : Port) (s : State) : Host.Outcome State Fault Refusal :=
  if s.boot.ready && s.configured p then .next (s.flr p) else .next s

/-- PERST_PORT (R306): PERST# of port 1, 2 or 3 acts as an FLR; that of port 0 has rows of its own. -/
def execPerstPort (p : Port) (s : State) : Host.Outcome State Fault Refusal :=
  if s.boot.ready && s.configured p && p != 0 then .next (s.flr p) else .next s

/-- LINK_DOWN (R306): as an FLR; the link is no longer up. -/
def execLinkDown (p : Port) (s : State) : Host.Outcome State Fault Refusal :=
  if s.boot.ready && s.configured p then
    .next ((s.flr p).modPort p fun x => { x with linkUp := false, width := 0, rate := 0 })
  else .next s

/-- COMPLETION_TIMEOUT (R318, R369): a host read that was outstanding ends as a host-side bus error. -/
def execCompletionTimeout (x : TimeoutTarget) (s : State) : Host.Outcome State Fault Refusal :=
  match x with
  | .dmaFetch ch => .next (s.dmaTimeout ch true 0)
  | .dmaBurst ch b => .next (s.dmaTimeout ch false b)
  | .ringFetch p => .next (s.fetchFails p)

end Sys2Proof.Machine
end

