-- ==== Sys2Proof/Machine/Thread.lean ====
section
/-!
DEFINITION. The Thread's slots and the credits it carries; the stall watchdog and the start of the MESSAGE entry (R69,
R70, R209, R212 to R217, R221, R225).
-/

namespace Sys2Proof.Machine

/-! ### Placing packets (R212, R217) -/

/-- The tenant a waiting packet serves, at a shared station (R217): none for a fault report. -/
def State.pktTenant (s : State) (p : Pkt) : Option Nat :=
  match p with
  | .caneCred d n _ _ => some (s.stream d n).tenant.val
  | .gathCred d f _ _ _ _ => some (s.flow d f).tenant.val
  | .qcred d _ _ => (s.tenantOf d).map (·.val)
  | .sync _ _ _ who => if 32 ≤ who then some (who - 32) else none
  | .doorbell p _ _ => some p
  | .notify p _ _ => some p
  | .regWr .. => none
  | .regRd .. => none
  | .fault .. => none
  | .other _ => none

/-- The packet a class queue gives next: a cluster's oldest; at a shared station the oldest of the tenant whose turn it
is, and the next turn. -/
def State.nextPkt (s : State) (st : Nat) (turn : Nat) (q : List Pkt) : Option (Pkt × Nat) :=
  if st < 32 then q.head?.map fun p => (p, turn)
  else
    match nextInTurn 4 turn fun t => q.any fun p => s.pktTenant p == some t with
    | some t => (q.find? fun p => s.pktTenant p == some t).map fun p => (p, (t + 1) % 4)
    | none => q.head?.map fun p => (p, turn)

/-- Put a packet into a Thread slot. -/
def State.fillSlot (s : State) (slot st : Nat) (p : Pkt) : State :=
  { s with thread := Tab.put s.thread none slot (some { pkt := p }) }.modThread st fun t => { t with tx := cnt32 t.tx }

/-- Place the next packet of a class. -/
def State.placeClass (s : State) (slot st c : Nat) : Option State :=
  let t := (s.station st).thread
  let q := Tab.get t.queues [] c
  (s.nextPkt st (Tab.get t.turn 0 c) q).map fun (p, turn) =>
    (s.modThread st fun t =>
      { t with queues := Tab.put t.queues [] c (q.erase p), turn := Tab.put t.turn 0 c turn }).fillSlot slot st p

/-- Send again a WAITS that was answered "not met". -/
def State.placeAgain (s : State) (slot st : Nat) : Option State :=
  match (s.station st).thread.again with
  | [] => none
  | p :: rest => some ((s.modThread st fun t => { t with again := rest }).fillSlot slot st p)

/-- A station fills its slot: the first class with a packet, in the order of R217; a WAITS to be sent again comes after
the first four classes. -/
def State.placeStation (s : State) (slot : Nat) : State :=
  match s.placeClass slot slot 0 <|> s.placeClass slot slot 1 <|> s.placeClass slot slot 2 <|> s.placeClass slot slot 3 <|>
      s.placeAgain slot slot <|> s.placeClass slot slot 4 with
  | some t => t
  | none => s

/-- HOST fills the slot of a host port. -/
def State.placePort (s : State) (slot p : Nat) : State :=
  match Tab.get (s.station stHost).thread.portQ [] p with
  | [] => s
  | x :: rest => (s.modThread stHost fun t => { t with portQ := Tab.put t.portQ [] p rest }).fillSlot slot stHost x

/-- As a slot passes its owner, the owner takes a reply out of it, and a FAULT packet that has been round the ring (R215). -/
def State.ownSlot (s : State) (slot : Nat) : State :=
  match s.slotPkt slot with
  | some x =>
    match x.reply with
    | some (status, _) => (s.freeSlot slot).takeReply (if slot < 40 then slot else stHost) x.pkt status
    | none => if x.mgmtDone && x.tapDone then s.freeSlot slot else s
  | none => s

/-- THREAD_PLACE (R212, R215, R217): as a slot passes its owner, the owner empties it of what has come back, and places the
next packet in it if it is empty. -/
def execThreadPlace (slot : Fin 44) (s : State) : Host.Outcome State Fault Refusal :=
  let s1 := s.ownSlot slot.val
  if (s1.slotPkt slot.val).isSome then .next s1
  else if slot.val < 40 then .next (s1.placeStation slot.val)
  else .next (s1.placePort slot.val (slot.val - 40))

/-! ### Credits (R209, R216, R221) -/

/-- Return n credits to a flow's counter toward a station, as far as its window. -/
def State.giveCredit (s : State) (dst f from_ n : Nat) : State :=
  let key := f * 40 + from_
  let win := (Tab.get (s.station dst).gather.win 0 key).toNat
  let have_ := s.gathCredit dst f from_ + n
  (s.modGather dst fun g => { g with cred := Tab.put g.cred 0 key (BitVec.ofNat 8 (min win have_)) }).creditOver dst f
    (decide (win < have_))

/-- The packets that a credit acknowledges, oldest first, are told to their sender: a DMA burst is answered (R210). -/
def State.acknowledge (s : State) (dst f n : Nat) (err : Bool) : State :=
  let notes := (s.flow dst f).out.take n
  let s1 := s.modFlow dst f fun x => { x with out := x.out.drop n }
  if dst = stDma then notes.foldl (fun s k => s.dmaAnswer k (!err) none) s1 else s1

/-- GATH_CRED (R209, R210, R216): a flow's credits return, and acknowledge or report refused what they stand for. -/
def execGathCred (slot : Fin 44) (s : State) : Host.Outcome State Fault Refusal :=
  match s.takeSlot slot.val with
  | (s, some (.gathCred dst f n err _ _)) =>
    let s1 := (s.freeSlot slot.val).noteRx dst
    if n = 0 then .next (s1.badPkt dst)
    else .next ((s1.giveCredit dst f (slot.val % 40) n).acknowledge dst f n err)
  | (s, _) => .next s

/-- QCRED (R216, R221): credits return to a queue window entry, as far as its window. -/
def execQcred (slot : Fin 44) (s : State) : Host.Outcome State Fault Refusal :=
  match s.takeSlot slot.val with
  | (s, some (.qcred dst i n)) =>
    let s1 := (s.freeSlot slot.val).noteRx dst
    let q := s.qwin dst i
    if n = 0 then .next (s1.badPkt dst)
    else
      .next ((s1.modCluster dst fun c => { c with qwin := Tab.put c.qwin {} i { q with cred := min q.window (q.cred + n) } }
        ).creditOver dst i (decide (q.window < q.cred + n)))
  | (s, _) => .next s

/-! ### The stall watchdog (R225) -/

/-- INSN of CL_WDOG_STAT; none for a wait that the watchdog does not count. -/
def StallKind.insn : StallKind → Option Nat
  | .qsend => some 0 | .qrecv => some 1 | .waits => some 2 | .emit => some 3 | .gate => none | .access => none

/-- STALL_WATCHDOG (R225): a core's stall has gone on for LIMIT × 1,024 cc: it is recorded and reported, once. -/
def execStallWatchdog (c : CoreId) (s : State) : Host.Outcome State Fault Refusal :=
  let cl := c.cl.val
  match (s.core c.key).e.stall with
  | none => .next s
  | some x =>
    match x.kind.insn with
    | none => .next s
    | some n =>
      if x.reported || (s.cluster cl).wdLimit = 0 then .next s
      else
        let s1 := s.modE c.key fun e => { e with stall := some { x with reported := true } }
        let s2 := s1.modCluster cl fun y =>
          { y with wdFired := true, wdInsn := n, wdCore := c.lc.val, wdArg := x.arg, wdCnt := cnt16 y.wdCnt }
        .next (s2.reportFault cl cl 0x0C (BitVec.ofNat 40 (c.lc.val * 2 ^ 35 + n * 2 ^ 32 + x.arg.toNat)))

/-! ### The MESSAGE entry (R69, R70) -/

/-- The receive queues that QMASK names and that hold a message. -/
def Core.namedQueues (c : Core) : List (Fin 4) :=
  (List.finRange 4).filter fun q => c.e.cr.entMessage.qmask.getLsbD q.val && !(c.q[q.val]).entries.isEmpty

/-- The engine may start MESSAGE: it is idle and not halted, and no UPDATE program, EPOCH entry, commit work or edge is
pending. -/
def Core.mayMessage (c : Core) : Bool :=
  c.e.cr.entMessage.en && c.e.st == .idle && !c.e.dbg.halted && !c.mrv.busy && !c.e.fl.edgeDue && !c.e.fl.edgeSig &&
    !c.e.fl.commitDue

/-- MESSAGE_ENTRY_START (R65, R69, R70, R97): a message in a named queue starts the MESSAGE entry. With several such
queues the spec does not say which of them MSGQ names: a free value selects it. -/
def execMessageEntryStart (c : CoreId) (s : State) : Host.Outcome State Fault Refusal :=
  let k := c.key
  let x := s.core k
  let start (s : State) (q : Fin 4) : State :=
    s.modE k fun e => let e1 := e.enter .message e.cr.entMessage; { e1 with fl := { e1.fl with msgq := q } }
  if !x.mayMessage then .next s
  else
    match x.namedQueues with
    | [] => .next s
    | [q] => .next (start s q)
    | q :: qs => .next (start s.spend ((q :: qs).getD (s.free.toNat % (qs.length + 1)) q))

end Sys2Proof.Machine
end

