-- ==== Sys2Proof/Machine/Learn.lean ====
section
/-!
DEFINITION. The commit phase and the Marver: the row walk, the update of plastic records, pruning, creation and the
pre-slot decay (R45, R272 to R285, R413).
-/

namespace Sys2Proof.Machine

/-! ### Rule descriptors (R299) -/

def RuleDesc.kind (d : RuleDesc) : Nat := bitsOf d.a.toNat 30 2
def RuleDesc.yHalf (d : RuleDesc) : Bool := d.a.getLsbD 29
def RuleDesc.createEn (d : RuleDesc) : Bool := d.a.getLsbD 28
def RuleDesc.pruneEn (d : RuleDesc) : Bool := d.a.getLsbD 27
def RuleDesc.applyLog2 (d : RuleDesc) : Nat := bitsOf d.a.toNat 24 3
def RuleDesc.aXy (d : RuleDesc) : Int := sextNat 8 (bitsOf d.a.toNat 16 8)
def RuleDesc.aX (d : RuleDesc) : Int := sextNat 8 (bitsOf d.a.toNat 8 8)
def RuleDesc.aY (d : RuleDesc) : Int := sextNat 8 (bitsOf d.a.toNat 0 8)
def RuleDesc.aW (d : RuleDesc) : Int := sextNat 4 (bitsOf d.b.toNat 28 4)
def RuleDesc.gShift (d : RuleDesc) : Nat := bitsOf d.b.toNat 24 4
def RuleDesc.beta (d : RuleDesc) : Nat := bitsOf d.b.toNat 16 8
def RuleDesc.step (d : RuleDesc) : Int := bitsOf d.b.toNat 8 7
def RuleDesc.wMin (d : RuleDesc) : Int := sextNat 4 (bitsOf d.b.toNat 4 4)
def RuleDesc.wMax (d : RuleDesc) : Int := sextNat 4 (bitsOf d.b.toNat 0 4)
def RuleDesc.createY (d : RuleDesc) : Int := sextNat 8 (bitsOf d.c.toNat 24 8)
def RuleDesc.createX (d : RuleDesc) : Int := sextNat 8 (bitsOf d.c.toNat 16 8)
def RuleDesc.wInit (d : RuleDesc) : Int := sextNat 4 (bitsOf d.c.toNat 12 4)
def RuleDesc.pruneMom (d : RuleDesc) : Nat := bitsOf d.c.toNat 8 4
def RuleDesc.spanLog2 (d : RuleDesc) : Nat := bitsOf d.c.toNat 0 4
/-- clamp of R281. -/
def RuleDesc.clamp (d : RuleDesc) (w : Int) : Int := clampInt d.wMin d.wMax w

/-- The commit with this value of EPOCH before it is an apply commit of the rule (R280). -/
def RuleDesc.applies (d : RuleDesc) (epoch : Word) : Bool := (epoch.toNat + 1) % 2 ^ d.applyLog2 == 0

/-! ### Plastic records (R137, R281) -/

/-- OFFSET, WEIGHT, GRAD and MOM of a plastic-32 record. -/
structure Syn where
  offset : Nat
  w : Int
  grad : Int
  mom : Int
  deriving DecidableEq, Repr

/-- The record a word spells, and the word a record is stored as. -/
def synOf (x : Word) : Syn :=
  let n := x.toNat
  ⟨bitsOf n 20 12, sextNat 4 (bitsOf n 16 4), sextNat 8 (bitsOf n 8 8), sextNat 8 (bitsOf n 0 8)⟩
def Syn.word (x : Syn) : Word :=
  BitVec.ofNat 12 x.offset ++ BitVec.ofInt 4 x.w ++ BitVec.ofInt 8 x.grad ++ BitVec.ofInt 8 x.mom

/-- The sign of an integer. -/
def sgnInt (x : Int) : Int := if x < 0 then -1 else if x = 0 then 0 else 1

/-- s of R281, from the weight, the pre slot x, the post trace y and the modulator m. -/
def RuleDesc.score (d : RuleDesc) (w x y m : Int) : Int :=
  let e := d.aXy * x * y + d.aX * x + d.aY * y
  (match d.kind with | 0 => e | 1 => m * e | _ => d.aXy * sgnInt x * sgnInt y) + d.aW * w

/-- d of R281: the score narrowed by stochastic rounding. -/
def RuleDesc.narrow (d : RuleDesc) (s : Int) (r1 : Word) : Int :=
  if d.gShift = 0 then s else (s + (r1.toNat % 2 ^ d.gShift : Nat)) / 2 ^ d.gShift

/-- The update of one record (R281). MOM is exact: the residual of a clamped step may leave int8. -/
def RuleDesc.update (d : RuleDesc) (apply : Bool) (z : Syn) (x y m : Int) (r1 r2 : Word) : Syn :=
  let grad := sat8 (z.grad + d.narrow (d.score z.w x y m) r1)
  if !apply then { z with grad := grad }
  else
    let mom := sat8 ((z.mom * d.beta + (r2.toNat % 256 : Nat)) / 256 + grad)
    let w := d.clamp (z.w + Int.tdiv mom d.step)
    { z with w := w, grad := 0, mom := mom - (w - z.w) * d.step }

/-! ### The row walk (R280, R283, R284) -/

/-- A running commit work: the state, whether an uncorrectable word has ended it, the cycles of R285, and for each rule
met whether the commit applied. -/
structure MrvRun where
  s : State
  stop : Bool := false
  cost : Nat := 4
  applied : List Bool := []

/-- The Marver of a core, and a change of it. -/
def State.modMrv (s : State) (k : Nat) (f : Marver → Marver) : State := s.modCore k fun c => { c with mrv := f c.mrv }
/-- Change the state, or the cycles, of a run. -/
def MrvRun.modS (r : MrvRun) (f : State → State) : MrvRun := { r with s := f r.s }
def MrvRun.spend (r : MrvRun) (n : Nat) : MrvRun := { r with cost := r.cost + n }

/-- Meet the ECC of 64-bit word a of the synapse SRAM before it is used (R147, R274). -/
def MrvRun.meetEcc (r : MrvRun) (k a : Nat) : MrvRun :=
  if r.s.ueAt (synAddr k (2 * a)) then { r with s := r.s.noteUe k 2 a, stop := true }
  else if r.s.ceAt (synAddr k (2 * a)) then r.modS fun s => s.noteCe k a
  else r

/-- One draw of the core's generator (R81). -/
def State.mrvDraw (s : State) (k : Nat) : State × Word :=
  let r := xorshift (s.core k).e.regs.rng
  (s.setRng k r, r)

/-- Element t of a trace half; beyond the 8,192 elements the spec states no value: a free one. -/
def State.traceAt (s : State) (k t : Nat) (high : Bool) : State × Int :=
  if t < 8192 then (s, (s.traceHalf k t high).toInt) else (s.spend, ((s.free).setWidth 8).toInt)

/-- MOM as it is stored: a residual outside int8 has no stated value, and a free one is stored. -/
def State.momStored (s : State) (m : Int) : State × Int :=
  if sat8 m = m then (s, m) else (s.spend, ((s.free).setWidth 8).toInt)

/-- Where record pos of a row at word a stands. -/
def recAddr (k a pos : Nat) : Nat := synAddr k (2 * (a + 1) + pos)

/-- What one row's walk needs: its header and place, the rule, the pre slot, and whether the rule applies. -/
structure RowWalk where
  k : Nat
  a : Nat
  h : RowHdr
  d : RuleDesc
  x : Int
  apply : Bool

/-- Update the record at a position with two draws; the new record. -/
def MrvRun.update (r : MrvRun) (c : RowWalk) (pos : Nat) : MrvRun × Syn :=
  let z := synOf (r.s.readWord (recAddr c.k c.a pos))
  let (s1, r1) := r.s.mrvDraw c.k
  let (s2, r2) := s1.mrvDraw c.k
  let (s3, y) := s2.traceAt c.k (c.h.base + z.offset) c.d.yHalf
  let z1 := c.d.update c.apply z c.x y (s3.core c.k).e.md.value.toInt r1 r2
  let (s4, mom) := s3.momStored z1.mom
  let z2 := { z1 with mom := mom }
  let s5 := s4.modMrv c.k fun m => { m with steps := if z2.w = z.w then m.steps else cnt32 m.steps }
  ({ r with s := s5.writeWord (recAddr c.k c.a pos) z2.word }, z2)

/-- The largest SLACK of the row (R138). -/
def RowHdr.slackTop (h : RowHdr) : Nat := min (2 * h.length) 255

/-- The records of a row from a position on, with live of them live (R281, R283): a pruned record is replaced by the last
live one, which is processed next. fuel bounds the steps, of which each passes or prunes a record. -/
def MrvRun.records (r : MrvRun) (c : RowWalk) (pos live : Nat) : Nat → MrvRun × Nat
  | 0 => (r, live)
  | fuel + 1 =>
    if live ≤ pos then (r, live)
    else
      let r0 := r.meetEcc c.k (c.a + 1 + pos / 2)
      if r0.stop then (r0, live)
      else
        let (r1, z) := r0.update c pos
        if !(c.apply && c.d.pruneEn && z.w == 0 && decide (z.mom.natAbs ≤ c.d.pruneMom)) then
          r1.records c (pos + 1) live fuel
        else if c.h.slackTop ≤ 2 * c.h.length - live then
          (r1.modS fun s => s.modMrv c.k fun m => { m with full := cnt16 m.full }).records c (pos + 1) live fuel
        else
          let r2 := r1.meetEcc c.k (c.a + 1 + (live - 1) / 2)
          if r2.stop then (r2, live)
          else
            let moved := r2.s.readWord (recAddr c.k c.a (live - 1))
            let r3 := (r2.modS fun s =>
              ((s.writeWord (recAddr c.k c.a pos) moved).writeWord (recAddr c.k c.a (live - 1)) 0).modMrv c.k fun m =>
                { m with prune := cnt16 m.prune }).spend 1
            r3.records c pos (live - 1) fuel

/-- Creation at the end of a row with the draw r3 made before its records (R284): the run, and the live records. -/
def MrvRun.create (r : MrvRun) (c : RowWalk) (r3 : Word) (live : Nat) : MrvRun × Nat :=
  let o := r3.toNat % 2 ^ c.d.spanLog2
  if 2 * c.h.length ≤ live then
    (r.modS fun s => s.modMrv c.k fun m => { m with full := cnt16 m.full }, live)
  else
    let (s1, y) := r.s.traceAt c.k (c.h.base + o) c.d.yHalf
    let taken := (List.range live).any fun i => (synOf (s1.readWord (recAddr c.k c.a i))).offset == o
    let r1 := { r with s := s1 }
    if c.x < c.d.createX ∨ y < c.d.createY ∨ taken then (r1, live)
    else
      let r2 := r1.meetEcc c.k (c.a + 1 + live / 2)
      if r2.stop then (r2, live)
      else
        let z : Syn := ⟨o, c.d.clamp c.d.wInit, 0, 0⟩
        (r2.modS fun s => (s.writeWord (recAddr c.k c.a live) z.word).modMrv c.k fun m =>
          { m with create := cnt16 m.create }, live + 1)

/-- The header's SLACK field is rewritten when it has changed. -/
def MrvRun.putSlack (r : MrvRun) (c : RowWalk) (live : Nat) : MrvRun :=
  let slack := 2 * c.h.length - live
  if slack = c.h.slack then r
  else
    let a := synAddr c.k (2 * c.a)
    let w := r.s.readWord a
    (r.modS fun s => s.writeWord a ((w &&& 0xFFC03FFF) ||| BitVec.ofNat 32 (slack * 2 ^ 14))).spend 1

/-- One plastic row (R280 to R284). Under MSKIP no draw is made and nothing is written (R282). -/
def MrvRun.row (r : MrvRun) (c : RowWalk) (skip : Bool) : MrvRun :=
  let live := 2 * c.h.length - c.h.slack
  let r0 := { r with applied := r.applied ++ [c.apply], cost := r.cost + (live + 1) / 2 }
  if skip then r0
  else
    let create := c.apply && c.d.createEn
    let (s1, r3) := if create then r0.s.mrvDraw c.k else (r0.s, 0)
    let (r1, live1) := { r0 with s := s1 }.records c 0 live live
    if r1.stop then r1
    else
      let (r2, live2) := if create then r1.create c r3 live1 else (r1, live1)
      if r2.stop then r2 else r2.putSlack c live2

/-- A source's chain from word a (R139, R280): rows of other formats are passed over, and a header in error ends the
chain, as it does for the integration unit (R140). -/
def MrvRun.chain (r : MrvRun) (k : Nat) (x : Int) (skip : Bool) (a : Nat) : Nat → MrvRun
  | 0 => r
  | fuel + 1 =>
    let r1 := (r.meetEcc k a).spend 1
    let h := rowHdr (r1.s.rowWord k .syn a)
    if r1.stop || h.badAt a then r1
    else
      let core := r1.s.core k
      let d := Tab.get core.mrv.rules {} h.rule
      let r2 := if h.format = 3 then r1.row ⟨k, a, h, d, x, d.applies core.e.fl.epoch⟩ skip else r1
      if r2.stop || !h.chain then r2 else r2.chain k x skip (a + 1 + h.length) fuel

/-- One filter entry of the walk. -/
def MrvRun.entry (r : MrvRun) (k : Nat) (skip : Bool) (n : Nat) : MrvRun :=
  if r.stop then r
  else
    let r1 := (r.meetEcc k n).spend 1
    let e := (r1.s.readDword (synAddr k (2 * n))).toNat
    if r1.stop || !bitOf e 63 then r1
    else
      let m := (r1.s.core k).mrv
      let (s2, x) := if m.preEn then r1.s.traceAt k n m.preHalf else (r1.s, 0)
      { r1 with s := s2 }.chain k x skip (bitsOf e 48 15) 24576

/-- Entries of the source filter (R275, R280): with FILT_EN 0 the core has none (R129). -/
def Integ.filterEntries (i : Integ) : Nat := if i.filtEn then 4 * 2 ^ i.filtLog2 else 0

/-- The decay of one pre slot (R277); an element that the trace memory does not have takes its draw alone. -/
def State.decayPre (s : State) (k n : Nat) : State :=
  let m := (s.core k).mrv
  let (s1, r) := s.mrvDraw k
  if 8192 ≤ n then s1
  else s1.setTraceHalf k n m.preHalf
    (BitVec.ofInt 8 (((s.traceHalf k n m.preHalf).toInt * m.preAlpha + (r.toNat % 256 : Nat)) / 256))

/-- The commit work of a core with EN 1 (R273, R277, R280, R282, R285). APPLY is the cadence of the rules walked; where
they differ, or none was met, the spec does not say what it shows: a free value. CYCLES is at most the sum of R285. -/
def State.commitWork (s : State) (k : Nat) : State :=
  let c := s.core k
  let n := c.i.filterEntries
  let r0 : MrvRun := { s := s }
  let r := (List.range n).foldl (fun r i => r.entry k c.e.md.skip i) r0
  let decay := c.mrv.preEn && !r.stop
  let s1 := if decay then (List.range n).foldl (fun s i => s.decayPre k i) r.s else r.s
  let cost := r.cost + (if decay then n / 16 + b2n (n % 16 != 0) else 0)
  let agree := match r.applied with | [] => none | b :: bs => if bs.all (· == b) then some b else none
  let s2 := s1.modMrv k fun m =>
    { m with cc := BitVec.ofNat 24 (min 0xFFFFFF (s1.free.toNat % (cost + 1))), apply := agree.getD (s1.spend.free.getLsbD 0) }
  if agree.isSome then s2.spend else s2.spend.spend

/-! ### The commit phase (R45, R272 to R274, R413) -/

/-- COMMIT_START (R45, R272, R273, R413, R415): at the end of the last tick of an epoch, once every UPDATE program has
ended and delivery has drained, the commit start goes to every core of the tenant. -/
def execCommitStart (t : Tenant) (s : State) : Host.Outcome State Fault Refusal :=
  let sh := s.shear t
  if sh.state != .emit || sh.pstop || sh.stopping || !sh.lastOfEpoch || !(s.ended t && s.drained t) then .next s
  else
    let s1 := s.modShear t fun x => { x with state := .commit }
    .next (s1.modCores (s1.coresOf t) fun c =>
      { c with e := { c.e with fl := { c.e.fl with commitDue := true, commitDone := false } } })

/-- EPOCH_ENTRY_START (R69, R70, R273, R274): the commit start reaches a core whose engine is idle and not halted: its
EPOCH entry runs, or with none enabled the Marver's commit work begins. -/
def execEpochEntryStart (c : CoreId) (s : State) : Host.Outcome State Fault Refusal :=
  let k := c.key
  let e := (s.core k).e
  if !e.fl.commitDue || e.st != .idle || e.dbg.halted || !s.mayCommit k then .next s
  else
    let s1 := s.modE k fun e => { e with fl := { e.fl with commitDue := false } }
    .next (if e.cr.entEpoch.en then s1.modE k fun e => e.enter .epoch e.cr.entEpoch
      else s1.modMrv k fun m => { m with busy := true })

/-- The core reports that its commit has ended (R273 step 4): EPOCH advances and an MSKIP request is cleared; a halt asked
for during the work takes effect (R274). -/
def State.reportCommit (s : State) (k : Nat) : State :=
  (s.modCore k fun c =>
    { c with
      mrv := { c.mrv with busy := false }
      e := ({ c.e with
        md := { c.e.md with skip := false }
        fl := { c.e.fl with commitDone := true, epoch := c.e.fl.epoch + 1 } } : NEngine).settle }).afterEntry k

/-- COMMIT_WORK_END (R273, R274, R277, R280 to R285): the Marver's commit work on a core ends and is reported. -/
def execCommitWorkEnd (c : CoreId) (s : State) : Host.Outcome State Fault Refusal :=
  let k := c.key
  if !(s.core k).mrv.busy then .next s
  else .next ((if (s.core k).mrv.en then s.commitWork k else s).reportCommit k)

/-- Every core of the tenant has reported the end of its commit. -/
def State.allReported (s : State) (t : Tenant) : Bool := (s.coresOf t).all fun k => (s.core k).e.fl.commitDone

/-- The commit is over: a requested hold begins once every credit has returned (R186), or the edge fires now (R45). -/
def State.afterCommit (s : State) (t : Tenant) : State :=
  let sh := s.shear t
  let s1 := s.modShear t fun x => { x with commitDone := true }
  if sh.stopping then s
  else if sh.hold == .requested then (if s.creditOut t then s else s1.beginHold t)
  else if sh.pstop then s
  else s1.heldEdge t s.now

/-- A save's snapshot is due at this commit (R289). -/
def State.snapshotDue (s : State) (t : Tenant) : Bool := s.lehr.jobs.any fun j => j.who.port == t && j.phase == .snapDue

/-- COMMIT_REPORTS_IN (R45, R186, R273, R289, R413): every core has reported; a snapshot that is due is taken with the
edge held, else the hold begins or the edge fires. -/
def execCommitReportsIn (t : Tenant) (s : State) : Host.Outcome State Fault Refusal :=
  if (s.shear t).state != .commit || !s.allReported t then .next s
  else if s.snapshotDue t && !(s.shear t).stopping then
    .next { s.modShear t fun x => { x with state := .snapshot } with
      lehr := { s.lehr with jobs := s.lehr.jobs.map fun j =>
        if j.who.port == t && j.phase == .snapDue then { j with phase := .copying } else j } }
  else .next (s.afterCommit t)

end Sys2Proof.Machine
end

