-- ==== Sys2Proof/Machine/Lehr.lean ====
section
/-!
DEFINITION. The Lehr store: SAVE, RESTORE and RELEASE, the snapshot, and the background work of the MP (R286 to R294).
-/

namespace Sys2Proof.Machine

/-- Change the Lehr store. -/
def State.modLehr (s : State) (f : Lehr → Lehr) : State := { s with lehr := f s.lehr }
/-- A save set. -/
def State.lehrSet (s : State) (n : Nat) : LehrSet := s.lehr.sets.toList.getD n {}
/-- Change a save set. -/
def State.modSet (s : State) (n : Nat) (f : LehrSet → LehrSet) : State :=
  s.modLehr fun l => { l with sets := Vector.ofFn fun i => if i.val = n then f l.sets[i.val] else l.sets[i.val] }

/-! ### The content of a save (R280, R288) -/

/-- The plastic-32 rows of a chain from word a: their header addresses and lengths. -/
def State.chainRows (s : State) (k a : Nat) : Nat → List (Nat × Nat)
  | 0 => []
  | fuel + 1 =>
    let h := rowHdr (s.rowWord k .syn a)
    if h.badAt a then []
    else
      (if h.format = 3 then [(a, h.length)] else []) ++ (if h.chain then s.chainRows k (a + 1 + h.length) fuel else [])

/-- The plastic-32 rows of a core in filter-walk order, each once. -/
def State.plasticRows (s : State) (k : Nat) : List (Nat × Nat) :=
  ((List.range (s.core k).i.filterEntries).flatMap fun n =>
    if (s.readDword (synAddr k (2 * n))).msb then s.chainRows k (s.filterRow k n) 24576 else []).eraseDups

/-- The rows of a tenant: core, header address and length. -/
def State.tenantRows (s : State) (t : Tenant) : List (Nat × Nat × Nat) :=
  (s.coresOf t).flatMap fun k => (s.plasticRows k).map fun r => (k, r.1, r.2)

/-- Bytes of a save with these rows. -/
def contentLen (rows : List (Nat × Nat × Nat)) : Nat := 64 + (rows.map fun r => 8 * (2 + r.2.2)).sum

/-- Blocks of a save with content of a length: the 1 KiB index goes in front. -/
def saveBlocks (len : Nat) : Nat := (1024 + len + 65535) / 65536

/-- The locator word of a row. -/
def locator (k a : Nat) : Nat := k / 32 * 2 ^ 24 + k % 32 * 2 ^ 16 + a

/-- The bytes of a row in a save. -/
def State.rowBytes (s : State) (r : Nat × Nat × Nat) : List Byte :=
  leBytes 8 (locator r.1 r.2.1) ++ s.readBytes (synAddr r.1 (2 * r.2.1)) (8 * (1 + r.2.2))

/-- The content of a save of a tenant into a set, taken now. The last 32 bytes of its header are made of tenant, set, row
count and content length in a layout that the spec does not give. -/
def State.saveContent (s : State) (t : Tenant) (set : Nat) : List Byte :=
  let rows := s.tenantRows t
  (s.tenant t).parison ++ (List.range 32).map (Config.saveHeader t.val set rows.length (contentLen rows)) ++
    rows.flatMap s.rowBytes

/-! ### Jobs -/

/-- Status and DETAIL of a result (R294, R317). -/
def State.lehrEnd (s : State) (j : LehrJob) (result : Nat) : State :=
  s.finishAsync j.who (if result = 0 ∨ result = 7 then 0 else 3) (some (BitVec.ofNat 32 result))

/-- A job goes on waiting for its next event. -/
def State.addJob (s : State) (j : LehrJob) : State := s.modLehr fun l => { l with jobs := l.jobs ++ [j] }

/-- A job is over. -/
def State.dropJob (s : State) (j : LehrJob) : State := s.modLehr fun l => { l with jobs := l.jobs.erase j }
/-- A job goes on in another phase. -/
def State.advanceJob (s : State) (j k : LehrJob) : State :=
  s.modLehr fun l => { l with jobs := l.jobs.map fun x => if x = j then k else x }

/-- The staging area of a SAVE is in order (R289): aligned, in the tenant's region and writable. -/
def State.stagingOk (s : State) (j : LehrJob) (len : Nat) : Bool :=
  j.staging % 65536 == 0 && decide (j.staging < deepTop) && s.deepWritable j.who.port j.staging len

/-- The result that refuses a save of a length (R288, R289). -/
def State.saveRefused (s : State) (j : LehrJob) (len : Nat) : Option Nat :=
  if !s.stagingOk j len then some 3 else if 192 < saveBlocks len then some 2 else none

/-- The snapshot of a SAVE is taken: its content stands in the staging area, and the save can be written. Nothing is written
to a staging area that by now may not be: it may have come to lie in the locked shared region (R28). -/
def State.takeSnapshot (s : State) (j : LehrJob) : State :=
  let c := s.saveContent j.who.port j.set
  match s.saveRefused j c.length with
  | some r => (s.dropJob j).lehrEnd j r
  | none => (s.storeBytes j.staging c).advanceJob j { j with phase := .writing, len := c.length }

/-- Take the snapshots of a tenant that wait in a phase. -/
def State.takeSnapshots (s : State) (t : Tenant) (ph : LehrPhase) : State :=
  (s.lehr.jobs.filter fun j => j.who.port == t && j.phase == ph).foldl (fun s j => s.takeSnapshot j) s

/-- Another tenant owns the set (R287). -/
def State.foreignSet (s : State) (j : LehrJob) : Bool :=
  match (s.lehrSet j.set).owner with | some t => t != j.who.port | none => false

/-- A SAVE begins (R287 to R289, R294): refused with a result, or its snapshot is taken now or at the next commit. -/
def State.startSave (s : State) (j : LehrJob) : State :=
  let t := j.who.port
  let len := contentLen (s.tenantRows t)
  if s.foreignSet j then s.lehrEnd j 1
  else if (s.tenant t).st = .running ∧ (s.shear t).epochLen = 0 then s.lehrEnd j 6
  else
    match s.saveRefused j len with
    | some r => s.lehrEnd j r
    | none =>
      let due := { j with phase := .snapDue }
      if s.isStopped t then (s.addJob due).takeSnapshot due else s.addJob due

/-- A RESTORE begins (R287, R291, R294). -/
def State.startRestore (s : State) (j : LehrJob) : State :=
  if s.foreignSet j then s.lehrEnd j 1
  else if (s.lehrSet j.set).newest.isNone then s.lehrEnd j 8
  else if !s.isStopped j.who.port then s.lehrEnd j 6
  else s.addJob { j with phase := .reading }

/-- A RELEASE is done at once (R287, R294). -/
def State.doRelease (s : State) (j : LehrJob) : State :=
  if s.foreignSet j then s.lehrEnd j 1
  else if (s.lehrSet j.set).newest.isNone then s.lehrEnd j 8
  else ((s.modSet j.set fun _ => {}).modLehr (·.dropRecords j.set)).lehrEnd j 0

/-- A job begins. -/
def State.startJob (s : State) (j : LehrJob) : State :=
  match j.who.opcode with
  | 0x07 => s.startSave j
  | 0x08 => s.startRestore j
  | _ => s.doRelease j

/-- A SAVE, RESTORE or RELEASE is accepted (R315, R316); until the journal scan has ended it waits (R292). -/
def State.queueJob (s : State) (p : Port) (c : Cmd) : State :=
  let j : LehrJob := { who := c.async p, set := c.field 1 0 4, staging := (c.word 2).toNat, phase := .waiting }
  let s1 := s.acceptCmd p
  if s1.lehr.ready then s1.startJob j else s1.addJob j

/-- The device is in NAP: commands that need clusters end with status 2 (R434). -/
def State.inNap (s : State) : Bool := decide (2 ≤ s.aon.st)

/-- SAVE (R289, R315). -/
def execSave (p : Port) (s : State) : Host.Outcome State Fault Refusal :=
  .next (s.command p 0x07 [0xF, m64] fun c => if s.inNap then s.finish p 2 else s.queueJob p c)

/-- RESTORE (R291, R315): a Faulted device takes none (R499). -/
def execRestore (p : Port) (s : State) : Host.Outcome State Fault Refusal :=
  .next (s.command p 0x08 [0xF] fun c => if s.inNap || s.pont.faulted then s.finish p 2 else s.queueJob p c)

/-- RELEASE (R287, R315). -/
def execRelease (p : Port) (s : State) : Host.Outcome State Fault Refusal :=
  .next (s.command p 0x09 [0xF] fun c => s.queueJob p c)

/-- LEHR_JOURNAL_SCAN_END (R292): a freeing that the power loss cut short is completed, the store is ready, and the commands
that wait begin. -/
def execLehrJournalScanEnd (s : State) : Host.Outcome State Fault Refusal :=
  if !s.boot.ready || s.lehr.ready then .next s
  else
    let due := s.lehr.jobs.filter fun j => j.phase == .waiting
    let s1 := s.modLehr fun l => { l.freeOlder with ready := true, jobs := l.jobs.filter fun j => j.phase != .waiting }
    .next (due.foldl (fun s j => s.startJob j) s1)

/-- SNAPSHOT_COPY_DONE (R45, R289): the copy ends, and the held edge may fire. -/
def execSnapshotCopyDone (t : Tenant) (s : State) : Host.Outcome State Fault Refusal :=
  if (s.shear t).state != .snapshot then .next s
  else .next (((s.takeSnapshots t .copying).modShear t fun x => { x with state := .commit }).afterCommit t)

/-! ### Writing a save (R290, R293) -/

/-- A block's erase count. -/
def Lehr.wearOf (l : Lehr) (b : Nat) : Nat := Tab.get l.wear 0 b
/-- Put a block into a list ordered by erase count, then number. -/
def Lehr.place (l : Lehr) (b : Nat) : List Nat → List Nat
  | [] => [b]
  | x :: xs => if l.wearOf b < l.wearOf x ∨ (l.wearOf b = l.wearOf x ∧ b < x) then b :: x :: xs else x :: l.place b xs
/-- The free pool blocks, the least erased first. -/
def Lehr.freeSorted (l : Lehr) : List Nat := l.free.foldl (fun r b => l.place b r) []

/-- Erase and write n blocks, the first of the candidates; a bad one is retired, recorded and replaced by the next. The
blocks that hold the save. -/
def State.writeBlocks (s : State) (bad : List Nat) : List Nat → Nat → State × List Nat
  | [], _ => (s, [])
  | b :: bs, n =>
    if n = 0 then (s, [])
    else
      let s1 := s.modLehr fun l => { l with wear := Tab.modify l.wear 0 b (· + 1) }
      if bad.contains b then
        ((s1.modLehr fun l => { l with retired := l.retired ++ [b], err := cnt16 l.err }).addCullet 4 5 b).writeBlocks bad
          bs n
      else
        let (s2, used) := s1.writeBlocks bad bs (n - 1)
        (s2, b :: used)

/-- The SHA3-256 digest of a save's block index and content (R290, R291). -/
def LehrSave.digest (v : LehrSave) : List Byte := sha3 ((List.range 1024).map (Config.saveIndex v.blocks) ++ v.content)

/-- The commit record of a save of a set (R290). -/
def LehrSave.record (v : LehrSave) (set : Nat) : CommitRec :=
  let r : CommitRec :=
    { set := set, seq := v.seq, first := v.blocks.headD 0, count := v.blocks.length, digest := v.digest }
  { r with crc := r.crcOf }

/-- The save that a job writes into blocks, with the content of its staging area. -/
def State.newSave (s : State) (j : LehrJob) (blocks : List Nat) : LehrSave :=
  { seq := (s.lehrSet j.set).nextSeq, blocks := blocks, content := s.readBytes j.staging j.len }

/-- The commit record is written: the save is its set's newest, and the one before is held until it is freed (R287, R290). -/
def State.commitSave (s : State) (j : LehrJob) (blocks : List Nat) : State :=
  let v := s.newSave j blocks
  (s.modLehr (·.addRecord (v.record j.set))).modSet j.set fun x =>
    { owner := some j.who.port, newest := some v, older := x.newest }

/-- Writing the wear table and the cullet list erases blocks of the system area, in a number the spec does not give (R286,
R293). -/
def State.wearSystem (s : State) : State :=
  ({ s with freeCtr := s.freeCtr + 1 }).modLehr fun l =>
    { l with wear := Tab.modify l.wear 0 (s.free.toNat % 4) (· + s.free.toNat / 4 % 4) }

/-- LEHR_SAVE_DONE (R287, R290, R293): the oldest background write ends with its commit record; where its set held a save
before, a second command of the queue frees that save's blocks, and with that the SAVE completes. bad names the blocks that
fail an erase or a write. -/
def execLehrSaveDone (bad : List Nat) (s : State) : Host.Outcome State Fault Refusal :=
  match s.lehr.jobs.find? fun j => j.phase == .freeing, s.lehr.jobs.find? fun j => j.phase == .writing with
  | some j, _ => .next (((s.modSet j.set fun x => { x with older := none }).dropJob j).lehrEnd j 0)
  | none, none => .next s
  | none, some j =>
    let s1 := s.dropJob j
    let n := saveBlocks j.len
    if s.foreignSet j then .next (s1.lehrEnd j 1)
    else if s.lehr.free.length < n then .next (s1.lehrEnd j 5)
    else
      let (s2, used) := s.wearSystem.writeBlocks bad s.lehr.freeSorted n
      if used.length < n then .next ((s2.dropJob j).lehrEnd j 5)
      else
        let s3 := s2.commitSave j used
        if (s.lehrSet j.set).newest.isSome then .next (s3.advanceJob j { j with phase := .freeing })
        else .next ((s3.dropJob j).lehrEnd j 0)

/-! ### Restoring (R291) -/

/-- A row of a save: its core, header address and bytes, header first. -/
structure SavedRow where
  k : Nat
  a : Nat
  bytes : List Byte
  deriving DecidableEq, Repr

/-- The row at the start of a list of bytes, and how long it is. -/
def savedRow (bs : List Byte) : SavedRow × Nat :=
  let loc := leNat (bs.take 8)
  let len := (rowHdr (BitVec.ofNat 64 (leNat ((bs.drop 8).take 8)))).length
  (⟨bitsOf loc 24 5 * 32 + bitsOf loc 16 5, bitsOf loc 0 15, (bs.drop 8).take (8 * (1 + len))⟩, 8 * (2 + len))

/-- The rows of a save's content after its header; none where it does not end with a row. -/
def savedRows (bs : List Byte) : Nat → Option (List SavedRow)
  | 0 => none
  | fuel + 1 =>
    if bs.isEmpty then some []
    else
      let (r, n) := savedRow bs
      if bs.length < n then none else (savedRows (bs.drop n) fuel).map (r :: ·)

/-- The locator names a plastic-32 header of the same LENGTH in a core of the tenant. -/
def State.rowFits (s : State) (t : Tenant) (r : SavedRow) : Bool :=
  let h := rowHdr (s.rowWord r.k .syn r.a)
  s.coreTenant r.k == some t && s.coreExists r.k && h.format == 3 && 8 * (1 + h.length) == r.bytes.length &&
    decide (r.a + h.length ≤ 24575)

/-- Every pre slot of a core is cleared (R275, R291). -/
def State.clearPre (s : State) (k : Nat) : State :=
  let c := s.core k
  if !c.mrv.preEn then s
  else (List.range (min 8192 c.i.filterEntries)).foldl (fun s n => s.setTraceHalf k n c.mrv.preHalf 0) s

/-- A save that can be read is checked against the tenant and written back; good is the result of success. -/
def State.restoreFrom (s : State) (j : LehrJob) (v : LehrSave) (good : Nat) : State :=
  let t := j.who.port
  if v.content.take 32 ≠ (s.tenant t).parison then s.lehrEnd j 4
  else
    match savedRows (v.content.drop 64) v.content.length with
    | none => s.lehrEnd j 4
    | some rows =>
      if !rows.all (s.rowFits t) then s.lehrEnd j 4
      else
        let s1 := rows.foldl (fun s r => s.storeBytes (synAddr r.k (2 * r.a)) r.bytes) s
        ((s.coresOf t).foldl State.clearPre s1).lehrEnd j good

/-- A save's digest fails: counted (R301). -/
def State.digestFails (s : State) : State := s.modLehr fun l => { l with err := cnt16 l.err }

/-- A save of a set that has a commit record whose CRC passes (R291). -/
def State.validSave (s : State) (set : Nat) (o : Option LehrSave) : Option LehrSave := o.filter (s.lehr.recorded set)

/-- LEHR_RESTORE_DONE (R291, R294): the oldest restore of a port has been read. newestOk and olderOk tell which save's digest
passes: of those with a commit record whose CRC passes, the newest comes first. -/
def execLehrRestoreDone (p : Port) (newestOk olderOk : Bool) (s : State) : Host.Outcome State Fault Refusal :=
  match s.lehr.jobs.find? fun j => j.who.port == p && j.phase == .reading with
  | none => .next s
  | some j =>
    let s1 := s.dropJob j
    let x := s.lehrSet j.set
    if s.foreignSet j then .next (s1.lehrEnd j 1)
    else if !s.isStopped p then .next (s1.lehrEnd j 6)
    else
      match s.validSave j.set x.newest, newestOk, s.validSave j.set x.older, olderOk with
      | some v, true, _, _ => .next (s1.restoreFrom j v 0)
      | some _, false, some v, true => .next (s1.digestFails.restoreFrom j v 7)
      | some _, false, some _, false => .next (s1.digestFails.digestFails.lehrEnd j 8)
      | some _, false, none, _ => .next (s1.digestFails.lehrEnd j 8)
      | none, _, some v, true => .next (s1.restoreFrom j v 0)
      | none, _, some _, false => .next (s1.digestFails.lehrEnd j 8)
      | none, _, none, _ => .next (s1.lehrEnd j 8)

end Sys2Proof.Machine
end

