-- ==== Sys2Proof/Machine/Tenant.lean ====
section
/-!
DEFINITION. The tenant commands: START and STOP, ASSIGN, SHARE, CAPS and ATTEST (R242, R332, R346, R350, R355, R356,
R487, R488).
-/

namespace Sys2Proof.Machine

/-- DETAIL with a reason of R349. -/
def reasonDetail (reason : Nat) : Option Word := some (BitVec.ofNat 32 (reason * 2 ^ 24))

/-! ### START (R355) -/

/-- A core of the tenant is stale or faulted. -/
def State.unfit (s : State) (t : Tenant) : Bool :=
  (s.coresOf t).any fun k => (s.core k).e.cr.stale || (s.core k).e.st == .faulted

/-- A zero seed loads 1 (R92): the generator would otherwise stay at zero. -/
def nonzeroSeed (w : Word) : Word := if w = 0 then 1 else w

/-- The neuron engine at start, with its generator's seed: idle, with no entry due and nothing collected (R50, R81, R355
step 2). -/
def NEngine.started (e : NEngine) (seed : Word) : NEngine :=
  { e with
    st := .idle
    regs := { e.regs with rng := nonzeroSeed seed }
    blk := { e.blk with collecting := 0 }
    md := { value := 0, skip := false }
    fl := { e.fl with
      gapNext := false
      gap := false
      dupe := false
      sent := 0
      gate := false
      phase := false
      updEnded := true
      edgeDue := false
      commitDue := false
      commitDone := false
      edgeSig := false
      epoch := 0 } }

/-- Start one core: the seed comes from CORE_SEED, or is the TRNG's, which is a free value (R81). -/
def State.startCore (s : State) (k : Nat) : State :=
  if (s.core k).e.cr.seedSrc then s.modE k fun e => e.started e.cr.seed
  else (s.modE k fun e => e.started s.free).spend

/-- The credit counters of every queue window of a cluster at their windows (R221). -/
def ClusterSt.resetWindows (c : ClusterSt) : ClusterSt :=
  { c with qwin := Tab.modifyAll c.qwin {} (c.qwin.map (·.1)) fun _ w => { w with cred := w.window } }

/-- Steps 2 to 4 of R355: the Shears' first edge is due. -/
def State.startTenant (s : State) (t : Tenant) : State :=
  let s1 := ((s.coresOf t).foldl State.startCore s).resetCredits t
  let s2 := (s.clustersOf t).foldl (fun s c => s.modCluster c ClusterSt.resetWindows) s1
  (s2.modShear t fun x => { x with first := true, eptick := 0, stopping := false, commitDone := false }).modTenant t fun x =>
    { x with st := .running, starting := true }

/-- START (R350, R355, R434, R449, R494, R499): the command completes with the first edge. -/
def execStart (p : Port) (s : State) : Host.Outcome State Fault Refusal :=
  .next (s.command p 0x02 [] fun _ =>
    if s.pont.faulted || s.inNap || (s.tenant p).st != .stopped || (s.shear p).pstop ||
        (s.aon.cool && (s.shear p).deep) then s.finish p 2
    else if s.unfit p then s.finish p 3 (reasonDetail 0x17)
    else s.startTenant p)

/-! ### STOP (R356) -/

/-- STOP (R350, R356): begins the stop of a Running tenant, waits for one in progress, and has no effect otherwise. -/
def execStop (p : Port) (s : State) : Host.Outcome State Fault Refusal :=
  .next (s.command p 0x03 [] fun _ =>
    match (s.tenant p).st with
    | .running => s.beginStop p true
    | .stopping => s.modTenant p fun x => { x with stop := x.stop.map fun j => { j with cmd := true } }
    | .loading => s.finish p 2
    | _ => s.finish p 0 (some 0))

/-- The tick in progress has ended and the tenant has drained; a Faulted or halted core is not waited for (R43, R44, R356). -/
def State.stopDrained (s : State) (t : Tenant) : Bool :=
  (s.coresOf t).all (fun k => (s.core k).e.stuck || ((s.core k).e.tickEnded && (s.core k).drained)) && s.fabricIdle t

/-- STOP_LIMIT_EXPIRY (R356 step 2): 1 ms has passed and the tenant has not drained. -/
def execStopLimitExpiry (t : Tenant) (s : State) : Host.Outcome State Fault Refusal :=
  match (s.tenant t).stop with
  | some j =>
    if j.expired || s.stopDrained t then .next s
    else .next ((s.passTo j.limitAt).modTenant t fun x => { x with stop := some { j with expired := true } })
  | none => .next s

/-- What a stop waits for besides the drain: commit work under way and a snapshot copy (R274, R289, R356). -/
def State.stopBlocked (s : State) (t : Tenant) : Bool :=
  ((s.coresOf t).any fun k => (s.core k).mrv.working) || (s.shear t).state == .snapshot

/-- The neuron engine after a stop (R72, R128, R356 step 3): its halt is released, and a Faulted one stays Faulted until it is
loaded again (R85). -/
def NEngine.stopped (e : NEngine) : NEngine :=
  { e.endLoop with
    st := if e.st = .faulted then .faulted else .stopped
    blk := { e.blk with held := 0, cur := none, stampOnLeave := false }
    fl := { e.fl with updEnded := true, edgeDue := false, commitDue := false, edgeSig := false, gate := false,
                      phase := false }
    stall := none
    waits := none
    emitAt := 0
    emitBuf := []
    dbg := { e.dbg with halted := false, haltReq := false, haltAtEdge := false, stepping := false, bpPassed := false } }

/-- A core after a stop: its ingress and its receive queues are empty (R221), and a commit report that was pending is not
made (R274). Landing slots are freed first. -/
def State.stopCore (s : State) (k : Nat) : State :=
  let s1 := (s.core k).i.segs.foldl (fun s g => s.freeSegment k g) s
  s1.modCore k fun c =>
    { c with
      e := c.e.stopped
      i := { c.i with crossing := [], fifo := [] }
      mrv := { c.mrv with busy := false }
      q := c.q.map fun q => { q with entries := [], head := 0, kept := none } }

/-- The request of a WAITS of a core. -/
def Pkt.waitsOf (p : Pkt) (lc : Nat) : Bool :=
  match p with | .sync 1 _ _ who => who == lc | _ => false

/-- The requests of abandoned WAITS of a cluster's cores are gone, wherever on the Thread they stand (R128). -/
def State.dropWaits (s : State) (cl : Nat) : State :=
  let mine (p : Pkt) : Bool := (List.range 32).any p.waitsOf
  let s1 := s.modThread cl fun t =>
    { t with queues := Tab.modify t.queues [] 2 fun q => q.filter (!mine ·), again := t.again.filter (!mine ·) }
  match s.slotPkt cl with
  | some x => if mine x.pkt then s1.freeSlot cl else s1
  | none => s1

/-- A station after a tenant's stop: its hold register and stream queues are empty, and so is its lookup pipeline. -/
def StationSt.stopTenant (x : StationSt) (t : Tenant) : StationSt :=
  { x with
    cane := { x.cane with
      hold := Tab.put x.cane.hold [] t.val []
      streams := Tab.modifyAll x.cane.streams {} (x.cane.streams.map (·.1)) fun _ y =>
        if y.tenant = t then { y with queue := [] } else y
      lookQ := x.cane.lookQ.filter fun e => e.tenant != t } }

/-- An engine after a tenant's stop: its partition and its events in the pending window are gone; an entry left with no
event retires. -/
def DeepEngine.stopTenant (d : DeepEngine) (t : Tenant) : DeepEngine :=
  let kept := d.window.map fun w => { w with events := w.events.filter fun e => e.tenant != t }
  { d with ingress := Tab.put d.ingress [] t.val [], window := kept.filter fun w => !w.events.isEmpty }

/-- Steps 3 and 4 of R356. -/
def State.stopAll (s : State) (t : Tenant) : State :=
  let s1 := (s.coresOf t).foldl State.stopCore s
  let s2 : State := (s.clustersOf t).foldl (fun s c => (s.modCluster c fun x => { x with rx := [] }).dropWaits c) s1
  let pins := (List.range 16).filter fun c => s.owner (ownIn c) == some t.val
  let s3 : State := { s2 with
    stations := Tab.modifyAll s2.stations {} (s2.stations.map (·.1)) fun _ x => x.stopTenant t
    deep := s2.deep.map fun d => d.stopTenant t
    inj := Tab.put (Tab.put s2.inj [] (2 * t.val) []) [] (2 * t.val + 1) []
    injNoted := Tab.put (Tab.put s2.injNoted 0 (2 * t.val) 0) 0 (2 * t.val + 1) 0
    pinNoted := Tab.modifyAll s2.pinNoted 0 pins fun _ _ => 0 }
  (s3.modPort t fun x => { x with readout := [] }).modShear t fun x =>
    { x with state := .stopped, stopping := false, first := false, hold := .running, openPorts := false,
             openHost := false, commitDone := false }

/-- Step 5 of R356: the tenant is Stopped, snapshots that waited for a commit are taken (R289), and the command completes. -/
def State.stopEnd (s : State) (t : Tenant) (j : StopJob) : State :=
  let s1 := (s.modTenant t fun x => { x with st := .stopped, stop := none }).takeSnapshots t .snapDue
  if j.cmd then s1.finish t 0 (some (BitVec.ofNat 32 (b2n j.expired))) else s1

/-- STOP_COMPLETE (R356): the tenant has drained, or the limit has passed, and nothing else is waited for. -/
def execStopComplete (t : Tenant) (s : State) : Host.Outcome State Fault Refusal :=
  match (s.tenant t).stop with
  | some j =>
    if (s.tenant t).st != .stopping || !(j.expired || s.stopDrained t) || s.stopBlocked t then .next s
    else .next ((s.stopAll t).stopEnd t j)
  | none => .next s

/-! ### ASSIGN (R25, R241, R242, R332, R350) -/

/-- Clusters and sync blocks of a tenant as bit masks. -/
def State.clusterMask (s : State) (t : Tenant) : Nat := ((s.clustersOf t).map fun c => 2 ^ c).sum
def State.blockMask (s : State) (t : Tenant) : Nat :=
  (((List.range 16).filter fun b => Tab.get s.syncOwn none b == some t).map fun b => 2 ^ b).sum

/-- Each claimed member of an ownership table is free or the tenant's own. -/
def claimsOk (owner : Nat → Option Tenant) (t : Tenant) (mask n : Nat) : Bool :=
  (List.range n).all fun i => !mask.testBit i || owner i == none || owner i == some t

/-- The table after a tenant's claim: what it leaves out is freed. -/
def reassign (tab : Tab (Option Tenant)) (t : Tenant) (mask n : Nat) : Tab (Option Tenant) :=
  Tab.modifyAll tab none (List.range n) fun i o => if mask.testBit i then some t else if o = some t then none else o

/-- A region covers another. -/
def regionInside (inner outer : Word) : Bool :=
  regionEn outer && decide (regionBase outer ≤ regionBase inner) && decide (regionLimit inner ≤ regionLimit outer)

/-- A region that ASSIGN may give a tenant (R241, R242): free of other tenants' regions, within the capacity, and around the
shared region that the tenant has declared. -/
def State.regionOk (s : State) (t : Tenant) (v : Word) : Bool :=
  (List.finRange 4).all (fun u => u == t || !regionsMeet v (s.tregOf u)) &&
    (!regionEn v || decide ((regionLimit v + 1) * 2 ^ 26 ≤ s.deepCap)) &&
    (!(regionEn s.shr && s.shrOwner == t) || regionInside s.shr v)

/-- Freed sync blocks lose every object's content (R332). -/
def State.freeBlocks (s : State) (t : Tenant) (mask : Nat) : State :=
  let freed (b : Nat) : Bool := Tab.get s.syncOwn none b == some t && !mask.testBit b
  { s with sync := s.sync.filter fun e => !freed (e.1 / 512) }

/-- ASSIGN of clusters, sync blocks and a region. The islands of clusters that no tenant owned leave NAP (R433). -/
def State.assignAll (s : State) (t : Tenant) (cl sb : Nat) (region : Word) : State :=
  let same := s.clusterMask t == cl && s.blockMask t == sb && s.tregOf t == region
  let s1 := s.freeBlocks t sb
  let s2 := { s1 with
    assign := reassign s.assign t cl 32
    syncOwn := reassign s.syncOwn t sb 16
    treg := Tab.put s.treg 0 t.val region }
  let claimed := (List.range 32).filter fun c => cl.testBit c && s.tenantOf c == none
  let s3 := claimed.foldl State.islandLeaves s2
  if same then s3 else s3.unload t

/-- ASSIGN (R332, R350, R434, R499). -/
def execAssign (p : Port) (s : State) : Host.Outcome State Fault Refusal :=
  .next (s.command p 0x05 [m32, 0xFFFF, 0x81FF01FF] fun c =>
    let cl := c.field 1 0 32
    let sb := c.field 2 0 16
    let region : Word := BitVec.ofNat 32 (c.field 3 0 32)
    if s.pont.faulted || s.inNap || !s.isStopped p then s.finish p 2
    else if cl = 0 || !claimsOk s.tenantOf p cl 32 || !claimsOk (fun b => Tab.get s.syncOwn none b) p sb 16 ||
        !s.regionOk p region then s.finish p 3
    else (s.assignAll p cl sb region).finish p 0)

/-! ### SHARE (R242) -/

/-- A SHARE command with an action: another action is another row's. -/
def State.share (s : State) (p : Port) (action : Nat) (f : Cmd → State) : State :=
  s.command p 0x06 [3, 0x1FF01FF] fun c => if c.field 1 0 2 = action then f c else s

/-- SHARE is refused with a reason, or done with a new MEM_SHR. -/
def State.shareNo (s : State) (p : Port) (reason : Nat) : State := s.finish p 3 (some (BitVec.ofNat 32 reason))
def State.shareYes (s : State) (p : Port) (w : Word) : State := { s with shr := w }.finish p 0

/-- The requester is the region's owner. -/
def State.ownsShare (s : State) (p : Port) : Bool := regionEn s.shr && s.shrOwner == p

/-- A row-table entry names the shared region: some row of it may lie there. -/
def RowEnt.names (x : RowEnt) (w : Word) : Bool :=
  x.valid && decide (32 * x.base32 < (regionLimit w + 1) * 2 ^ 26) &&
    decide (regionBase w * 2 ^ 26 < 32 * x.base32 + x.srcSpan * 32 * x.stride32 + x.rowLen)

/-- A tenant whose row table names the shared region runs. -/
def State.shareBusy (s : State) : Bool :=
  s.deep.any fun d => d.rows.any fun e => e.2.names s.shr && !s.isStopped e.2.tenant

/-- SHARE declare (R242). -/
def execShareDeclare (p : Port) (s : State) : Host.Outcome State Fault Refusal :=
  .next (s.share p 0 fun c =>
    let range := c.field 2 0 32
    let w : Word := BitVec.ofNat 32 (2 ^ 31 + p.val * 2 ^ 28 + range)
    if regionEn s.shr then s.shareNo p 1
    else if !regionInside w (s.tregOf p) || decide (regionLimit w < regionBase w) then s.shareNo p 2
    else s.shareYes p w)

/-- SHARE lock (R242). -/
def execShareLock (p : Port) (s : State) : Host.Outcome State Fault Refusal :=
  .next (s.share p 1 fun _ => if s.ownsShare p then s.shareYes p (s.shr ||| 0x40000000) else s.shareNo p 1)

/-- SHARE unlock (R242). -/
def execShareUnlock (p : Port) (s : State) : Host.Outcome State Fault Refusal :=
  .next (s.share p 2 fun _ =>
    if !s.ownsShare p then s.shareNo p 1
    else if s.shareBusy then s.shareNo p 3
    else s.shareYes p (s.shr &&& 0xBFFFFFFF))

/-- SHARE withdraw (R242). -/
def execShareWithdraw (p : Port) (s : State) : Host.Outcome State Fault Refusal :=
  .next (s.share p 3 fun _ =>
    if !s.ownsShare p then s.shareNo p 1
    else if s.shrLocked then s.shareNo p 4
    else s.shareYes p (s.shr &&& 0x3FFFFFFF))

/-! ### CAPS (R345, R346) -/

/-- The capability block of a tenant. -/
def State.capsBlock (s : State) (t : Tenant) : List Byte :=
  let x := s.tenant t
  leBytes 2 1 ++ leBytes 2 0x0048 ++ [Config.stepping] ++ leBytes 1 s.grade.perCluster ++
    leBytes 1 (b2n s.memEcc + 2 * b2n s.grade.clamshell + 4 * b2n s.debugEnabled) ++ leBytes 1 s.memRate ++
    leBytes 2 1 ++ leBytes 2 1 ++ leBytes 4 s.boot.fw.toNat ++
    leBytes 1 t.val ++ leBytes 1 x.st.code ++ leBytes 2 (s.blockMask t) ++ leBytes 4 (s.clusterMask t) ++
    leBytes 4 (s.tregOf t).toNat ++ leBytes 4 (s.deepCap / 2 ^ 20) ++ leBytes 4 (s.shear t).tick.toNat ++
    List.replicate 28 0 ++ (if x.st = .unloaded then List.replicate 32 0 else x.parison) ++ x.abstract ++ x.patch ++
    List.replicate 96 0

/-- CAPS (R315, R345, R346). -/
def execCaps (p : Port) (s : State) : Host.Outcome State Fault Refusal :=
  .next (s.command p 0x0A [m64] fun c =>
    let a := (c.word 1).toNat
    if a % 8 ≠ 0 then s.finish p 1 else (s.hostStore p a (s.capsBlock p)).finish p 0)

/-! ### ATTEST (R482, R487, R488) -/

/-- An entry of the cullet list as 16 bytes (R465). -/
def Cullet.bytes (x : Cullet) : List Byte :=
  leBytes 8 x.loc ++ leBytes 4 x.boot ++ leBytes 2 0 ++ leBytes 1 x.source ++ leBytes 1 x.kind

/-- The words BOOT_CL0 to BOOT_CL31, and the part number. -/
def State.gradeBytes (s : State) : List Byte :=
  let g := s.grade.perCluster
  (List.range (Config.partLen g)).map (Config.partByte g) ++
    (List.range 32).flatMap fun c => leBytes 4 (s.bootRead (0x100 + 4 * c))

/-- The report's bytes before the public key. -/
def State.reportHead (s : State) (p : Port) (nonce : List Byte) : List Byte :=
  let x := s.tenant p
  [0x4B, 0x41, 0x54, 0x52] ++ leBytes 2 1 ++ leBytes 1 p.val ++ leBytes 1 s.fuses.lc ++ leBytes 2 s.grade.deviceId ++
    [Config.stepping] ++ leBytes 1 (b2n s.debugEnabled + 2 * b2n s.sec.keysOff + 4 * b2n s.pont.faulted) ++
    leBytes 4 s.boot.fw.toNat ++ leBytes 4 s.boot.svn ++ leBytes 4 s.fuses.minSvn ++ leBytes 2 s.cullet.length ++
    leBytes 2 s.fuses.tamperCnt ++ leBytes 4 (s.shear p).tick.toNat ++ nonce ++ s.boot.bodyDigest ++
    (if x.st = .unloaded then List.replicate 32 0 else x.parison) ++ x.abstract ++ x.patch ++
    sha3 (s.cullet.flatMap Cullet.bytes) ++ sha3 s.gradeBytes

/-- The whole report, signed with the identity key. -/
def State.report (s : State) (p : Port) (nonce : List Byte) : List Byte :=
  let body := s.reportHead p nonce ++ s.idPk
  body ++ (List.range 2420).map (Config.signByte (sha3 body)) ++ List.replicate 12 0

/-- ATTEST (R315, R482, R487): the nonce read from the host comes with the command; none where its read fails. -/
def execAttest (p : Port) (nonce : Option (List Byte)) (s : State) : Host.Outcome State Fault Refusal :=
  .next (s.command p 0x0B [m64, m64] fun c =>
    let src := (c.word 1).toNat
    let dst := (c.word 2).toNat
    if src % 8 ≠ 0 || dst % 8 ≠ 0 then s.finish p 1
    else if s.sec.keysOff then s.finish p 3
    else
      match nonce with
      | some n => if n.length = 32 then (s.hostStore p dst (s.report p n)).finish p 0 else s.finish p 4
      | none => s.finish p 4)

end Sys2Proof.Machine
end

