-- ==== Sys2Proof/Machine/InField.lean ====
section
/-!
DEFINITION. In-field test: the TEST commands, the scheduled steps, rotation onto spares (R470 to R472).
-/

namespace Sys2Proof.Machine

/-- A tenant's schedule. -/
def State.schedOf (s : State) (t : Tenant) : TestSched := Tab.get s.boot.sched {} t.val
/-- Change a schedule. -/
def State.modSched (s : State) (t : Tenant) (f : TestSched → TestSched) : State :=
  s.modBoot fun b => { b with sched := Tab.modify b.sched {} t.val f }

/-- The spares of a cluster (R468). -/
def State.sparesOf (s : State) (cl : Nat) : List Nat := Tab.get s.boot.spares [] cl

/-- A core is marked stale by the in-field test (R471, R472, R474). -/
def State.markStale (s : State) (k : Nat) : State :=
  (s.modE k fun e => { e with cr := { e.cr with stale := true } }).modBoot fun b => { b with staleCnt := cnt8 b.staleCnt }

/-- A physical core that an in-field test finds defective is culleted (R465, R471, R472). -/
def State.cullCore (s : State) (cl phys : Nat) : State :=
  (s.addCullet 3 3 (cl * 36 + phys)).modBoot fun b =>
    { b with defects := cnt8 b.defects, retired := b.retired ++ [cl * 36 + phys] }

/-- Logical core k moves onto the first spare of its cluster, which has one, and its core-mask bits with it (R18); the state
and the physical core it leaves. -/
def State.moveCore (s : State) (k : Nat) : State × Option Nat :=
  match s.sparesOf (k / 32) with
  | [] => (s, none)
  | new :: rest =>
    let old := s.physCore (k / 32) (k % 32)
    ((s.moveMasks (k / 32) old new).modBoot fun b => { b with
      remap := Tab.modify b.remap [] (k / 32) fun l => l.set (k % 32) new
      spares := Tab.put b.spares [] (k / 32) rest
      rotations := cnt16 b.rotations }, some old)

/-- A tested core joins the spares of its cluster, in ascending order. -/
def insertSpare (x : Nat) : List Nat → List Nat
  | [] => [x]
  | y :: ys => if x < y then x :: y :: ys else y :: insertSpare x ys

/-- Rotation of core k (R471): the copy succeeds or leaves the core stale, with no promise about its state; the core that it
leaves becomes a spare, or is culleted. -/
def State.rotateCore (s : State) (k : Nat) (crcOk defect : Bool) : State :=
  match s.moveCore k with
  | (_, none) => s
  | (s1, some old) =>
    let s2 := if crcOk then s1 else (s1.scramble k).markStale k
    if defect then s2.cullCore (k / 32) old
    else s2.modBoot fun b => { b with spares := Tab.modify b.spares [] (k / 32) (insertSpare old) }

/-- A preserving slice on core k finds a defect, or none (R472). -/
def State.sliceCore (s : State) (k : Nat) (defect : Bool) : State :=
  if !defect then s
  else
    ((s.cullCore (k / 32) (s.physCore (k / 32) (k % 32))).markStale k).modBoot fun b =>
      { b with rotateDue := b.rotateDue ++ [k] }

/-- Before the write pass of a LOAD, cores that wait for it are rotated onto spares; with none, a device fault is raised
(R472, R501). -/
def State.rotateForLoad (s : State) (t : Tenant) : State :=
  let due := (s.coresOf t).filter s.boot.rotateDue.contains
  let go (s : State) (k : Nat) : State :=
    match s.moveCore k with
    | (s1, some _) => s1
    | (_, none) => s.reportFault (k / 32) (k / 32) 0x0F (BitVec.ofNat 40 (k % 32 * 2 ^ 35))
  (due.foldl go s).modBoot fun b => { b with rotateDue := b.rotateDue.filter fun k => !due.contains k }

/-! ### The TEST command (R470) -/

/-- DETAIL of a TEST completion. -/
def testDetail (tested added : Nat) : Option Word :=
  some (BitVec.ofNat 32 (min 65535 tested * 2 ^ 16 + min 255 added * 256 + b2n (decide (0 < added))))

/-- A TEST command with an action: another action is another row's. A Faulted device takes none (R499). -/
def State.test (s : State) (p : Port) (action : Nat) (f : Cmd → State) : State :=
  s.command p 0x0E [0xFFFF000F] fun c =>
    if c.field 1 0 2 ≠ action then s else if s.pont.faulted then s.finish p 2 else f c

/-- TEST action 0 (R470): cores tested and entries added by the tenant's in-field steps since reset. -/
def execTestReport (p : Port) (s : State) : Host.Outcome State Fault Refusal :=
  .next (s.test p 0 fun c =>
    (s.acceptCmd p).finishAsync (c.async p) 0 (testDetail (s.schedOf p).tested (s.schedOf p).added))

/-- TEST action 1 (R470): INTERVAL 0 stops the schedule. -/
def execTestSchedule (p : Port) (s : State) : Host.Outcome State Fault Refusal :=
  .next (s.test p 1 fun c =>
    let s1 := (s.acceptCmd p).modSched p fun x =>
      { x with interval := c.field 1 16 16, hold := (c.word 1).getLsbD 3, rotate := (c.word 1).getLsbD 2, since := s.now }
    s1.finishAsync (c.async p) 0 (testDetail 0 0))

/-- A test of the tenant's cores is accepted and completes later. -/
def State.queueTest (s : State) (p : Port) (c : Cmd) (destructive : Bool) : State :=
  let j : TestJob := ⟨c.async p, p, destructive, (c.word 1).getLsbD 3⟩
  let s1 := s.acceptCmd p
  { s1 with tests := s1.tests ++ [j] }

/-- TEST action 2 (R434, R470): one preserving pass. -/
def execTestPreservingPass (p : Port) (s : State) : Host.Outcome State Fault Refusal :=
  .next (s.test p 2 fun c => if s.inNap then s.finish p 2 else s.queueTest p c false)

/-- TEST action 3 (R434, R470): the tenant must be Stopped or Unloaded. -/
def execTestDestructive (p : Port) (s : State) : Host.Outcome State Fault Refusal :=
  .next (s.test p 3 fun c => if s.inNap || !s.isStopped p then s.finish p 2 else s.queueTest p c true)

/-! ### Holds of the MP (R471) -/

/-- The MP may test a tenant's cores now: it is not Running, or its fabric is held. -/
def State.testable (s : State) (t : Tenant) : Bool := s.isStopped t || (s.shear t).state == .held
/-- The MP asks for a fabric hold of the tenant, if none is asked for. -/
def State.askHold (s : State) (t : Tenant) : State :=
  if (s.shear t).hold == .running && (s.tenant t).st == .running then
    (s.requestHold t).modSched t fun x => { x with held := true }
  else s
/-- The MP releases the hold it asked for. -/
def State.dropHold (s : State) (t : Tenant) : State :=
  if (s.schedOf t).held then (s.releaseHold t).modSched t fun x => { x with held := false } else s

/-- The cores of a list of defects that belong to the tenant. -/
def State.defectsOf (s : State) (t : Tenant) (ds : List CoreId) : List Nat :=
  (s.coresOf t).filter fun k => ds.any fun c => c.key == k

/-- A destructive test of a core leaves its memories zero (R462); a defective one is culleted and replaced by a spare (R467,
R470). -/
def State.destroyCore (s : State) (ds : List Nat) (k : Nat) : State :=
  let s1 := s.zeroPart k
  if !ds.contains k then s1
  else
    let s2 := s1.cullCore (k / 32) (s.physCore (k / 32) (k % 32))
    match s2.moveCore k with
    | (s3, some _) => s3
    | (_, none) => s2.reportFault (k / 32) (k / 32) 0x0F (BitVec.ofNat 40 (k % 32 * 2 ^ 35))

/-- A destructive test of a cluster leaves its shared memory and its core-mask table zero (R462). -/
def State.destroyCluster (s : State) (c : Nat) : State :=
  { s.zeroPart (1024 + c) with masks := s.masks.filter fun e => e.1 / 65536 != c }

/-- The end of a test: every core of the tenant has been tested. -/
def State.endTest (s : State) (j : TestJob) (ds : List Nat) : State :=
  let t := j.tenant
  let ks := s.coresOf t
  let s1 := if j.destructive then
      ((s.clustersOf t).foldl State.destroyCluster (ks.foldl (fun s k => s.destroyCore ds k) s)).unload t
    else ds.foldl (fun s k => s.sliceCore k true) s
  let s2 := (s1.modBoot fun b => { b with tested := Tab.modifyAll b.tested 0 ks fun _ _ => s.now }).dropHold t
  { s2 with tests := s2.tests.erase j }.finishAsync j.who 0
    (testDetail ks.length (s1.boot.newEntries - s.boot.newEntries))

/-- TEST_COMPLETION (R470, R471): the oldest test of the tenant ends. A preserving pass of a running tenant waits for a
fabric hold, which the MP asks for if the command allows it. -/
def execTestCompletion (t : Tenant) (defects : List CoreId) (s : State) : Host.Outcome State Fault Refusal :=
  match s.tests.find? fun j => j.tenant == t with
  | none => .next s
  | some j =>
    if j.destructive then
      (if s.isStopped t then .next (s.endTest j (s.defectsOf t defects)) else .next s)
    else if s.testable t then .next (s.endTest j (s.defectsOf t defects))
    else .next (if j.hold then s.askHold t else s)

/-! ### In-field steps (R471) -/

/-- The tenant's core that has gone longest since its last test. -/
def State.longestUntested (s : State) (t : Tenant) : Option Nat :=
  (s.coresOf t).foldl (fun m k =>
    match m with
    | none => some k
    | some j => if Tab.get s.boot.tested 0 k < Tab.get s.boot.tested 0 j then some k else m) none

/-- The engine of a core is idle. -/
def State.engineIdle (s : State) (k : Nat) : Bool :=
  match (s.core k).e.st with | .idle => true | .stopped => true | .faulted => true | _ => false

/-- The step on a core: rotated where that is allowed and there is a spare, else sliced. -/
def State.stepCore (s : State) (t : Tenant) (k : Nat) (crcOk defect : Bool) : State :=
  let s1 := if (s.schedOf t).rotate && !(s.sparesOf (k / 32)).isEmpty then s.rotateCore k crcOk defect
    else s.sliceCore k defect
  let s2 := (s1.modBoot fun b => { b with tested := Tab.put b.tested 0 k s.now }).dropHold t
  s2.modSched t fun x =>
    { x with since := s.now, tested := x.tested + 1, added := x.added + (s1.boot.newEntries - s.boot.newEntries) }

/-- IN_FIELD_STEP (R471, R472): INTERVAL seconds after the last step, the MP tests the tenant's core that has gone longest
without. A Running tenant is tested only under a fabric hold, which the MP asks for if HOLD is 1. crcOk and defect tell
whether the copy of a rotation verifies and whether the core tested is defective. -/
def execInFieldStep (t : Tenant) (crcOk defect : Bool) (s : State) : Host.Outcome State Fault Refusal :=
  let x := s.schedOf t
  if !s.boot.ready || x.interval = 0 || s.inNap then .next s
  else
    let s1 := s.passTo (x.since + x.interval * 250000000)
    if !s1.testable t then .next (if x.hold then s1.askHold t else s)
    else if !s.isStopped t && !x.hold then .next s
    else
      match s1.longestUntested t with
      | none => .next s1
      | some k => if s1.engineIdle k then .next (s1.stepCore t k crcOk defect) else .next s1

end Sys2Proof.Machine
end

