-- ==== Sys2Proof/Machine/Ports.lean ====
section
/-!
DEFINITION. The commands of station PORTS: the CSI-2 receivers, the Kojan Event Links, the release of ingress events,
encoders, egress matching, decoders, pulses, PWM, pins, and the general timers (R379 to R400, R417 to R422).
-/

namespace Sys2Proof.Machine

/-! ### Ingress queues (R379) -/

/-- Depth of an ingress queue. -/
def inDepth (c : Nat) : Nat := if c < 2 then 4096 else if c < 10 then 1024 else 64

/-- The Running tenant that a channel's input goes to. -/
def State.inTenant (s : State) (c : Nat) : Option Tenant :=
  match s.ownerTenant (ownIn c) with
  | some t => if (s.tenant t).st == .running then some t else none
  | none => none

/-- A drop at a channel: counted, and marked on the queue's tail, or on the next event of an empty queue. -/
def State.inDrop (s : State) (c : Nat) : State :=
  let q := Tab.get s.pin [] c
  { s with pin := Tab.put s.pin [] c (markTailLook q) }.modIo fun x => { x with
    chan := Tab.modify x.chan {} c fun y => { y with drop := cnt16 y.drop, gapNext := y.gapNext || q.isEmpty } }

/-- An event of a channel enters its queue; the Bool tells whether it was accepted. The tag is given on release. -/
def State.ingress (s : State) (c idx : Nat) (pay : Byte) (gap : Bool) : State × Bool :=
  let q := Tab.get s.pin [] c
  match s.inTenant c with
  | none => (s.inDrop c, false)
  | some t =>
    if inDepth c ≤ q.length then (s.inDrop c, false)
    else
      let ev : LookEv :=
        { src := BitVec.ofNat 24 ((32 + c) * 2 ^ 18 + idx), pay := pay, tag := 0,
          gap := gap || (Tab.get s.io.chan {} c).gapNext, tenant := t }
      ({ s with pin := Tab.put s.pin [] c (q ++ [ev]) }.modIo fun x => { x with
        chan := Tab.modify x.chan {} c fun y => { y with gapNext := false } }, true)

/-! ### CSI-2 receivers (R381 to R384) -/

/-- A header is taken in (R382): the state, and whether its packet goes on. vcOnly: a short packet has no data type of
its own. -/
def State.csiHeader (s : State) (n : Fin 2) (h : CsiHeader) (short : Bool) : State × Bool :=
  let c := s.io.csi[n.val]
  if h.eccBad then (s.modCsi n fun c => { c with eccUncorr := cnt8 c.eccUncorr }, false)
  else
    let s1 := if h.eccCorrected then s.modCsi n fun c => { c with eccCorr := cnt8 c.eccCorr } else s
    if h.vc.toNat ≠ c.vc ∨ (!short ∧ h.dt.toNat ≠ c.dt) then (s1.modCsi n fun c => { c with discard := cnt8 c.discard }, false)
    else if !short && !h.crcOk then (s1.modCsi n fun c => { c with crc := cnt8 c.crc }, false)
    else (s1, true)

/-- Fields of CSI_EXT0 and CSI_EXT1. -/
def Csi.f0 (c : Csi) (pos w : Nat) : Nat := bitsOf c.ext0.toNat pos w
def Csi.f1 (c : Csi) (pos w : Nat) : Nat := bitsOf c.ext1.toNat pos w
/-- WORD in bytes. -/
def Csi.wordBytes (c : Csi) : Nat := match c.f0 30 2 with | 0 => 2 | 1 => 4 | _ => 8

/-- Whole pieces of n bytes. -/
def pieces (n : Nat) (bs : List Byte) : List (List Byte) :=
  (List.range (bs.length / n)).map fun i => (bs.drop (i * n)).take n

/-- The field extractor on one word (R383): skipped, discarded, or an index and a payload. -/
def Csi.extract (c : Csi) (w : Nat) : Option (Option (Nat × Byte)) :=
  if bitsOf w (c.f0 24 6) (c.f0 20 4) ≠ c.f0 12 8 ∧ c.f0 20 4 ≠ 0 then none
  else
    let x := bitsOf w (c.f0 6 6) (c.f1 27 5) >>> c.f1 10 4
    let y := bitsOf w (c.f0 0 6) (c.f1 22 5) >>> c.f1 6 4
    let pEn := bitOf (c.f1 15 1) 0
    let pMode := bitOf (c.f1 14 1) 0
    let p := bitOf w (c.f1 16 6)
    let i := y * 2 ^ c.f1 0 5 + x
    let idx := if pEn && !pMode then 2 * i + b2n p else i
    let pay : Byte := if pEn && pMode && !p then 0xFF else 1
    if 2 ^ c.f1 0 5 ≤ x ∨ 2 ^ 18 ≤ idx then some none else some (some (idx, pay))

/-- One word of an event-mode payload. -/
def State.csiWord (s : State) (n : Fin 2) (w : Nat) : State :=
  match (s.io.csi[n.val]).extract w with
  | none => s
  | some none => s.modCsi n fun c => { c with discard := cnt8 c.discard }
  | some (some (idx, pay)) => (s.ingress n.val idx pay false).1

/-- CSI_EVENT_PACKET (R382, R383): a long packet reaches a receiver in event mode. A part of a word at its end is no
word. -/
def execCsiEventPacket (rx : Fin 2) (h : CsiHeader) (payload : List Byte) (s : State) :
    Host.Outcome State Fault Refusal :=
  let c := s.io.csi[rx.val]
  if !c.en || c.frameMode || !s.fabricRuns then .next s
  else
    let (s1, ok) := s.csiHeader rx h false
    .next (if ok then (pieces c.wordBytes payload).foldl (fun s w => s.csiWord rx (leNat w)) s1 else s1)

/-- The pixels of a RAW8 or RAW10 line. A RAW10 group is four bytes of upper bits and one of the four low pairs. -/
def Csi.pixels (c : Csi) (bs : List Byte) : List Nat :=
  if c.dt = 0x2A then bs.map (·.toNat)
  else (pieces 5 bs).flatMap fun g =>
    (List.range 4).map fun i => (g.getD i 0).toNat * 4 + bitsOf (g.getD 4 0).toNat (2 * i) 2

/-- The 8-bit value of a cell in a row of BIN lines: the mean of its pixels, and for RAW10 its upper eight bits; none if
a line ends before it. -/
def Csi.cell (c : Csi) (rows : List (List Nat)) (col : Nat) : Option Nat :=
  let px := rows.flatMap fun r => (r.drop (col * c.bin)).take c.bin
  if px.length < c.bin * c.bin then none
  else
    let mean := px.foldl (· + ·) 0 / (c.bin * c.bin)
    some (if c.dt = 0x2A then mean else mean / 4)

/-- The temporal-difference encoder on one cell (R384). -/
def State.csiCell (s : State) (n : Fin 2) (cell v : Nat) : State :=
  let c := s.io.csi[n.val]
  let code := v / 2 ^ c.step
  let q := (Tab.get c.refs 0 cell).toNat
  let setRef (s : State) (x : Nat) : State :=
    s.modCsi n fun c => { c with refs := Tab.put c.refs 0 cell (BitVec.ofNat 8 x) }
  if c.priming then setRef s code
  else
    let d := clampInt (-127) 127 ((code : Int) - q)
    if d = 0 then s
    else
      let (s1, ok) := s.ingress n.val cell (BitVec.ofInt 8 d) false
      if ok then setRef s1 ((q + d).toNat) else s1

/-- A row of cells is complete: its cells are encoded in order, unless one of its lines was discarded (R382). -/
def State.csiRow (s : State) (n : Fin 2) : State :=
  let c := s.io.csi[n.val]
  let cols := c.width / c.bin
  let base := (c.line / c.bin - 1) * cols
  let s1 :=
    if c.tainted then s
    else (List.range cols).foldl (fun s j =>
      match c.cell c.rows j with | some v => s.csiCell n (base + j) v | none => s) s
  s1.modCsi n fun c => { c with rows := [], tainted := false }

/-- A line of the open frame is received, or discarded; lines past HEIGHT are ignored. -/
def State.csiLine (s : State) (n : Fin 2) (pixels : Option (List Nat)) : State :=
  let c := s.io.csi[n.val]
  if !c.inFrame || c.height ≤ c.line then s
  else
    let s1 := s.modCsi n fun c => { c with
      line := c.line + 1
      rows := c.rows ++ [pixels.getD []]
      tainted := c.tainted || pixels.isNone }
    if (c.line + 1) % c.bin = 0 then s1.csiRow n else s1

/-- The packet is a line of the receiver's frame as far as its header tells. -/
def Csi.mine (c : Csi) (h : CsiHeader) : Bool := h.eccBad || (h.vc.toNat == c.vc && h.dt.toNat == c.dt)

/-- CSI_FRAME_PACKET (R382, R384): a long packet reaches a receiver in frame mode. -/
def execCsiFramePacket (rx : Fin 2) (h : CsiHeader) (payload : List Byte) (s : State) :
    Host.Outcome State Fault Refusal :=
  let c := s.io.csi[rx.val]
  if !c.en || !c.frameMode || !s.fabricRuns then .next s
  else
    let (s1, ok) := s.csiHeader rx h false
    .next (if ok then s1.csiLine rx (some (c.pixels payload)) else if c.mine h then s1.csiLine rx none else s1)

/-- CSI_FRAME_START (R382): the open frame, if any, ends without further events; a frame opens. -/
def execCsiFrameStart (rx : Fin 2) (h : CsiHeader) (s : State) : Host.Outcome State Fault Refusal :=
  if !(s.io.csi[rx.val]).en || !s.fabricRuns then .next s
  else
    let (s1, ok) := s.csiHeader rx h true
    .next (if ok then s1.modCsi rx fun c => { c with
        inFrame := true, line := 0, rows := [], tainted := false, priming := c.priming && !c.inFrame } else s1)

/-- CSI_FRAME_END (R382, R404): the open frame is complete. -/
def execCsiFrameEnd (rx : Fin 2) (h : CsiHeader) (s : State) : Host.Outcome State Fault Refusal :=
  if !(s.io.csi[rx.val]).en || !s.fabricRuns then .next s
  else
    let (s1, ok) := s.csiHeader rx h true
    .next (if ok && (s.io.csi[rx.val]).inFrame then s1.modCsi rx fun c => { c with
        inFrame := false, line := 0, rows := [], tainted := false, priming := false, frames := cnt32 c.frames } else s1)

/-! ### Kojan Event Links (R385 to R390) -/

/-- A link. -/
def State.kel (s : State) (n : Fin 8) : Kel := s.io.kel[n.val]

/-- KEL_LOCKED (R389): 128 error-free ordered sets have been received in TRAIN. -/
def execKelLocked (n : Fin 8) (s : State) : Host.Outcome State Fault Refusal :=
  .next (if (s.kel n).st = 1 && s.fabricRuns then s.modKel n fun k => { k with st := 2 } else s)

/-- KEL_UP (R387, R389): 16 ACKs, an IDLE or a SOF have been received in LOCKED: frame numbers start at 0. -/
def execKelUp (n : Fin 8) (s : State) : Host.Outcome State Fault Refusal :=
  .next (if (s.kel n).st = 2 && s.fabricRuns then s.modKel n fun k => { k with st := 3, rxSeq := 0, txSeq := 0 } else s)

/-- KEL_TRAIN_TIMEOUT (R389): 1 ms after TRAIN began, the link is not UP. -/
def execKelTrainTimeout (n : Fin 8) (s : State) : Host.Outcome State Fault Refusal :=
  let k := s.kel n
  if (k.st = 1 ∨ k.st = 2) ∧ s.fabricRuns then
    let s1 := s.passTo (k.trainAt + 250000)
    .next (s1.modKel n fun k => { k with st := 1, trainAt := s1.now, retrains := cnt16 k.retrains })
  else .next s

/-- KEL_LINK_FAIL (R389): codeErrors code or disparity errors, or the loss of the comma, fail an UP link. -/
def execKelLinkFail (n : Fin 8) (codeErrors : Fin 256) (s : State) : Host.Outcome State Fault Refusal :=
  .next (if (s.kel n).st = 3 && s.fabricRuns then
    (s.modKel n fun k => { k with codeErr := cnt8 k.codeErr codeErrors.val }).kelFall n else s)

/-- The bytes a frame's CRC covers (R387). -/
def frameBytes (f : KelFrame) : List Byte :=
  f.hdr :: f.seq :: f.count :: f.items.flatMap fun w => leBytes 4 w.toNat
/-- TYPE of a frame. -/
def frameType (f : KelFrame) : Nat := bitsOf f.hdr.toNat 4 4

/-- The counter that a frame's discard increments (R388, R405): 1 CODE, 2 CRC, 3 FORMAT; none: the frame is accepted. -/
def frameFault (f : KelFrame) : Option Nat :=
  if f.codeError then some 1
  else if f.aborted || f.eofBad then some 3
  else if crc16 (frameBytes f) ≠ f.crc.toNat then some 2
  else if ((frameType f) ≠ 1 ∧ (frameType f) ≠ 2) ∨ bitsOf f.hdr.toNat 0 3 ≠ 0 ∨ f.count = 0 ∨ 16 < f.count.toNat ∨
      f.items.length ≠ f.count.toNat ∨ ((frameType f) = 2 ∧ f.items.any fun w => bitsOf w.toNat 16 10 ≠ 0) then some 3
  else none

/-- A frame is discarded. -/
def State.kelDiscard (s : State) (n : Fin 8) (kind : Nat) : State :=
  (s.gapNext (2 + n.val)).modKel n fun k => match kind with
    | 1 => { k with codeErr := cnt8 k.codeErr }
    | 2 => { k with crcErr := cnt8 k.crcErr }
    | _ => { k with fmtErr := cnt8 k.fmtErr }

/-- A frame is accepted: a SEQ other than the expected one is counted and marked (R388). -/
def State.kelAccept (s : State) (n : Fin 8) (f : KelFrame) : State :=
  let s1 := if f.seq.toNat = (s.kel n).rxSeq then s
    else (s.gapNext (2 + n.val)).modKel n fun k => { k with seqErr := cnt8 k.seqErr }
  s1.modKel n fun k => { k with rxSeq := (f.seq.toNat + 1) % 256, rxFrames := cnt32 k.rxFrames }

/-- Receive a frame of a type on a link that is UP; take is what its items do. -/
def State.kelReceive (s : State) (n : Fin 8) (f : KelFrame) (type : Nat) (take : State → State) : State :=
  if (s.kel n).st ≠ 3 ∨ !s.fabricRuns then s
  else match frameFault f with
    | some kind => s.kelDiscard n kind
    | none => if (frameType f) = type then take (s.kelAccept n f) else s

/-- KEL_EVENTS_FRAME (R46, R387, R388): the events of a frame enter the link's queue, the first marked if the frame
carries GAP. -/
def execKelEventsFrame (n : Fin 8) (f : KelFrame) (s : State) : Host.Outcome State Fault Refusal :=
  let take (s : State) : State :=
    (f.items.zipIdx).foldl (fun s e =>
      (s.ingress (2 + n.val) (bitsOf e.1.toNat 8 18) (e.1.setWidth 8) (f.hdr.getLsbD 3 && e.2 == 0)).1) s
  .next (s.kelReceive n f 1 take)

/-- A VALUE item reaches the encoder channel it names, or none (R388). -/
def State.kelValue (s : State) (n : Fin 8) (w : Word) : State :=
  let k := bitsOf w.toNat 26 6
  let e := s.enc k
  let o := s.owner (ownIn (2 + n.val))
  if o.isSome ∧ s.owner (ownEnc k) = o ∧ e.src = 1 ∧ e.link = n.val then
    s.modEnc k fun e => { e with linkVal := bitsOf w.toNat 0 16 }
  else s.modKel n fun k => { k with fmtErr := cnt8 k.fmtErr }

/-- KEL_VALUE_FRAME (R388). -/
def execKelValueFrame (n : Fin 8) (f : KelFrame) (s : State) : Host.Outcome State Fault Refusal :=
  .next (s.kelReceive n f 2 fun s => f.items.foldl (fun s w => s.kelValue n w) s)

/-- A frame with its CRC (R387). -/
def makeFrame (type : Nat) (gap : Bool) (seq : Nat) (items : List Word) : KelFrame :=
  let f : KelFrame :=
    { hdr := BitVec.ofNat 8 (type * 16 + b2n gap * 8), seq := BitVec.ofNat 8 seq, count := BitVec.ofNat 8 items.length,
      items := items, crc := 0 }
  { f with crc := BitVec.ofNat 16 (crc16 (frameBytes f)) }

/-- Steps of 4 ns that a frame of n items takes: 8 ns for each of its 7 + 4n characters (R387, R390). -/
def frameSteps (n : Nat) : Nat := 2 * (7 + 4 * n)

/-- A frame is sent, or suppressed and counted while the output gate is closed: one for a frame of events, one for each
value (R400). -/
def State.kelSend (s : State) (n : Fin 8) (type : Nat) (gap : Bool) (items : List Word) : State :=
  if !s.gateOpen then s.countGated (if type = 1 then 1 else items.length)
  else s.modKel n fun k => { k with
    sentBy := max s.now k.sentBy + frameSteps items.length
    aborted := false
    last := some (makeFrame type gap k.txSeq items), txSeq := (k.txSeq + 1) % 256, txFrames := cnt32 k.txFrames }

/-- KEL_TX_FRAME (R387, R390, R400): up to 16 events that wait, else up to 16 values, leave as a frame. -/
def execKelTxFrame (n : Fin 8) (s : State) : Host.Outcome State Fault Refusal :=
  let k := s.kel n
  if k.st ≠ 3 ∨ !s.fabricRuns then .next s
  else if !k.txQ.isEmpty then
    let es := k.txQ.take 16
    .next ((s.modKel n fun k => { k with txQ := k.txQ.drop 16 }).kelSend n 1 (es.any (·.gap))
      (es.map fun e => e.src ++ e.pay))
  else if !k.valQ.isEmpty then
    .next ((s.modKel n fun k => { k with valQ := k.valQ.drop 16 }).kelSend n 2 false (k.valQ.take 16))
  else .next s

/-- KEL_SKIP_SEND (R386, R389, R400): a SKIP goes out between frames, whether or not the gate is open. -/
def execKelSkipSend (n : Fin 8) (s : State) : Host.Outcome State Fault Refusal :=
  .next (if (s.kel n).st = 3 && s.fabricRuns then s.modKel n fun k => { k with skips := k.skips + 1 } else s)

/-! ### Encoders and release (R380, R393 to R396) -/

/-- An encoder's event enters its bank's queue. -/
def State.encEmit (s : State) (k : Nat) (pay : Byte) : State × Bool :=
  s.ingress (10 + (s.enc k).bank) k pay false

/-- The value of an encoder's source (R393). -/
def State.encValue (s : State) (k : Nat) : Nat :=
  let e := s.enc k
  match e.src with | 0 => bitsOf e.val.toNat 0 16 | 1 => e.linkVal | _ => e.edges

/-- Rate mode (R396). -/
def State.encRate (s : State) (k : Nat) : State :=
  let e := s.enc k
  let acc := e.state.toNat + s.encValue k * e.gain
  let n := acc / 256
  let pay := if 255 < n then 255 else n
  let s1 := if pay = 0 then s else (s.encEmit k (BitVec.ofNat 8 pay)).1
  s1.modEnc k fun e => { e with
    state := BitVec.ofNat 24 (if pay = 0 then acc else acc % 256), sat := e.sat || decide (255 < n) }

/-- Delta mode (R396). -/
def State.encDelta (s : State) (k : Nat) : State :=
  let e := s.enc k
  let c := (BitVec.ofNat 16 (s.encValue k)).toInt / (2 ^ e.step : Int)
  let q := (e.state.setWidth 16).toInt
  let d := clampInt (-127) 127 (c - q)
  if d = 0 then s
  else
    let (s1, ok) := s.encEmit k (BitVec.ofInt 8 d)
    if ok then s1.modEnc k fun e => { e with state := (BitVec.ofInt 16 (q + d)).setWidth 24 } else s1

/-- Count mode (R396). -/
def State.encCount (s : State) (k : Nat) : State :=
  let e := s.enc k
  let left := bitsOf e.val.toNat 16 16
  let s1 := if left = 0 then s else (s.encEmit k (e.val.setWidth 8)).1
  s1.modEnc k fun e => { e with
    val := if left = 0 then e.val else e.val - 0x10000, done := e.done || decide (left ≤ 1) }

/-- An encoder is evaluated (R395, R396); its edge count starts again (R393). -/
def State.encEvaluate (s : State) (k : Nat) : State :=
  let e := s.enc k
  let s1 := match e.mode with | 0 => s.encRate k | 1 => s.encDelta k | _ => s.encCount k
  if e.src = 2 then s1.modEnc k fun e => { e with edges := 0 } else s1

/-- PORTS_EMIT_OPEN (R214, R380, R395): PORTS sees the tenant's emit phase open: it evaluates the tenant's encoders and
notes what its queues hold. -/
def execPortsEmitOpen (t : Tenant) (s : State) : Host.Outcome State Fault Refusal :=
  if !(s.shear t).openPorts then .next s
  else
    let mine := (List.range 64).filter fun k => s.owner (ownEnc k) == some t.val && (s.enc k).en
    let s1 := mine.foldl State.encEvaluate s
    let chans := (List.range 16).filter fun c => s1.owner (ownIn c) == some t.val
    .next ({ s1 with
      pinNoted := Tab.modifyAll s1.pinNoted 0 chans fun c _ => (Tab.get s1.pin [] c).length }.modShear t fun x =>
        { x with openPorts := false })

/-- PORTS_RELEASE (R42, R380): one noted event, of the channels in turn, is released into the lookup pipeline with the
tag of its tenant's tick. -/
def execPortsRelease (s : State) : Host.Outcome State Fault Refusal :=
  match nextInTurn 16 s.io.inTurn fun c => decide (0 < Tab.get s.pinNoted 0 c) && !(Tab.get s.pin [] c).isEmpty with
  | none => .next s
  | some c =>
    match Tab.get s.pin [] c with
    | [] => .next s
    | e :: es =>
      let s1 := { s with pin := Tab.put s.pin [] c es, pinNoted := Tab.modify s.pinNoted 0 c (· - 1) }
      let s2 := s1.modIo fun x => { x with
        inTurn := (c + 1) % 16, chan := Tab.modify x.chan {} c fun y => { y with events := cnt32 y.events } }
      .next (s2.modCane stPorts fun x => { x with lookQ := x.lookQ ++ [{ e with tag := (s.shear e.tenant).tag }] })

/-! ### Egress and decoders (R391, R392, R397) -/

/-- A decoder's output within its limits. -/
def Dec.clamped (d : Dec) (x : Int) : BitVec 16 := BitVec.ofInt 16 (clampInt d.min d.max x)

/-- A matched event reaches a decoder (R397). -/
def Dec.event (d : Dec) (e : WireEv) : Dec :=
  if !d.en then d
  else
    let d1 := { d with gap := d.gap || e.gap }
    match d.mode with
    | 0 => { d1 with buckets := Tab.modify d.buckets 0 e.tag.toNat (· + e.pay.toNat) }
    | 3 => { d1 with cnt := cnt32 d.cnt, sum := cnt32 d.sum e.pay.toNat }
    | _ => { d1 with out := d.clamped (d.out.toInt + e.pay.toInt * d.gainInt / (2 ^ d.shift : Int)) }

/-- Something for a link's transmitter: dropped and counted while the link is not UP (R390). -/
def State.toLink (s : State) (n : Fin 8) (f : Kel → Kel) : State :=
  if (s.kel n).st = 3 then s.modKel n f else s.egressDrop (s.owner (ownIn (2 + n.val))) 1

/-- A pulse starts, or starts again (R392); the gate suppresses it (R400). -/
def State.pulse (s : State) (n : Nat) : State :=
  if !s.gateOpen then s.countGated 1
  else s.modIo fun x => { x with pulseEnd := Tab.put x.pulseEnd none n (some (s.now + Tab.get x.width 1 n)) }

/-- A matching entry receives its copy. -/
def State.egressCopy (s : State) (x : EmEnt) (e : WireEv) : State :=
  match x.kind with
  | 0 => s.modDec x.target fun d => d.event e
  | 1 => s.toLink (Fin.ofNat 8 x.target) fun k => { k with txQ := k.txQ ++ [e] }
  | _ => s.pulse x.target

/-- The entries that match an event of a tenant, in order. -/
def State.matches (s : State) (t : Tenant) (e : WireEv) : List EmEnt :=
  ((List.range 128).map s.em).filter fun x => x.valid && x.tenant == t && x.group == e.grp

/-- EGRESS_MATCH (R391): PORTS takes one event from the egress queues, the tenants in turn, and copies it to every target
that matches. -/
def execEgressMatch (s : State) : Host.Outcome State Fault Refusal :=
  if !s.fabricRuns then .next s
  else match nextInTurn 4 s.io.egTurn fun t => !(Tab.get s.egress [] t).isEmpty with
  | none => .next s
  | some n =>
    match Tab.get s.egress [] n with
    | [] => .next s
    | e :: es =>
      let t : Tenant := Fin.ofNat 4 n
      let s1 := { s with egress := Tab.put s.egress [] n es }.modIo fun x => { x with egTurn := (n + 1) % 4 }
      match s1.matches t e with
      | [] => .next (s1.modIo fun x => { x with unmatched := cnt16 x.unmatched })
      | xs => .next (xs.foldl (fun s x => s.egressCopy x e) s1)

/-- Tick tag i ticks before a tag. -/
def tagBack (tag : BitVec 4) (i : Nat) : Nat := (tag.toNat + 16 - i % 16) % 16

/-- The edge of a tick with a tag at a decoder (R397): OUT of a windowed rate, and the oldest bucket cleared. -/
def Dec.edge (d : Dec) (tag : BitVec 4) : Dec :=
  if !d.en || d.mode != 0 then d
  else
    let sum := (List.range d.win).foldl (fun n i => n + Tab.get d.buckets 0 (tagBack tag (i + 1))) 0
    { d with
      out := d.clamped ((sum : Int) * d.gainInt / (2 ^ d.shift : Int))
      buckets := Tab.put d.buckets 0 (tagBack tag d.win) 0 }

/-- The VALUE item of a decoder (R387, R397). -/
def Dec.item (d : Dec) : Word := BitVec.ofNat 6 d.outChan ++ 0#10 ++ d.out

/-- PORTS_EDGE (R397): PORTS sees an edge of the tenant: its decoders compute, in order, and those with LINK_EN send
OUT. -/
def execPortsEdge (t : Tenant) (s : State) : Host.Outcome State Fault Refusal :=
  if !(s.shear t).edgePorts then .next s
  else
    let mine := (List.range 64).filter fun k => s.owner (ownDec k) == some t.val && (s.dec k).en
    let one (s : State) (k : Nat) : State :=
      let s1 := s.modDec k fun d => d.edge (s.shear t).tag
      let d := s1.dec k
      if d.linkEn then s1.toLink d.link fun x => { x with valQ := x.valQ ++ [d.item] } else s1
    .next ((mine.foldl one s).modShear t fun x => { x with edgePorts := false })

/-- PULSE_END (R392): the running pulse of a pin ends. -/
def execPulseEnd (n : Fin 32) (s : State) : Host.Outcome State Fault Refusal :=
  match Tab.get s.io.pulseEnd none n.val with
  | some e =>
    if s.fabricRuns then
      .next ((s.passTo e).modIo fun x => { x with pulseEnd := Tab.put x.pulseEnd none n.val none })
    else .next s
  | none => .next s

/-- A decoder drives PWM periods. -/
def Dec.pwm (d : Dec) : Bool := d.en && d.mode == 2 && decide (2 ≤ d.period)
/-- The high time of a period, in units of 4 ns (R398). -/
def Dec.high (d : Dec) : Nat := d.out.toInt.toNat * d.period / 2 ^ 15

/-- PWM_PERIOD_START (R398, R400): the next period starts; the gate suppresses it. -/
def execPwmPeriodStart (k : Fin 64) (s : State) : Host.Outcome State Fault Refusal :=
  if !(s.dec k.val).pwm || !s.fabricRuns then .next s
  else
    let s1 := s.passTo (s.dec k.val).nextAt
    let at_ := s1.now
    let s2 := if s1.gateOpen then s1 else s1.countGated 1
    .next (s2.modDec k.val fun d => { d with
      nextAt := at_ + d.period
      highEnd := if s1.gateOpen && decide (0 < d.high) then some (at_ + d.high) else none })

/-- PWM_HIGH_END (R398): the high time of the period ends. -/
def execPwmHighEnd (k : Fin 64) (s : State) : Host.Outcome State Fault Refusal :=
  match (s.dec k.val).highEnd with
  | some e => if s.fabricRuns then .next ((s.passTo e).modDec k.val fun d => { d with highEnd := none }) else .next s
  | none => .next s

/-! ### Pins (R399, R418, R421, R438) -/

/-- Encoders that count the rising edges of a pin (R393). -/
def State.countEdge (s : State) (n : Nat) : State :=
  let o := s.owner (ownPin n)
  let ks := (List.range 64).filter fun k =>
    (s.enc k).src == 2 && (s.enc k).pin == n && s.owner (ownEnc k) == o && s.ownsPin o n 5
  ks.foldl (fun s k => s.modEnc k fun e => { e with edges := satAdd 65535 e.edges 1 }) s

/-- EVT of a pin source: 0 rising, 1 falling, 2 both (R418). -/
def pinEvt (level : Bool) (evt : Nat) : Bool := match evt with | 0 => level | 1 => !level | _ => true

/-- A pin's level changes as the ports domain sees it: edge counters, triggers and captures. -/
def State.pinChange (s : State) (n : Nat) (level : Bool) : State :=
  let s1 := if level then s.countEdge n else s
  if s.pinFunc n = 6 then s1.raiseSource (32 + n) (s.owner (ownPin n)) (pinEvt level) else s1

/-- The wake sources that a pin's change sets off (R438). -/
def State.pinWake (s : State) (n : Nat) (level : Bool) : State :=
  let s1 := if s.aon.wakeEdge.getLsbD n && level == s.aon.wakePol.getLsbD n then s.wake 2 false (some n) else s
  s1.wakeLevels

/-- PIN_EDGE (R399, R438): the level at an input pin changes. -/
def execPinEdge (n : Fin 32) (level : Bool) (s : State) : Host.Outcome State Fault Refusal :=
  if (s.padLevel n.val).isSome || s.pinIn.getLsbD n.val == level then .next s
  else
    let s1 : State := { s with pinIn := if level then s.pinIn ||| (1#32 <<< n.val) else s.pinIn &&& ~~~(1#32 <<< n.val) }
    .next ((if s.fabricRuns then s1.pinChange n.val level else s1).pinWake n.val level)

/-! ### General timers (R417 to R422) -/

/-- TIMER_TRIGGER (R417, R418): a trigger raised in the last step acts in this one. -/
def execTimerTrigger (n : Fin 16) (s : State) : Host.Outcome State Fault Refusal :=
  .next (if s.fabricRuns && s.trigger n.val then s.clockStep else s)

/-- TIMER_MATCH (R417): time passes up to the step in which the timer next matches. -/
def execTimerMatch (n : Fin 16) (s : State) : Host.Outcome State Fault Refusal :=
  match s.matchDue n.val with
  | some d => .next (if s.fabricRuns then s.passTime d else s)
  | none => .next s

/-- TIMER_OVERFLOW (R417): time passes up to the step in which the timer next overflows. -/
def execTimerOverflow (n : Fin 16) (s : State) : Host.Outcome State Fault Refusal :=
  match s.ovfDue n.val with
  | some d => .next (if s.fabricRuns then s.passTime d else s)
  | none => .next s

/-- CAPTURE (R421, R422): an event of a capture channel's source is captured in this step. -/
def execCapture (n : Fin 16) (k : Fin 4) (s : State) : Host.Outcome State Fault Refusal :=
  .next (if s.fabricRuns && s.capFires n.val (s.timers[n.val]).cap[k.val] then s.clockStep else s)

end Sys2Proof.Machine
end

