-- ==== Sys2Proof/Machine/Power.lean ====
section
/-!
DEFINITION. The commands of the always-on island and of the SMBus target: entry to sleep, wake, GLORY, the governor and
SMBus transactions (R434 to R447, R525).
-/

namespace Sys2Proof.Machine

/-! ### Entry (R437, R441) -/

/-- A save is being written: entry waits for it (R436). -/
def State.saveWriting (s : State) : Bool := s.lehr.jobs.any fun j => j.phase.background
/-- The fabric is idle: no flit and no Thread packet moves (step 2). -/
def State.meshIdle (s : State) : Bool :=
  s.flight.isEmpty && (s.thread.all fun e => e.2.isNone) && s.stations.all fun e => e.2.thread.queues.all fun q => q.2.isEmpty

/-- The GDDR6 enters or leaves self-refresh (step 3 of R437, step 4 of R440). -/
def State.selfRefresh (s : State) (on : Bool) : State :=
  { s with deep := s.deep.map fun d =>
      { d with selfRef := on, chan := d.chan.map fun c => if c.trained then { c with sr := on } else c } }

/-- The levels that the hold latches, ahead of the gate (R442), and the enables of the link transmitters. -/
def State.padLevels (s : State) : BitVec 32 :=
  (List.range 32).foldl (fun m n => if s.heldLevel n = some true then m ||| (1#32 <<< n) else m) 0
def State.kelEnables (s : State) : BitVec 8 :=
  (List.finRange 8).foldl (fun m n => if (s.kel n).en then m ||| (1#8 <<< n.val) else m) 0

/-- Pads are latched and held (step 4). -/
def State.latchPads (s : State) : State :=
  (s.modIo fun x => { x with padLatch := s.padLevels, kelLatch := s.kelEnables }).modAon fun a =>
    { a with padsHeld := a.padsHeld ||| (List.finRange 4).foldl (fun m t => if s.hasPads t then m ||| (1#4 <<< t.val) else m) 0 }

/-- Every link that is up changes to 2.5 GT/s ×1, as far as the host has not disabled it (step 5, R328). -/
def PortSt.slow (x : PortSt) : PortSt :=
  if x.linkUp then
    { x with
      former := (x.width, x.rate)
      width := if x.cfg.noWidth then x.width else 1
      rate := if x.cfg.noSpeed then x.rate else 1
      sleep := true }
  else { x with sleep := true }

/-- Steps 1 to 6 of an entry to GLORY or HOLD; the commit window opens. -/
def State.enterSleep (s : State) : State :=
  let s1 := (s.selfRefresh true).latchPads
  { s1 with ports := s1.ports.map PortSt.slow }.modAon fun a => { a with window := true, entryEnd := s.now + 40 }

/-- SLEEP_ENTRY (R437): an entry under way runs its steps: to NAP, or up to the commit window of GLORY or HOLD. It waits
while a save is being written and until the fabric is idle. -/
def execSleepEntry (s : State) : Host.Outcome State Fault Refusal :=
  match s.aon.entering with
  | none => .next s
  | some t =>
    if s.aon.window || s.saveWriting || !s.meshIdle then .next s
    else if t ≤ 1 then .next (s.modAon fun a => { a with entering := none, st := 2 }).wakeLevels
    else .next s.enterSleep

/-- SLEEP_ENTRY_DONE (R437, R439): the commit window ends: the state is GLORY or HOLD, and a level that is asserted begins
the exit at once. -/
def execSleepEntryDone (s : State) : Host.Outcome State Fault Refusal :=
  match s.aon.entering with
  | some t =>
    if !s.aon.window then .next s
    else
      let s1 := s.passTo s.aon.entryEnd
      .next (s1.modAon fun a => { a with
        entering := none, window := false, st := t + 1, sleptAt := s1.now, sampledAt := s1.now,
        sampling := false }).wakeLevels
  | none => .next s

/-! ### Wake (R438 to R440) -/

/-- Asleep, or entering. -/
def State.canWake (s : State) : Bool := decide (2 ≤ s.aon.st) || s.aon.entering.isSome

/-- WAKE_PIN (R438, R439): a pin selected as a wake source shows its edge, or takes its level. -/
def execWakePin (n : Fin 32) (s : State) : Host.Outcome State Fault Refusal :=
  let a := s.aon
  if !s.canWake || (s.padLevel n.val).isSome || !(a.wakeEdge.getLsbD n.val || a.wakeLvl.getLsbD n.val) then .next s
  else
    let level := a.wakePol.getLsbD n.val
    let s1 : State := { s with pinIn := if level then s.pinIn ||| (1#32 <<< n.val) else s.pinIn &&& ~~~(1#32 <<< n.val) }
    .next (s1.pinWake n.val level)

/-- n cycles of the 32,768 Hz oscillator, in steps of 4 ns. -/
def oscTime (n : Nat) : Nat := n * 250000000 / 32768

/-- WAKE_TIMER (R438): AON_WAKE_TIME passes after the commit window. -/
def execWakeTimer (s : State) : Host.Outcome State Fault Refusal :=
  let a := s.aon
  if a.st < 3 ∨ a.wakeTime = 0 ∨ a.waking then .next s
  else .next ((s.passTo (a.sleptAt + oscTime a.wakeTime)).wake 4 false none)

/-- A device fault that names a place the environment does not report: its station and DETAIL are free values. -/
def State.faultSomewhere (s : State) (code : Nat) : State :=
  let st := s.free.toNat % 40
  (s.spend.spend).reportFault st st code ((s.spend.free).setWidth 40 <<< 35)

/-- The islands of assigned clusters leave NAP (step 6, R433, R443). -/
def State.islandsWake (s : State) (staleCores : List CoreId) (corrected : Nat) : State :=
  (staleCores.foldl (fun s c => s.retentionLost c.key) s).modAon fun a => { a with retCe := cnt16 a.retCe corrected }

/-- Retained state outside the islands is checked (step 2, R443, R501). -/
def State.outsideCheck (s : State) (bad : Option Nat) : State :=
  match bad with
  | some b => s.reportFault (if b < 40 then b else stMgmt) (if b < 40 then b else stMgmt) 0x07 (BitVec.ofNat 40 (b % 256))
  | none => s

/-- The GDDR6 is retrained (step 4), unless the Cool profile keeps it in self-refresh; a failure fails a channel. -/
def State.memWake (s : State) (ok : Bool) : State :=
  let s1 := s.selfRefresh s.aon.cool
  if ok || s.aon.cool then s1
  else
    let e := s1.free.toNat % 2
    let ch := s1.free.toNat / 2 % 8
    let s2 := s1.spend
    ({ s2 with deep := Vector.ofFn fun i =>
        if i.val = e then { s2.deep[i.val] with chan := Vector.ofFn fun j =>
          if j.val = ch then { s2.deep[i.val].chan[j.val] with failed := true } else s2.deep[i.val].chan[j.val] }
        else s2.deep[i.val] } : State).reportFault (stMemW + e) (stMemW + e) 0x06 (BitVec.ofNat 40 ch)

/-- A port's link returns to its former speed and width, as far as the host has not disabled it (step 5). -/
def PortSt.restore (x : PortSt) : PortSt :=
  if x.linkUp && x.sleep then
    { x with
      width := if x.cfg.noWidth then x.width else x.former.1
      rate := if x.cfg.noSpeed then x.rate else x.former.2
      sleep := false }
  else { x with sleep := false }

/-- Ports whose link is down assert WAKE#. -/
def State.downPorts (s : State) : BitVec 4 :=
  (List.finRange 4).foldl (fun m p => if s.configured p && !(s.port p).linkUp then m ||| (1#4 <<< p.val) else m) 0

/-- Steps 1 to 5 of an exit from GLORY or HOLD. -/
def State.leaveSleep (s : State) (linksOk memOk : Bool) (outsideBad : Option Nat) : State :=
  let s1 := s.outsideCheck outsideBad
  let s2 := (if linksOk then s1 else s1.faultSomewhere 0x03).memWake memOk
  { s2 with ports := s2.ports.map PortSt.restore, wheelAt := s2.now }.modAon fun a => { a with wakePins := s2.downPorts }

/-- The device is awake: every vote is cleared, and the objects of AON_WAKE_OBJ are signalled (R435, R440). -/
def State.awake (s : State) : State :=
  let s1 := (s.modAon fun a => { a with
    st := 0, waking := false, sampling := false, entering := none, votes := Vector.replicate 4 0 }).modPont fun p =>
      { p with wakeReq := false }
  (List.finRange 4).foldl (fun s p =>
    let o := Tab.get s1.aon.objs 0 p.val
    if o.msb then s.sendPkt stMgmt (.sync 0 (bitsOf o.toNat 0 13) 1 (32 + p.val)) else s) s1

/-- WAKE_EXIT (R440, R443): the exit that a wake source began runs its steps; the operands are what its checks find. -/
def execWakeExit (linksOk memOk : Bool) (staleCores : List CoreId) (corrected : Nat) (outsideBad : Option Nat) (s : State) :
    Host.Outcome State Fault Refusal :=
  if !s.aon.waking || decide (s.aon.st < 2) then .next s
  else
    let s1 := if 3 ≤ s.aon.st then s.leaveSleep linksOk memOk outsideBad else s
    .next (s1.islandsWake staleCores corrected).awake

/-! ### GLORY (R444 to R446) -/

/-- GLORY_SAMPLE (R444): the next sample begins. -/
def execGlorySample (s : State) : Host.Outcome State Fault Refusal :=
  let a := s.aon
  if a.st ≠ 3 ∨ a.gloryPeriod = 0 ∨ a.sampling ∨ a.waking then .next s
  else
    let s1 := s.passTo (a.sampledAt + oscTime a.gloryPeriod)
    .next (s1.modAon fun a => { a with sampling := true, sampledAt := s1.now, gloryCnt := cnt32 a.gloryCnt })

/-- A slot is met (R445); n is what it measured over the window: edges, packets or characters. -/
def State.slotMet (s : State) (w : Word) (n : Nat) : Bool :=
  let thresh := bitsOf w.toNat 0 16
  w.msb && match bitsOf w.toNat 28 3 with
    | 1 => s.pinLevel (bitsOf w.toNat 16 5) == bitOf thresh 0
    | 2 => decide (thresh ≤ n)
    | 3 => decide (thresh ≤ n)
    | 4 => decide (thresh ≤ n / 64)
    | _ => false

/-- GLORY_WINDOW_END (R444 to R446): the window of a sample ends and its slots are evaluated. -/
def execGloryWindowEnd (measured : List Nat) (s : State) : Host.Outcome State Fault Refusal :=
  if !s.aon.sampling then .next s
  else
    let s1 := (s.passTo (s.aon.sampledAt + 250 * s.aon.gloryWin)).modAon fun a => { a with sampling := false }
    let met := (List.range 8).filter fun i => s1.slotMet (Tab.get s.aon.slots 0 i) (measured.getD i 0)
    .next (if met.isEmpty then s1
      else (s1.wake 5 false none).modAon fun a =>
        { a with srcSlots := met.foldl (fun m i => m ||| (1#8 <<< i)) a.srcSlots })

/-! ### The governor (R447) -/

/-- GOVERNOR_TICK (R447): a ms passes with an average input power, in units of 10 mW, and a die temperature in °C, which
PONT_TEMP shows (R508). -/
def execGovernorTick (power : BitVec 16) (dieTemp : Int) (s : State) : Host.Outcome State Fault Refusal :=
  let cap := if s.aon.cool then 1000 else 5500
  let high := decide (cap < power.toNat) || decide (105 < dieTemp)
  let f := if high then min 255 (s.govF + 1) else if power.toNat * 10 < cap * 9 then max 16 (s.govF - 1) else s.govF
  .next (({ s with govF := f }.modAon fun a =>
    { a with power := power, govLimit := a.govLimit || (high && s.govF == 255) }).modPont fun p =>
      { p with temp := BitVec.ofInt 8 (sat8 dieTemp) })

/-! ### SMBus (R525) -/

/-- Change the SMBus target. -/
def State.modSmb (s : State) (f : Smb → Smb) : State := { s with smb := f s.smb }
/-- A transaction that is NACKed at its PEC byte has no effect. -/
def State.smbNack (s : State) : State := s.modSmb fun x => { x with acked := false }

/-- SMB_SET_POINTER (R525): command 0x10. -/
def execSmbSetPointer (v : Word) (pecOk : Bool) (s : State) : Host.Outcome State Fault Refusal :=
  if !s.boot.powered then .next s
  else .next (if pecOk && v.toNat % 4 == 0 then s.modSmb fun x => { x with pointer := v, acked := true } else s.smbNack)

/-- The word at an SMBus address. During reset the cullet list is not counted. -/
def State.smbWord (s : State) (a : Nat) : Nat :=
  if a < 0x200 then (if s.boot.inReset && a == 0x010 then 0 else s.bootRead a)
  else
    let r : RdRes := match a with
      | 0x1000 => s.secRead .smbus 0x4_0000
      | 0x1004 => s.secRead .smbus 0x4_0004
      | 0x1008 => s.secRead .smbus 0x4_0008
      | 0x1100 => rd s (s.pontGet 0x004)
      | _ => rd s 0
    (r.2.getD 0).toNat

/-- SMB_READ_WORD (R525): command 0x11 returns the word at the pointer. -/
def execSmbReadWord (s : State) : Host.Outcome State Fault Refusal :=
  if !s.boot.powered then .next s
  else .next (s.modSmb fun x => { x with
    data := BitVec.ofNat 32 (s.smbWord x.pointer.toNat), pointer := x.pointer + 4, acked := true })

/-- A word written at an SMBus address; none: the target refuses it. -/
def State.smbPut (s : State) (a : Nat) (v : Word) (f : BootFindings) : Option State :=
  let take (r : WrRes) : Option State := if r.2 then some r.1 else none
  if a = 0x008 then take (s.bootCtrl .smbus v f)
  else if a = 0x1004 then take (s.lcCtrl .smbus v)
  else if 0x0100_0000 ≤ a ∧ a < 0x0120_0000 ∧ s.windowOpen 0 then
    some (s.modBoot fun b => { b with
      window := (List.range 4).foldl (fun w i =>
        Tab.put w 0 (a - 0x0100_0000 + i) (v.extractLsb' (8 * i) 8)) b.window })
  else none

/-- The words of a write in order; none: one of them is refused. -/
def State.smbPutAll (s : State) (a : Nat) (f : BootFindings) : List Word → Option State
  | [] => some s
  | w :: ws => match s.smbPut a w f with | some t => t.smbPutAll (a + 4) f ws | none => none

/-- SMB_WRITE_WORDS (R525): command 0x12; f is what the physical tests find if a written word is GO. -/
def execSmbWriteWords (ws : List Word) (pecOk : Bool) (f : BootFindings) (s : State) : Host.Outcome State Fault Refusal :=
  if !s.boot.powered then .next s
  else if !pecOk || ws.isEmpty || decide (8 < ws.length) then .next s.smbNack
  else
    match s.smbPutAll s.smb.pointer.toNat f ws with
    | some t => .next (t.modSmb fun x => { x with
        pointer := x.pointer + BitVec.ofNat 32 (4 * ws.length), acked := true })
    | none => .next s.smbNack

/-- SMB_ALERT_RESPONSE (R525): the Alert Response Address releases SMB_ALERT_N. -/
def execSmbAlertResponse (s : State) : Host.Outcome State Fault Refusal :=
  .next (if s.boot.powered then s.modSmb fun x => { x with alert := false } else s)

end Sys2Proof.Machine
end

