-- ==== Sys2Proof/Machine/Image.lean ====
section
/-!
DEFINITION. Parison images: their container form, and the checks of an image that need no table of the device (R340 to
R349, R357, R486).
-/

namespace Sys2Proof.Machine

/-- A failed check (R349): its reason, the section's table index plus one, and the item. -/
structure ImgFail where
  reason : Nat
  sec : Nat := 0
  item : Nat := 0
  deriving DecidableEq, Repr

/-- DETAIL of a failed check. -/
def ImgFail.detail (f : ImgFail) : Option Word :=
  some (BitVec.ofNat 32 (f.reason * 2 ^ 24 + f.sec * 2 ^ 14 + min f.item 0x3FFF))

/-- One item of a section (R344, R347, R348). -/
inductive Item where
  | header (bytes : List Byte)
  | record (kind addr len clusters cores : Nat) (data : List Byte)
  | reg (cl lc sel : Nat) (val : Word)
  | run (dom first : Nat) (entries : List (BitVec 16))
  | group (g : Nat) (entry : BitVec 64)
  deriving DecidableEq, Repr

/-- A section: its type, its items, and its bytes where they are opaque. -/
structure ImgSec where
  ty : Nat
  items : List Item
  bytes : List Byte := []
  deriving DecidableEq, Repr

/-- A parsed image. -/
structure Image where
  len : Nat
  patch : Bool
  signed : Bool
  adig : List Byte
  bdig : List Byte
  digest : List Byte
  signature : List Byte
  secs : List ImgSec
  /-- the container's first fault: the sections, and the last one's items, are those before it -/
  broken : Option ImgFail := none
  deriving DecidableEq, Repr

/-- n bytes of an image from an offset, as a number. -/
def imgField (bs : List Byte) (off n : Nat) : Nat := leNat ((bs.drop off).take n)
/-- n bytes from an offset are zero. -/
def imgZero (bs : List Byte) (off n : Nat) : Bool := ((bs.drop off).take n).all (· == 0)

/-! ### Items (R344, R347, R348) -/

/-- The section types of R347, and those that appear at most once. -/
def typeKnown (ty : Nat) : Bool := ty == 0x0001 || (decide (0x0100 ≤ ty) && decide (ty ≤ 0x0111))
def typeOne (ty : Nat) : Bool := ty == 0x0001 || ty == 0x0100
/-- A section whose bytes the loader does not take apart. -/
def typeOpaque (ty : Nat) : Bool := ty == 0x0001 || !typeKnown ty

/-- A length rounded up to a multiple of 8. -/
def pad8 (n : Nat) : Nat := (n + 7) / 8 * 8

/-- A write record (R348): its bytes are counted with it. -/
def parseRecord (ty : Nat) (bs : List Byte) : Option (Item × Nat) :=
  let h := imgField bs 0 8
  let len := imgField bs 8 4
  let kind := bitsOf h 44 4
  let cl := imgField bs 16 4
  let co := imgField bs 20 4
  let data := if ty = 0x0111 then 0 else len
  let size := 32 + pad8 data
  if bs.length < 32 ∨ bs.length < size ∨ 2 ≤ kind ∨ len = 0 ∨ bitsOf h 48 16 ≠ 0 ∨ imgField bs 12 4 ≠ 0 ∨
      imgField bs 24 8 ≠ 0 ∨ (kind = 0 ∧ (cl ≠ 0 ∨ co ≠ 0)) ∨ (kind = 1 ∧ 2 ^ 19 ≤ bitsOf h 0 44) then none
  else if !imgZero bs (32 + data) (pad8 data - data) then none
  else some (.record kind (bitsOf h 0 44) len cl co ((bs.drop 32).take data), size)

/-- The 16-bit entries of a run. -/
def parseEntries : Nat → List Byte → List (BitVec 16)
  | n + 1, b0 :: b1 :: bs => (b1 ++ b0) :: parseEntries n bs
  | _, _ => []

/-- A run of directory entries (R347). -/
def parseRun (bs : List Byte) : Option (Item × Nat) :=
  let h := imgField bs 0 8
  let n := bitsOf h 40 24
  let size := 8 + pad8 (2 * n)
  if bs.length < 8 ∨ bs.length < size ∨ bitsOf h 6 2 ≠ 0 ∨ bitsOf h 32 8 ≠ 0 ∨
      !imgZero bs (8 + 2 * n) (size - 8 - 2 * n) then none
  else some (.run (bitsOf h 0 6) (bitsOf h 8 24) (parseEntries n (bs.drop 8)), size)

/-- A CORE_REGS item (R347). -/
def parseReg (bs : List Byte) : Option (Item × Nat) :=
  let h := imgField bs 0 8
  if bs.length < 16 ∨ bitsOf h 5 3 ≠ 0 ∨ bitsOf h 13 3 ≠ 0 ∨ bitsOf h 24 40 ≠ 0 ∨ imgField bs 12 4 ≠ 0 then none
  else some (.reg (bitsOf h 0 5) (bitsOf h 8 5) (bitsOf h 16 8) (BitVec.ofNat 32 (imgField bs 8 4)), 16)

/-- A GROUPS item (R175, R347). -/
def parseGroup (bs : List Byte) : Option (Item × Nat) :=
  let h := imgField bs 0 8
  if bs.length < 16 ∨ bitsOf h 16 48 ≠ 0 then none
  else some (.group (bitsOf h 0 16) (BitVec.ofNat 64 (imgField bs 8 8)), 16)

/-- The CONCRETE_HEADER item (R344). -/
def parseConcrete (bs : List Byte) : Option (Item × Nat) :=
  if bs.length < 128 ∨ 4 ≤ imgField bs 3 1 ∨ !imgZero bs 0x14 108 then none else some (.header (bs.take 128), 128)

/-- One item of a section, and its length. -/
def parseItem (ty : Nat) (bs : List Byte) : Option (Item × Nat) :=
  match ty with
  | 0x0100 => parseConcrete bs
  | 0x0102 => parseReg bs
  | 0x0106 => parseRun bs
  | 0x0107 => parseGroup bs
  | _ => parseRecord ty bs

/-- The items of a section, which must fill it (R341), up to the first at fault. i counts the items before. -/
def parseItems (ty : Nat) : Nat → Nat → List Byte → List Item × Option Nat
  | 0, i, bs => ([], if bs.isEmpty then none else some i)
  | n + 1, i, bs =>
    match parseItem ty bs with
    | none => ([], some i)
    | some (x, k) =>
      let rest := parseItems ty n (i + 1) (bs.drop k)
      (x :: rest.1, rest.2)

/-! ### The container (R340 to R342) -/

/-- Bytes of the signature trailer (R342). -/
def trailer (signed : Bool) : Nat := if signed then 2432 else 0

/-- The header's form: w2 is the length that the command gives (R340, R342, R349). -/
def headerForm (bs : List Byte) (w2 : Nat) : Bool :=
  let n := imgField bs 6 2
  let flags := imgField bs 0x10 4
  let signed := bitOf flags 1
  decide (128 ≤ bs.length) && bs.take 4 == [0x4B, 0x50, 0x52, 0x53] && imgField bs 4 2 == 1 && decide (1 ≤ n) &&
    decide (n ≤ 1023) && imgField bs 8 8 == w2 && bs.length == w2 && decide (w2 ≤ 2 ^ 36) &&
    decide (128 + 32 * n + trailer signed ≤ w2) && decide (flags < 4) && imgZero bs 0x14 4 && imgZero bs 0x58 40 &&
    (bitOf flags 0 || imgZero bs 0x38 32) && (!signed || imgZero bs (w2 - 12) 12)

/-- The section that entry i of the section table describes; end_ is where the sections before it end, and top where the
last must. It answers the section with its end, and the fault that stops the parse there. -/
def parseSec (bs : List Byte) (top i end_ : Nat) : (ImgSec × Nat) × Option ImgFail :=
  let e := 128 + 32 * i
  let ty := imgField bs e 2
  let items := imgField bs (e + 4) 4
  let off := imgField bs (e + 8) 8
  let len := imgField bs (e + 16) 8
  if imgField bs (e + 2) 2 ≠ 1 ∨ imgField bs (e + 24) 8 ≠ 0 ∨ off % 64 ≠ 0 ∨ off < end_ ∨ top < off + len ∨
      (items = 0 ∧ len ≠ 0) then ((⟨ty, [], []⟩, end_), some ⟨1, i + 1, 0⟩)
  else
    let body := (bs.drop off).take len
    if typeOpaque ty then ((⟨ty, [], body⟩, off + len), none)
    else
      let l := parseItems ty items 0 body
      ((⟨ty, l.1, []⟩, off + len), l.2.map fun k => ⟨1, i + 1, k⟩)

/-- The n last sections of an image, from entry i on, up to the first fault. -/
def parseSecs (bs : List Byte) (top : Nat) : Nat → Nat → Nat → List ImgSec × Option ImgFail
  | 0, _, _ => ([], none)
  | n + 1, i, end_ =>
    let r := parseSec bs top i end_
    if r.2.isSome then ([r.1.1], r.2)
    else
      let rest := parseSecs bs top n (i + 1) r.1.2
      (r.1.1 :: rest.1, rest.2)

/-- An image whose header has the container form, or the failure of reason 0x01. -/
def parseImage (bs : List Byte) (w2 : Nat) : Except ImgFail Image :=
  if !headerForm bs w2 then .error { reason := 1 }
  else
    let n := imgField bs 6 2
    let flags := imgField bs 0x10 4
    let top := w2 - trailer (bitOf flags 1)
    let l := parseSecs bs top n 0 (128 + 32 * n)
    .ok { len := w2, patch := bitOf flags 0, signed := bitOf flags 1, adig := (bs.drop 0x18).take 32,
          bdig := (bs.drop 0x38).take 32, digest := sha3 (bs.take top), signature := (bs.drop top).take 2420,
          secs := l.1, broken := l.2 }

/-! ### Walking an image -/

/-- The sections with their numbers, from 1. -/
def Image.numbered (m : Image) : List (Nat × ImgSec) := m.secs.mapIdx fun i x => (i + 1, x)
/-- Every item with its section's number, its own index and its section's type, in table and section order. -/
def Image.items (m : Image) : List (Nat × Nat × Nat × Item) :=
  m.numbered.flatMap fun (i, x) => x.items.mapIdx fun k y => (i, k, x.ty, y)
/-- The first item that fails a check, which then gives its reason. -/
def Image.firstItem (m : Image) (reason : Nat) (bad : Nat → Item → Bool) : Option ImgFail :=
  (m.items.find? fun x => bad x.2.2.1 x.2.2.2).map fun x => ⟨reason, x.1, x.2.1⟩
/-- The number and content of the first section of a type. -/
def Image.section (m : Image) (ty : Nat) : Option (Nat × ImgSec) := m.numbered.find? fun x => x.2.ty == ty

/-- Where a record writes: one address, or one in each masked core's window (R208, R348). -/
def recordBases (perCluster kind addr clusters cores : Nat) : List Nat :=
  if kind = 0 then [addr]
  else
    (List.range 32).flatMap fun c =>
      (List.range perCluster).filterMap fun l =>
        if clusters.testBit c && cores.testBit l then some (coreWindow (c * 32 + l) + addr) else none

/-- The addresses of an item's writes. -/
def State.basesOf (s : State) : Item → List Nat
  | .record kind addr _ clusters cores _ => recordBases s.grade.perCluster kind addr clusters cores
  | _ => []
/-- The length of a record. -/
def Item.len : Item → Nat
  | .record _ _ len _ _ _ => len
  | _ => 0

/-! ### Records within one memory or register block (R348) -/

/-- An address lies in a station block. -/
def inBlocks (a : Nat) : Bool := decide (regBase ≤ a) && decide (a < regBase + 40 * 0x10_0000)
/-- An address is a register's. -/
def isRegister (a : Nat) : Bool :=
  inBlocks a || (decide (coreBase ≤ a) && decide (a < sharedBase) && decide (0x4_9000 ≤ a % 0x8_0000))
/-- The end of the memory or register block that an address lies in. -/
def State.blockEnd (s : State) (a : Nat) : Option Nat :=
  if inBlocks a then some (a - a % 0x10_0000 + 0x10_0000) else s.memEnd a

/-- A record that leaves its memory or block, or names registers in parts. -/
def State.recordForm (s : State) (x : Item) : Bool :=
  (s.basesOf x).all fun a =>
    match s.blockEnd a with
    | none => true
    | some e => decide (a + x.len ≤ e) && (!isRegister a || (a % 4 == 0 && x.len % 4 == 0))

/-! ### Signature, abstract section and concrete header (R342 to R345, R486) -/

/-- The signature check (R342, R486). -/
def State.signatureOk (s : State) (t : Tenant) (m : Image) : Bool :=
  let k := s.parKey t
  let required := s.fuses.lc == 2 || (s.fuses.lc == 1 && k.locked)
  if m.signed then
    !s.sec.keysOff && (match k.enrolled with | some key => Config.verifyKey key m.digest m.signature | none => false)
  else !required

/-- The abstract section of a parison that is not a patch (R343). -/
def Image.abstractCheck (m : Image) : Option ImgFail :=
  if m.patch then none
  else
    match m.section 1 with
    | none => some { reason := 3 }
    | some (i, x) => if sha3 x.bytes = m.adig then none else some { reason := 3, sec := i }

/-- The concrete header's bytes, with its section. -/
def Image.concrete (m : Image) : Option (Nat × List Byte) :=
  match m.section 0x100 with
  | some (i, x) => match x.items with | [.header b] => some (i, b) | _ => none
  | none => none

/-- The checks against the capability block (R345). -/
def State.concreteCheck (s : State) (t : Tenant) (m : Image) : Option ImgFail :=
  match m.concrete with
  | none => some { reason := 4, sec := ((m.section 0x100).map (·.1)).getD 0 }
  | some (i, b) =>
    if imgField b 0 2 ≠ 0x0048 ∨ imgField b 2 1 ≠ s.grade.perCluster ∨ bitOf (imgField b 3 1) 0 ≠ s.memEcc then
      some { reason := 4, sec := i }
    else if imgField b 4 4 ≠ s.clusterMask t ∨ imgField b 8 2 ≠ s.blockMask t ∨ imgField b 12 4 ≠ (s.tregOf t).toNat then
      some { reason := 5, sec := i }
    else none

/-! ### Sections allowed (R347, R357) -/

/-- A section type that a patch may carry. -/
def patchType (ty : Nat) : Bool := [0x0100, 0x0106, 0x0107, 0x0109, 0x010A, 0x010B, 0x0110].contains ty

/-- A section is unknown, repeated or not allowed. -/
def Image.sectionBad (m : Image) (i : Nat) (x : ImgSec) : Bool :=
  !typeKnown x.ty || (typeOne x.ty && m.numbered.any fun y => decide (y.1 < i) && y.2.ty == x.ty) ||
    (m.patch && !patchType x.ty)

/-- A record of CL_LB_SPLIT, which a patch may not write. -/
def State.writesSplit (s : State) (x : Item) : Bool :=
  (s.basesOf x).any fun a => inBlocks a && decide ((a - regBase) / 0x10_0000 < 32) && decide (a % 0x10_0000 ≤ 0x7200) &&
    decide (0x7200 < a % 0x10_0000 + x.len)

/-- The section rules, in table order. -/
def State.sectionCheck (s : State) (m : Image) : Option ImgFail :=
  m.numbered.findSome? fun (i, x) =>
    if m.sectionBad i x then some { reason := 6, sec := i }
    else if m.patch && x.ty == 0x010B then (x.items.findIdx? s.writesSplit).map fun k => ⟨6, i, k⟩
    else none

/-! ### Targets (R27, R174, R347) -/

/-- An offset range lies in one of a list of ranges. -/
def within (lo hi : Nat) (l : List (Nat × Nat)) : Bool := l.any fun r => decide (r.1 ≤ lo) && decide (hi ≤ r.2)

/-- Ranges of a core window that a type may write (R30, R90). -/
def coreTargets : Nat → List (Nat × Nat)
  | 0x0101 => [(0x4_4000, 0x4_8000), (0x4_9020, 0x4_9030)]
  | 0x0103 => [(0x3_0000, 0x3_8000), (0x3_8000, 0x4_0000), (0x4_0000, 0x4_4000), (0x4_9004, 0x4_900C),
      (0x4_9140, 0x4_9180), (0x4_9400, 0x4_A000)]
  | 0x0104 => [(0, 0x3_0000), (0x4_9200, 0x4_9204)]
  | 0x0105 => [(0x4_9280, 0x4_9284), (0x4_92A0, 0x4_9300)]
  | 0x010C => [(0x4_9304, 0x4_9308), (0x4_9314, 0x4_9318), (0x4_9324, 0x4_9328), (0x4_9334, 0x4_9338)]
  | _ => []
/-- Ranges of a cluster's own registers that a type may write. -/
def clusterTargets : Nat → List (Nat × Nat)
  | 0x0108 => [(0x4_0000, 0x8_0000)]
  | 0x010B => [(0x7200, 0x7204)]
  | 0x010C => [(0x1_2000, 0x1_2800), (0x1_3000, 0x1_3400), (0x7100, 0x7104)]
  | _ => []
/-- Ranges of any station block that a type may write, where the station has them (R189, R228, R259). -/
def stationTargets (ty st : Nat) : List (Nat × Nat) :=
  match ty with
  | 0x0109 =>
    (if caneInjects st then [(0x100, 0x110), (0x2000, 0x2800), (0x8000, 0x9000)] else []) ++ [(0x4000, 0x7000)]
  | 0x010A =>
    (if gatherInjects st then [(0xB000, 0xB400), (0x1_0000, 0x1_0A00)] else []) ++ [(0xC000, 0xF000)] ++
      (if st = stMemW ∨ st = stMemE then [(0x1_4300, 0x1_4320), (0x1_8000, 0x1_A000)] else [])
  | 0x010B => if st = stMemW ∨ st = stMemE then [(0x4_0000, 0x8_0000)] else []
  | 0x010D => if st = stPorts then [(0x4_0000, 0x4_8000)] else []
  | _ => []

/-- Each object of a range of the sync unit's registers is the tenant's. -/
def State.ownObjects (s : State) (t : Tenant) (lo n : Nat) : Bool :=
  (List.range (n / 4)).all fun i => s.syncOwnerOf (syncObjOf (lo + 4 * i)) == some t

/-- A section type may write n bytes from address a (R347). -/
def State.mayTarget (s : State) (t : Tenant) (ty a n : Nat) : Bool :=
  if a < deepTop then
    match ty with
    | 0x0110 => decide (a + n ≤ s.deepCap) && (unitsOf a n).all (s.unitWritable t)
    | 0x0111 => decide (a + n ≤ s.deepCap) && (unitsOf a n).all (inRegion (s.tregOf t))
    | _ => false
  else if s.inCoreWindow a then
    s.tenantOf ((coreAt a).cl.val) == some t && within (a % 0x8_0000) (a % 0x8_0000 + n) (coreTargets ty)
  else if inShared a then ty == 0x010F && s.tenantOf (s.stationOf a) == some t && s.oneMemory a n
  else if inBlocks a then
    let st := (a - regBase) / 0x10_0000
    let lo := a % 0x10_0000
    (decide (st < 32) && s.tenantOf st == some t && within lo (lo + n) (clusterTargets ty)) ||
      within lo (lo + n) (stationTargets ty st) ||
      (ty == 0x010E && st == stSync && within lo (lo + n) [(0x4_0000, 0x5_8000)] && s.ownObjects t lo n)
  else false

/-- An item names a target that its section may not write (R27, R174, R347). s holds the claims that the image makes. -/
def State.targetBad (s : State) (t : Tenant) (ty : Nat) (x : Item) : Bool :=
  match x with
  | .header _ => false
  | .record _ _ len _ _ _ => (s.basesOf x).any fun a => !s.mayTarget t ty a len
  | .reg cl lc _ _ => s.tenantOf cl != some t || decide (s.grade.perCluster ≤ lc)
  | .run d first es => s.domainOwner d != some t || decide (2 ^ 18 < first + es.length)
  | .group g e => g == 0 || (e.msb && (grpDest e).toNat &&& (2 ^ 32 - 1 - s.clusterMask t) != 0)

end Sys2Proof.Machine
end

