-- ==== Sys2Proof/Machine/ImageWrite.lean ====
section
/-!
DEFINITION. The write pass of the loader: the claims of a PORTS section, what a LOAD resets, and the writes of every
section, judged as writes of the tenant's own host port (R129, R174, R182, R269, R347 to R349, R352, R377, R378).
-/

namespace Sys2Proof.Machine

/-! ### What a LOAD resets (R347, R378) -/

/-- An address lies in the part of a tenant's core windows that sections may write, or in its shared memory. -/
def State.loadedMem (s : State) (t : Tenant) (a : Nat) : Bool :=
  (s.inCoreWindow a && decide (a % 0x8_0000 < 0x4_8000) && s.tenantOf (coreAt a).cl.val == some t) ||
    (inShared a && s.tenantOf (s.stationOf a) == some t)

/-- The memories of a core or cluster become defined again: what the loader does not zero, its landing buffer, keeps the bytes
it reads as. -/
def State.settlePart (s : State) (part lo n : Nat) : State :=
  if Tab.get s.coreGen 0 part % 2 = 0 then s
  else
    let kept := s.readBytes lo n
    { s with coreGen := Tab.modify s.coreGen 0 part (· + 1) }.writeBytes lo kept

/-- Core memories and shared memory of a tenant read zero. -/
def State.zeroMem (s : State) (t : Tenant) : State :=
  let s1 := (s.coresOf t).foldl (fun s k => s.settlePart k (lbAddr k 0) 0x1000) s
  let s2 := (s.clustersOf t).foldl (fun s c => s.settlePart (1024 + c) 0 0) s1
  { s2 with
    mem := s2.mem.filter fun e => !s.loadedMem t e.1
    eccUe := s2.eccUe.filter fun a => !s.loadedMem t a
    eccCe := s2.eccCe.filter fun a => !s.loadedMem t a }

/-- A core's registers that sections may write, at their reset values, and its architectural registers at zero (R64, R347);
a Faulted engine is stopped and runs again after the next START (R100), and CORE_FAULT, STALE, ECC_UE and the gap and
duplicate flags are clear (R154, R352 step 4). -/
def Core.loadReset (c : Core) : Core :=
  { c with
    e := { c.e with
      st := .stopped
      regs := {}
      loop := {}
      blk := { c.e.blk with held := 0, table := [], scale := [] }
      fl := { c.e.fl with
        vsat := false, dupe := false, satf := false, gap := false, gapNext := false, msgq := 0, tick := 0, tag := 0 }
      dbg := { c.e.dbg with halted := false, haltReq := false, stepping := false }
      cr := { c.e.cr with
        seedSrc := false, seed := 0, stale := false, fault := {}
        entTick := {}, entUpdate := {}, entEpoch := {}, entMessage := {} } }
    i := { c.i with salt := 0, filtEn := false, filtLog2 := 0, ecUe := false }
    q := c.q.map fun q => { q with areaEn := false, areaBase := 0 }
    mrv := { c.mrv with ctrl := 0, rules := [] } }

/-- A cluster's registers that sections may write. -/
def ClusterSt.loadReset (c : ClusterSt) : ClusterSt := { c with qwin := [], comb := [], wdLimit := 0, lbWslots := 8 }

/-- The entries of a table of four-byte windows whose stream or flow another tenant holds, or none. -/
def keepWins (w : Tab Byte) (per : Nat) (mine : Nat → Bool) : Tab Byte := w.filter fun e => !mine (e.1 / per)

/-- A station's tables without a tenant's entries. -/
def StationSt.loadReset (x : StationSt) (t : Tenant) : StationSt :=
  let myStream (n : Nat) : Bool := (Tab.get x.cane.streams {} n).holder == some t
  let myFlow (n : Nat) : Bool := (Tab.get x.gather.flows {} n).holder == some t
  { x with
    cane := { x.cane with
      slots := x.cane.slots.filter fun e => entHolder e.2 != some t
      streams := Tab.modifyAll x.cane.streams {} ((List.range 64).filter myStream) fun _ y =>
        { y with en := false, kind := 0, tenant := 0, dest := 0 }
      win := keepWins x.cane.win 64 myStream
      svc := Tab.put x.cane.svc 0 t.val 0
      groups := x.cane.groups.filter fun e => grpHolder e.2 != some t }
    gather := { x.gather with
      slots := x.gather.slots.filter fun e => entHolder e.2 != some t
      flows := Tab.modifyAll x.gather.flows {} ((List.range 64).filter myFlow) fun _ y =>
        { y with en := false, tenant := 0, clusters := 0, edge := 0 }
      win := keepWins x.gather.win 40 myFlow } }

/-- An engine's tables without a tenant's entries; mine tells the tenant's flows at its station. -/
def DeepEngine.loadReset (d : DeepEngine) (t : Tenant) (mine : Nat → Bool) : DeepEngine :=
  { d with
    map := d.map.filter fun e => !(e.2.msb && (Tab.get d.rows {} (e.2.toNat % 4096)).holder == some t)
    rows := d.rows.filter fun e => e.2.holder != some t
    route := d.route.filter fun e => !mine e.1
    inj := d.inj.filter fun e => entHolder e.2 != some t }

/-- A resource that the image claims keeps its owner, and a pin its function; its registers return to their reset values. -/
def State.resetConfig (s : State) (key : Nat) : State :=
  let o := Tab.get s.own none key
  let f := s.pinFunc (key - 144)
  let s1 := { s.resetResource key with own := Tab.put s.own none key o }
  if key < 144 then s1 else s1.modIo fun x => { x with func := Tab.put x.func 0 (key - 144) f }

/-- The tenant's PORTS resources: those that the image does not claim are released (R378). -/
def State.resetPorts (s : State) (t : Tenant) (claimed : List Nat) : State :=
  let mine := (List.range 176).filter fun k => s.owner k == some t.val
  let s1 := mine.foldl (fun s k => if claimed.contains k then s.resetConfig k else s.resetResource k) s
  s1.modIo fun x => { x with em := x.em.filter fun e => e.2.holder != some t }

/-- A directory entry's domain, from its key or from its name among the ECC errors. -/
def dirDomain (key : Nat) : Nat := key / 2 ^ 18
/-- An ECC name is a directory entry's or a group entry's of the tenant. -/
def State.myTableEcc (s : State) (t : Tenant) (doms : List Nat) (a : Nat) : Bool :=
  (decide (2 ^ 45 ≤ a) && decide (a < 2 ^ 46) && doms.contains (dirDomain (2 * (a - 2 ^ 45)))) ||
    (decide (2 ^ 46 ≤ a) && grpHolder (s.group ((a - 2 ^ 46) / 65536) ((a - 2 ^ 46) % 65536)) == some t)

/-- Everything of the tenant that the sections of a parison may write takes its reset value (R347), and the slices of the
domains in which no source emits become 0x0000 (R34). -/
def State.loadReset (s : State) (t : Tenant) (claimed : List Nat) : State :=
  let doms := (List.range 64).filter fun d => s.domainOwner d == some t || decide (56 ≤ d)
  let s1 := (s.zeroMem t).resetPorts t claimed
  let s2 := (s.coresOf t).foldl (fun s k => s.modCore k Core.loadReset) s1
  let s3 : State := (s.clustersOf t).foldl (fun s c => s.modCluster c ClusterSt.loadReset) s2
  let mine (e : Engine) (n : Nat) : Bool := (s.flow (engStation e) n).holder == some t
  { s3 with
    masks := s3.masks.filter fun e => s.tenantOf (e.1 / 65536) != some t
    stations := Tab.modifyAll s3.stations {} (s3.stations.map (·.1)) fun _ x => x.loadReset t
    dir := s3.dir.filter fun e => !doms.contains (dirDomain e.1)
    deep := Vector.ofFn fun e => s3.deep[e.val].loadReset t (mine e)
    sync := s3.sync.filter fun e => s.syncOwnerOf e.1 != some t
    eccUe := s3.eccUe.filter fun a => !s.myTableEcc t doms a
    eccCe := s3.eccCe.filter fun a => !s.myTableEcc t doms a }

/-! ### One run of the write pass -/

/-- A run of the loader's writes: the state, what each item has written as address ranges (newest first), and the writes that
were refused, in order. -/
structure ParRun where
  s : State
  wrote : List (Nat × Nat × Nat × Nat) := []
  fails : List ImgFail := []

/-- A write is refused. -/
def ParRun.fail (r : ParRun) (f : ImgFail) : ParRun := { r with fails := r.fails ++ [f] }
/-- An item has written the addresses from lo to hi. -/
def ParRun.mark (r : ParRun) (lo hi i k : Nat) : ParRun := { r with wrote := (lo, hi, i, k) :: r.wrote }
/-- The item that last wrote something in a range: section 0 where none did (R349). -/
def ParRun.writer (r : ParRun) (lo hi : Nat) : Nat × Nat :=
  match r.wrote.find? fun w => decide (w.1 < hi) && decide (lo < w.2.1) with
  | some w => (w.2.2.1, w.2.2.2)
  | none => (0, 0)

/-- The model's names of a group entry and of a directory entry among the written addresses. -/
def grpName (g : Nat) : Nat := 2 ^ 60 + g
def dirName (key : Nat) : Nat := 2 ^ 61 + key

/-- Non-reserved bits of a register that a section may write. -/
def parMask : Place → Word
  | .core _ off => coreMaskBits off
  | .station st off =>
    if st < 32 ∧ inRx off then 0xFFFFFFFF
    else if st = stPorts ∧ inPorts off then portsMask off
    else if st = stSync ∧ inSyncRegs off then syncMask off
    else if (st = stMemW ∨ st = stMemE) ∧ inDeep off then deepMask32 off
    else if inCane off then caneMask off
    else if inGather off then gatherMask off
    else 0xFFFFFFFF
  | _ => 0xFFFFFFFF

/-- The PORTS resource whose register stands at an offset of station PORTS (R402 to R408). -/
def portsKey (off : Nat) : Option Nat :=
  if 0x4_0100 ≤ off ∧ off < 0x4_0200 then some (ownIn ((off - 0x4_0100) / 16))
  else if 0x4_1000 ≤ off ∧ off < 0x4_1200 then some (ownIn ((off - 0x4_1000) / 0x100))
  else if 0x4_2000 ≤ off ∧ off < 0x4_2200 then some (ownIn (2 + (off - 0x4_2000) / 0x40))
  else if 0x4_3000 ≤ off ∧ off < 0x4_3400 then some (ownEnc ((off - 0x4_3000) / 16))
  else if 0x4_4000 ≤ off ∧ off < 0x4_4800 then some (ownDec ((off - 0x4_4000) / 32))
  else if 0x4_6000 ≤ off ∧ off < 0x4_6080 then some (ownPin ((off - 0x4_6000) / 4))
  else if 0x4_6100 ≤ off ∧ off < 0x4_6180 then some (ownPin ((off - 0x4_6100) / 4))
  else none

/-- The register belongs to a PORTS resource of another tenant. -/
def State.foreignPlace (s : State) (t : Tenant) : Place → Bool
  | .station 34 off => match portsKey off with | some k => foreignTo (.port t) (s.owner k) | none => false
  | _ => false

/-- A register write of the tenant's port. -/
def State.parWrite (s : State) (t : Tenant) (pl : Place) (v : Word) : WrRes := s.placeWrite (.port t) pl v {}

/-- The conflict flags that a refusal may set, clear (R182, R228, R377). -/
def State.noConflict (s : State) : Place → State
  | .station st _ =>
    (s.modStation st fun x => { x with cane := { x.cane with conflict := false },
                                       gather := { x.gather with conflict := false } }).modIo fun x => { x with conflict := 0 }
  | _ => s

/-- A write is refused because another tenant holds the entry (R349, reason 0x09). -/
def State.heldByOther (s : State) (t : Tenant) (pl : Place) (v : Word) : Bool :=
  let u := ((s.noConflict pl).parWrite t pl v).1
  match pl with
  | .station st _ => (u.station st).cane.conflict || (u.station st).gather.conflict || u.io.conflict != 0
  | _ => false

/-- An offset of station PORTS is an ownership register's. -/
def isOwnReg (off : Nat) : Bool :=
  (decide (0x4_0100 ≤ off) && decide (off < 0x4_0200) && off % 16 == 0) ||
    (decide (0x4_3000 ≤ off) && decide (off < 0x4_3400) && off % 16 == 4) ||
    (decide (0x4_4000 ≤ off) && decide (off < 0x4_4800) && off % 32 == 4) ||
    (decide (0x4_6000 ≤ off) && decide (off < 0x4_6080))
/-- A write that claims a PORTS resource: a refused claim has reason 0x09 (R377). -/
def isClaim : Place → Word → Bool
  | .station 34 off, v => isOwnReg off && v.msb
  | _, _ => false

/-- CORE_INT_CTRL asks for more sets than there are (R129). -/
def filtTooBig : Place → Word → Bool
  | .core _ 0x200, v => decide (12 < bitsOf v.toNat 0 4)
  | _, _ => false

/-- Write one register word (R348, R349). -/
def ParRun.word (r : ParRun) (t : Tenant) (i k a : Nat) (v : Word) : ParRun :=
  let pl := placeOf (.port t) a
  let r1 := if filtTooBig pl v then r.fail ⟨0x0B, i, k⟩ else r
  if v &&& ~~~(parMask pl) ≠ 0 then r1.fail ⟨8, i, k⟩
  else if r.s.foreignPlace t pl then r1.fail ⟨9, i, k⟩
  else
    match r.s.parWrite t pl v with
    | (u, true) => { r1 with s := u }
    | (_, false) => r1.fail ⟨if r.s.heldByOther t pl v || isClaim pl v then 9 else 8, i, k⟩

/-- The word of an address that an image writes last. -/
def Image.wordAt (m : Image) (a : Nat) : Option Word :=
  m.items.foldl (fun o y =>
    match y.2.2.2 with
    | .record 0 addr len _ _ data =>
      if y.2.2.1 ≠ 0x0111 ∧ addr ≤ a ∧ a + 4 ≤ addr + len then
        some (BitVec.ofNat 32 (leNat ((data.drop (a - addr)).take 4)))
      else o
    | _ => o) none

/-- The word of a row table that an address is: the entry's address and the word (R269). -/
def rowWordOf (a : Nat) : Option (Nat × Nat) :=
  let st := (a - regBase) / 0x10_0000
  let off := a % 0x10_0000
  if inBlocks a ∧ (st = stMemW ∨ st = stMemE) ∧ 0x4_0000 ≤ off ∧ off < 0x6_0000 then some (a - a % 32, a % 32 / 4) else none

/-- Write one word of a row table: the words +0x04 to +0x14 of an entry go before its word +0x00 (R269), wherever in the
image they stand. -/
def ParRun.rowWord (r : ParRun) (t : Tenant) (m : Image) (i k a w : Nat) (v : Word) : ParRun :=
  if w = 0 then
    let staged (r : ParRun) (j : Nat) : ParRun :=
      match m.wordAt (a + 4 * j) with
      | some u => { r with s := (r.s.parWrite t (placeOf (.port t) (a + 4 * j)) (u &&& parMask (placeOf (.port t) (a + 4 * j)))).1 }
      | none => r
    ([1, 2, 3, 4, 5].foldl staged r).word t i k a v
  else if v &&& ~~~(parMask (placeOf (.port t) a)) ≠ 0 then r.fail ⟨8, i, k⟩
  else r

/-- Write the words of a record from address a. -/
def ParRun.words (r : ParRun) (t : Tenant) (m : Image) (i k a : Nat) : List Byte → ParRun
  | b0 :: b1 :: b2 :: b3 :: bs =>
    let v : Word := BitVec.ofNat 32 (leNat [b0, b1, b2, b3])
    let r1 := match rowWordOf a with
      | some (_, w) => r.rowWord t m i k a w v
      | none => r.word t i k a v
    r1.words t m i k (a + 4) bs
  | _ => r

/-- Write a record at one address (R348). -/
def ParRun.recordAt (t : Tenant) (m : Image) (i k : Nat) (data : List Byte) (r : ParRun) (a : Nat) : ParRun :=
  let r1 := r.mark a (a + data.length) i k
  if isRegister a then r1.words t m i k a data else { r1 with s := r1.s.storeBytes a data }

/-- Stations that hold a replica of the group table (R175). -/
def groupStations : List Nat := (List.range 40).filter caneInjects

/-- Write a group entry into every replica (R175, R182, R200). -/
def ParRun.group (r : ParRun) (t : Tenant) (i k g : Nat) (e : BitVec 64) : ParRun :=
  let judge (st : Nat) : Bool × Bool := r.s.mayWriteEntry (.port t) (grpHolder (r.s.group st g)) (grpHolder e)
  if e.extractLsb' 32 32 &&& ~~~grpHiMask ≠ 0 then r.fail ⟨8, i, k⟩
  else if groupStations.any fun st => (judge st).2 then r.fail ⟨9, i, k⟩
  else if groupStations.any fun st => !(judge st).1 then r.fail ⟨8, i, k⟩
  else
    let put (s : State) (st : Nat) : State :=
      { (s.modCane st fun c => { c with groups := Tab.put c.groups 0 g e }) with
        eccUe := s.eccUe.filter (· != grpEcc st g), eccCe := s.eccCe.filter (· != grpEcc st g) }
    { r with s := groupStations.foldl put r.s }.mark (grpName g) (grpName g + 1) i k

/-- Write a run of directory entries (R173, R201). -/
def ParRun.run (r : ParRun) (i k d first : Nat) (es : List (BitVec 16)) : ParRun :=
  let base := d * 2 ^ 18 + first
  let names := (List.range es.length).map fun j => dirEcc (base + j)
  let dir := (List.range es.length).foldl (fun tab j => Tab.put tab 0 (base + j) (es.getD j 0)) r.s.dir
  { r with s := { r.s with dir := dir, eccUe := r.s.eccUe.filter fun a => !names.contains a,
                           eccCe := r.s.eccCe.filter fun a => !names.contains a } }.mark
    (dirName base) (dirName (base + es.length)) i k

/-- Write an architectural register (R88, R347). -/
def ParRun.reg (r : ParRun) (i k core sel : Nat) (v : Word) : ParRun :=
  if (0x94 ≤ sel ∧ sel < 0xA0) ∨ 0xB1 ≤ sel then r.fail ⟨8, i, k⟩ else { r with s := r.s.dbgSet core sel v }

/-- Write one item of a section. -/
def ParRun.item (t : Tenant) (m : Image) (i : Nat) (x : ImgSec) (r : ParRun) (ky : Nat × Item) : ParRun :=
  match ky.2 with
  | .header _ => r
  | .record _ _ _ _ _ data =>
    if x.ty = 0x0111 then r else (r.s.basesOf ky.2).foldl (ParRun.recordAt t m i ky.1 data) r
  | .reg cl lc sel v => r.reg i ky.1 (cl * 32 + lc) sel v
  | .run d first es => r.run i ky.1 d first es
  | .group g e => r.group t i ky.1 g e

/-- Write every section, in table order (R352 step 3). -/
def ParRun.image (r : ParRun) (t : Tenant) (m : Image) : ParRun :=
  m.numbered.foldl (fun r ix => (ix.2.items.mapIdx fun k y => (k, y)).foldl (ParRun.item t m ix.1 ix.2) r) r

/-! ### The claims of a PORTS section (R349, R352, R377) -/

/-- The CLAIM words of a record in station PORTS: the resource and the word. -/
def claimWords (a : Nat) : List Byte → List (Nat × Word)
  | b0 :: b1 :: b2 :: b3 :: bs =>
    let v : Word := BitVec.ofNat 32 (leNat [b0, b1, b2, b3])
    let off := a % 0x10_0000
    (match portsKey off with | some key => if isOwnReg off ∧ v.msb then [(key, v)] else [] | none => []) ++
      claimWords (a + 4) bs
  | _ => []

/-- The claims of an image: section, item, resource and word. -/
def Image.claims (m : Image) : List (Nat × Nat × Nat × Word) :=
  m.items.flatMap fun (i, k, ty, y) =>
    match y with
    | .record 0 addr _ _ _ data =>
      if ty = 0x010D ∧ (addr - regBase) / 0x10_0000 = stPorts then
        (claimWords addr data).map fun c => (i, k, c.1, c.2)
      else []
    | _ => []

/-- Make the claims; a refused one gives reason 0x09. -/
def ParRun.claims (r : ParRun) (t : Tenant) (m : Image) : ParRun :=
  m.claims.foldl (fun r c =>
    match r.s.claim (.port t) c.2.2.1 t (bitsOf c.2.2.2.toNat 0 4) with
    | (u, true) => { r with s := u }
    | (_, false) => r.fail ⟨9, c.1, c.2.1⟩) r

/-! ### The trial (R349) -/

/-- The tenant taken as Stopped. -/
def State.takenStopped (s : State) (t : Tenant) : State := s.modTenant t fun x => { x with st := .stopped }

/-- The state with an image's claims made. -/
def State.claimed (s : State) (t : Tenant) (m : Image) : ParRun := ({ s := s.takenStopped t } : ParRun).claims t m

/-- The resources that an image claims. -/
def Image.claimedKeys (m : Image) : List Nat := m.claims.map fun c => c.2.2.1

/-- The configuration as it will stand after the write pass. -/
def State.trial (s : State) (t : Tenant) (m : Image) : ParRun :=
  let r := s.claimed t m
  let r1 := if m.patch then r else { r with s := r.s.loadReset t m.claimedKeys }
  r1.image t m

end Sys2Proof.Machine
end

