-- ==== Sys2Proof/Machine/ImageCheck.lean ====
section
/-!
DEFINITION. The loader's consistency checks over the configuration as it will stand after the write pass (R349 and the rules
it gathers).
-/

namespace Sys2Proof.Machine

/-- The first of a list of failures of one reason, in table and item order: one that no section is at fault for comes last. -/
def firstAt (reason : Nat) (l : List (Nat × Nat)) : Option ImgFail :=
  let key (x : Nat × Nat) : Nat := (if x.1 = 0 then 1024 else x.1) * 2 ^ 34 + x.2
  l.foldl (fun (o : Option ImgFail) (x : Nat × Nat) =>
    match o with
    | none => some ⟨reason, x.1, x.2⟩
    | some f => if key x < key (f.sec, f.item) then some ⟨reason, x.1, x.2⟩ else some f) none

/-- The item that last wrote any of a list of address ranges. -/
def ParRun.lastOf (r : ParRun) (l : List (Nat × Nat)) : Nat × Nat :=
  match r.wrote.find? fun w => l.any fun x => decide (w.1 < x.2) && decide (x.1 < w.2.1) with
  | some w => (w.2.2.1, w.2.2.2)
  | none => (0, 0)

/-- Failures noted while writing, of one reason. -/
def ParRun.failsOf (r : ParRun) (reason : Nat) : List (Nat × Nat) :=
  (r.fails.filter fun f => f.reason == reason).map fun f => (f.sec, f.item)

/-! ### Groups of a tenant -/

/-- The valid groups of a tenant: station, group and entry. -/
def State.groupsOf (s : State) (t : Tenant) : List (Nat × Nat × BitVec 64) :=
  groupStations.flatMap fun st =>
    ((s.station st).cane.groups.filter fun e => grpHolder e.2 == some t).map fun e => (st, e.1, e.2)
/-- The engine of a deep group (R175). -/
def grpEngine (e : BitVec 64) : Option Engine :=
  if e.getLsbD 47 then some (if e.getLsbD 46 then 1 else 0) else none
/-- The tenant has a deep group (R36, R409). -/
def State.hasDeep (s : State) (t : Tenant) : Bool := (s.groupsOf t).any fun x => (grpEngine x.2.2).isSome

/-- The station that looks a domain's sources up (R173). -/
def homeOf (d : Nat) : Nat := if d < 32 then d else if d < 48 then stPorts else if d < 56 then stHost else stMgmt
/-- The directory entries of a tenant's domains: key and group. -/
def State.dirOf (s : State) (t : Tenant) : List (Nat × Nat) :=
  (s.dir.filter fun e => s.domainOwner (dirDomain e.1) == some t).map fun e => (e.1, e.2.toNat)

/-! ### 0x0A: tick period (R36, R409) -/

/-- TICK_NS of a concrete header. -/
def tickNs (hdr : List Byte) : Nat := imgField hdr 0x10 4
/-- The tick period is a multiple of 4 ns in the tenant's range. -/
def State.tickCheck (s : State) (t : Tenant) (sec : Nat) (hdr : List Byte) : Option ImgFail :=
  let n := tickNs hdr
  if n % 4 = 0 ∧ (if s.hasDeep t then 20000 else 1000) ≤ n ∧ n ≤ 1000000000 then none else some ⟨0x0A, sec, 0⟩

/-! ### 0x0B: source filters (R129, R134) -/

/-- A filter word of a core and its name. -/
def State.filtWord (s : State) (k n : Nat) : Nat := (s.readDword (synAddr k (2 * n))).toNat
/-- The valid filter words of a core with a filter. -/
def State.filtValid (s : State) (k : Nat) : List Nat :=
  let i := (s.core k).i
  if i.filtEn then (List.range i.filterEntries).filter fun n => (s.filtWord k n).testBit 63 else []
/-- Address ranges of synapse words. -/
def synRange (k n : Nat) : Nat × Nat := (synAddr k (2 * n), synAddr k (2 * n) + 8)

/-- A filter entry that can never match, or whose row lies outside the row region. -/
def State.filtBad (s : State) (k n : Nat) : Bool :=
  let i := (s.core k).i
  let x := s.filtWord k n
  n / 4 != filterSet i (BitVec.ofNat 24 x) || decide (s.filterRow k n < i.filterEntries) || decide (24575 < s.filterRow k n)

/-- The filter checks of one core; entries that share a source fail together. -/
def ParRun.filterFails (r : ParRun) (k : Nat) : List (Nat × Nat) :=
  let ns := r.s.filtValid k
  let src (n : Nat) : Nat := r.s.filtWord k n % 2 ^ 24
  let twins (n : Nat) : List Nat := ns.filter fun m => src m == src n
  ((ns.filter (r.s.filtBad k)).map fun n => r.writer (synRange k n).1 (synRange k n).2) ++
    ((ns.filter fun n => decide (1 < (twins n).length)).map fun n => r.lastOf ((twins n).map (synRange k)))

/-! ### 0x0C: rows (R140, R141, R145, R249) -/

/-- The rows of a chain from word a with their headers; a row error ends it. -/
def State.chainAll (s : State) (k a : Nat) : Nat → List (Nat × RowHdr)
  | 0 => []
  | fuel + 1 =>
    let h := rowHdr (s.rowWord k .syn a)
    (a, h) :: (if h.badAt a || !h.chain then [] else s.chainAll k (a + 1 + h.length) fuel)
/-- The rows that a core's filter reaches. -/
def State.rowsOf (s : State) (k : Nat) : List (Nat × RowHdr) :=
  ((s.filtValid k).flatMap fun n => s.chainAll k (s.filterRow k n) 24576).eraseDups

/-- Word w of a sparse-16 or plastic-32 row breaks an encoding rule: a live target beyond the neurons, or more than two
accesses to one bank. -/
def State.recordBad (s : State) (k a : Nat) (h : RowHdr) (w : Nat) : Bool :=
  let x := s.rowWord k .syn (a + 1 + w)
  (h.format == 0 || h.format == 3) &&
    ((List.range (liveIn h w)).any (fun j => decide (8191 < (record h x w j).1)) ||
      (h.format == 0 && (List.range 32).any fun b => decide (2 < bankAccesses (liveTargets h x w) b)))

/-- The row checks of one core. -/
def ParRun.rowFails (r : ParRun) (k : Nat) : List (Nat × Nat) :=
  (r.s.rowsOf k).flatMap fun (a, h) =>
    if h.badAt a then [r.writer (synRange k a).1 (synRange k a).2]
    else
      ((List.range h.length).filter (r.s.recordBad k a h)).map fun w =>
        r.writer (synRange k (a + 1 + w)).1 (synRange k (a + 1 + w)).2

/-- The tenant's valid row-table entries: engine, index and entry. -/
def State.deepRows (s : State) (t : Tenant) : List (Engine × Nat × RowEnt) :=
  [0, 1].flatMap fun (e : Engine) =>
    (s.deep[e.val].rows.filter fun x => x.2.holder == some t).map fun x => (e, x.1, x.2)

/-- The stored header of segment i of a source's row (R248, R249). -/
def RowEnt.headerAt (x : RowEnt) (src i : Nat) : Nat := x.rowAddr src + 8 * x.segWords * i

/-- The stored headers of sparse-16 rows that a DEEP_DATA section writes and that fail. -/
def ParRun.storedFails (r : ParRun) (t : Tenant) : List (Nat × Nat) :=
  (r.s.deepRows t).flatMap fun (_, _, x) =>
    if x.format ≠ 0 then []
    else
      (List.range (x.srcSpan + 1)).flatMap fun j =>
        (List.range (x.nc * x.nk)).filterMap fun i =>
          let a := x.headerAt (x.srcFirst + j) i
          let w := r.writer a (a + 8)
          if w.1 ≠ 0 && (rowHdr (r.s.readDword a)).badSeg x.segWords true then some w else none

/-! ### 0x0D: core masks (R150) -/

/-- Groups that name a cluster in which their mask is zero. -/
def ParRun.maskFails (r : ParRun) (t : Tenant) : List (Nat × Nat) :=
  (r.s.groupsOf t).flatMap fun (_, g, e) =>
    ((List.range 32).filter fun c => (grpDest e).getLsbD c && r.s.coreMask c g == 0).map fun c =>
      if (r.writer (grpName g) (grpName g + 1)).1 ≠ 0 then r.writer (grpName g) (grpName g + 1)
      else r.writer (stReg c (0x4_0000 + 4 * g)) (stReg c (0x4_0000 + 4 * g) + 4)

/-! ### 0x0E: directory, groups and service streams (R19, R21, R175 to R177) -/

/-- STREAM of a group without clusters must be 0 (R175). -/
def grpStreamBad (e : BitVec 64) : Bool := grpDest e == 0 && e.extractLsb' 32 6 != 0

/-- The rows of a deep group do not all lie behind its engine's channels (R21). -/
def State.wrongEngine (s : State) (e : BitVec 64) (g : Nat) : Bool :=
  match grpEngine e with
  | none => false
  | some n =>
    let m := Tab.get s.deep[n.val].map 0 g
    let x := Tab.get s.deep[n.val].rows {} (m.toNat % 4096)
    let last := x.rowAddr (x.srcFirst + x.srcSpan) + x.rowLen - 1
    m.msb && x.valid && (s.deepEngineOf (x.rowAddr x.srcFirst) != n.val || s.deepEngineOf last != n.val)

/-- Directory and group failures: a directory entry whose group is not a valid one of the tenant's, and a group with a dangling
copy at the station that looks its sources up. -/
def ParRun.groupFails (r : ParRun) (t : Tenant) : List (Nat × Nat) :=
  let grp (g : Nat) : Nat × Nat := r.writer (grpName g) (grpName g + 1)
  ((r.s.dirOf t).filterMap fun (key, g) =>
    let st := homeOf (dirDomain key)
    let e := r.s.group st g
    if grpHolder e ≠ some t then some (r.writer (dirName key) (dirName key + 1))
    else if (r.s.copiesOf st t e).any fun c => !c.2 then some (grp g) else none) ++
  ((r.s.groupsOf t).filterMap fun (_, g, e) => if grpStreamBad e || r.s.wrongEngine e g then some (grp g) else none)

/-! ### 0x0F and 0x10: schedules (R164, R166, R168, R211, R252) -/

/-- What tracing one injected flit finds: the router inputs it has been presented at, the stations that take it, and whether it
went astray or around. -/
structure Trace where
  seen : List (Nat × Dir) := []
  todo : List (Nat × Dir × Nat) := []
  out : List Nat := []
  bad : Bool := false
  deriving DecidableEq, Repr

/-- The outputs of a router that take an input in a slot for the tenant. -/
def State.takers (s : State) (fab : Fabric) (t : Tenant) (st : Nat) (input : Dir) (slot : Nat) : List Dir :=
  allDirs.filter fun d =>
    let w := s.slotEntry fab st d.code slot
    entEn w && entTenant w == t && entIn w == input.code

/-- Follow one presented flit through one router. -/
def State.traceOne (s : State) (fab : Fabric) (t : Tenant) (x : Trace) : Trace :=
  match x.todo with
  | [] => x
  | (st, input, slot) :: rest =>
    if x.bad || x.seen.contains (st, input) then { x with todo := [], bad := true }
    else
      let ds := s.takers fab t st input slot
      let next := ds.filterMap fun d => (neighbour st d).map fun n => (n, oppositeOf d, (slot + 2) % 512)
      { seen := (st, input) :: x.seen
        todo := next ++ rest
        out := (ds.filter (· == .l)).map (fun _ => st) ++ x.out
        bad := ds.isEmpty }

/-- Trace a flit of the tenant from an input in a slot: a flit that visits no input twice has passed every router within 200
visits. -/
def State.traceFrom (s : State) (fab : Fabric) (t : Tenant) (st : Nat) (input : Dir) (slot : Nat) : Trace :=
  (List.range 201).foldl (fun x _ => s.traceOne fab t x) { todo := [(st, input, slot)] }

/-- The trace reaches exactly the wanted stations, each once. -/
def Trace.fits (x : Trace) (want : List Nat) : Bool :=
  !x.bad && x.todo.isEmpty && x.out.length == want.length && want.all x.out.contains

/-- Where the flits of a stream must go (R177). -/
def Stream.wants (x : Stream) : List Nat :=
  match x.kind with
  | 0 => (List.range 32).filter fun c => x.dest.getLsbD c
  | 1 => [stMemW]
  | 2 => [stMemE]
  | 3 => [stPorts]
  | _ => [stHost]

/-- The tenant's enabled entries of the injection table of a station on a mesh: slot and stream or flow. -/
def State.injOf (s : State) (fab : Fabric) (t : Tenant) (st : Nat) : List (Nat × Nat) :=
  ((s.slotTab fab st).filter fun e => decide (5 * 512 ≤ e.1) && entHolder e.2 == some t).map fun e =>
    (e.1 - 5 * 512, entStream e.2)

/-- The Cane schedules of the tenant that fail. -/
def ParRun.caneFails (r : ParRun) (t : Tenant) : List (Nat × Nat) :=
  ((List.range 40).filter caneInjects).flatMap fun st =>
    (r.s.injOf .cane t st).filterMap fun (slot, n) =>
      let x := r.s.stream st n
      if !x.en || (r.s.traceFrom .cane t st .l slot).fits x.wants then none
      else some (r.writer (stReg st (0x6800 + 4 * slot)) (stReg st (0x6800 + 4 * slot) + 4))

/-- A group of the tenant uses a stream of a station. -/
def State.streamUsed (s : State) (t : Tenant) (st n : Nat) : Bool :=
  (s.station st).cane.groups.any fun e =>
    grpHolder e.2 == some t && (s.copiesOf st t e.2).any fun c => c.1 == n && c.2

/-- The address range of the word of a window byte (R199, R230). -/
def winRange (base st k : Nat) : Nat × Nat := (stReg st (base + k / 4 * 4), stReg st (base + k / 4 * 4) + 4)
/-- The register byte of index i of a stream's window (R199). -/
def caneWinRange (st n i : Nat) : Nat × Nat := winRange 0x8000 st (n * 64 + i)

/-- The tenant's enabled streams: station and number. -/
def State.streamsOf (s : State) (t : Tenant) : List (Nat × Nat) :=
  ((List.range 40).filter caneInjects).flatMap fun st =>
    ((List.range 64).filter fun n => (s.stream st n).holder == some t).map fun n => (st, n)
/-- A window of a stream. -/
def State.caneWin (s : State) (st n i : Nat) : Nat := (Tab.get (s.station st).cane.win 0 (n * 64 + i)).toNat

/-- The lossless windows that fail (R60). -/
def ParRun.losslessFails (r : ParRun) (t : Tenant) : List (Nat × Nat) :=
  let xs := r.s.streamsOf t
  let at_ (x : Nat × Nat) (i : Nat) : Nat × Nat := caneWinRange x.1 x.2 i
  (xs.flatMap fun x =>
    if !r.s.streamUsed t x.1 x.2 then []
    else (((r.s.stream x.1 x.2).indices.filter fun i => r.s.caneWin x.1 x.2 i == 0).map fun i =>
      r.writer (at_ x i).1 (at_ x i).2)) ++
  ((List.range 34).filterMap fun i =>
    let ys := xs.filter fun x => (r.s.stream x.1 x.2).indices.contains i
    if 256 < (ys.map fun x => r.s.caneWin x.1 x.2 i).sum then some (r.lastOf (ys.map fun x => at_ x i)) else none)

/-! ### 0x10: the Gather (R211, R253) -/

/-- The station and the input that row port p of an engine drives (R252). -/
def rowPortAt (e : Engine) (p : Nat) : Nat × Dir := if e.val = 0 then (stAt 0 p, .w) else (stAt 9 p, .e)

/-- The tenant's enabled row-port injection entries: engine, port, slot and flow. -/
def State.rowInjOf (s : State) (t : Tenant) : List (Engine × Nat × Nat × Nat) :=
  [0, 1].flatMap fun (e : Engine) =>
    (s.deep[e.val].inj.filter fun x => entHolder x.2 == some t).map fun x => (e, x.1 / 512, x.1 % 512, entStream x.2)

/-- The Gather schedules of the tenant that fail. -/
def ParRun.gatherFails (r : ParRun) (t : Tenant) : List (Nat × Nat) :=
  (((List.range 40).filter gatherInjects).flatMap fun st =>
    (r.s.injOf .gather t st).filterMap fun (slot, n) =>
      let f := r.s.flow st n
      if !f.en || (r.s.traceFrom .gather t st .l slot).fits f.dests then none
      else some (r.writer (stReg st (0xE800 + 4 * slot)) (stReg st (0xE800 + 4 * slot) + 4))) ++
  (r.s.rowInjOf t).filterMap fun (e, p, slot, n) =>
    let f := r.s.flow (engStation e) n
    let a := stReg (engStation e) (0x1_8000 + p * 0x800 + 4 * slot)
    if !f.en || (r.s.traceFrom .gather t (rowPortAt e p).1 (rowPortAt e p).2 slot).fits f.dests then none
    else some (r.writer a (a + 4))

/-- The tenant's flow is named by an injection entry. -/
def State.flowUsed (s : State) (t : Tenant) (st n : Nat) : Bool :=
  (s.injOf .gather t st).any (fun x => x.2 == n) || (s.rowInjOf t).any fun x => engStation x.1 == st && x.2.2.2 == n

/-- Every enabled flow of the device: station and number. -/
def State.allFlows (s : State) : List (Nat × Nat) :=
  ((List.range 40).filter gatherInjects).flatMap fun st =>
    ((List.range 64).filter fun n => (s.flow st n).en).map fun n => (st, n)
/-- A window of a flow, and the register range that holds it. -/
def State.gatherWin (s : State) (st n d : Nat) : Nat := (Tab.get (s.station st).gather.win 0 (n * 40 + d)).toNat
def gatherWinRange (st n d : Nat) : Nat × Nat := winRange 0x1_0000 st (n * 40 + d)

/-- The Gather windows that fail. -/
def ParRun.gatherWinFails (r : ParRun) (t : Tenant) : List (Nat × Nat) :=
  let all := r.s.allFlows
  ((List.range 40).filterMap fun d =>
    if 64 < (all.map fun x => r.s.gatherWin x.1 x.2 d).sum then
      some (r.lastOf ((all.filter fun x => r.s.gatherWin x.1 x.2 d != 0).map fun x => gatherWinRange x.1 x.2 d))
    else none) ++
  (all.filter fun x => (r.s.flow x.1 x.2).tenant == t && r.s.flowUsed t x.1 x.2).flatMap fun x =>
    (((r.s.flow x.1 x.2).dests.filter fun d => r.s.gatherWin x.1 x.2 d == 0).map fun d =>
      r.writer (gatherWinRange x.1 x.2 d).1 (gatherWinRange x.1 x.2 d).2)

/-- The clusters that a row-table entry delivers to. -/
def RowEnt.clusters (x : RowEnt) : List Nat := (List.range x.nc).map (x.c0 + ·)
/-- The register range of a row-table entry. -/
def rowRange (e : Engine) (i : Nat) : Nat × Nat :=
  (stReg (engStation e) (0x4_0000 + 32 * i), stReg (engStation e) (0x4_0000 + 32 * i) + 32)

/-- Rows with a cluster that no row-port flow serves (R253). -/
def ParRun.routeFails (r : ParRun) (t : Tenant) : List (Nat × Nat) :=
  (r.s.deepRows t).filterMap fun (e, i, x) =>
    if x.clusters.any fun c => (r.s.rowFlows e t c).isEmpty then some (r.writer (rowRange e i).1 (rowRange e i).2) else none

/-- Reply flows of the tenant's DMA routes that drive a row port (R253): a READ that names one is refused, and DMA's are the
READs whose flow a table gives (R363). -/
def ParRun.replyFails (r : ParRun) (t : Tenant) : List (Nat × Nat) :=
  [0, 1].filterMap fun (e : Engine) =>
    let w := r.s.dmaRoute t (engStation e)
    let n := bitsOf w.toNat 8 6
    let a := stReg (engStation e) (0x1_4300 + 4 * (n / 8))
    if w.msb && Tab.get r.s.deep[e.val].route 0 n != 0 then some (r.writer a (a + 4)) else none

/-! ### 0x11: deep tables (R140, R245, R247, R248, R251, R255) -/

/-- The formed header of the entry's dense segments (R247, R250). -/
def RowEnt.formed (x : RowEnt) : RowHdr := rowHdr (formedHeader (segmentAux x ⟨0, 0, 0, false, x.tenant, 0⟩))

/-- A row-table entry that the loader refuses by itself: a dense segment that breaks R140, rows that overlap, a cluster of
another tenant, or cores without landing slots for the engine. -/
def State.rowEntBad (s : State) (t : Tenant) (e : Engine) (x : RowEnt) : Bool :=
  x.refused s.grade.perCluster || (x.format != 0 && x.formed.badSeg (x.segWords + 1) false) ||
    (x.stride32 != 0 && decide (32 * x.stride32 < x.rowLen)) ||
    x.clusters.any fun c => s.tenantOf c != some t || (s.lbPart c e).2 == 0

/-- The row of a source can be read for the tenant by the engine (R245 steps 3 and 4). -/
def State.sourceServed (s : State) (t : Tenant) (e : Engine) (x : RowEnt) (src : Nat) : Bool :=
  let a := x.rowAddr src
  let n := x.rowLen
  decide (x.srcFirst ≤ src) && decide (src ≤ x.srcFirst + x.srcSpan) && s.deepFits a n &&
    (unitsOf a n).all (s.unitReadable t) && s.deepEngineOf a == e.val && s.deepEngineOf (a + n - 1) == e.val

/-- The tenant's quota at an engine holds a row (R255). -/
def State.quotaFits (s : State) (t : Tenant) (e : Engine) (x : RowEnt) : Bool :=
  let q := Tab.get s.deep[e.val].quota (0, 0) t.val
  decide (1 ≤ q.1) && decide (rowChunks x.rowLen ≤ q.2)

/-- The tenant's deep groups with the sources that name them: group, engine and sources. -/
def State.deepGroups (s : State) (t : Tenant) : List (Nat × Engine × List Nat) :=
  let dirs := s.dirOf t
  (s.groupsOf t).filterMap fun (st, g, e) =>
    (grpEngine e).map fun n => (g, n, (dirs.filter fun x => x.2 == g && homeOf (dirDomain x.1) == st).map (·.1))

/-- The deep tables that fail: a group without map or row, a row of another tenant, a source that is not served, a quota that
does not hold the row, and entries bad by themselves. -/
def ParRun.deepFails (r : ParRun) (t : Tenant) : List (Nat × Nat) :=
  ((r.s.deepGroups t).filterMap fun (g, e, srcs) =>
    let m := Tab.get r.s.deep[e.val].map 0 g
    let i := m.toNat % 4096
    let x := Tab.get r.s.deep[e.val].rows {} i
    let map := stReg (engStation e) (0x6_0000 + 4 * (g / 2))
    if !m.msb then some (r.writer map (map + 4))
    else if x.holder ≠ some t || srcs.any (fun n => !r.s.sourceServed t e x n) || !r.s.quotaFits t e x then
      some (r.writer (rowRange e i).1 (rowRange e i).2)
    else none) ++
  (r.s.deepRows t).filterMap fun (e, i, x) =>
    if r.s.rowEntBad t e x then some (r.writer (rowRange e i).1 (rowRange e i).2) else none

/-! ### 0x12: queues (R220, R222, R224, R226) -/

/-- The valid queue window entries of the tenant's clusters: cluster, index and entry. -/
def State.queueWins (s : State) (t : Tenant) : List (Nat × Nat × QWin) :=
  (s.clustersOf t).flatMap fun c => ((s.cluster c).qwin.filter fun e => e.2.valid).map fun e => (c, e.1, e.2)
/-- The register range of a queue window entry. -/
def qwinRange (c i : Nat) : Nat × Nat := (stReg c (0x1_2000 + 8 * i), stReg c (0x1_2000 + 8 * i) + 8)

/-- The message areas of a cluster: core, queue and first word. -/
def State.areasOf (s : State) (c : Nat) : List (Nat × Nat × Nat) :=
  (s.coresIn c).flatMap fun k =>
    (List.finRange 4).filterMap fun q =>
      let x := (s.core k).q[q.val]
      if x.areaEn then some (k, q.val, x.areaBase.toNat) else none
/-- The register range of CORE_Qq_AREA. -/
def areaRange (k q : Nat) : Nat × Nat := (coreWindow k + 0x4_9304 + 16 * q, coreWindow k + 0x4_9308 + 16 * q)
/-- A message area meets a range of shared-memory words. -/
def areaMeets (base lo n : Nat) : Bool := decide (base < lo + n) && decide (lo < base + 1024)
/-- A message area meets the mailbox or a combining vector (R222, R226). -/
def State.areaTaken (s : State) (c base : Nat) : Bool :=
  areaMeets base 0 0x4000 ||
    (List.range 64).any fun j => (s.comb c j).en && areaMeets base (0x3_C000 + 256 * j) (s.comb c j).elems

/-- The queue checks. -/
def ParRun.queueFails (r : ParRun) (t : Tenant) : List (Nat × Nat) :=
  let ws := r.s.queueWins t
  let at_ (x : Nat × Nat × QWin) : Nat × Nat := qwinRange x.1 x.2.1
  (ws.flatMap fun x =>
    let same := ws.filter fun y => y.2.2.dest == x.2.2.dest
    let here := same.filter fun y => y.1 == x.1
    let f := r.s.flow x.1 x.2.2.flow
    (if 15 < (same.map fun y => y.2.2.window).sum then [r.lastOf (same.map at_)] else []) ++
      (if 1 < here.length then [r.lastOf (here.map at_)] else []) ++
      (if f.en && f.tenant != t then [r.writer (at_ x).1 (at_ x).2] else [])) ++
  (r.s.clustersOf t).flatMap fun c =>
    let as_ := r.s.areasOf c
    as_.flatMap fun x =>
      let hits := as_.filter fun y => y != x && areaMeets x.2.2 y.2.2 1024
      (if r.s.areaTaken c x.2.2 then [r.writer (areaRange x.1 x.2.1).1 (areaRange x.1 x.2.1).2] else []) ++
        (if hits.isEmpty then [] else [r.lastOf ((x :: hits).map fun y => areaRange y.1 y.2.1)])

/-! ### 0x13: learning (R275, R284) -/

/-- The plastic rows of a core, and the rules that it uses: those of its plastic rows, and those that are set. -/
def State.plasticHdrs (s : State) (k : Nat) : List (Nat × RowHdr) :=
  (s.rowsOf k).filter fun x => x.2.format == 3 && !x.2.badAt x.1
def State.rulesUsed (s : State) (k : Nat) : List Nat :=
  (List.range 8).filter fun n =>
    (Tab.get (s.core k).mrv.rules {} n) != {} || (s.plasticHdrs k).any fun x => x.2.rule == n
/-- The register range of a rule descriptor. -/
def ruleRange (k n : Nat) : Nat × Nat := (coreWindow k + 0x4_92A0 + 12 * n, coreWindow k + 0x4_92AC + 12 * n)

/-- The learning checks of one core. -/
def ParRun.learnFails (r : ParRun) (k : Nat) : List (Nat × Nat) :=
  let c := r.s.core k
  let rule (n : Nat) : RuleDesc := Tab.get c.mrv.rules {} n
  let ctrl := coreWindow k + 0x4_9280
  (if c.mrv.preEn && (c.i.filtLog2 == 12 || !c.i.filtEn) then [r.writer ctrl (ctrl + 4)] else []) ++
    (if c.mrv.preEn then
      ((r.s.rulesUsed k).filter fun n => (rule n).yHalf == c.mrv.preHalf).map fun n =>
        r.writer (ruleRange k n).1 (ruleRange k n).2
     else []) ++
    ((r.s.plasticHdrs k).filter fun x =>
      (rule x.2.rule).createEn && decide (8192 < x.2.base + 2 ^ (rule x.2.rule).spanLog2)).map fun x =>
        r.writer (synRange k x.1).1 (synRange k x.1).2

/-! ### All of them, in order -/

/-- The checks of reasons 0x08 to 0x13 over a trial run, the first that fails; lossless is the mode of the parison. -/
def ParRun.check (r : ParRun) (t : Tenant) (sec : Nat) (hdr : List Byte) : Option ImgFail :=
  let ks := r.s.coresOf t
  (firstAt 8 (r.failsOf 8)).orElse fun _ =>
  (firstAt 9 (r.failsOf 9)).orElse fun _ =>
  (r.s.tickCheck t sec hdr).orElse fun _ =>
  (firstAt 0x0B (r.failsOf 0x0B ++ ks.flatMap r.filterFails)).orElse fun _ =>
  (firstAt 0x0C (ks.flatMap r.rowFails ++ r.storedFails t)).orElse fun _ =>
  (firstAt 0x0D (r.maskFails t)).orElse fun _ =>
  (firstAt 0x0E (r.groupFails t)).orElse fun _ =>
  (firstAt 0x0F (r.caneFails t ++ (if bitOf (imgField hdr 3 1) 1 then r.losslessFails t else []))).orElse fun _ =>
  (firstAt 0x10 (r.gatherFails t ++ r.gatherWinFails t ++ r.routeFails t ++ r.replyFails t)).orElse fun _ =>
  (firstAt 0x11 (r.deepFails t)).orElse fun _ =>
  (firstAt 0x12 (r.queueFails t)).orElse fun _ =>
  firstAt 0x13 (ks.flatMap r.learnFails)

end Sys2Proof.Machine
end

