-- ==== Sys2Proof/Machine/Loader.lean ====
section
/-!
DEFINITION. The loader's commands: LOAD and PATCH (R350 to R353, R357, R358, R472, R502).
-/

namespace Sys2Proof.Machine

/-- W2 bytes of an image that a host read brings; none: a read fails. -/
def imageRead (w2 : Nat) (bs : Option (List Byte)) : Option (List Byte) :=
  match bs with
  | some l => if w2 ≤ l.length then some (l.take w2) else none
  | none => none

/-! ### The check pass (R345, R349, R352 step 2) -/

/-- The checks before the tables are looked at: reasons 0x01 to 0x07. -/
def State.frontCheck (s : State) (t : Tenant) (m : Image) : Option ImgFail :=
  (m.firstItem 1 fun _ x => !s.recordForm x).orElse fun _ =>
  m.broken.orElse fun _ =>
  (if s.signatureOk t m then none else some { reason := 2 }).orElse fun _ =>
  m.abstractCheck.orElse fun _ =>
  (s.concreteCheck t m).orElse fun _ =>
  (s.sectionCheck m).orElse fun _ =>
  m.firstItem 7 ((s.claimed t m).s.targetBad t)

/-- Patch base and content, and an image of the wrong kind for its command (R357): reason 0x15. -/
def State.patchCheck (s : State) (t : Tenant) (m : Image) (patch : Bool) (sec : Nat) (hdr : List Byte) : Option ImgFail :=
  let x := s.tenant t
  if m.patch ≠ patch then some { reason := 0x15 }
  else if !patch then none
  else if 2 ^ 20 < m.len ∨ m.bdig ≠ x.parison ∨ m.adig ≠ x.abstract then some { reason := 0x15 }
  else if hdr ≠ x.header then some { reason := 0x15, sec := sec }
  else none

/-- Every check of an image for a tenant (R349). -/
def State.imageCheck (s : State) (t : Tenant) (m : Image) (patch : Bool) : Option ImgFail :=
  (s.frontCheck t m).orElse fun _ =>
    match m.concrete with
    | none => some { reason := 4 }
    | some (sec, hdr) =>
      ((s.trial t m).check t sec hdr).orElse fun _ => s.patchCheck t m patch sec hdr

/-- An image parsed and checked, or the failure. -/
def State.checkBytes (s : State) (t : Tenant) (bs : List Byte) (w2 : Nat) (patch : Bool) : Except ImgFail Image :=
  match parseImage bs w2 with
  | .error f => .error f
  | .ok m => match s.imageCheck t m patch with | some f => .error f | none => .ok m

/-! ### The write pass -/

/-- The configuration after the write pass: staging registers that the loader's writes went through keep what the port has
staged. -/
def State.written (s : State) (t : Tenant) (m : Image) : State :=
  let u := (s.trial t m).s
  let keys := (List.range 8).map (t.val * 8 + ·)
  { u with
    io := { u.io with emStage := Tab.put u.io.emStage none t.val (Tab.get s.io.emStage none t.val) }
    deep := Vector.ofFn fun e =>
      { u.deep[e.val] with stage := Tab.modifyAll u.deep[e.val].stage none keys fun k _ => Tab.get s.deep[e.val].stage none k } }

/-- The P, C and W keys of a tenant's clusters leave every collector (R502). -/
def State.clearKeys (s : State) (t : Tenant) : State :=
  let m : BitVec 256 := (s.clustersOf t).foldl (fun m c => m ||| (1#256 <<< (64 + c)) ||| (1#256 <<< (128 + c)) |||
    (1#256 <<< (192 + c))) 0
  { s with stations := Tab.modifyAll s.stations {} (s.stations.map (·.1)) fun _ x =>
      { x with fc := { x.fc with seen := x.fc.seen &&& ~~~m } } }

/-- Step 4 of R352, and the Shears' period, mode and epoch length (R347, R409). -/
def State.loadShears (s : State) (t : Tenant) (hdr : List Byte) : State :=
  let deep := s.hasDeep t
  s.modShear t fun x =>
    { x with
      deep := deep, lossless := bitOf (imgField hdr 3 1) 1, period := tickNs hdr / 4, staged := none,
      epochLen := imgField hdr 0x0A 2, tag := 0, tick := 0, fresh := true }

/-- The write pass of a LOAD whose image is unchanged (R352 steps 3 to 5, R472). -/
def State.loadWrite (s : State) (t : Tenant) (m : Image) : State :=
  let hdr := match m.concrete with | some (_, b) => b | none => []
  (((s.rotateForLoad t).written t m).loadShears t hdr |>.clearKeys t).modTenant t fun x =>
    { x with st := .stopped, parison := m.digest, abstract := m.adig, patch := List.replicate 32 0, header := hdr,
             loading := none }

/-- The second read of an image that the check pass read as bs (R352 step 3, R353). -/
def State.loadSecond (s : State) (p : Port) (bs : List Byte) (second : Option (List Byte)) : State :=
  match imageRead bs.length second, parseImage bs bs.length with
  | some cs, .ok m =>
    if sha3 (cs.take (m.len - trailer m.signed)) = m.digest then (s.loadWrite p m).finish p 0
    else (s.loadSpoilt p).finish p 3 (reasonDetail 0x14)
  | _, _ => (s.loadSpoilt p).finish p 4

/-- The loader serves another port's LOAD or PATCH (R351), or a snapshot copy is in progress, which a LOAD waits for. -/
def State.loaderElsewhere (s : State) (p : Port) : Bool :=
  (List.finRange 4).any fun t => t != p && ((s.tenant t).patching.isSome || (s.tenant t).loading.isSome)
def State.copyInProgress (s : State) : Bool := s.lehr.jobs.any fun j => j.phase == .copying

/-- The check pass of a LOAD (R352 steps 1 and 2): an image that passes leaves the tenant Loading; otherwise the tenant's
state is the one before. -/
def State.loadFirst (s : State) (p : Port) (w2 : Nat) (first : Option (List Byte)) : State :=
  match imageRead w2 first with
  | none => s.finish p 4
  | some bs =>
    match s.checkBytes p bs w2 false with
    | .error f => s.finish p 3 f.detail
    | .ok _ => s.modTenant p fun x => { x with st := .loading, loading := some bs }

/-- LOAD (R345, R349 to R353, R434, R499), in two passes, one command of the queue each: the first brings the check pass,
with the image as the first read brings it, and a second one the write pass of a tenant that is Loading; none where a read
fails. -/
def execLoad (p : Port) (first second : Option (List Byte)) (s : State) : Host.Outcome State Fault Refusal :=
  .next (s.command p 0x01 [m64, m64] fun c =>
    match (s.tenant p).loading with
    | some bs => s.loadSecond p bs second
    | none =>
      let st := (s.tenant p).st
      if s.loaderElsewhere p || s.copyInProgress then s
      else if s.pont.faulted || s.inNap || (st != .unloaded && st != .stopped) then s.finish p 2
      else s.loadFirst p (c.word 2).toNat first)

/-! ### PATCH (R357, R358) -/

/-- Write a checked patch: the tenant's state stays as it is. -/
def State.patchWrite (s : State) (t : Tenant) (m : Image) : State :=
  let u := s.written t m
  let deep := u.hasDeep t
  (u.modShear t fun x => { x with deep := deep }).modTenant t fun x =>
    { x with st := (s.tenant t).st, patch := m.digest, patching := none }

/-- The PATCH leaves its tenant. -/
def State.endPatch (s : State) (t : Tenant) : State := s.modTenant t fun x => { x with patching := none }

/-- A PATCH whose fabric hold may be Held by now: then it is checked again and written (R358 step 3). -/
def State.patchHeld (s : State) (p : Port) (bs : List Byte) : State :=
  if (s.shear p).hold != .held then s.requestHold p
  else
    match s.checkBytes p bs bs.length true with
    | .error f => ((s.endPatch p).releaseHold p).finish p 3 f.detail
    | .ok m => ((s.patchWrite p m).releaseHold p).finish p 0

/-- PATCH (R350, R351, R357, R358, R434, R499): a Stopped tenant's is written at once; a Running one's waits for its hold. -/
def execPatch (p : Port) (image : Option (List Byte)) (s : State) : Host.Outcome State Fault Refusal :=
  match (s.tenant p).patching with
  | some (bs, _) => .next (s.patchHeld p bs)
  | none =>
    .next (s.command p 0x04 [m64, m64] fun c =>
      let w2 := (c.word 2).toNat
      let st := (s.tenant p).st
      if s.loaderElsewhere p then s
      else if s.pont.faulted || s.inNap || (st != .running && st != .stopped) then s.finish p 2
      else
        match imageRead w2 image with
        | none => s.finish p 4
        | some bs =>
          match s.checkBytes p bs w2 true with
          | .error f => s.finish p 3 f.detail
          | .ok m =>
            if st = .stopped then (s.patchWrite p m).finish p 0
            else (s.modTenant p fun x => { x with patching := some (bs, s.now + 12500000) }).requestHold p)

/-- PATCH_HOLD_TIMEOUT (R188, R358 step 2): 50 ms have passed and the hold is not Held. -/
def execPatchHoldTimeout (t : Tenant) (s : State) : Host.Outcome State Fault Refusal :=
  match (s.tenant t).patching with
  | none => .next s
  | some (_, due) =>
    if (s.shear t).hold = .held then .next s
    else .next ((((s.passTo due).endPatch t).releaseHold t).finish t 3 (reasonDetail 0x16))

end Sys2Proof.Machine
end

