-- ==== Sys2Proof/Machine/RegRows.lean ====
section
/-!
DEFINITION. The commands that are an access of one named register: each is REG_WR or REG_RD at that register's address,
with the value that its rule names.
-/

namespace Sys2Proof.Machine

/-- A register of the requesting port's page, of the always-on block and of a core register window (R309, R89). -/
def pageReg (off : Nat) : Nat := regBase + 0x320_0000 + off
def aonReg (off : Nat) : Nat := regBase + 0x310_0000 + off
def coreReg (c : CoreId) (off : Nat) : Nat := coreWindow c.key + 0x4_9000 + off

/-- The ownership register of a resource (R402, R416). -/
def ownReg : Resource → Nat
  | .ingress c => stReg stPorts (0x4_0100 + 16 * c.val)
  | .encoder k => stReg stPorts (0x4_3004 + 16 * k.val)
  | .decoder k => stReg stPorts (0x4_4004 + 32 * k.val)
  | .pin n => stReg stPorts (0x4_6000 + 4 * n.val)
  | .timer n => stReg stPorts (0x4_9000 + 0x80 * n.val)

/-- A write of BOOT_CTRL: by the SMBus as R525 lets it, else at BAR0 offset 8 before readiness and in MGMT after it
(R460, R474). -/
def State.bootCommand (s : State) (r : Req) (v : Word) (f : BootFindings) : State :=
  match r with
  | .smbus => (s.bootCtrl .smbus v f).1.reply .smbus (s.bootCtrl .smbus v f).2 0
  | r => s.cmdWrite r (if s.boot.ready then stReg stMgmt 0x6_0008 else regBase + 8) v f

/-- CANE_THOLD_REQ (R186, R196): REQ written to CANE_THOLD of a tenant. -/
def execCaneTholdReq (r : Req) (t : Tenant) (s : State) : Host.Outcome State Fault Refusal :=
  .next (s.cmdWrite r (stReg stHost (0x180 + 4 * t.val)) 1)

/-- CANE_THOLD_REL (R188, R196): REL written to CANE_THOLD of a tenant. -/
def execCaneTholdRel (r : Req) (t : Tenant) (s : State) : Host.Outcome State Fault Refusal :=
  .next (s.cmdWrite r (stReg stHost (0x180 + 4 * t.val)) 2)

/-- GROUP_LO_WRITE (R200): word CANE_GRP_LO of an entry is staged for its writer. -/
def execGroupLoWrite (r : Req) (st : Station) (i : Fin 16384) (v : Word) (s : State) : Host.Outcome State Fault Refusal :=
  .next (s.cmdWrite r (stReg st.val (0x2_0000 + 8 * i.val)) v)

/-- GROUP_HI_WRITE (R182, R200): word CANE_GRP_HI commits the entry. -/
def execGroupHiWrite (r : Req) (st : Station) (i : Fin 16384) (v : Word) (s : State) : Host.Outcome State Fault Refusal :=
  .next (s.cmdWrite r (stReg st.val (0x2_0004 + 8 * i.val)) v)

/-- MEM_CFG_WRITE (R234, R237, R238, R261). -/
def execMemCfgWrite (r : Req) (v : Word) (s : State) : Host.Outcome State Fault Refusal :=
  .next (s.cmdWrite r (stReg stMemW 0x1_4004) v)

/-- MEM_TREG_WRITE (R241, R264). -/
def execMemTregWrite (r : Req) (t : Tenant) (v : Word) (s : State) : Host.Outcome State Fault Refusal :=
  .next (s.cmdWrite r (stReg stMemW (0x1_4200 + 4 * t.val)) v)

/-- ROW_TABLE_STAGE (R269): a word above the first is staged; the first is another row's. -/
def execRowTableStage (r : Req) (e : Engine) (i : Fin 4096) (w : Fin 8) (v : Word) (s : State) : Host.Outcome State Fault Refusal :=
  if w.val = 0 then .next s else .next (s.cmdWrite r (stReg (engStation e) (0x4_0000 + 32 * i.val + 4 * w.val)) v)

/-- ROW_TABLE_COMMIT (R182, R247, R269): the first word commits the entry. -/
def execRowTableCommit (r : Req) (e : Engine) (i : Fin 4096) (v : Word) (s : State) : Host.Outcome State Fault Refusal :=
  .next (s.cmdWrite r (stReg (engStation e) (0x4_0000 + 32 * i.val)) v)

/-- GROUP_MAP_WRITE (R182, R270). -/
def execGroupMapWrite (r : Req) (e : Engine) (j : Fin 32768) (v : Word) (s : State) : Host.Outcome State Fault Refusal :=
  .next (s.cmdWrite r (stReg (engStation e) (0x6_0000 + 4 * j.val)) v)

/-- SYNC_CNT_WRITE (R338, R339): a write of SYNC_CNT is a SET. -/
def execSyncCntWrite (r : Req) (n : Fin 8192) (v : Word) (s : State) : Host.Outcome State Fault Refusal :=
  .next (s.cmdWrite r (stReg stSync (0x4_0000 + 4 * n.val)) v)

/-- SYNC_THR_WRITE (R333, R339). -/
def execSyncThrWrite (r : Req) (n : Fin 8192) (v : Word) (s : State) : Host.Outcome State Fault Refusal :=
  .next (s.cmdWrite r (stReg stSync (0x4_8000 + 4 * n.val)) v)

/-- CMD_TAIL_WRITE (R313, R337). -/
def execCmdTailWrite (p : Port) (v : Word) (s : State) : Host.Outcome State Fault Refusal :=
  .next (s.cmdWrite (.port p) (pageReg 0x02C) v)

/-- CMD_ABORT (R316, R318): ABORT written to HI_CMD_CTRL. -/
def execCmdAbort (p : Port) (s : State) : Host.Outcome State Fault Refusal :=
  .next (s.cmdWrite (.port p) (pageReg 0x034) 2)

/-- CMD_RESUME (R318): RESUME written to HI_CMD_CTRL. -/
def execCmdResume (p : Port) (s : State) : Host.Outcome State Fault Refusal :=
  .next (s.cmdWrite (.port p) (pageReg 0x034) 1)

/-- CMD_CFG_WRITE (R313, R318, R337). -/
def execCmdCfgWrite (p : Port) (v : Word) (s : State) : Host.Outcome State Fault Refusal :=
  .next (s.cmdWrite (.port p) (pageReg 0x028) v)

/-- EV_CFG_WRITE (R319, R324, R337). -/
def execEvCfgWrite (p : Port) (v : Word) (s : State) : Host.Outcome State Fault Refusal :=
  .next (s.cmdWrite (.port p) (pageReg 0x048) v)

/-- EV_HEAD_WRITE (R319, R337). -/
def execEvHeadWrite (p : Port) (v : Word) (s : State) : Host.Outcome State Fault Refusal :=
  .next (s.cmdWrite (.port p) (pageReg 0x04C) v)

/-- DMA_CLAIM (R359): CLAIM written to DMA_CH_CTRL; owner counts for the MP. -/
def execDmaClaim (r : Req) (ch : Fin 16) (owner : Tenant) (s : State) : Host.Outcome State Fault Refusal :=
  .next (s.cmdWrite r (stReg stDma (0x3_1000 + 64 * ch.val)) (BitVec.ofNat 32 (2 ^ 31 + owner.val * 2 ^ 20)))

/-- DMA_RELEASE (R359). -/
def execDmaRelease (r : Req) (ch : Fin 16) (s : State) : Host.Outcome State Fault Refusal :=
  .next (s.cmdWrite r (stReg stDma (0x3_1000 + 64 * ch.val)) 0x40000000)

/-- DMA_ABORT (R370). -/
def execDmaAbort (r : Req) (ch : Fin 16) (s : State) : Host.Outcome State Fault Refusal :=
  .next (s.cmdWrite r (stReg stDma (0x3_1000 + 64 * ch.val)) 0x20000000)

/-- DMA_RESUME (R370). -/
def execDmaResume (r : Req) (ch : Fin 16) (s : State) : Host.Outcome State Fault Refusal :=
  .next (s.cmdWrite r (stReg stDma (0x3_1000 + 64 * ch.val)) 0x10000000)

/-- DMA_START (R370, R374): START written with the fields the channel holds. -/
def execDmaStart (r : Req) (ch : Fin 16) (s : State) : Host.Outcome State Fault Refusal :=
  let c := s.dmaCh ch
  .next (s.cmdWrite r (stReg stDma (0x3_1000 + 64 * ch.val)) (BitVec.ofNat 32 (2 ^ 27 + b2n c.firstSpace * 2 ^ 16 + c.prio)))

/-- PT_CLAIM (R377, R416): CLAIM written to a resource's ownership register; FUNC counts for a pin. -/
def execPtClaim (r : Req) (res : Resource) (owner : Tenant) (func : Fin 16) (s : State) : Host.Outcome State Fault Refusal :=
  let fn := match res with | .pin _ => func.val | _ => 0
  .next (s.cmdWrite r (ownReg res) (BitVec.ofNat 32 (2 ^ 31 + owner.val * 2 ^ 28 + fn)))

/-- PT_RELEASE (R378, R416). -/
def execPtRelease (r : Req) (res : Resource) (s : State) : Host.Outcome State Fault Refusal :=
  .next (s.cmdWrite r (ownReg res) 0x40000000)

/-- CSI_CFG_WRITE (R384, R401, R404). -/
def execCsiCfgWrite (r : Req) (rx : Fin 2) (v : Word) (s : State) : Host.Outcome State Fault Refusal :=
  .next (s.cmdWrite r (stReg stPorts (0x4_1000 + 0x100 * rx.val)) v)

/-- KEL_ENABLE (R389, R405): EN written to KEL_CTRL. -/
def execKelEnable (r : Req) (n : Fin 8) (s : State) : Host.Outcome State Fault Refusal :=
  .next (s.cmdWrite r (stReg stPorts (0x4_2000 + 0x40 * n.val)) 0x80000000)

/-- KEL_RETRAIN (R389, R405): RETRAIN written to KEL_CTRL, with EN as it stands. -/
def execKelRetrain (r : Req) (n : Fin 8) (s : State) : Host.Outcome State Fault Refusal :=
  .next (s.cmdWrite r (stReg stPorts (0x4_2000 + 0x40 * n.val)) (if s.io.kel[n.val].en then 0x80000001 else 1))

/-- FRIT_DEC_OUT_WRITE (R397, R407). -/
def execFritDecOutWrite (r : Req) (k : Fin 64) (v : Word) (s : State) : Host.Outcome State Fault Refusal :=
  .next (s.cmdWrite r (stReg stPorts (0x4_4010 + 32 * k.val)) v)

/-- FRIT_DEC_CFG_WRITE (R397, R401, R407). -/
def execFritDecCfgWrite (r : Req) (k : Fin 64) (v : Word) (s : State) : Host.Outcome State Fault Refusal :=
  .next (s.cmdWrite r (stReg stPorts (0x4_4000 + 32 * k.val)) v)

/-- PT_EM_HI_WRITE (R391, R408): the entry is committed. -/
def execPtEmHiWrite (r : Req) (i : Fin 128) (v : Word) (s : State) : Host.Outcome State Fault Refusal :=
  .next (s.cmdWrite r (stReg stPorts (0x4_5004 + 8 * i.val)) v)

/-- GPIO_SET (R399, R408). -/
def execGpioSet (r : Req) (v : Word) (s : State) : Host.Outcome State Fault Refusal :=
  .next (s.cmdWrite r (stReg stPorts 0x4_6088) v)

/-- GPIO_CLR (R399, R408). -/
def execGpioClr (r : Req) (v : Word) (s : State) : Host.Outcome State Fault Refusal :=
  .next (s.cmdWrite r (stReg stPorts 0x4_608C) v)

/-- SH_PERIOD_WRITE (R409, R425). -/
def execShPeriodWrite (r : Req) (t : Tenant) (v : Word) (s : State) : Host.Outcome State Fault Refusal :=
  .next (s.cmdWrite r (stReg stPorts (0x4_8004 + 0x40 * t.val)) v)

/-- TMR_CTRL_WRITE (R417, R418, R426). -/
def execTmrCtrlWrite (r : Req) (n : Fin 16) (v : Word) (s : State) : Host.Outcome State Fault Refusal :=
  .next (s.cmdWrite r (stReg stPorts (0x4_9000 + 0x80 * n.val + 0x04)) v)

/-- TMR_CNT_LO_WRITE (R419). -/
def execTmrCntLoWrite (r : Req) (n : Fin 16) (v : Word) (s : State) : Host.Outcome State Fault Refusal :=
  .next (s.cmdWrite r (stReg stPorts (0x4_9000 + 0x80 * n.val + 0x10)) v)

/-- TMR_CNT_LO_READ (R419). -/
def execTmrCntLoRead (r : Req) (n : Fin 16) (s : State) : Host.Outcome State Fault Refusal :=
  .next (s.cmdRead r (stReg stPorts (0x4_9000 + 0x80 * n.val + 0x10)))

/-- CAPTURE_POP (R422): a read of TMR_CAPk_LO. -/
def execCapturePop (r : Req) (n : Fin 16) (k : Fin 4) (s : State) : Host.Outcome State Fault Refusal :=
  .next (s.cmdRead r (stReg stPorts (0x4_9000 + 0x80 * n.val + 0x44 + 16 * k.val)))

/-- AON_VOTE_WRITE (R435, R436, R438). -/
def execAonVoteWrite (r : Req) (p : Port) (v : Word) (s : State) : Host.Outcome State Fault Refusal :=
  .next (s.cmdWrite r (aonReg (0x010 + 4 * p.val)) v)

/-- AON_WAKE (R438): WAKE written to AON_CTRL. -/
def execAonWake (r : Req) (s : State) : Host.Outcome State Fault Refusal :=
  .next (s.cmdWrite r (aonReg 0x004) 1)

/-- PAD_RELEASE (R441): PAD_RELEASE written to AON_CTRL. -/
def execPadRelease (r : Req) (s : State) : Host.Outcome State Fault Refusal :=
  .next (s.cmdWrite r (aonReg 0x004) 2)

/-- AON_COOL_WRITE (R449). -/
def execAonCoolWrite (r : Req) (v : Word) (s : State) : Host.Outcome State Fault Refusal :=
  .next (s.cmdWrite r (aonReg 0x0C0) v)

/-- BOOT_GO (R460, R474): GO written to BOOT_CTRL; f is what the physical tests of the boot find. -/
def execBootGo (r : Req) (f : BootFindings) (s : State) : Host.Outcome State Fault Refusal :=
  .next (s.bootCommand r 0x80000000 f)

/-- NOR_WRITE (R460, R474): NOR_WRITE written to BOOT_CTRL. -/
def execNorWrite (r : Req) (slotB : Bool) (s : State) : Host.Outcome State Fault Refusal :=
  .next (s.bootCommand r (if slotB then 0x60000000 else 0x40000000) {})

/-- TRANSITION (R480, R506): TRANSITION written to SEC_LC_CTRL. -/
def execTransition (r : Req) (s : State) : Host.Outcome State Fault Refusal :=
  .next (match r with | .smbus => (s.lcCtrl .smbus 1).1.reply .smbus (s.lcCtrl .smbus 1).2 0 | r => s.cmdWrite r (stReg stSec 0x4_0004) 1)

/-- SVN_COMMIT (R484): SVN_COMMIT written to SEC_CTRL. -/
def execSvnCommit (r : Req) (s : State) : Host.Outcome State Fault Refusal :=
  .next (s.cmdWrite r (stReg stSec 0x4_0010) 1)

/-- KEY_COMMIT (R485): COMMIT written to SEC_PK_CTRL. -/
def execKeyCommit (r : Req) (t : Tenant) (s : State) : Host.Outcome State Fault Refusal :=
  .next (s.cmdWrite r (stReg stSec (0x4_0020 + 4 * t.val)) 0x40000000)

/-- KEY_LOCK (R485): LOCK written to SEC_PK_CTRL. -/
def execKeyLock (r : Req) (t : Tenant) (s : State) : Host.Outcome State Fault Refusal :=
  .next (s.cmdWrite r (stReg stSec (0x4_0020 + 4 * t.val)) 0x80000000)

/-- CLEAR_PCW (R502, R509): CLEAR_PCW written to FC_CTRL. -/
def execClearPcw (r : Req) (st : Station) (s : State) : Host.Outcome State Fault Refusal :=
  .next (s.cmdWrite r (stReg st.val 0x7310) 1)

/-- FA_CLEAR (R503, R509): CLEAR written to FA_CTRL. -/
def execFaClear (r : Req) (s : State) : Host.Outcome State Fault Refusal :=
  .next (s.cmdWrite r (stReg stMgmt 0x7_0010) 1)

/-- DBG_HALT (R87, R99): HALT written to CORE_DBG_CTRL. -/
def execDbgHalt (r : Req) (c : CoreId) (s : State) : Host.Outcome State Fault Refusal :=
  .next (s.cmdWrite r (coreReg c 0x080) 1)

/-- DBG_RESUME (R87, R99). -/
def execDbgResume (r : Req) (c : CoreId) (s : State) : Host.Outcome State Fault Refusal :=
  .next (s.cmdWrite r (coreReg c 0x080) 2)

/-- DBG_STEP (R87, R99). -/
def execDbgStep (r : Req) (c : CoreId) (s : State) : Host.Outcome State Fault Refusal :=
  .next (s.cmdWrite r (coreReg c 0x080) 4)

/-- HALT_AT_EDGE (R87, R99). -/
def execHaltAtEdge (r : Req) (c : CoreId) (s : State) : Host.Outcome State Fault Refusal :=
  .next (s.cmdWrite r (coreReg c 0x080) 8)

/-- DBG_DATA_WRITE (R88): a write of CORE_DBG_DATA. -/
def execDbgDataWrite (r : Req) (c : CoreId) (v : Word) (s : State) : Host.Outcome State Fault Refusal :=
  .next (s.cmdWrite r (coreReg c 0x08C) v)

end Sys2Proof.Machine
end

