-- ==== Sys2Proof/Machine/Dispatch.lean ====
section
/-!
DEFINITION. The one dispatch: each command to its meaning.
-/

namespace Sys2Proof.Machine

/-- The effect of a command on everything but the queue. -/
def exec (i : Instr) (s : State) : Host.Outcome State Fault Refusal :=
  match i with
  | .powerOn straps => Sys2Proof.Machine.execPowerOn straps s
  | .supplyOutOfRange vin => Sys2Proof.Machine.execSupplyOutOfRange vin s
  | .perstPort0 straps f => Sys2Proof.Machine.execPerstPort0 straps f s
  | .perstPort p => Sys2Proof.Machine.execPerstPort p s
  | .flr p => Sys2Proof.Machine.execFlr p s
  | .linkDown p => Sys2Proof.Machine.execLinkDown p s
  | .bootGo r f => Sys2Proof.Machine.execBootGo r f s
  | .norWrite r slotB => Sys2Proof.Machine.execNorWrite r slotB s
  | .inFieldStep t crcOk defect => Sys2Proof.Machine.execInFieldStep t crcOk defect s
  | .tickEdge t => Sys2Proof.Machine.execTickEdge t s
  | .edgeAtCore c underway => Sys2Proof.Machine.execEdgeAtCore c underway s
  | .emitPhaseOpen t => Sys2Proof.Machine.execEmitPhaseOpen t s
  | .commitStart t => Sys2Proof.Machine.execCommitStart t s
  | .epochEntryStart c => Sys2Proof.Machine.execEpochEntryStart c s
  | .commitWorkEnd c => Sys2Proof.Machine.execCommitWorkEnd c s
  | .commitReportsIn t => Sys2Proof.Machine.execCommitReportsIn t s
  | .snapshotCopyDone t => Sys2Proof.Machine.execSnapshotCopyDone t s
  | .coreIngress c => Sys2Proof.Machine.execCoreIngress c s
  | .integrateEvent c => Sys2Proof.Machine.execIntegrateEvent c s
  | .integrateSegment c => Sys2Proof.Machine.execIntegrateSegment c s
  | .eventLookup st => Sys2Proof.Machine.execEventLookup st s
  | .holdRegisterEnqueue st t => Sys2Proof.Machine.execHoldRegisterEnqueue st t s
  | .streamInject st slot => Sys2Proof.Machine.execStreamInject st slot s
  | .caneFlitForward fab st slot crcBad => Sys2Proof.Machine.execCaneFlitForward fab st slot crcBad s
  | .beaconMissing fab st input misplaced => Sys2Proof.Machine.execBeaconMissing fab st input misplaced s
  | .caneEject st => Sys2Proof.Machine.execCaneEject st s
  | .rxLookup cl => Sys2Proof.Machine.execRxLookup cl s
  | .caneCred slot => Sys2Proof.Machine.execCaneCred slot s
  | .caneTholdReq r t => Sys2Proof.Machine.execCaneTholdReq r t s
  | .fabricHoldBegin t => Sys2Proof.Machine.execFabricHoldBegin t s
  | .caneTholdRel r t => Sys2Proof.Machine.execCaneTholdRel r t s
  | .groupLoWrite r st n v => Sys2Proof.Machine.execGroupLoWrite r st n v s
  | .groupHiWrite r st n v => Sys2Proof.Machine.execGroupHiWrite r st n v s
  | .engineEventService e => Sys2Proof.Machine.execEngineEventService e s
  | .sectorReadDone e entry o => Sys2Proof.Machine.execSectorReadDone e entry o s
  | .segmentSend e entry => Sys2Proof.Machine.execSegmentSend e entry s
  | .gddr6Refresh e temps => Sys2Proof.Machine.execGddr6Refresh e temps s
  | .memCfgWrite r v => Sys2Proof.Machine.execMemCfgWrite r v s
  | .memTregWrite r t v => Sys2Proof.Machine.execMemTregWrite r t v s
  | .rowTableStage r e n w v => Sys2Proof.Machine.execRowTableStage r e n w v s
  | .rowTableCommit r e n v => Sys2Proof.Machine.execRowTableCommit r e n v s
  | .groupMapWrite r e j v => Sys2Proof.Machine.execGroupMapWrite r e j v s
  | .gatherFlowSend st flow slot => Sys2Proof.Machine.execGatherFlowSend st flow slot s
  | .gatherWrite st cell => Sys2Proof.Machine.execGatherWrite st cell s
  | .qdesc st cell => Sys2Proof.Machine.execQdesc st cell s
  | .segmentLand st cell => Sys2Proof.Machine.execSegmentLand st cell s
  | .gatherRead st cell => Sys2Proof.Machine.execGatherRead st cell s
  | .bcast st cell => Sys2Proof.Machine.execBcast st cell s
  | .gathCred slot => Sys2Proof.Machine.execGathCred slot s
  | .qcred slot => Sys2Proof.Machine.execQcred slot s
  | .threadPlace slot => Sys2Proof.Machine.execThreadPlace slot s
  | .regWr r addr v => Sys2Proof.Machine.execRegWr r addr v s
  | .stallWatchdog c => Sys2Proof.Machine.execStallWatchdog c s
  | .sync slot => Sys2Proof.Machine.execSync slot s
  | .doorbell slot => Sys2Proof.Machine.execDoorbell slot s
  | .syncCntWrite r n v => Sys2Proof.Machine.execSyncCntWrite r n v s
  | .syncThrWrite r n v => Sys2Proof.Machine.execSyncThrWrite r n v s
  | .notifySend n => Sys2Proof.Machine.execNotifySend n s
  | .notify slot => Sys2Proof.Machine.execNotify slot s
  | .addDoorbellWrite p off bytes => Sys2Proof.Machine.execAddDoorbellWrite p off bytes s
  | .setDoorbellWrite p off bytes => Sys2Proof.Machine.execSetDoorbellWrite p off bytes s
  | .injectionWindowWrite p off bytes => Sys2Proof.Machine.execInjectionWindowWrite p off bytes s
  | .hostInjRelease t => Sys2Proof.Machine.execHostInjRelease t s
  | .bar2Write p off bytes => Sys2Proof.Machine.execBar2Write p off bytes s
  | .bar2Read p off len => Sys2Proof.Machine.execBar2Read p off len s
  | .cmdTailWrite p v => Sys2Proof.Machine.execCmdTailWrite p v s
  | .cmdFetch p entries => Sys2Proof.Machine.execCmdFetch p entries s
  | .cmdAbort p => Sys2Proof.Machine.execCmdAbort p s
  | .cmdResume p => Sys2Proof.Machine.execCmdResume p s
  | .cmdCfgWrite p v => Sys2Proof.Machine.execCmdCfgWrite p v s
  | .evCfgWrite p v => Sys2Proof.Machine.execEvCfgWrite p v s
  | .evHeadWrite p v => Sys2Proof.Machine.execEvHeadWrite p v s
  | .eventRecordWrite p => Sys2Proof.Machine.execEventRecordWrite p s
  | .readoutDrain p => Sys2Proof.Machine.execReadoutDrain p s
  | .eventsFlush p => Sys2Proof.Machine.execEventsFlush p s
  | .evModTimer p => Sys2Proof.Machine.execEvModTimer p s
  | .nopCommand p => Sys2Proof.Machine.execNopCommand p s
  | .load p first second => Sys2Proof.Machine.execLoad p first second s
  | .start p => Sys2Proof.Machine.execStart p s
  | .stop p => Sys2Proof.Machine.execStop p s
  | .stopLimitExpiry t => Sys2Proof.Machine.execStopLimitExpiry t s
  | .stopComplete t => Sys2Proof.Machine.execStopComplete t s
  | .patch p image => Sys2Proof.Machine.execPatch p image s
  | .patchHoldTimeout t => Sys2Proof.Machine.execPatchHoldTimeout t s
  | .assign p => Sys2Proof.Machine.execAssign p s
  | .shareDeclare p => Sys2Proof.Machine.execShareDeclare p s
  | .shareLock p => Sys2Proof.Machine.execShareLock p s
  | .shareUnlock p => Sys2Proof.Machine.execShareUnlock p s
  | .shareWithdraw p => Sys2Proof.Machine.execShareWithdraw p s
  | .save p => Sys2Proof.Machine.execSave p s
  | .lehrSaveDone badBlocks => Sys2Proof.Machine.execLehrSaveDone badBlocks s
  | .restore p => Sys2Proof.Machine.execRestore p s
  | .lehrRestoreDone p newestOk olderOk => Sys2Proof.Machine.execLehrRestoreDone p newestOk olderOk s
  | .release p => Sys2Proof.Machine.execRelease p s
  | .caps p => Sys2Proof.Machine.execCaps p s
  | .attest p nonce => Sys2Proof.Machine.execAttest p nonce s
  | .waitsync p => Sys2Proof.Machine.execWaitsync p s
  | .sigsync p => Sys2Proof.Machine.execSigsync p s
  | .testReport p => Sys2Proof.Machine.execTestReport p s
  | .testSchedule p => Sys2Proof.Machine.execTestSchedule p s
  | .testPreservingPass p => Sys2Proof.Machine.execTestPreservingPass p s
  | .testDestructive p => Sys2Proof.Machine.execTestDestructive p s
  | .dmaClaim r ch owner => Sys2Proof.Machine.execDmaClaim r ch owner s
  | .dmaRelease r ch => Sys2Proof.Machine.execDmaRelease r ch s
  | .dmaStart r ch => Sys2Proof.Machine.execDmaStart r ch s
  | .dmaAbort r ch => Sys2Proof.Machine.execDmaAbort r ch s
  | .dmaResume r ch => Sys2Proof.Machine.execDmaResume r ch s
  | .descriptorFetch ch hostData => Sys2Proof.Machine.execDescriptorFetch ch hostData s
  | .dmaBurstStart linkUp => Sys2Proof.Machine.execDmaBurstStart linkUp s
  | .dmaBurstResponse ch burst hostData => Sys2Proof.Machine.execDmaBurstResponse ch burst hostData s
  | .ptClaim r res owner func => Sys2Proof.Machine.execPtClaim r res owner func s
  | .ptRelease r res => Sys2Proof.Machine.execPtRelease r res s
  | .csiEventPacket rx h payload => Sys2Proof.Machine.execCsiEventPacket rx h payload s
  | .csiFramePacket rx h payload => Sys2Proof.Machine.execCsiFramePacket rx h payload s
  | .csiFrameStart rx h => Sys2Proof.Machine.execCsiFrameStart rx h s
  | .csiFrameEnd rx h => Sys2Proof.Machine.execCsiFrameEnd rx h s
  | .csiCfgWrite r rx v => Sys2Proof.Machine.execCsiCfgWrite r rx v s
  | .kelEnable r n => Sys2Proof.Machine.execKelEnable r n s
  | .kelRetrain r n => Sys2Proof.Machine.execKelRetrain r n s
  | .kelLocked n => Sys2Proof.Machine.execKelLocked n s
  | .kelUp n => Sys2Proof.Machine.execKelUp n s
  | .kelTrainTimeout n => Sys2Proof.Machine.execKelTrainTimeout n s
  | .kelLinkFail n codeErrors => Sys2Proof.Machine.execKelLinkFail n codeErrors s
  | .kelEventsFrame n f => Sys2Proof.Machine.execKelEventsFrame n f s
  | .kelValueFrame n f => Sys2Proof.Machine.execKelValueFrame n f s
  | .kelTxFrame n => Sys2Proof.Machine.execKelTxFrame n s
  | .kelSkipSend n => Sys2Proof.Machine.execKelSkipSend n s
  | .portsEmitOpen t => Sys2Proof.Machine.execPortsEmitOpen t s
  | .portsRelease => Sys2Proof.Machine.execPortsRelease s
  | .egressMatch => Sys2Proof.Machine.execEgressMatch s
  | .portsEdge t => Sys2Proof.Machine.execPortsEdge t s
  | .pulseEnd n => Sys2Proof.Machine.execPulseEnd n s
  | .pwmPeriodStart k => Sys2Proof.Machine.execPwmPeriodStart k s
  | .pwmHighEnd k => Sys2Proof.Machine.execPwmHighEnd k s
  | .fritDecOutWrite r k v => Sys2Proof.Machine.execFritDecOutWrite r k v s
  | .fritDecCfgWrite r k v => Sys2Proof.Machine.execFritDecCfgWrite r k v s
  | .ptEmHiWrite r n v => Sys2Proof.Machine.execPtEmHiWrite r n v s
  | .gpioSet r v => Sys2Proof.Machine.execGpioSet r v s
  | .gpioClr r v => Sys2Proof.Machine.execGpioClr r v s
  | .pinEdge n level => Sys2Proof.Machine.execPinEdge n level s
  | .shPeriodWrite r t v => Sys2Proof.Machine.execShPeriodWrite r t v s
  | .timerTrigger n => Sys2Proof.Machine.execTimerTrigger n s
  | .timerMatch n => Sys2Proof.Machine.execTimerMatch n s
  | .timerOverflow n => Sys2Proof.Machine.execTimerOverflow n s
  | .tmrCtrlWrite r n v => Sys2Proof.Machine.execTmrCtrlWrite r n v s
  | .tmrCntLoWrite r n v => Sys2Proof.Machine.execTmrCntLoWrite r n v s
  | .tmrCntLoRead r n => Sys2Proof.Machine.execTmrCntLoRead r n s
  | .capture n k => Sys2Proof.Machine.execCapture n k s
  | .capturePop r n k => Sys2Proof.Machine.execCapturePop r n k s
  | .aonVoteWrite r p v => Sys2Proof.Machine.execAonVoteWrite r p v s
  | .sleepEntry => Sys2Proof.Machine.execSleepEntry s
  | .sleepEntryDone => Sys2Proof.Machine.execSleepEntryDone s
  | .aonWake r => Sys2Proof.Machine.execAonWake r s
  | .padRelease r => Sys2Proof.Machine.execPadRelease r s
  | .wakePin n => Sys2Proof.Machine.execWakePin n s
  | .wakeTimer => Sys2Proof.Machine.execWakeTimer s
  | .glorySample => Sys2Proof.Machine.execGlorySample s
  | .gloryWindowEnd measured => Sys2Proof.Machine.execGloryWindowEnd measured s
  | .wakeExit linksOk memOk staleCores corrected outsideBad => Sys2Proof.Machine.execWakeExit linksOk memOk staleCores corrected outsideBad s
  | .governorTick power dieTemp => Sys2Proof.Machine.execGovernorTick power dieTemp s
  | .aonCoolWrite r v => Sys2Proof.Machine.execAonCoolWrite r v s
  | .transition r => Sys2Proof.Machine.execTransition r s
  | .svnCommit r => Sys2Proof.Machine.execSvnCommit r s
  | .keyCommit r t => Sys2Proof.Machine.execKeyCommit r t s
  | .keyLock r t => Sys2Proof.Machine.execKeyLock r t s
  | .tamperEvent detector => Sys2Proof.Machine.execTamperEvent detector s
  | .trngHealthFail => Sys2Proof.Machine.execTrngHealthFail s
  | .fullScan => Sys2Proof.Machine.execFullScan s
  | .lockstepMismatch => Sys2Proof.Machine.execLockstepMismatch s
  | .monitorTrip monitor => Sys2Proof.Machine.execMonitorTrip monitor s
  | .tickLivenessExpiry t => Sys2Proof.Machine.execTickLivenessExpiry t s
  | .heartbeatExpiry p => Sys2Proof.Machine.execHeartbeatExpiry p s
  | .spiRead frame => Sys2Proof.Machine.execSpiRead frame s
  | .spiWrite frame => Sys2Proof.Machine.execSpiWrite frame s
  | .spiNop frame => Sys2Proof.Machine.execSpiNop frame s
  | .spiOpen frame => Sys2Proof.Machine.execSpiOpen frame s
  | .spiClose frame => Sys2Proof.Machine.execSpiClose frame s
  | .spiSafe frame => Sys2Proof.Machine.execSpiSafe frame s
  | .spiPstop frame => Sys2Proof.Machine.execSpiPstop frame s
  | .spiPresume frame => Sys2Proof.Machine.execSpiPresume frame s
  | .spiTimeout => Sys2Proof.Machine.execSpiTimeout s
  | .faultAtTap slot => Sys2Proof.Machine.execFaultAtTap slot s
  | .fault slot => Sys2Proof.Machine.execFault slot s
  | .clearPcw r st => Sys2Proof.Machine.execClearPcw r st s
  | .faClear r => Sys2Proof.Machine.execFaClear r s
  | .smbSetPointer v pecOk => Sys2Proof.Machine.execSmbSetPointer v pecOk s
  | .smbReadWord => Sys2Proof.Machine.execSmbReadWord s
  | .smbWriteWords ws pecOk f => Sys2Proof.Machine.execSmbWriteWords ws pecOk f s
  | .smbAlertResponse => Sys2Proof.Machine.execSmbAlertResponse s
  | .dbgHalt r c => Sys2Proof.Machine.execDbgHalt r c s
  | .haltAtEdge r c => Sys2Proof.Machine.execHaltAtEdge r c s
  | .dbgStep r c => Sys2Proof.Machine.execDbgStep r c s
  | .dbgResume r c => Sys2Proof.Machine.execDbgResume r c s
  | .dbgDataWrite r c v => Sys2Proof.Machine.execDbgDataWrite r c v s
  | .messageEntryStart c => Sys2Proof.Machine.execMessageEntryStart c s
  | .iAdd c rd ra rb => Sys2Proof.Machine.execIAdd c rd ra rb s
  | .iSub c rd ra rb => Sys2Proof.Machine.execISub c rd ra rb s
  | .iAnd c rd ra rb => Sys2Proof.Machine.execIAnd c rd ra rb s
  | .iOr c rd ra rb => Sys2Proof.Machine.execIOr c rd ra rb s
  | .iXor c rd ra rb => Sys2Proof.Machine.execIXor c rd ra rb s
  | .iSll c rd ra rb => Sys2Proof.Machine.execISll c rd ra rb s
  | .iSrl c rd ra rb => Sys2Proof.Machine.execISrl c rd ra rb s
  | .iSra c rd ra rb => Sys2Proof.Machine.execISra c rd ra rb s
  | .iMul c rd ra rb => Sys2Proof.Machine.execIMul c rd ra rb s
  | .iMulhs c rd ra rb => Sys2Proof.Machine.execIMulhs c rd ra rb s
  | .iMin c rd ra rb => Sys2Proof.Machine.execIMin c rd ra rb s
  | .iMax c rd ra rb => Sys2Proof.Machine.execIMax c rd ra rb s
  | .iSlt c rd ra rb => Sys2Proof.Machine.execISlt c rd ra rb s
  | .iSltu c rd ra rb => Sys2Proof.Machine.execISltu c rd ra rb s
  | .iSlli c rd ra sh => Sys2Proof.Machine.execISlli c rd ra sh s
  | .iSrli c rd ra sh => Sys2Proof.Machine.execISrli c rd ra sh s
  | .iSrai c rd ra sh => Sys2Proof.Machine.execISrai c rd ra sh s
  | .iSatS8 c rd ra => Sys2Proof.Machine.execISatS8 c rd ra s
  | .iSatS16 c rd ra => Sys2Proof.Machine.execISatS16 c rd ra s
  | .iSatU8 c rd ra => Sys2Proof.Machine.execISatU8 c rd ra s
  | .iAbs c rd ra => Sys2Proof.Machine.execIAbs c rd ra s
  | .iSrs c rd ra sh => Sys2Proof.Machine.execISrs c rd ra sh s
  | .iRand c rd => Sys2Proof.Machine.execIRand c rd s
  | .iMuls c rd ra rb sh => Sys2Proof.Machine.execIMuls c rd ra rb sh s
  | .iAddi c rd ra imm => Sys2Proof.Machine.execIAddi c rd ra imm s
  | .iAndi c rd ra imm => Sys2Proof.Machine.execIAndi c rd ra imm s
  | .iOri c rd ra imm => Sys2Proof.Machine.execIOri c rd ra imm s
  | .iXori c rd ra imm => Sys2Proof.Machine.execIXori c rd ra imm s
  | .iLi c rd imm => Sys2Proof.Machine.execILi c rd imm s
  | .iLih c rd imm => Sys2Proof.Machine.execILih c rd imm s
  | .iVadd c vd va vb m => Sys2Proof.Machine.execIVadd c vd va vb m s
  | .iVsub c vd va vb m => Sys2Proof.Machine.execIVsub c vd va vb m s
  | .iVand c vd va vb m => Sys2Proof.Machine.execIVand c vd va vb m s
  | .iVor c vd va vb m => Sys2Proof.Machine.execIVor c vd va vb m s
  | .iVxor c vd va vb m => Sys2Proof.Machine.execIVxor c vd va vb m s
  | .iVmin c vd va vb m => Sys2Proof.Machine.execIVmin c vd va vb m s
  | .iVmax c vd va vb m => Sys2Proof.Machine.execIVmax c vd va vb m s
  | .iVabs c vd va m => Sys2Proof.Machine.execIVabs c vd va m s
  | .iVsll c vd va m sh => Sys2Proof.Machine.execIVsll c vd va m sh s
  | .iVsrl c vd va m sh => Sys2Proof.Machine.execIVsrl c vd va m sh s
  | .iVsra c vd va m sh => Sys2Proof.Machine.execIVsra c vd va m sh s
  | .iVsllv c vd va vb m => Sys2Proof.Machine.execIVsllv c vd va vb m s
  | .iVsrav c vd va vb m => Sys2Proof.Machine.execIVsrav c vd va vb m s
  | .iVmul c vd va vb m => Sys2Proof.Machine.execIVmul c vd va vb m s
  | .iVmuls c vd va vb m sh => Sys2Proof.Machine.execIVmuls c vd va vb m sh s
  | .iVsrs c vd va m sh => Sys2Proof.Machine.execIVsrs c vd va m sh s
  | .iVsatS8 c vd va m => Sys2Proof.Machine.execIVsatS8 c vd va m s
  | .iVsatS16 c vd va m => Sys2Proof.Machine.execIVsatS16 c vd va m s
  | .iVsatU8 c vd va m => Sys2Proof.Machine.execIVsatU8 c vd va m s
  | .iVsel c vd va vb m => Sys2Proof.Machine.execIVsel c vd va vb m s
  | .iVmov c vd va m => Sys2Proof.Machine.execIVmov c vd va m s
  | .iVbcast c vd ga m => Sys2Proof.Machine.execIVbcast c vd ga m s
  | .iViota c vd m => Sys2Proof.Machine.execIViota c vd m s
  | .iVrand c vd m => Sys2Proof.Machine.execIVrand c vd m s
  | .iVext c gd va e => Sys2Proof.Machine.execIVext c gd va e s
  | .iVins c vd ga e => Sys2Proof.Machine.execIVins c vd ga e s
  | .iVsum c gd va m => Sys2Proof.Machine.execIVsum c gd va m s
  | .iVcmpEq c md va vb => Sys2Proof.Machine.execIVcmpEq c md va vb s
  | .iVcmpNe c md va vb => Sys2Proof.Machine.execIVcmpNe c md va vb s
  | .iVcmpLt c md va vb => Sys2Proof.Machine.execIVcmpLt c md va vb s
  | .iVcmpLe c md va vb => Sys2Proof.Machine.execIVcmpLe c md va vb s
  | .iVcmpGt c md va vb => Sys2Proof.Machine.execIVcmpGt c md va vb s
  | .iVcmpGe c md va vb => Sys2Proof.Machine.execIVcmpGe c md va vb s
  | .iMand c md ma mb => Sys2Proof.Machine.execIMand c md ma mb s
  | .iMor c md ma mb => Sys2Proof.Machine.execIMor c md ma mb s
  | .iMxor c md ma mb => Sys2Proof.Machine.execIMxor c md ma mb s
  | .iMandn c md ma mb => Sys2Proof.Machine.execIMandn c md ma mb s
  | .iMnot c md ma => Sys2Proof.Machine.execIMnot c md ma s
  | .iMmov c md g => Sys2Proof.Machine.execIMmov c md g s
  | .iMfm c g ma => Sys2Proof.Machine.execIMfm c g ma s
  | .iMpop c g ma => Sys2Proof.Machine.execIMpop c g ma s
  | .iVacc c vd => Sys2Proof.Machine.execIVacc c vd s
  | .iAclr c => Sys2Proof.Machine.execIAclr c s
  | .iDecay c vd va m ga => Sys2Proof.Machine.execIDecay c vd va m ga s
  | .iVscl c vd va m => Sys2Proof.Machine.execIVscl c vd va m s
  | .iPmark c m => Sys2Proof.Machine.execIPmark c m s
  | .iHold c m => Sys2Proof.Machine.execIHold c m s
  | .iBstamp c => Sys2Proof.Machine.execIBstamp c s
  | .iVtrupL c va m ga gb gc => Sys2Proof.Machine.execIVtrupL c va m ga gb gc s
  | .iVtrupH c va m ga gb gc => Sys2Proof.Machine.execIVtrupH c va m ga gb gc s
  | .iVemitU c va m => Sys2Proof.Machine.execIVemitU c va m s
  | .iVemitS c va m => Sys2Proof.Machine.execIVemitS c va m s
  | .iLd c reg ra view sfx off => Sys2Proof.Machine.execILd c reg ra view sfx off s
  | .iSt c reg ra view sfx off => Sys2Proof.Machine.execISt c reg ra view sfx off s
  | .iVld c reg ra view sfx m off => Sys2Proof.Machine.execIVld c reg ra view sfx m off s
  | .iVst c reg ra view sfx m off => Sys2Proof.Machine.execIVst c reg ra view sfx m off s
  | .iBr c target => Sys2Proof.Machine.execIBr c target s
  | .iBeq c ra rb target => Sys2Proof.Machine.execIBeq c ra rb target s
  | .iBne c ra rb target => Sys2Proof.Machine.execIBne c ra rb target s
  | .iBlt c ra rb target => Sys2Proof.Machine.execIBlt c ra rb target s
  | .iBge c ra rb target => Sys2Proof.Machine.execIBge c ra rb target s
  | .iBltu c ra rb target => Sys2Proof.Machine.execIBltu c ra rb target s
  | .iBgeu c ra rb target => Sys2Proof.Machine.execIBgeu c ra rb target s
  | .iBz c ra target => Sys2Proof.Machine.execIBz c ra target s
  | .iBnz c ra target => Sys2Proof.Machine.execIBnz c ra target s
  | .iBany c m target => Sys2Proof.Machine.execIBany c m target s
  | .iBnone c m target => Sys2Proof.Machine.execIBnone c m target s
  | .iCall c target => Sys2Proof.Machine.execICall c target s
  | .iLoop c g target => Sys2Proof.Machine.execILoop c g target s
  | .iLoopi c count target => Sys2Proof.Machine.execILoopi c count target s
  | .iNxtblkA c g target => Sys2Proof.Machine.execINxtblkA c g target s
  | .iNxtblkP c g target => Sys2Proof.Machine.execINxtblkP c g target s
  | .iNop c => Sys2Proof.Machine.execINop c s
  | .iEnd c => Sys2Proof.Machine.execIEnd c s
  | .iRet c => Sys2Proof.Machine.execIRet c s
  | .iMfs c rd sr => Sys2Proof.Machine.execIMfs c rd sr s
  | .iMts c sr ra => Sys2Proof.Machine.execIMts c sr ra s
  | .iEmit c ra rb => Sys2Proof.Machine.execIEmit c ra rb s
  | .iQsend c ra rb rd => Sys2Proof.Machine.execIQsend c ra rb rd s
  | .iQrecv c rd ra q => Sys2Proof.Machine.execIQrecv c rd ra q s
  | .iQpeek c rd q => Sys2Proof.Machine.execIQpeek c rd q s
  | .iSig c ra rb => Sys2Proof.Machine.execISig c ra rb s
  | .iWaits c ra rb => Sys2Proof.Machine.execIWaits c ra rb s
  | .iMod c ra => Sys2Proof.Machine.execIMod c ra s
  | .iMskip c => Sys2Proof.Machine.execIMskip c s
  | .perstPort0Assert => Sys2Proof.Machine.execPerstPort0Assert s
  | .regRd r addr => Sys2Proof.Machine.execRegRd r addr s
  | .completionTimeout x => Sys2Proof.Machine.execCompletionTimeout x s
  | .lehrJournalScanEnd => Sys2Proof.Machine.execLehrJournalScanEnd s
  | .lifecycleTransitionEnd ok => Sys2Proof.Machine.execLifecycleTransitionEnd ok s
  | .spiWrongLengthFrame => Sys2Proof.Machine.execSpiWrongLengthFrame s
  | .testCompletion t defects => Sys2Proof.Machine.execTestCompletion t defects s

end Sys2Proof.Machine
end

