-- ==== Sys2Proof/Machine/Encode.lean ====
section
/-!
DEFINITION. The program word of a Mladza instruction, written from the formats of R104 to R122.
-/

namespace Sys2Proof.Machine

/-- A word of format A (R107): rd, ra, rb, SH and the function. -/
def wordA (rd ra rb sh fn : Nat) : Word :=
  BitVec.ofNat 32 (0x01 * 2 ^ 26 + rd * 2 ^ 22 + ra * 2 ^ 18 + rb * 2 ^ 14 + sh * 2 ^ 6 + fn)
/-- Format I (R108): an 18-bit immediate. -/
def wordI (op rd ra imm : Nat) : Word := BitVec.ofNat 32 (op * 2 ^ 26 + rd * 2 ^ 22 + ra * 2 ^ 18 + imm)
/-- Format U (R108): a 16-bit immediate. -/
def wordU (op rd imm : Nat) : Word := BitVec.ofNat 32 (op * 2 ^ 26 + rd * 2 ^ 22 + imm)
/-- Format V (R110). -/
def wordV (vd va vb m sh g fn : Nat) : Word :=
  BitVec.ofNat 32 (0x10 * 2 ^ 26 + vd * 2 ^ 23 + va * 2 ^ 20 + vb * 2 ^ 17 + m * 2 ^ 15 + sh * 2 ^ 10 + g * 2 ^ 6 + fn)
/-- Format K (R111). -/
def wordK (md ma mb g fn : Nat) : Word :=
  BitVec.ofNat 32 (0x11 * 2 ^ 26 + md * 2 ^ 24 + ma * 2 ^ 22 + mb * 2 ^ 20 + g * 2 ^ 16 + fn)
/-- Format N (R115). -/
def wordN (vd va m gc gb ga fn : Nat) : Word :=
  BitVec.ofNat 32
    (0x12 * 2 ^ 26 + vd * 2 ^ 23 + va * 2 ^ 20 + m * 2 ^ 18 + gc * 2 ^ 14 + gb * 2 ^ 10 + ga * 2 ^ 6 + fn)
/-- Format L (R112). -/
def wordL (op reg ra view sfx m off : Nat) : Word :=
  BitVec.ofNat 32 (op * 2 ^ 26 + reg * 2 ^ 22 + ra * 2 ^ 18 + view * 2 ^ 15 + sfx * 2 ^ 13 + m * 2 ^ 11 + off)
/-- Format B (R118). -/
def wordB (cond ra rb t : Nat) : Word :=
  BitVec.ofNat 32 (0x30 * 2 ^ 26 + cond * 2 ^ 22 + ra * 2 ^ 18 + rb * 2 ^ 14 + t)
/-- Format J (R119 to R121). -/
def wordJ (op g imm t : Nat) : Word := BitVec.ofNat 32 (op * 2 ^ 26 + g * 2 ^ 22 + imm * 2 ^ 12 + t)
/-- Format S (R122). -/
def wordS (rd ra rb imm fn : Nat) : Word :=
  BitVec.ofNat 32 (0x38 * 2 ^ 26 + rd * 2 ^ 22 + ra * 2 ^ 18 + rb * 2 ^ 14 + imm * 2 ^ 6 + fn)

/-- The program word of an instruction; none for a command that is not a Mladza instruction. -/
def encodeWord (i : Instr) : Option Word :=
  match i with
  | .iAdd _ rd ra rb => some (wordA rd ra rb 0 0x00)
  | .iSub _ rd ra rb => some (wordA rd ra rb 0 0x01)
  | .iAnd _ rd ra rb => some (wordA rd ra rb 0 0x02)
  | .iOr _ rd ra rb => some (wordA rd ra rb 0 0x03)
  | .iXor _ rd ra rb => some (wordA rd ra rb 0 0x04)
  | .iSll _ rd ra rb => some (wordA rd ra rb 0 0x05)
  | .iSrl _ rd ra rb => some (wordA rd ra rb 0 0x06)
  | .iSra _ rd ra rb => some (wordA rd ra rb 0 0x07)
  | .iMul _ rd ra rb => some (wordA rd ra rb 0 0x08)
  | .iMulhs _ rd ra rb => some (wordA rd ra rb 0 0x09)
  | .iMin _ rd ra rb => some (wordA rd ra rb 0 0x0A)
  | .iMax _ rd ra rb => some (wordA rd ra rb 0 0x0B)
  | .iSlt _ rd ra rb => some (wordA rd ra rb 0 0x0C)
  | .iSltu _ rd ra rb => some (wordA rd ra rb 0 0x0D)
  | .iSlli _ rd ra sh => some (wordA rd ra 0 sh.toNat 0x0E)
  | .iSrli _ rd ra sh => some (wordA rd ra 0 sh.toNat 0x0F)
  | .iSrai _ rd ra sh => some (wordA rd ra 0 sh.toNat 0x10)
  | .iSrs _ rd ra sh => some (wordA rd ra 0 sh.toNat 0x15)
  | .iSatS8 _ rd ra => some (wordA rd ra 0 0 0x11)
  | .iSatS16 _ rd ra => some (wordA rd ra 0 0 0x12)
  | .iSatU8 _ rd ra => some (wordA rd ra 0 0 0x13)
  | .iAbs _ rd ra => some (wordA rd ra 0 0 0x14)
  | .iRand _ rd => some (wordA rd 0 0 0 0x16)
  | .iMuls _ rd ra rb sh => some (wordA rd ra rb sh.toNat 0x17)
  | .iAddi _ rd ra imm => some (wordI 0x02 rd ra imm.toNat)
  | .iAndi _ rd ra imm => some (wordI 0x03 rd ra imm.toNat)
  | .iOri _ rd ra imm => some (wordI 0x04 rd ra imm.toNat)
  | .iXori _ rd ra imm => some (wordI 0x05 rd ra imm.toNat)
  | .iLi _ rd imm => some (wordU 0x06 rd imm.toNat)
  | .iLih _ rd imm => some (wordU 0x07 rd imm.toNat)
  | .iVadd _ vd va vb m => some (wordV vd va vb m 0 0 0x00)
  | .iVsub _ vd va vb m => some (wordV vd va vb m 0 0 0x01)
  | .iVand _ vd va vb m => some (wordV vd va vb m 0 0 0x02)
  | .iVor _ vd va vb m => some (wordV vd va vb m 0 0 0x03)
  | .iVxor _ vd va vb m => some (wordV vd va vb m 0 0 0x04)
  | .iVmin _ vd va vb m => some (wordV vd va vb m 0 0 0x05)
  | .iVmax _ vd va vb m => some (wordV vd va vb m 0 0 0x06)
  | .iVsllv _ vd va vb m => some (wordV vd va vb m 0 0 0x0B)
  | .iVsrav _ vd va vb m => some (wordV vd va vb m 0 0 0x0C)
  | .iVmul _ vd va vb m => some (wordV vd va vb m 0 0 0x0D)
  | .iVsel _ vd va vb m => some (wordV vd va vb m 0 0 0x13)
  | .iVmuls _ vd va vb m sh => some (wordV vd va vb m sh.toNat 0 0x0E)
  | .iVabs _ vd va m => some (wordV vd va 0 m 0 0 0x07)
  | .iVsatS8 _ vd va m => some (wordV vd va 0 m 0 0 0x10)
  | .iVsatS16 _ vd va m => some (wordV vd va 0 m 0 0 0x11)
  | .iVsatU8 _ vd va m => some (wordV vd va 0 m 0 0 0x12)
  | .iVmov _ vd va m => some (wordV vd va 0 m 0 0 0x14)
  | .iVsll _ vd va m sh => some (wordV vd va 0 m sh.toNat 0 0x08)
  | .iVsrl _ vd va m sh => some (wordV vd va 0 m sh.toNat 0 0x09)
  | .iVsra _ vd va m sh => some (wordV vd va 0 m sh.toNat 0 0x0A)
  | .iVsrs _ vd va m sh => some (wordV vd va 0 m sh.toNat 0 0x0F)
  | .iVbcast _ vd ga m => some (wordV vd 0 0 m 0 ga 0x15)
  | .iViota _ vd m => some (wordV vd 0 0 m 0 0 0x16)
  | .iVrand _ vd m => some (wordV vd 0 0 m 0 0 0x17)
  | .iVext _ gd va e => some (wordV 0 va 0 0 e gd 0x18)
  | .iVins _ vd ga e => some (wordV vd 0 0 0 e ga 0x19)
  | .iVsum _ gd va m => some (wordV 0 va 0 m 0 gd 0x1A)
  | .iVcmpEq _ md va vb => some (wordV 0 va vb md 0 0 0x20)
  | .iVcmpNe _ md va vb => some (wordV 0 va vb md 0 0 0x21)
  | .iVcmpLt _ md va vb => some (wordV 0 va vb md 0 0 0x22)
  | .iVcmpLe _ md va vb => some (wordV 0 va vb md 0 0 0x23)
  | .iVcmpGt _ md va vb => some (wordV 0 va vb md 0 0 0x24)
  | .iVcmpGe _ md va vb => some (wordV 0 va vb md 0 0 0x25)
  | .iMand _ md ma mb => some (wordK md ma mb 0 0)
  | .iMor _ md ma mb => some (wordK md ma mb 0 1)
  | .iMxor _ md ma mb => some (wordK md ma mb 0 2)
  | .iMandn _ md ma mb => some (wordK md ma mb 0 3)
  | .iMnot _ md ma => some (wordK md ma 0 0 4)
  | .iMmov _ md g => some (wordK md 0 0 g 5)
  | .iMfm _ g ma => some (wordK 0 ma 0 g 6)
  | .iMpop _ g ma => some (wordK 0 ma 0 g 7)
  | .iVacc _ vd => some (wordN vd 0 0 0 0 0 0x00)
  | .iAclr _ => some (wordN 0 0 0 0 0 0 0x01)
  | .iDecay _ vd va m ga => some (wordN vd va m 0 0 ga 0x02)
  | .iVscl _ vd va m => some (wordN vd va m 0 0 0 0x03)
  | .iPmark _ m => some (wordN 0 0 m 0 0 0 0x04)
  | .iHold _ m => some (wordN 0 0 m 0 0 0 0x05)
  | .iBstamp _ => some (wordN 0 0 0 0 0 0 0x06)
  | .iVtrupL _ va m ga gb gc => some (wordN 0 va m gc gb ga 0x08)
  | .iVtrupH _ va m ga gb gc => some (wordN 0 va m gc gb ga 0x09)
  | .iVemitU _ va m => some (wordN 0 va m 0 0 0 0x0C)
  | .iVemitS _ va m => some (wordN 0 va m 0 0 0 0x0D)
  | .iLd _ reg ra view sfx off => some (wordL 0x20 reg ra view sfx 0 off.toNat)
  | .iSt _ reg ra view sfx off => some (wordL 0x21 reg ra view sfx 0 off.toNat)
  | .iVld _ reg ra view sfx m off => some (wordL 0x22 reg ra view sfx m off.toNat)
  | .iVst _ reg ra view sfx m off => some (wordL 0x23 reg ra view sfx m off.toNat)
  | .iBr _ t => some (wordB 0 0 0 t.toNat)
  | .iBeq _ ra rb t => some (wordB 1 ra rb t.toNat)
  | .iBne _ ra rb t => some (wordB 2 ra rb t.toNat)
  | .iBlt _ ra rb t => some (wordB 3 ra rb t.toNat)
  | .iBge _ ra rb t => some (wordB 4 ra rb t.toNat)
  | .iBltu _ ra rb t => some (wordB 5 ra rb t.toNat)
  | .iBgeu _ ra rb t => some (wordB 6 ra rb t.toNat)
  | .iBz _ ra t => some (wordB 7 ra 0 t.toNat)
  | .iBnz _ ra t => some (wordB 8 ra 0 t.toNat)
  | .iBany _ m t => some (wordB 9 m 0 t.toNat)
  | .iBnone _ m t => some (wordB 10 m 0 t.toNat)
  | .iCall _ t => some (wordJ 0x31 0 0 t.toNat)
  | .iLoop _ g t => some (wordJ 0x32 g 0 t.toNat)
  | .iLoopi _ n t => some (wordJ 0x33 0 n.toNat t.toNat)
  | .iNxtblkA _ g t => some (wordJ 0x34 g 0 t.toNat)
  | .iNxtblkP _ g t => some (wordJ 0x35 g 0 t.toNat)
  | .iNop _ => some (wordS 0 0 0 0 0x00)
  | .iEnd _ => some (wordS 0 0 0 0 0x01)
  | .iRet _ => some (wordS 0 0 0 0 0x02)
  | .iMskip _ => some (wordS 0 0 0 0 0x0E)
  | .iMfs _ rd sr => some (wordS rd 0 0 sr.toNat 0x03)
  | .iMts _ sr ra => some (wordS 0 ra 0 sr.toNat 0x04)
  | .iEmit _ ra rb => some (wordS 0 ra rb 0 0x05)
  | .iQsend _ ra rb rd => some (wordS rd ra rb 0 0x08)
  | .iQrecv _ rd ra q => some (wordS rd ra 0 q 0x09)
  | .iQpeek _ rd q => some (wordS rd 0 0 q 0x0A)
  | .iSig _ ra rb => some (wordS 0 ra rb 0 0x0B)
  | .iWaits _ ra rb => some (wordS 0 ra rb 0 0x0C)
  | .iMod _ ra => some (wordS 0 ra 0 0 0x0D)
  | _ => none

/-- The core that a Mladza instruction names. -/
def coreOf (i : Instr) : Option CoreId :=
  match i with
  | .iAdd c _ _ _ => some c
  | .iSub c _ _ _ => some c
  | .iAnd c _ _ _ => some c
  | .iOr c _ _ _ => some c
  | .iXor c _ _ _ => some c
  | .iSll c _ _ _ => some c
  | .iSrl c _ _ _ => some c
  | .iSra c _ _ _ => some c
  | .iMul c _ _ _ => some c
  | .iMulhs c _ _ _ => some c
  | .iMin c _ _ _ => some c
  | .iMax c _ _ _ => some c
  | .iSlt c _ _ _ => some c
  | .iSltu c _ _ _ => some c
  | .iSlli c _ _ _ => some c
  | .iSrli c _ _ _ => some c
  | .iSrai c _ _ _ => some c
  | .iSrs c _ _ _ => some c
  | .iSatS8 c _ _ => some c
  | .iSatS16 c _ _ => some c
  | .iSatU8 c _ _ => some c
  | .iAbs c _ _ => some c
  | .iRand c _ => some c
  | .iMuls c _ _ _ _ => some c
  | .iAddi c _ _ _ => some c
  | .iAndi c _ _ _ => some c
  | .iOri c _ _ _ => some c
  | .iXori c _ _ _ => some c
  | .iLi c _ _ => some c
  | .iLih c _ _ => some c
  | .iVadd c _ _ _ _ => some c
  | .iVsub c _ _ _ _ => some c
  | .iVand c _ _ _ _ => some c
  | .iVor c _ _ _ _ => some c
  | .iVxor c _ _ _ _ => some c
  | .iVmin c _ _ _ _ => some c
  | .iVmax c _ _ _ _ => some c
  | .iVsllv c _ _ _ _ => some c
  | .iVsrav c _ _ _ _ => some c
  | .iVmul c _ _ _ _ => some c
  | .iVsel c _ _ _ _ => some c
  | .iVmuls c _ _ _ _ _ => some c
  | .iVabs c _ _ _ => some c
  | .iVsatS8 c _ _ _ => some c
  | .iVsatS16 c _ _ _ => some c
  | .iVsatU8 c _ _ _ => some c
  | .iVmov c _ _ _ => some c
  | .iVsll c _ _ _ _ => some c
  | .iVsrl c _ _ _ _ => some c
  | .iVsra c _ _ _ _ => some c
  | .iVsrs c _ _ _ _ => some c
  | .iVbcast c _ _ _ => some c
  | .iViota c _ _ => some c
  | .iVrand c _ _ => some c
  | .iVext c _ _ _ => some c
  | .iVins c _ _ _ => some c
  | .iVsum c _ _ _ => some c
  | .iVcmpEq c _ _ _ => some c
  | .iVcmpNe c _ _ _ => some c
  | .iVcmpLt c _ _ _ => some c
  | .iVcmpLe c _ _ _ => some c
  | .iVcmpGt c _ _ _ => some c
  | .iVcmpGe c _ _ _ => some c
  | .iMand c _ _ _ => some c
  | .iMor c _ _ _ => some c
  | .iMxor c _ _ _ => some c
  | .iMandn c _ _ _ => some c
  | .iMnot c _ _ => some c
  | .iMmov c _ _ => some c
  | .iMfm c _ _ => some c
  | .iMpop c _ _ => some c
  | .iVacc c _ => some c
  | .iAclr c => some c
  | .iDecay c _ _ _ _ => some c
  | .iVscl c _ _ _ => some c
  | .iPmark c _ => some c
  | .iHold c _ => some c
  | .iBstamp c => some c
  | .iVtrupL c _ _ _ _ _ => some c
  | .iVtrupH c _ _ _ _ _ => some c
  | .iVemitU c _ _ => some c
  | .iVemitS c _ _ => some c
  | .iLd c _ _ _ _ _ => some c
  | .iSt c _ _ _ _ _ => some c
  | .iVld c _ _ _ _ _ _ => some c
  | .iVst c _ _ _ _ _ _ => some c
  | .iBr c _ => some c
  | .iBeq c _ _ _ => some c
  | .iBne c _ _ _ => some c
  | .iBlt c _ _ _ => some c
  | .iBge c _ _ _ => some c
  | .iBltu c _ _ _ => some c
  | .iBgeu c _ _ _ => some c
  | .iBz c _ _ => some c
  | .iBnz c _ _ => some c
  | .iBany c _ _ => some c
  | .iBnone c _ _ => some c
  | .iCall c _ => some c
  | .iLoop c _ _ => some c
  | .iLoopi c _ _ => some c
  | .iNxtblkA c _ _ => some c
  | .iNxtblkP c _ _ => some c
  | .iNop c => some c
  | .iEnd c => some c
  | .iRet c => some c
  | .iMskip c => some c
  | .iMfs c _ _ => some c
  | .iMts c _ _ => some c
  | .iEmit c _ _ => some c
  | .iQsend c _ _ _ => some c
  | .iQrecv c _ _ _ => some c
  | .iQpeek c _ _ => some c
  | .iSig c _ _ => some c
  | .iWaits c _ _ => some c
  | .iMod c _ => some c
  | _ => none

end Sys2Proof.Machine
end

