-- ==== Sys2Proof/Machine/Pins.lean ====
section
/-!
DEFINITION. What the pads show: the states of R517 as far as the state of the device decides them, with R400, R441, R442
and R500.
-/

namespace Sys2Proof.Machine

/-- The columns of R517 that a device in a socket can be in. -/
inductive PinPhase where
  | reset
  | boot
  | awake
  | sleep
  deriving DecidableEq, Repr

/-- What a pad or a pair of pads does. -/
inductive PadState where
  /-- neither driven nor terminated -/
  | highImpedance
  | input
  | terminated
  | drives (level : Bool)
  /-- an open-drain output that does not pull down -/
  | released
  /-- a link transmitter at differential 0, one that sends IDLE and SKIP alone, and one that sends what its link has -/
  | staticZero
  | idleOnly
  | live
  deriving DecidableEq, Repr

/-- The column of R517. -/
def State.pinPhase (s : State) : PinPhase :=
  if s.boot.inReset then .reset else if !s.boot.ready then .boot else if 3 ≤ s.aon.st then .sleep else .awake

/-- A GPIO pad: an actuator-facing one drives its level once the device is ready, the safe level while the gate is closed. -/
def State.gpioPad (s : State) (n : Fin 32) : PadState :=
  match s.pinPhase with
  | .reset => .highImpedance
  | .boot => if s.pont.faulted then .input else .highImpedance
  | _ => match s.padLevel n.val with | some l => .drives l | none => .input

/-- The quantity a GLORY slot that is enabled names (R445). -/
def State.sampled (s : State) (src unit : Nat) : Bool :=
  s.aon.sampling && (List.range 8).any fun i =>
    let w := Tab.get s.aon.slots 0 i
    w.msb && bitsOf w.toNat 28 3 == src && bitsOf w.toNat 16 5 == unit

/-- The lanes of a CSI-2 receiver, and the receiver of a link: terminated while they are enabled, in sleep during a sample
that names them. -/
def State.csiPad (s : State) (rx : Fin 2) : PadState :=
  let on := match s.pinPhase with
    | .awake => (s.io.csi[rx.val]).en
    | .sleep => s.sampled 3 rx.val
    | _ => false
  if on then .terminated else .highImpedance
def State.kelRxPad (s : State) (n : Fin 8) : PadState :=
  let on := match s.pinPhase with
    | .awake => (s.kel n).en
    | .sleep => s.sampled 4 n.val
    | _ => false
  if on then .terminated else .highImpedance

/-- The transmitter of a link: a closed gate leaves IDLE and SKIP (R400). -/
def State.kelTxPad (s : State) (n : Fin 8) : PadState :=
  match s.pinPhase with
  | .awake => if !(s.kel n).en then .highImpedance else if s.gateOpen then .live else .idleOnly
  | .sleep => if !s.io.kelLatch.getLsbD n.val then .highImpedance else if s.pont.faulted then .idleOnly else .staticZero
  | _ => .highImpedance

/-- FAULT_N (R500), SMB_ALERT_N (R525) and WAKE# of a port (R440). -/
def State.faultPad (s : State) : PadState :=
  if s.boot.inReset then .highImpedance else if s.faultLow then .drives false else .released
def State.alertPad (s : State) : PadState := if !s.boot.inReset && s.smb.alert then .drives false else .released
def State.wakePad (s : State) (p : Port) : PadState :=
  if !s.boot.inReset && s.aon.wakePins.getLsbD p.val then .drives false else .released
/-- SPI_MISO, by whether SPI_CS_N is low: driven from the end of boot step 1. -/
def State.misoPad (s : State) (selected : Bool) : PadState :=
  if selected && s.pont.selfOk && !s.boot.inReset then .live else .highImpedance

end Sys2Proof.Machine
end

