-- ==== Sys2Proof/WellFormed.lean ====
section
/-!
DEFINITION. Which commands the spec admits: the operand values that the constructors' types allow and the rows do not.
-/

namespace Sys2Proof

/-- The operands of a command are ones its row admits. -/
def Instr.wellFormed (i : Instr) : Bool :=
  match i with
  | .iSrs _ _ _ sh => decide (1 ≤ sh.toNat) && decide (sh.toNat ≤ 16)            -- R107
  | .iVsrs _ _ _ _ sh => decide (1 ≤ sh.toNat) && decide (sh.toNat ≤ 16)         -- R110
  | .iLd _ _ _ view sfx _ => Machine.viewOk view.val sfx.val false               -- R113
  | .iSt _ _ _ view sfx _ => Machine.viewOk view.val sfx.val false
  | .iVld _ _ _ view sfx _ _ => Machine.viewOk view.val sfx.val true
  | .iVst _ _ _ view sfx _ _ => Machine.viewOk view.val sfx.val true
  | .iQrecv _ rd ra _ => decide (rd ≠ ra)                                        -- R125
  | .perstPort p => decide (p.val ≠ 0)                                           -- R306
  | .perstPort0 _ f => f.badCores.all fun k => decide (k < 32 * 36)              -- R14
  | .rowTableStage _ _ _ w _ => decide (1 ≤ w.val) && decide (w.val ≤ 5)         -- R269
  | .sectorReadDone _ entry o => decide (entry < 128) && decide (o.retries ≤ 4)  -- R236, R254
  | .gddr6Refresh _ temps => decide (temps.length ≤ 8)                           -- R267
  | .beaconMissing _ _ input _ => decide (input ≠ .l)                            -- R184
  | .cmdFetch _ entries =>                                                       -- R314
    match entries with | none => true | some es => es.all fun e => decide (e.length = 8)
  | .attest _ nonce => match nonce with | none => true | some bs => decide (bs.length = 32)  -- R488
  | .gloryWindowEnd measured => decide (measured.length ≤ 8)                     -- R445
  | .smbWriteWords ws _ _ => decide (1 ≤ ws.length) && decide (ws.length ≤ 8)    -- R525
  | .addDoorbellWrite _ _ bytes => decide (bytes ≠ [])                           -- R312
  | .setDoorbellWrite _ _ bytes => decide (bytes ≠ [])
  | .injectionWindowWrite _ _ bytes => decide (bytes ≠ [])                       -- R326
  | .bar2Write _ _ bytes => decide (bytes ≠ [])                                  -- R311
  | .bar2Read _ _ len => decide (0 < len)
  | _ => true

end Sys2Proof
end

