-- ==== Sys2Proof/Safety.lean ====
section
/-!
DEFINITION. The terms that claims use: what a command answers, when a core executes an instruction, and what a
command leaves as it was.
-/

namespace Sys2Proof.Machine

/-- Command i completes in state s: exec answers a next state, of which P holds. -/
def Answers (i : Instr) (s : State) (P : State → Prop) : Prop := ∃ t, exec i s = .next t ∧ P t

/-! ### The neuron engine -/

/-- Core c executes instruction i next: its engine runs an entry, no armed breakpoint stops it, and the word at its
program counter has no uncorrectable error and spells i (R86, R87, R101, R103 to R106). -/
def Ready (s : State) (c : CoreId) (i : Instr) : Prop :=
  (s.core c.key).e.runnable = true ∧
  (let e := (s.core c.key).e
   (e.stall.isNone && !e.dbg.bpPassed && !e.dbg.stepping) = true → e.bpAt = none) ∧
  s.ueAt (progAddr c.key (s.core c.key).e.regs.pc.toNat) = false ∧
  decodeWord c (s.fetch c.key) = some i

/-- An engine after an instruction that falls through: no stall, the next word or round the loop, and halted where a
halt or a STEP asks for it (R87, R103, R120). -/
def NEngine.movedOn (e : NEngine) : NEngine := e.retire.advance.settle

/-- An engine after a branch to t (R118 to R121). -/
def NEngine.branched (e : NEngine) (t : BitVec 12) : NEngine := (e.retire.branch t false).settle

/-- Everything but the cores is as before, and so is every other core. -/
def OnlyCore (s t : State) (k : Nat) : Prop :=
  { t with cores := s.cores } = s ∧ ∀ j, j ≠ k → t.core j = s.core j

/-- Only the neuron engine of core k has changed: it is now e. -/
def EngineIs (s t : State) (k : Nat) (e : NEngine) : Prop :=
  OnlyCore s t k ∧ t.core k = { s.core k with e := e }

/-- The engine of core k with other registers. -/
def State.withRegs (s : State) (k : Nat) (f : Regs → Regs) : NEngine :=
  { (s.core k).e with regs := f (s.core k).e.regs }

/-- Instruction i of core c, when it is next, completes: the registers change by f, nothing else of the core but what
moving on changes, and nothing outside the core's engine. -/
def Computes (s : State) (c : CoreId) (i : Instr) (f : Regs → Regs) : Prop :=
  Ready s c i → Answers i s fun t => EngineIs s t c.key (s.withRegs c.key f).movedOn

/-- g[r] := w, and v[r] := x, in a register set. -/
def Regs.putG (r : Regs) (n : GReg) (w : Word) : Regs := { r with g := r.g.set n.val w }
def Regs.putV (r : Regs) (n : VReg) (x : VVal) : Regs := { r with v := r.v.set n.val x }
/-- m[r] := x; a write of m0 is ignored (R64). -/
def Regs.putM (r : Regs) (n : MReg) (x : BitVec 16) : Regs :=
  if n.val = 0 then r else { r with m := r.m.set n.val x }
/-- The mask register as read: m0 reads as all ones (R64). -/
def Regs.readM (r : Regs) (n : MReg) : BitVec 16 := if n.val = 0 then 0xFFFF else r.m[n.val]

/-- The vector whose element e is new e where the mask bit is set and as before elsewhere (R109). -/
def Regs.putMasked (r : Regs) (n : VReg) (m : MReg) (new : Fin 16 → Word) : Regs :=
  r.putV n (Vector.ofFn fun e => if (r.readM m).getLsbD e.val then new e else (r.v[n.val])[e.val])

/-- The instructions that change registers, flags and the position of their engine alone: scalar, immediate, vector,
mask and branch instructions (R107 to R111, R118). -/
def registerOnly (i : Instr) : Bool :=
  match i with
  | .iAdd _ _ _ _ => true
  | .iSub _ _ _ _ => true
  | .iAnd _ _ _ _ => true
  | .iOr _ _ _ _ => true
  | .iXor _ _ _ _ => true
  | .iSll _ _ _ _ => true
  | .iSrl _ _ _ _ => true
  | .iSra _ _ _ _ => true
  | .iMul _ _ _ _ => true
  | .iMulhs _ _ _ _ => true
  | .iMin _ _ _ _ => true
  | .iMax _ _ _ _ => true
  | .iSlt _ _ _ _ => true
  | .iSltu _ _ _ _ => true
  | .iSlli _ _ _ _ => true
  | .iSrli _ _ _ _ => true
  | .iSrai _ _ _ _ => true
  | .iSrs _ _ _ _ => true
  | .iSatS8 _ _ _ => true
  | .iSatS16 _ _ _ => true
  | .iSatU8 _ _ _ => true
  | .iAbs _ _ _ => true
  | .iRand _ _ => true
  | .iMuls _ _ _ _ _ => true
  | .iAddi _ _ _ _ => true
  | .iAndi _ _ _ _ => true
  | .iOri _ _ _ _ => true
  | .iXori _ _ _ _ => true
  | .iLi _ _ _ => true
  | .iLih _ _ _ => true
  | .iVadd _ _ _ _ _ => true
  | .iVsub _ _ _ _ _ => true
  | .iVand _ _ _ _ _ => true
  | .iVor _ _ _ _ _ => true
  | .iVxor _ _ _ _ _ => true
  | .iVmin _ _ _ _ _ => true
  | .iVmax _ _ _ _ _ => true
  | .iVsllv _ _ _ _ _ => true
  | .iVsrav _ _ _ _ _ => true
  | .iVmul _ _ _ _ _ => true
  | .iVsel _ _ _ _ _ => true
  | .iVmuls _ _ _ _ _ _ => true
  | .iVabs _ _ _ _ => true
  | .iVsatS8 _ _ _ _ => true
  | .iVsatS16 _ _ _ _ => true
  | .iVsatU8 _ _ _ _ => true
  | .iVmov _ _ _ _ => true
  | .iVsll _ _ _ _ _ => true
  | .iVsrl _ _ _ _ _ => true
  | .iVsra _ _ _ _ _ => true
  | .iVsrs _ _ _ _ _ => true
  | .iVbcast _ _ _ _ => true
  | .iViota _ _ _ => true
  | .iVrand _ _ _ => true
  | .iVext _ _ _ _ => true
  | .iVins _ _ _ _ => true
  | .iVsum _ _ _ _ => true
  | .iVcmpEq _ _ _ _ => true
  | .iVcmpNe _ _ _ _ => true
  | .iVcmpLt _ _ _ _ => true
  | .iVcmpLe _ _ _ _ => true
  | .iVcmpGt _ _ _ _ => true
  | .iVcmpGe _ _ _ _ => true
  | .iMand _ _ _ _ => true
  | .iMor _ _ _ _ => true
  | .iMxor _ _ _ _ => true
  | .iMandn _ _ _ _ => true
  | .iMnot _ _ _ => true
  | .iMmov _ _ _ => true
  | .iMfm _ _ _ => true
  | .iMpop _ _ _ => true
  | .iBr _ _ => true
  | .iBeq _ _ _ _ => true
  | .iBne _ _ _ _ => true
  | .iBlt _ _ _ _ => true
  | .iBge _ _ _ _ => true
  | .iBltu _ _ _ _ => true
  | .iBgeu _ _ _ _ => true
  | .iBz _ _ _ => true
  | .iBnz _ _ _ => true
  | .iBany _ _ _ => true
  | .iBnone _ _ _ => true
  | _ => false

/-- The instructions that write no general, vector or mask register: stores, emissions, messages, marks and branches
(R72 to R74, R114 to R121, R123, R124, R126 and R127). -/
def keepsRegisters (i : Instr) : Bool :=
  match i with
  | .iSt _ _ _ _ _ _ => true
  | .iVst _ _ _ _ _ _ _ => true
  | .iVtrupL _ _ _ _ _ _ => true
  | .iVtrupH _ _ _ _ _ _ => true
  | .iAclr _ => true
  | .iPmark _ _ => true
  | .iHold _ _ => true
  | .iBstamp _ => true
  | .iEmit _ _ _ => true
  | .iVemitU _ _ _ => true
  | .iVemitS _ _ _ => true
  | .iSig _ _ _ => true
  | .iWaits _ _ _ => true
  | .iQsend _ _ _ _ => true
  | .iMts _ _ _ => true
  | .iMod _ _ => true
  | .iMskip _ => true
  | .iNop _ => true
  | .iEnd _ => true
  | .iRet _ => true
  | .iCall _ _ => true
  | .iLoop _ _ _ => true
  | .iLoopi _ _ _ => true
  | .iBr _ _ => true
  | .iBeq _ _ _ _ => true
  | .iBne _ _ _ _ => true
  | .iBlt _ _ _ _ => true
  | .iBge _ _ _ _ => true
  | .iBltu _ _ _ _ => true
  | .iBgeu _ _ _ _ => true
  | .iBz _ _ _ => true
  | .iBnz _ _ _ => true
  | .iBany _ _ _ => true
  | .iBnone _ _ _ => true
  | _ => false

/-! ### Register accesses -/

/-- The device answers requests of this requester: it is out of reset, ready and awake, and the requester is the
management processor or a configured host port whose link is up and whose function is in D0 (R303, R307, R328, R460). -/
def Reaches (s : State) (r : Req) : Prop :=
  s.boot.inReset = false ∧ s.boot.ready = true ∧ s.asleep = false ∧
  match r with
  | .mp => True
  | .port p => s.configured p = true ∧ (s.port p).linkUp = true ∧ (s.port p).cfg.d3 = false
  | .smbus => False

/-- A doorbell that the port has sent has not acted yet: it waits at HOST, or in the port's Thread slot (R334). -/
def State.doorbellWaits (s : State) (p : Port) : Bool :=
  !(Tab.get (s.station stHost).thread.portQ [] p.val).isEmpty ||
    match s.slotPkt (40 + p.val) with | some ⟨.doorbell .., _, _, none, false⟩ => true | _ => false

/-- The device answers register accesses of this requester, and no doorbell of the requester acts before them. -/
def Served (s : State) (r : Req) : Prop :=
  Reaches s r ∧ match r with | .port p => s.doorbellWaits p = false | _ => True

/-- The requester is the tenant's own host port or the management processor. -/
def ServedFor (s : State) (r : Req) (t : Tenant) : Prop := Served s r ∧ (r = .mp ∨ r = .port t)

/-- The last register access of this requester was performed and returned w; and it met an error response. -/
def Replied (t : State) (r : Req) (w : Word) : Prop := Tab.get t.replies none r.key = some (true, w)
def Rejected (t : State) (r : Req) : Prop := Tab.get t.replies none r.key = some (false, 0)

/-! ### The command ring -/

/-- Command c of opcode op is the one to execute at a port, and it sets no reserved bit (R313 to R316). -/
def Taken (s : State) (p : Port) (c : Cmd) (op : Nat) (masks : List Nat) : Prop :=
  s.curCmd p = some c ∧ c.opcode = op ∧ c.legal masks = true

/-- Command c has left the ring and its COMPLETION waits to be written, with a status and DETAIL d (R317). -/
def Completed (s t : State) (p : Port) (c : Cmd) (status : Nat) (d : Word) : Prop :=
  (t.port p).fetched = (s.port p).fetched.tail ∧ (t.port p).cmdHead = (s.port p).cmdHead + 1 ∧
    ∃ l, (t.port p).recs = (s.port p).recs ++ l ++ [.completion c.opcode status d c.tag c.counter c.irq]

end Sys2Proof.Machine
end

