-- ==== Sys2Proof/Certificates/Slice0/Obligations.lean ====
section
/-!
DEFINITION. The statements about the K48: what its commands do, by the numbered rules of the spec.
-/

open Sys2Proof Sys2Proof.Machine

/-! ### Mladza: registers -/

/-- R107 and R108. Each scalar instruction of registers, and each with an immediate, writes its result to rd when it
is next; nothing else changes but what moving on changes. -/
def Obligations.ScalarOps : Prop :=
  ∀ (s : State) (c : CoreId) (rd ra rb : GReg) (sh : BitVec 5) (imm : BitVec 18) (half : BitVec 16),
    let a := s.getG c.key ra
    let b := s.getG c.key rb
    let put (w : Word) : Regs → Regs := fun r => r.putG rd w
    Computes s c (.iAdd c rd ra rb) (put (a + b)) ∧
    Computes s c (.iSub c rd ra rb) (put (a - b)) ∧
    Computes s c (.iAnd c rd ra rb) (put (a &&& b)) ∧
    Computes s c (.iOr c rd ra rb) (put (a ||| b)) ∧
    Computes s c (.iXor c rd ra rb) (put (a ^^^ b)) ∧
    Computes s c (.iSll c rd ra rb) (put (a <<< (b.toNat % 32))) ∧
    Computes s c (.iSrl c rd ra rb) (put (a >>> (b.toNat % 32))) ∧
    Computes s c (.iSra c rd ra rb) (put (a.sshiftRight (b.toNat % 32))) ∧
    Computes s c (.iMul c rd ra rb) (put (a * b)) ∧
    Computes s c (.iMulhs c rd ra rb) (put (BitVec.ofInt 32 (a.toInt * b.toInt / 2 ^ 32))) ∧
    Computes s c (.iMin c rd ra rb) (put (if b.toInt < a.toInt then b else a)) ∧
    Computes s c (.iMax c rd ra rb) (put (if a.toInt ≤ b.toInt then b else a)) ∧
    Computes s c (.iSlt c rd ra rb) (put (if a.toInt < b.toInt then 1 else 0)) ∧
    Computes s c (.iSltu c rd ra rb) (put (if a.toNat < b.toNat then 1 else 0)) ∧
    Computes s c (.iSlli c rd ra sh) (put (a <<< sh.toNat)) ∧
    Computes s c (.iSrli c rd ra sh) (put (a >>> sh.toNat)) ∧
    Computes s c (.iSrai c rd ra sh) (put (a.sshiftRight sh.toNat)) ∧
    Computes s c (.iAddi c rd ra imm) (put (a + imm.signExtend 32)) ∧
    Computes s c (.iAndi c rd ra imm) (put (a &&& imm.zeroExtend 32)) ∧
    Computes s c (.iOri c rd ra imm) (put (a ||| imm.zeroExtend 32)) ∧
    Computes s c (.iXori c rd ra imm) (put (a ^^^ imm.zeroExtend 32)) ∧
    Computes s c (.iLi c rd half) (put (half.signExtend 32)) ∧
    Computes s c (.iLih c rd half)
      (put (half.zeroExtend 32 <<< 16 ||| (s.getG c.key rd &&& 0xFFFF)))

/-- R107 and R81. Clamps and the absolute value write exactly the clamped integer; RAND writes the next state of the
generator to rd, and SRS adds its low bits before the shift. Both leave the generator at that state. -/
def Obligations.ScalarSaturationAndDraws : Prop :=
  ∀ (s : State) (c : CoreId) (rd ra rb : GReg) (sh : BitVec 5),
    let a := (s.getG c.key ra).toInt
    let b := (s.getG c.key rb).toInt
    let r := xorshift (s.core c.key).e.regs.rng
    let put (x : Int) : Regs → Regs := fun r => r.putG rd (BitVec.ofInt 32 x)
    let clamp (lo hi x : Int) : Int := max lo (min hi x)
    Computes s c (.iSatS8 c rd ra) (put (clamp (-128) 127 a)) ∧
    Computes s c (.iSatS16 c rd ra) (put (clamp (-32768) 32767 a)) ∧
    Computes s c (.iSatU8 c rd ra) (put (clamp 0 255 a)) ∧
    Computes s c (.iAbs c rd ra) (put (min (2 ^ 31 - 1) |a|)) ∧
    Computes s c (.iMuls c rd ra rb sh) (put (clamp (-2 ^ 31) (2 ^ 31 - 1) (a * b / 2 ^ sh.toNat))) ∧
    Computes s c (.iRand c rd) (fun g => { g with rng := r }.putG rd r) ∧
    Computes s c (.iSrs c rd ra sh) (fun g =>
      { g with rng := r }.putG rd (BitVec.ofInt 32 ((a + (r.toNat % 2 ^ sh.toNat : Nat)) / 2 ^ sh.toNat)))

/-- R109 and R110. Each two-operand vector instruction writes the masked elements of vd and leaves the others. -/
def Obligations.VectorElementOps : Prop :=
  ∀ (s : State) (c : CoreId) (vd va vb : VReg) (m : MReg) (sh : BitVec 5),
    let a (e : Fin 16) : Word := (s.getV c.key va)[e.val]
    let b (e : Fin 16) : Word := (s.getV c.key vb)[e.val]
    let put (f : Fin 16 → Word) : Regs → Regs := fun r => r.putMasked vd m f
    Computes s c (.iVadd c vd va vb m) (put fun e => a e + b e) ∧
    Computes s c (.iVsub c vd va vb m) (put fun e => a e - b e) ∧
    Computes s c (.iVand c vd va vb m) (put fun e => a e &&& b e) ∧
    Computes s c (.iVor c vd va vb m) (put fun e => a e ||| b e) ∧
    Computes s c (.iVxor c vd va vb m) (put fun e => a e ^^^ b e) ∧
    Computes s c (.iVmin c vd va vb m) (put fun e => if (b e).toInt < (a e).toInt then b e else a e) ∧
    Computes s c (.iVmax c vd va vb m) (put fun e => if (a e).toInt ≤ (b e).toInt then b e else a e) ∧
    Computes s c (.iVsllv c vd va vb m) (put fun e => a e <<< ((b e).toNat % 32)) ∧
    Computes s c (.iVsrav c vd va vb m) (put fun e => (a e).sshiftRight ((b e).toNat % 32)) ∧
    Computes s c (.iVmul c vd va vb m) (put fun e => a e * b e) ∧
    Computes s c (.iVmuls c vd va vb m sh) (put fun e => BitVec.ofInt 32
      (max (-2 ^ 31) (min (2 ^ 31 - 1) ((a e).toInt * (b e).toInt / 2 ^ sh.toNat)))) ∧
    Computes s c (.iVsel c vd va vb m)
      (fun r => r.putV vd (Vector.ofFn fun e => if (r.readM m).getLsbD e.val then a e else b e))

/-- R110. The vector instructions of one vector operand or none, and those between a vector and a scalar. -/
def Obligations.VectorUnaryOps : Prop :=
  ∀ (s : State) (c : CoreId) (vd va : VReg) (gd ga : GReg) (m : MReg) (sh : BitVec 5) (i : Fin 16),
    let a (e : Fin 16) : Word := (s.getV c.key va)[e.val]
    let put (f : Fin 16 → Word) : Regs → Regs := fun r => r.putMasked vd m f
    Computes s c (.iVabs c vd va m) (put fun e => BitVec.ofInt 32 (min (2 ^ 31 - 1) |(a e).toInt|)) ∧
    Computes s c (.iVsll c vd va m sh) (put fun e => a e <<< sh.toNat) ∧
    Computes s c (.iVsrl c vd va m sh) (put fun e => a e >>> sh.toNat) ∧
    Computes s c (.iVsra c vd va m sh) (put fun e => (a e).sshiftRight sh.toNat) ∧
    Computes s c (.iVmov c vd va m) (put a) ∧
    Computes s c (.iVbcast c vd ga m) (put fun _ => s.getG c.key ga) ∧
    Computes s c (.iViota c vd m) (put fun e => BitVec.ofNat 32 e.val) ∧
    Computes s c (.iVext c gd va i) (fun r => r.putG gd (a i)) ∧
    Computes s c (.iVins c vd ga i) (fun r => r.putV vd (r.v[vd.val].set i.val (s.getG c.key ga))) ∧
    Computes s c (.iVsum c gd va m) (fun r => r.putG gd
      (((List.finRange 16).filter fun e => (r.readM m).getLsbD e.val).map a).sum)

/-- R66, R81 and R110. A vector saturation clamps the masked elements, and STAT.VSAT is set exactly when one of them
was clipped, else kept. VRAND and VSRS draw sixteen times, masked-off elements included, element 0 first. -/
def Obligations.VectorSaturationAndDraws : Prop :=
  ∀ (s : State) (c : CoreId) (vd va : VReg) (m : MReg) (sh : BitVec 5),
    let e0 := (s.core c.key).e
    let a (e : Fin 16) : Int := (s.getV c.key va)[e.val].toInt
    let x (n : Nat) : Word := xorshift^[n] e0.regs.rng
    let clipped (lo hi : Int) : Bool :=
      decide (∃ e : Fin 16, (e0.regs.readM m).getLsbD e.val = true ∧ (a e < lo ∨ hi < a e))
    let after (lo hi : Int) : NEngine :=
      { e0 with
        regs := e0.regs.putMasked vd m fun e => BitVec.ofInt 32 (max lo (min hi (a e)))
        fl := { e0.fl with vsat := e0.fl.vsat || clipped lo hi } }
    let does (i : Instr) (lo hi : Int) : Prop :=
      Ready s c i → Answers i s fun t => EngineIs s t c.key (after lo hi).movedOn
    does (.iVsatS8 c vd va m) (-128) 127 ∧
    does (.iVsatS16 c vd va m) (-32768) 32767 ∧
    does (.iVsatU8 c vd va m) 0 255 ∧
    Computes s c (.iVrand c vd m) (fun r => { r with rng := x 16 }.putMasked vd m fun e => x (e.val + 1)) ∧
    Computes s c (.iVsrs c vd va m sh) (fun r => { r with rng := x 16 }.putMasked vd m fun e =>
      BitVec.ofInt 32 ((a e + ((x (e.val + 1)).toNat % 2 ^ sh.toNat : Nat)) / 2 ^ sh.toNat))

/-- R64, R110 and R111. A compare writes all sixteen bits of md, and the mask instructions combine and count masks: m0
reads as all ones, and a write of it is ignored. -/
def Obligations.VectorComparesAndMasks : Prop :=
  ∀ (s : State) (c : CoreId) (md ma mb : MReg) (va vb : VReg) (g : GReg),
    let regs := (s.core c.key).e.regs
    let x := regs.readM ma
    let y := regs.readM mb
    let a (e : Fin 16) : Int := (s.getV c.key va)[e.val].toInt
    let b (e : Fin 16) : Int := (s.getV c.key vb)[e.val].toInt
    let does (i : Instr) (p : Fin 16 → Prop) : Prop :=
      ∃ z : BitVec 16, (∀ e : Fin 16, z.getLsbD e.val = true ↔ p e) ∧ Computes s c i (fun r => r.putM md z)
    does (.iVcmpEq c md va vb) (fun e => a e = b e) ∧
    does (.iVcmpNe c md va vb) (fun e => a e ≠ b e) ∧
    does (.iVcmpLt c md va vb) (fun e => a e < b e) ∧
    does (.iVcmpLe c md va vb) (fun e => a e ≤ b e) ∧
    does (.iVcmpGt c md va vb) (fun e => b e < a e) ∧
    does (.iVcmpGe c md va vb) (fun e => b e ≤ a e) ∧
    Computes s c (.iMand c md ma mb) (fun r => r.putM md (x &&& y)) ∧
    Computes s c (.iMor c md ma mb) (fun r => r.putM md (x ||| y)) ∧
    Computes s c (.iMxor c md ma mb) (fun r => r.putM md (x ^^^ y)) ∧
    Computes s c (.iMandn c md ma mb) (fun r => r.putM md (x &&& ~~~y)) ∧
    Computes s c (.iMnot c md ma) (fun r => r.putM md (~~~x)) ∧
    Computes s c (.iMmov c md g) (fun r => r.putM md ((s.getG c.key g).setWidth 16)) ∧
    Computes s c (.iMfm c g ma) (fun r => r.putG g (x.zeroExtend 32)) ∧
    Computes s c (.iMpop c g ma) (fun r => r.putG g
      (BitVec.ofNat 32 (Finset.univ.filter fun e : Fin 16 => x.getLsbD e.val = true).card))


/-! ### Mladza: control flow -/

/-- R118. Each branch goes to its target where its condition holds, and falls through where not. -/
def Obligations.Branches : Prop :=
  ∀ (s : State) (c : CoreId) (ra rb : GReg) (m : MReg) (target : BitVec 12),
    let e := (s.core c.key).e
    let a := s.getG c.key ra
    let b := s.getG c.key rb
    let x := e.regs.readM m
    let does (i : Instr) (p : Prop) : Prop := Ready s c i → Answers i s fun t =>
      (p → EngineIs s t c.key (e.branched target)) ∧ (¬p → EngineIs s t c.key e.movedOn)
    does (.iBr c target) True ∧
    does (.iBeq c ra rb target) (a = b) ∧
    does (.iBne c ra rb target) (a ≠ b) ∧
    does (.iBlt c ra rb target) (a.toInt < b.toInt) ∧
    does (.iBge c ra rb target) (b.toInt ≤ a.toInt) ∧
    does (.iBltu c ra rb target) (a.toNat < b.toNat) ∧
    does (.iBgeu c ra rb target) (b.toNat ≤ a.toNat) ∧
    does (.iBz c ra target) (a = 0) ∧
    does (.iBnz c ra target) (a ≠ 0) ∧
    does (.iBany c m target) (x ≠ 0) ∧
    does (.iBnone c m target) (x = 0)

/-- R119, R120 and R122. CALL saves the address of the following word in LR and branches; RET branches to LR; NOP
moves on; LOOP and LOOPI start the hardware loop, or skip its body where the count is 0, when the target lies beyond
the instruction and its word may end a loop. -/
def Obligations.CallsAndLoops : Prop :=
  ∀ (s : State) (c : CoreId) (g : GReg) (n : BitVec 10) (target : BitVec 12),
    let e := (s.core c.key).e
    let body := progAddr c.key target.toNat
    let looping (count : Word) : NEngine :=
      if count = 0 then
        ({ e.retire with
            regs := { e.regs with lc := 0, pc := target + 1 }
            loop := { e.loop with on := false } } : NEngine).settle
      else
        ({ e.retire with
            regs := { e.regs with lc := count, pc := e.regs.pc + 1 }
            loop := ⟨true, e.regs.pc + 1, target⟩ } : NEngine).settle
    let starts (i : Instr) (count : Word) : Prop :=
      Ready s c i → e.regs.pc.toNat < target.toNat → s.ueAt body = false → loopEndBad (s.readWord body) = false →
        Answers i s fun t => EngineIs s t c.key (looping count)
    (Ready s c (.iCall c target) → Answers (.iCall c target) s fun t => EngineIs s t c.key
      (({ e with regs := { e.regs with lr := (e.regs.pc + 1).zeroExtend 32 } } : NEngine).branched target)) ∧
    (Ready s c (.iRet c) → Answers (.iRet c) s fun t => EngineIs s t c.key (e.branched (e.regs.lr.setWidth 12))) ∧
    (Ready s c (.iNop c) → Answers (.iNop c) s fun t => EngineIs s t c.key e.movedOn) ∧
    starts (.iLoop c g target) (s.getG c.key g) ∧
    starts (.iLoopi c n target) (n.zeroExtend 32)

/-- R74 and R121. In UPDATE, NXTBLK makes the lowest block of its set at or beyond its cursor current, writes 16 times
its number to g and moves its cursor past it; NXTBLK_P clears its pending bit as well. Where there is none, no block
is current and the engine is at the target. A block that NXTBLK_A had made current is stamped with TICK when left. -/
def Obligations.BlockWalk : Prop :=
  ∀ (s : State) (c : CoreId) (g : GReg) (target : BitVec 12) (b : Fin 512),
    let k := c.key
    let e := (s.core k).e
    let first (set : BitVec 512) (cursor : Nat) : Prop :=
      set.getLsbD b.val = true ∧ cursor ≤ b.val ∧ ∀ j : Nat, cursor ≤ j → j < b.val → set.getLsbD j = false
    let absent (set : BitVec 512) (cursor : Nat) : Prop := ∀ j : Nat, cursor ≤ j → set.getLsbD j = false
    let left (t : State) : Prop := ∀ p : Fin 512, e.blk.cur = some p → e.blk.stampOnLeave = true →
      (t.blkEntry k p.val).toNat % 2 ^ 24 = e.fl.tick.toNat % 2 ^ 24
    let outside (t : State) : Prop := { t with cores := s.cores } = s ∧ ∀ j, j ≠ k → t.core j = s.core j
    e.st = .update →
      (Ready s c (.iNxtblkA c g target) → first e.blk.active e.blk.curA → Answers (.iNxtblkA c g target) s fun t =>
        (t.core k).e.blk.cur = some b ∧ (t.core k).e.blk.curA = b.val + 1 ∧ t.getG k g = BitVec.ofNat 32 (16 * b.val) ∧
        (t.core k).e.blk.pending = e.blk.pending ∧ left t ∧ outside t) ∧
      (Ready s c (.iNxtblkP c g target) → first e.blk.pending e.blk.curP → Answers (.iNxtblkP c g target) s fun t =>
        (t.core k).e.blk.cur = some b ∧ (t.core k).e.blk.curP = b.val + 1 ∧ t.getG k g = BitVec.ofNat 32 (16 * b.val) ∧
        (∀ j : Nat, (t.core k).e.blk.pending.getLsbD j = (e.blk.pending.getLsbD j && decide (j ≠ b.val))) ∧
        (e.blk.cur ≠ some b → left t) ∧ outside t) ∧
      (Ready s c (.iNxtblkA c g target) → absent e.blk.active e.blk.curA → Answers (.iNxtblkA c g target) s fun t =>
        (t.core k).e.blk.cur = none ∧ (t.core k).e.regs.pc = target ∧ left t ∧ outside t) ∧
      (Ready s c (.iNxtblkP c g target) → absent e.blk.pending e.blk.curP → Answers (.iNxtblkP c g target) s fun t =>
        (t.core k).e.blk.cur = none ∧ (t.core k).e.regs.pc = target ∧ left t ∧ outside t)

/-- R123, with R69, R85 and R106. END goes from TICK to UPDATE where that entry is enabled. It ends the UPDATE
program, after which the core is at its emit gate and no block is current; it ends EPOCH with the start of the commit
work, unless its tenant is stopping; and it ends MESSAGE with the engine idle, or in the UPDATE program where an edge
waits. It ends the active loop. Where the word at the program counter is illegal, every instruction row of the core
takes the program fault: CORE_FAULT holds cause 1, the entry and the program counter, and the engine is Faulted and
halted. The model's own choice in it: notes/assumptions/9.md. -/
def Obligations.EntryEndsAndFaults : Prop :=
  ∀ (s : State) (c : CoreId) (i : Instr),
    let k := c.key
    let e := (s.core k).e
    (Ready s c (.iEnd c) →
      (e.st = .tick → e.cr.entUpdate.en = true → Answers (.iEnd c) s fun t =>
        (t.core k).e.st = .update ∧ (t.core k).e.regs.pc = e.cr.entUpdate.addr ∧ (t.core k).e.loop.on = false) ∧
      (e.st = .update ∨ (e.st = .tick ∧ e.cr.entUpdate.en = false) → Answers (.iEnd c) s fun t =>
        (t.core k).e.st = .idle ∧ (t.core k).e.fl.updEnded = true ∧ (t.core k).e.fl.gate = true ∧
        (t.core k).e.blk.cur = none ∧ (t.core k).e.loop.on = false) ∧
      (e.st = .epoch → s.mayCommit k = true → Answers (.iEnd c) s fun t =>
        (t.core k).e.st = .idle ∧ (t.core k).mrv.busy = true ∧ (t.core k).e.loop.on = false) ∧
      (e.st = .epoch → s.mayCommit k = false → Answers (.iEnd c) s fun t =>
        (t.core k).e.st = .idle ∧ (t.core k).mrv = (s.core k).mrv ∧ (t.core k).e.loop.on = false) ∧
      (e.st = .message → e.fl.edgeDue = false → Answers (.iEnd c) s fun t =>
        (t.core k).e.st = .idle ∧ (t.core k).e.loop.on = false) ∧
      (e.st = .message → e.fl.edgeDue = true → Answers (.iEnd c) s fun t =>
        (t.core k).e.st ≠ .message ∧ (t.core k).e.loop.on = false)) ∧
    (coreOf i = some c → e.runnable = true →
    ((e.stall.isNone && !e.dbg.bpPassed && !e.dbg.stepping) = true → e.bpAt = none) →
    s.ueAt (progAddr k e.regs.pc.toNat) = false → decodeWord c (s.fetch k) = none →
      Answers i s fun t =>
        let e' := (t.core k).e
        e'.cr.fault = { cause := 1, entry := BitVec.ofNat 2 e.st.entry, pc := e.regs.pc } ∧
        e'.st = .faulted ∧ e'.dbg.halted = true ∧ e'.dbg.reason = 4 ∧ e'.regs = e.regs)

/-! ### Mladza: blocks and neurons -/

/-- R72, R74, R76 and R79. On the current block in UPDATE: PMARK, HOLD and BSTAMP mark, hold and stamp it. DECAY
multiplies the masked elements by the power of the Q0.16 factor and rounds toward zero. VSCL scales them by the
channel's power of two: saturating up, and down by an arithmetic shift or with one draw for each element. -/
def Obligations.BlockInstructions : Prop :=
  ∀ (s : State) (c : CoreId) (vd va : VReg) (m : MReg) (ga : GReg) (b : Fin 512),
    let k := c.key
    let e := (s.core k).e
    let a (i : Fin 16) : Int := (s.getV k va)[i.val].toInt
    let f : Int := alphaPow ((s.getG k ga).toNat % 2 ^ 16) (s.belapsed k)
    let sh : Int := s.scaleShift k (s.bchan k)
    let stoch := s.scaleStoch k (s.bchan k)
    let x (n : Nat) : Word := xorshift^[n] e.regs.rng
    let up (y : Int) : Int := max (-2 ^ 31) (min (2 ^ 31 - 1) (y * 2 ^ sh.toNat))
    let down (i : Fin 16) : Int :=
      (a i + if stoch then ((x (i.val + 1)).toNat % 2 ^ (-sh).toNat : Nat) else 0) / 2 ^ (-sh).toNat
    let any := e.regs.readM m ≠ 0
    let old := s.blkEntry k b.val
    let stamped := BitVec.ofNat 32 (old.toNat / 2 ^ 24 * 2 ^ 24 + e.fl.tick.toNat % 2 ^ 24)
    e.st = .update → e.blk.cur = some b →
      Computes s c (.iDecay c vd va m ga) (fun r => r.putMasked vd m fun i => BitVec.ofInt 32 ((a i * f).tdiv 65536)) ∧
      Computes s c (.iVscl c vd va m) (fun r =>
        { r with rng := if stoch then x 16 else r.rng }.putMasked vd m fun i =>
          BitVec.ofInt 32 (if 0 ≤ sh then up (a i) else down i)) ∧
      (Ready s c (.iPmark c m) → Answers (.iPmark c m) s fun t => EngineIs s t c.key
        (({ e with blk := { e.blk with
            pending := if any then e.blk.pending ||| 1#512 <<< b.val else e.blk.pending } } : NEngine).movedOn)) ∧
      (Ready s c (.iHold c m) → Answers (.iHold c m) s fun t => EngineIs s t c.key
        (({ e with blk := { e.blk with held :=
            if any then e.blk.held ||| 1#512 <<< b.val else e.blk.held &&& ~~~(1#512 <<< b.val) } } : NEngine).movedOn)) ∧
      (Ready s c (.iBstamp c) → Answers (.iBstamp c) s fun t => EngineIs s t c.key
        (({ e with blk := { e.blk with table := Tab.put e.blk.table 0 b.val stamped } } : NEngine).movedOn))

/-- R73 and R115. VACC reads the sixteen accumulators of the current block into vd, clears them, and moves the block's
saturation flag to STAT.SATF; ACLR does the same without the register. No other byte of memory changes. -/
def Obligations.AccumulatorReads : Prop :=
  ∀ (s : State) (c : CoreId) (vd : VReg) (b : Fin 512),
    let k := c.key
    let e := (s.core k).e
    let ac (i : Nat) : Nat := acAddr k (16 * b.val + i)
    let cleared (t : State) : Prop :=
      (∀ i, i < 16 → t.readWord (ac i) = 0) ∧
      (∀ a, a < ac 0 ∨ ac 16 ≤ a → t.readByte a = s.readByte a) ∧
      (t.core k).e.fl.satf = e.blk.sat.getLsbD b.val ∧
      (∀ j : Nat, (t.core k).e.blk.sat.getLsbD j = (e.blk.sat.getLsbD j && decide (j ≠ b.val)))
    e.st = .update → e.blk.cur = some b → (∀ i, i < 16 → s.ueAt (ac i) = false) →
      (Ready s c (.iVacc c vd) → Answers (.iVacc c vd) s fun t => cleared t ∧
        (∀ i : Fin 16, (t.getV k vd)[i.val] = s.readWord (ac i.val)) ∧ ∀ r, r ≠ vd → t.getV k r = s.getV k r) ∧
      (Ready s c (.iAclr c) → Answers (.iAclr c) s fun t => cleared t ∧ ∀ r, t.getV k r = s.getV k r)

/-- R116. VTRUP multiplies the masked elements of one trace half by the power of the factor, rounds with one draw
each, adds the vector and clamps to int8; it draws sixteen times. The other half and all other memory stay as they
are. -/
def Obligations.TraceUpdates : Prop :=
  ∀ (s : State) (c : CoreId) (va : VReg) (m : MReg) (ga gb gc : GReg) (high : Bool),
    let k := c.key
    let e := (s.core k).e
    let i : Instr := if high then .iVtrupH c va m ga gb gc else .iVtrupL c va m ga gb gc
    let n := (s.getG k ga).toNat
    let base := 16 * (n / 16)
    let f : Int := alphaPow ((s.getG k gb).toNat % 2 ^ 16) ((s.getG k gc).toNat % 2 ^ 24)
    let x (j : Nat) : Word := xorshift^[j] e.regs.rng
    let new (j : Fin 16) : Int :=
      (BitVec.ofInt 32 (((s.traceHalf k (base + j.val) high).toInt * f + ((x (j.val + 1)).toNat % 2 ^ 16 : Nat)) / 2 ^ 16) +
        (s.getV k va)[j.val]).toInt
    Ready s c i → n < 8192 → (∀ j, j < 8 → s.ueAt (trAddr k (base + 2 * j)) = false) →
      Answers i s fun t =>
        (∀ j : Fin 16, t.traceHalf k (base + j.val) high =
          if (e.regs.readM m).getLsbD j.val then BitVec.ofInt 8 (max (-128) (min 127 (new j)))
          else s.traceHalf k (base + j.val) high) ∧
        (∀ a, (∀ j : Fin 16, a ≠ trAddr k (base + j.val) + high.toNat) → t.readByte a = s.readByte a) ∧
        (t.core k).e.regs.rng = x 16

/-- R50 and R117. Once the emit phase is open, EMIT of a neuron that has not fired in this tick puts its event into
the emit buffer with the tag of the tick while that has room, and a second EMIT of a neuron is counted and drops.
VEMIT does the same for the masked neurons of the block, lowest first, with the payload clamped. -/
def Obligations.Emissions : Prop :=
  ∀ (s : State) (c : CoreId) (ra rb : GReg) (va : VReg) (m : MReg) (b : Fin 512),
    let k := c.key
    let e := (s.core k).e
    let n := (s.getG k ra).toNat
    let event (n : Nat) (pay : Nat) : EmitEv :=
      ⟨BitVec.ofNat 24 (c.cl.val * 2 ^ 18 + c.lc.val * 2 ^ 13 + n), BitVec.ofNat 8 pay, e.fl.tag⟩
    let masked := (List.finRange 16).filter fun j => (e.regs.readM m).getLsbD j.val
    let vemits (i : Instr) (lo hi : Int) : Prop :=
      Ready s c i → e.blk.cur = some b → e.emitAt = 0 → (∀ j ∈ masked, e.fl.sent.getLsbD (16 * b.val + j.val) = false) →
      e.emitBuf.length + masked.length ≤ 4 →
        Answers i s fun t => (t.core k).e.emitBuf = e.emitBuf ++ masked.map fun j =>
          event (16 * b.val + j.val) ((max lo (min hi (s.getV k va)[j.val].toInt)) % 256).toNat
    e.st = .tick ∨ e.st = .update → e.fl.phase = true →
      (Ready s c (.iEmit c ra rb) → n < 8192 → e.fl.sent.getLsbD n = false → e.emitBuf.length < 4 →
        Answers (.iEmit c ra rb) s fun t =>
          (t.core k).e.emitBuf = e.emitBuf ++ [event n ((s.getG k rb).toNat % 256)] ∧
          (∀ j, j < 8192 → (t.core k).e.fl.sent.getLsbD j = (e.fl.sent.getLsbD j || decide (j = n)))) ∧
      (Ready s c (.iEmit c ra rb) → n < 8192 → e.fl.sent.getLsbD n = true → Answers (.iEmit c ra rb) s fun t =>
        (t.core k).e.emitBuf = e.emitBuf ∧ (t.core k).e.fl.dupe = true ∧
        (t.core k).e.cr.dupEmit = min 65535 (e.cr.dupEmit + 1)) ∧
      vemits (.iVemitU c va m) 0 255 ∧
      vemits (.iVemitS c va m) (-128) 127

/-! ### Mladza: memory views, special registers, queues and sync objects -/

/-- R68 and R114. LD and VLD of elements in range whose words hold no uncorrectable error: what each view and suffix
gives. The vector load takes the sixteen elements of the block that holds the index. -/
def Obligations.ViewLoads : Prop :=
  ∀ (s : State) (c : CoreId) (reg ra : GReg) (vd : VReg) (view : Fin 7) (sfx : Fin 3) (m : MReg) (off : BitVec 11) (i : Nat),
    let k := c.key
    let base := 16 * (i / 16)
    let element (j : Nat) : Word :=
      match view.val, sfx.val with
      | 0, 0 => ((s.readWord (nsAddr k j)).setWidth 16).signExtend 32
      | 0, 1 => ((s.readWord (nsAddr k j)).extractLsb' 16 16).signExtend 32
      | 0, _ => s.readWord (nsAddr k j)
      | 1, _ => s.readWord (acAddr k j)
      | 2, 1 => (s.readByte (trAddr k j + 1)).signExtend 32
      | 2, _ => (s.readByte (trAddr k j)).signExtend 32
      | 3, _ => (s.scaleReg k j).zeroExtend 32
      | 4, _ => s.readWord (lbAddr k j)
      | 5, _ => s.readWord (synAddr k j)
      | _, _ => s.readWord (shAddr c.cl.val j)
    s.viewIndex k view.val ra off = some i →
      (s.viewUe k view.val sfx.val i false = false → (view.val = 5 → s.ueAt (synAddr k (i - i % 2)) = false) →
        Computes s c (.iLd c reg ra view sfx off) (fun r => r.putG reg (element i))) ∧
      ((∀ j : Fin 16, ((s.core k).e.regs.readM m).getLsbD j.val = true →
          s.viewUe k view.val sfx.val (base + j.val) false = false) →
        Computes s c (.iVld c vd ra view sfx m off) (fun r => r.putMasked vd m fun j => element (base + j.val)))

/-- R68, R30 and R114. ST of an element in range to a view a program may write: what the element reads as afterwards,
that STAT.VSAT is set where narrowing clipped, and that no byte outside the stored ones changes. The model's own
choice in it: notes/assumptions/57.md. -/
def Obligations.ViewStores : Prop :=
  ∀ (s : State) (c : CoreId) (reg ra : GReg) (view : Fin 7) (sfx : Fin 3) (off : BitVec 11) (i : Nat),
    let k := c.key
    let w := s.getG k reg
    let clamp (n : Nat) (x : Int) : Int := max (-2 ^ (n - 1)) (min (2 ^ (n - 1) - 1) x)
    let bits : Nat := if view.val = 2 then 8 else 16
    let half : Bool := (view.val == 0 || view.val == 2) && decide (sfx.val ≤ 1)
    let stored : Nat × Nat :=
      match view.val, sfx.val with
      | 0, 0 => (nsAddr k i, 2)
      | 0, 1 => (nsAddr k i + 2, 2)
      | 0, _ => (nsAddr k i, 4)
      | 1, _ => (acAddr k i, 4)
      | 2, 1 => (trAddr k i + 1, 1)
      | 2, _ => (trAddr k i, 1)
      | 6, _ => (shAddr c.cl.val i, 4)
      | _, _ => (0, 0)
    viewOk view.val sfx.val false = true → Ready s c (.iSt c reg ra view sfx off) → view.val ≠ 4 → view.val ≠ 5 →
    s.viewIndex k view.val ra off = some i → s.viewUe k view.val sfx.val i true = false →
      Answers (.iSt c reg ra view sfx off) s fun t =>
        (half = true → t.viewLoad k view.val sfx.val i = BitVec.ofInt 32 (clamp bits w.toInt)) ∧
        (view.val = 0 → sfx.val = 2 → t.readWord (nsAddr k i) = w) ∧
        (view.val = 1 → t.readWord (acAddr k i) = (w.setWidth 24).signExtend 32) ∧
        (view.val = 3 → t.scaleReg k i = w.setWidth 6) ∧
        (view.val = 6 → (∀ j, j < 4 → s.openVector (shAddr c.cl.val i + j) = false) →
          t.readWord (shAddr c.cl.val i) = w) ∧
        (∀ a, a < stored.1 ∨ stored.1 + stored.2 ≤ a → t.readByte a = s.readByte a) ∧
        (t.core k).e.fl.vsat = ((s.core k).e.fl.vsat || (half && decide (clamp bits w.toInt ≠ w.toInt)))

/-- R68 and R114. VST stores the masked elements of the block that holds the index, as ST stores one; no byte of
another element changes. -/
def Obligations.VectorStores : Prop :=
  ∀ (s : State) (c : CoreId) (vs : VReg) (ra : GReg) (view : Fin 7) (sfx : Fin 3) (m : MReg) (off : BitVec 11) (i : Nat),
    let k := c.key
    let base := 16 * (i / 16)
    let x (j : Fin 16) : Word := (s.getV k vs)[j.val]
    let on (j : Fin 16) : Prop := ((s.core k).e.regs.readM m).getLsbD j.val = true
    let clamp (n : Nat) (x : Int) : Int := max (-2 ^ (n - 1)) (min (2 ^ (n - 1) - 1) x)
    let cells (j : Fin 16) : Nat × Nat :=
      match view.val, sfx.val with
      | 0, 0 => (nsAddr k (base + j.val), 2)
      | 0, 1 => (nsAddr k (base + j.val) + 2, 2)
      | 0, _ => (nsAddr k (base + j.val), 4)
      | 1, _ => (acAddr k (base + j.val), 4)
      | _, 1 => (trAddr k (base + j.val) + 1, 1)
      | _, _ => (trAddr k (base + j.val), 1)
    viewOk view.val sfx.val true = true → Ready s c (.iVst c vs ra view sfx m off) → s.viewIndex k view.val ra off = some i →
    (∀ j : Fin 16, on j → s.viewUe k view.val sfx.val (base + j.val) true = false) →
      Answers (.iVst c vs ra view sfx m off) s fun t =>
        (∀ j : Fin 16, on j →
          (view.val = 0 → sfx.val ≤ 1 → t.viewLoad k 0 sfx.val (base + j.val) = BitVec.ofInt 32 (clamp 16 (x j).toInt)) ∧
          (view.val = 0 → sfx.val = 2 → t.readWord (nsAddr k (base + j.val)) = x j) ∧
          (view.val = 1 → t.readWord (acAddr k (base + j.val)) = ((x j).setWidth 24).signExtend 32) ∧
          (view.val = 2 → t.viewLoad k 2 sfx.val (base + j.val) = BitVec.ofInt 32 (clamp 8 (x j).toInt))) ∧
        (∀ a, (∀ j : Fin 16, on j → a < (cells j).1 ∨ (cells j).1 + (cells j).2 ≤ a) → t.readByte a = s.readByte a)

/-- R65, R66, R75, R76 and R81. MFS reads the special register of its number: CYC as a number of cycles that timing
gives, and 0 for one that is not listed. MTS writes CHANNEL of the current block, clears VSAT where bit 2 of STAT is
written 1, writes RNG with 1 in place of 0, LC and LR, and is ignored for every other register. The model's own choice
in it: notes/assumptions/10.md. -/
def Obligations.SpecialRegisters : Prop :=
  ∀ (s : State) (c : CoreId) (rd ra : GReg) (n : Byte),
    let k := c.key
    let e := (s.core k).e
    let tenant : Nat := match s.tenantOf c.cl.val with | some t => t.val | none => 0
    let elapsed : Nat := match e.blk.cur with
      | none => 0
      | some b => (e.fl.tick.toNat + 2 ^ 24 - (s.blkEntry k b.val).toNat % 2 ^ 24) % 2 ^ 24
    let special : Word :=
      match n.toNat with
      | 0x00 => e.fl.tick
      | 0x01 => match e.blk.cur with | some b => BitVec.ofNat 32 b.val | none => 0x200
      | 0x02 => BitVec.ofNat 32 elapsed
      | 0x03 => match e.blk.cur with | some b => s.blkEntry k b.val >>> 24 | none => 0
      | 0x04 => s.stat k
      | 0x05 => BitVec.ofNat 32 (tenant * 2 ^ 10 + c.cl.val * 2 ^ 5 + c.lc.val)
      | 0x06 => BitVec.ofNat 32 (c.cl.val * 2 ^ 18 + c.lc.val * 2 ^ 13)
      | 0x07 => e.fl.epoch
      | 0x08 => match s.tenantOf c.cl.val with | some t => BitVec.ofNat 32 (s.shear t).eptick | none => 0
      | 0x09 => e.regs.rng
      | 0x0A => e.regs.lc
      | 0x0B => e.regs.lr
      | 0x0D => match e.st with | .update => 1 | .epoch => 2 | .message => 3 | _ => 0
      | 0x0E => BitVec.ofNat 32 e.fl.msgq.val
      | 0x0F => if e.fl.phase then 1 else 0
      | _ => 0
    let w := s.getG k ra
    let channel (b : Nat) : Word := BitVec.ofNat 32 (w.toNat % 256 * 2 ^ 24 + (s.blkEntry k b).toNat % 2 ^ 24)
    let after : NEngine :=
      match n.toNat with
      | 0x03 =>
        match e.blk.cur with
        | some b => { e with blk := { e.blk with table := Tab.put e.blk.table 0 b.val (channel b.val) } }
        | none => e
      | 0x04 => { e with fl := { e.fl with vsat := e.fl.vsat && !w.getLsbD 2 } }
      | 0x09 => { e with regs := { e.regs with rng := if w = 0 then 1 else w } }
      | 0x0A => { e with regs := { e.regs with lc := w } }
      | 0x0B => { e with regs := { e.regs with lr := w } }
      | _ => e
    (n ≠ 0x0C → Computes s c (.iMfs c rd n) (fun r => r.putG rd special)) ∧
    (n = 0x0C → Ready s c (.iMfs c rd n) → Answers (.iMfs c rd n) s fun t =>
      ∃ w, (t.core k).e = (s.withRegs k fun r => r.putG rd w).movedOn) ∧
    (Ready s c (.iMts c n ra) → Answers (.iMts c n ra) s fun t => EngineIs s t k after.movedOn)

/-- R125 and R127. MOD sets the modulator to the clamped value, MSKIP asks for the next commit to be skipped, and
QPEEK reads how many descriptors a queue holds. -/
def Obligations.ModulatorAndPeek : Prop :=
  ∀ (s : State) (c : CoreId) (rd ra : GReg) (q : Fin 4),
    let k := c.key
    let e := (s.core k).e
    let w := s.getG k ra
    (Ready s c (.iMod c ra) → Answers (.iMod c ra) s fun t => EngineIs s t k
      (({ e with md := { e.md with value := BitVec.ofInt 8 (max (-128) (min 127 w.toInt)) } } : NEngine).movedOn)) ∧
    (Ready s c (.iMskip c) → Answers (.iMskip c) s fun t => EngineIs s t k
      (({ e with md := { e.md with skip := true } } : NEngine).movedOn)) ∧
    Computes s c (.iQpeek c rd q) (fun r => r.putG rd (BitVec.ofNat 32 ((s.core k).q[q.val]).entries.length))

/-- R124, R125, R218, R219 and R221. QSEND to a queue the tenant holds, with a window entry that has a credit, takes
one credit and hands one QDESC packet with the descriptor, and the pushed words, to the entry's flow. QRECV takes the
oldest descriptor of its queue into the two registers and returns the credit of the one it had taken before. The
model's own choice in it: notes/assumptions/57.md. -/
def Obligations.CoreQueues : Prop :=
  ∀ (s : State) (c : CoreId) (ra rb rd : GReg) (q : Fin 4) (i : Nat) (data : List Byte) (x : QEnt) (xs : List QEnt),
    let k := c.key
    let cl := c.cl.val
    let dest := s.getG k ra
    let high := s.getG k rb
    let win := s.qwin cl i
    let rq := (s.core k).q[q.val]
    let credits (u : State) : List Pkt := Tab.get (u.station cl).thread.queues [] 1
    (Ready s c (.iQsend c ra rb rd) → s.qdestOk k dest = true → s.findQWin cl (dest.setWidth 12) = some i → 0 < win.cred →
      (s.flow cl win.flow).dests.length ≤ 1 →
      (if high.msb then s.pushData cl high else some []) = some data →
        Answers (.iQsend c ra rb rd) s fun t =>
          (t.qwin cl i).cred = win.cred - 1 ∧
          ∃ p : GPkt, (t.flow cl win.flow).queue = (s.flow cl win.flow).queue ++ [p] ∧
            p.op = 1 ∧ p.addr = queueRegAddr dest.toNat ∧ p.aux = high ++ s.getG k rd ∧ p.data = data ∧ p.src = cl ∧
            p.flow = win.flow) ∧
    (Ready s c (.iQrecv c rd ra q) → rd ≠ ra → rq.entries = x :: xs →
      Answers (.iQrecv c rd ra q) s fun t =>
        t.getG k rd = x.desc.extractLsb' 32 32 ∧ t.getG k ra = x.desc.setWidth 32 ∧
        ((t.core k).q[q.val]).entries = xs ∧ ((t.core k).q[q.val]).kept = some x ∧
        (rq.kept = none → credits t = credits s) ∧
        (∀ y st j, rq.kept = some y → y.origin = some (st, j) → credits t = enqueuePkt (.qcred st j 1) (credits s)))

/-- R126. SIG of an object number below 8,192 posts one SYNC packet and moves on. WAITS asks the sync unit once and
waits; it moves on when the object has met the value. -/
def Obligations.CoreSync : Prop :=
  ∀ (s : State) (c : CoreId) (ra rb : GReg),
    let k := c.key
    let e := (s.core k).e
    let o := (s.getG k ra).toNat
    let syncs (u : State) : List Pkt := Tab.get (u.station c.cl.val).thread.queues [] 2
    o < 8192 →
      (Ready s c (.iSig c ra rb) → Answers (.iSig c ra rb) s fun t =>
        syncs t = syncs s ++ [.sync 0 o (s.getG k rb) c.lc.val] ∧ (t.core k).e = e.movedOn) ∧
      (Ready s c (.iWaits c ra rb) → e.waits = some .met → Answers (.iWaits c ra rb) s fun t =>
        EngineIs s t k e.movedOn) ∧
      (Ready s c (.iWaits c ra rb) → e.waits = none → Answers (.iWaits c ra rb) s fun t =>
        syncs t = syncs s ++ [.sync 1 o (s.getG k rb) c.lc.val] ∧ (t.core k).e.waits = some (.asked o (s.getG k rb)) ∧
        (t.core k).e.regs = e.regs)

/-- R64, R103, R106 and R109. A register instruction that is next changes registers, flags and position of its own
engine alone: no byte of memory, no other core, and nothing else of its core. A store, an emission, a message or a
branch keeps every general, vector and mask register. No instruction of a core changes another core, a tenant, a
Shears, a sync object or the output gate. The model's own choice in it: notes/assumptions/9.md. -/
def Obligations.InstructionFrames : Prop :=
  ∀ (s t : State) (c : CoreId) (i : Instr), Ready s c i → exec i s = .next t →
    let k := c.key
    let regs (u : State) := (u.core k).e.regs
    (registerOnly i = true →
      (∀ a, t.readByte a = s.readByte a) ∧
      (∀ n, t.station n = s.station n) ∧ (∀ n, t.cluster n = s.cluster n) ∧ t.pending = s.pending ∧
      (t.core k).i = (s.core k).i ∧ (t.core k).q = (s.core k).q ∧ (t.core k).mrv = (s.core k).mrv ∧
      (t.core k).e.blk = (s.core k).e.blk ∧ (t.core k).e.st = (s.core k).e.st) ∧
    (keepsRegisters i = true →
      (regs t).g = (regs s).g ∧ (regs t).v = (regs s).v ∧ (regs t).m = (regs s).m) ∧
    (∀ j, j ≠ k → t.core j = s.core j) ∧ t.tenants = s.tenants ∧ t.sh = s.sh ∧ t.sync = s.sync ∧
    t.pont.gate = s.pont.gate


/-! ### Ticks, commits and entries -/

/-- R38, R43, R72, R355, R411 and R412. The first edge of a started tenant, and the edge of a lossy tenant whose cores
have ended one period after the last edge, start the next tick: the tick counter and the tag advance, except at the
first edge after a LOAD, which starts tick 0 with tag 0, and the edge is on its way to every core. An edge at a core
freezes its active set and clears its tick's flags; the opening of the emit phase reaches every core. The model's own
choice in it: notes/assumptions/1.md. -/
def Obligations.TicksAdvance : Prop :=
  ∀ (s : State) (t : Tenant) (c : CoreId),
    let k := c.key
    let sh := s.shear t
    let e := (s.core k).e
    let begun (u : State) : Prop :=
      let sh' := u.shear t
      sh'.state = .update ∧ sh'.first = false ∧ sh'.fresh = false ∧ sh'.edgeAt = s.now ∧
      sh'.tick = (if sh.fresh then 0 else sh.tick + 1) ∧ sh'.tag = (if sh.fresh then 0 else sh.tag + 1) ∧
      sh'.period = sh.staged.getD sh.period ∧ sh'.staged = none ∧
      (∀ j ∈ s.coresOf t, (u.core j).e.fl.edgeSig = true) ∧
      ∀ w, w ≠ t → u.shear w = s.shear w
    (sh.pstop = false → sh.stopping = false → sh.first = true → Answers (.tickEdge t) s begun) ∧
    (sh.pstop = false → sh.stopping = false → sh.first = false → sh.state = .emit → sh.hold = .running →
      sh.lastOfEpoch = false → sh.lossless = false → s.ended t = true → 0 < sh.period → s.govF ≤ 16 →
      s.now = sh.edgeAt + sh.period → Answers (.tickEdge t) s begun) ∧
    (s.coreTenant k = some t → e.fl.edgeSig = true → Answers (.edgeAtCore c none) s fun u =>
      let e' := (u.core k).e
      e'.blk.active = e.blk.collecting ||| e.blk.held ∧ e'.blk.input = e.blk.collecting ∧ e'.blk.collecting = 0 ∧
      e'.blk.pending = 0 ∧ e'.fl.sent = 0 ∧ e'.fl.gap = e.fl.gapNext ∧ e'.fl.dupe = false ∧ e'.fl.phase = false ∧
      e'.fl.tick = sh.tick ∧ e'.fl.tag = sh.tag ∧
      ((s.core k).canStart = true → e.cr.entTick.en = true →
        e'.st = .tick ∧ e'.regs.pc = e.cr.entTick.addr)) ∧
    (sh.state = .update → s.allGates t = true → Answers (.emitPhaseOpen t) s fun u =>
      (u.shear t).state = .emit ∧ (u.shear t).openPorts = true ∧ (u.shear t).openHost = true ∧
      ∀ j ∈ s.coresOf t, (u.core j).e.fl.phase = true) ∧
    (sh.hold = .requested → sh.stopping = false → s.creditOut t = false → sh.state = .emit → sh.lastOfEpoch = false →
      s.drained t = true → Answers (.fabricHoldBegin t) s fun u =>
        { u with sh := s.sh } = s ∧ u.shear t = { sh with state := .held, hold := .held } ∧
        ∀ w, w ≠ t → u.shear w = s.shear w)

/-- R69, R70, R273, R289 and R413. After the last tick of an epoch the commit start reaches every core; an idle core
begins its EPOCH entry, or its commit work where that entry is off; the end of the work is reported and EPOCH advances
where the Marver is off; and when every core has reported and no snapshot is due, or the snapshot has been copied, the
next edge fires. A message in a named queue starts the MESSAGE entry of an idle engine that nothing else waits for.
The model's own choices in it: notes/assumptions/49.md and notes/assumptions/50.md. -/
def Obligations.CommitsAndMessages : Prop :=
  ∀ (s : State) (t : Tenant) (c : CoreId),
    let k := c.key
    let sh := s.shear t
    let x := s.core k
    let e := x.e
    (sh.state = .emit → sh.pstop = false → sh.stopping = false → sh.lastOfEpoch = true → s.ended t = true →
      s.drained t = true → Answers (.commitStart t) s fun u =>
        (u.shear t).state = .commit ∧ ∀ j ∈ s.coresOf t, (u.core j).e.fl.commitDue = true) ∧
    (e.fl.commitDue = true → e.st = .idle → e.dbg.halted = false → s.mayCommit k = true →
      Answers (.epochEntryStart c) s fun u =>
        (u.core k).e.fl.commitDue = false ∧
        (e.cr.entEpoch.en = true → (u.core k).e.st = .epoch ∧ (u.core k).e.regs.pc = e.cr.entEpoch.addr) ∧
        (e.cr.entEpoch.en = false → (u.core k).mrv.busy = true)) ∧
    (x.mrv.busy = true → Answers (.commitWorkEnd c) s fun u =>
      (u.core k).mrv.busy = false ∧ (u.core k).e.md.skip = false ∧ (u.core k).e.fl.commitDone = true ∧
      (x.mrv.en = false → (u.core k).e.fl.epoch = e.fl.epoch + 1)) ∧
    (sh.state = .commit → s.allReported t = true → sh.stopping = false →
      (s.snapshotDue t = true → Answers (.commitReportsIn t) s fun u =>
        (u.shear t).state = .snapshot ∧ u.snapshotDue t = false) ∧
      (s.snapshotDue t = false → sh.hold = .running → sh.pstop = false → s.govF ≤ 16 →
        Answers (.commitReportsIn t) s fun u =>
          (u.shear t).state = .update ∧ (u.shear t).eptick = 0 ∧ (u.shear t).edgeAt = s.now)) ∧
    (sh.state = .snapshot → sh.stopping = false → sh.hold = .running → sh.pstop = false → s.govF ≤ 16 →
      Answers (.snapshotCopyDone t) s fun u =>
        (u.shear t).state = .update ∧ (u.lehr.jobs.any fun j => j.who.port == t && j.phase == .copying) = false) ∧
    (x.mayMessage = true → x.namedQueues ≠ [] → Answers (.messageEntryStart c) s fun u =>
      (u.core k).e.st = .message ∧ (u.core k).e.regs.pc = e.cr.entMessage.addr ∧
      (u.core k).e.fl.msgq ∈ x.namedQueues)

/-! ### Integration and receive units -/

/-- R41, R57, R140, R142, R143, R146, R149, R151 and R157. A copy of the tick in progress enters the ingress FIFO
behind what waits there while it has room, a late one is counted and marks the gap, and in lossy mode one that finds
the FIFO full is dropped and counted. In the emit phase the integration unit takes the item that arrived first, whole:
an event counts a filter hit, and changes no byte of memory but accumulators of its core where the Marver keeps no
pre-synaptic trace; a landing segment's credit returns, and it counts unless a row error discards it, which is counted
itself; a late item is only counted. A contribution is added with saturation to 24 bits. The receive unit copies an
event to every core of its mask, and in lossless mode returns its credit. The model's own choices in it:
notes/assumptions/10.md, notes/assumptions/52.md and notes/assumptions/57.md. -/
def Obligations.EventsReachAccumulators : Prop :=
  ∀ (s : State) (c : CoreId) (ev : InEv) (evs : List InEv) (g : Seg) (gs : List Seg) (x : RxEv) (xs : List RxEv)
    (n : Nat) (raw : Int),
    let k := c.key
    let i := (s.core k).i
    let fl := (s.core k).e.fl
    let credits (u : State) : List Pkt := Tab.get (u.station c.cl.val).thread.queues [] 1
    let clamp (y : Int) : Int := max (-8388608) (min 8388607 y)
    let onlyAcc (u : State) : Prop := ∀ a, (a < acAddr k 0 ∨ acAddr k 8192 ≤ a) → u.readByte a = s.readByte a
    let aux := s.segAux k g.slot.val
    let bad := (rowHdr (s.rowWord k (.lb g.slot.val) 1)).badSeg g.words (auxStored aux)
    let eventFirst : Prop := i.fifo = ev :: evs ∧ ∀ g ∈ i.segs.head?, ev.order ≤ g.order
    let segmentFirst : Prop := i.segs = g :: gs ∧ ∀ ev ∈ i.fifo.head?, g.order < ev.order
    let returned (u : State) : Prop := credits u = enqueuePkt (.gathCred g.src g.flow 1 false 0 0) (credits s)
    (i.crossing = ev :: evs →
      (ev.tag = fl.tag → i.fifo.length < 32 → Answers (.coreIngress c) s fun u =>
        (u.core k).i.crossing = evs ∧ (u.core k).i.fifo = i.fifo ++ [{ ev with order := i.arrived }] ∧
        (u.core k).i.arrived = i.arrived + 1 ∧ (u.core k).e.fl.gapNext = (fl.gapNext || ev.gap)) ∧
      (ev.tag ≠ fl.tag → Answers (.coreIngress c) s fun u =>
        (u.core k).i.crossing = evs ∧ (u.core k).i.fifo = i.fifo ∧ (u.core k).i.late = cnt16 i.late ∧
        (u.core k).e.fl.gapNext = true) ∧
      (ev.tag = fl.tag → 32 ≤ i.fifo.length → s.coreLossless k = false → Answers (.coreIngress c) s fun u =>
        (u.core k).i.crossing = evs ∧ (u.core k).i.fifo = i.fifo ∧ (u.core k).i.drop = cnt16 i.drop ∧
        (u.core k).e.fl.gapNext = true)) ∧
    (eventFirst →
      (ev.tag ≠ fl.tag → Answers (.integrateEvent c) s fun u =>
        (u.core k).i.fifo = evs ∧ (u.core k).i.late = cnt16 i.late ∧ u.mem = s.mem) ∧
      (ev.tag = fl.tag → fl.phase = true → s.eccUe = [] → s.eccCe = [] → Answers (.integrateEvent c) s fun u =>
        (u.core k).i.fifo = evs ∧
        (u.core k).i.filtHit = (if (s.filterWord k ev.src).isSome then cnt32 i.filtHit else i.filtHit) ∧
        ((s.core k).mrv.preEn = false → onlyAcc u))) ∧
    (segmentFirst →
      (auxTag aux ≠ fl.tag → Answers (.integrateSegment c) s fun u =>
        (u.core k).i.segs = gs ∧ (u.core k).i.late = cnt16 i.late ∧ returned u ∧ u.mem = s.mem) ∧
      (auxTag aux = fl.tag → fl.phase = true → bad = true → Answers (.integrateSegment c) s fun u =>
        (u.core k).i.segs = gs ∧ (u.core k).i.segCnt = i.segCnt ∧ (u.core k).i.rowErr = true ∧
        (u.core k).i.rowErrCnt = cnt16 i.rowErrCnt ∧ returned u ∧ u.mem = s.mem) ∧
      (auxTag aux = fl.tag → fl.phase = true → bad = false → s.eccUe = [] → Answers (.integrateSegment c) s fun u =>
        (u.core k).i.segs = gs ∧ (u.core k).i.segCnt = cnt32 i.segCnt ∧ returned u ∧ onlyAcc u)) ∧
    (n < 8192 → (s.addContribution k n raw).acc k n = clamp (s.acc k n + clamp raw) ∧
      ((s.addContribution k n raw).core k).e.blk.collecting.getLsbD (n / 16) = true) ∧
    ((s.cluster c.cl.val).rx = x :: xs →
      (s.lossless x.tenant = true → s.coresAccept (s.maskedCores c.cl.val x.ev.grp.toNat) = true) →
      Answers (.rxLookup c.cl) s fun u =>
        (u.cluster c.cl.val).rx = xs ∧ (u.cluster c.cl.val).events = cnt32 (s.cluster c.cl.val).events ∧
        (∀ j ∈ s.maskedCores c.cl.val x.ev.grp.toNat, (u.core j).i.crossing =
          (s.core j).i.crossing ++ [⟨x.ev.src, x.ev.pay, x.ev.tag, x.ev.gap, 0⟩]) ∧
        (s.lossless x.tenant = true → credits u = enqueuePkt (.caneCred x.src x.stream c.cl.val 1) (credits s)))

/-! ### The Cane -/

/-- R170, R172, R173, R176, R178 and R179. A station takes the oldest event of an emit buffer whose turn it is through
its directory and group tables, with the tag of the tick it was emitted in, and puts a copy into the stream its group
names; a held event follows once there is room; an injection slot sends up to two events of its stream as one flit;
and a station takes the events of the flits handed to it into its receive FIFO while that has room. The model's own
choice in it: notes/assumptions/1.md. -/
def Obligations.CaneCarriesEvents : Prop :=
  ∀ (s : State) (st : Station) (t : Tenant) (l : Nat) (w : EmitEv) (ws : List EmitEv) (n : Nat) (ev : WireEv) (evs : List WireEv)
    (slot : Fin 512) (x : Ejected) (xs : List Ejected),
    let cl := st.val
    let c := (s.station cl).cane
    let g := s.dirEntry w.src
    let k := 32 * cl + l
    let queue (u : State) : List WireEv := (u.stream cl n).queue
    (cl < 32 → s.tenantOf cl = some t → c.rr = l → l < s.grade.perCluster → (s.core k).e.emitBuf = w :: ws →
      s.holdEmpty cl t = true → s.eccUe = [] → s.eccCe = [] → g ≠ 0 → (s.group cl g.toNat).msb = true →
      grpTenant (s.group cl g.toNat) = t → s.copiesOf cl t (s.group cl g.toNat) = [(n, true)] → (queue s).length < 32 →
      Answers (.eventLookup st) s fun u =>
        (u.core k).e.emitBuf = ws ∧ (u.station cl).cane.lookups = cnt32 c.lookups ∧
        (u.station cl).cane.rr = (l + 1) % s.grade.perCluster ∧
        queue u = queue s ++ [⟨w.src, w.pay, g, w.tag, false⟩]) ∧
    (Tab.get c.hold [] t.val = ev :: evs → s.copiesOf cl t (s.group cl ev.grp.toNat) = [(n, true)] →
      (queue s).length < 32 → Answers (.holdRegisterEnqueue st t) s fun u =>
        Tab.get (u.station cl).cane.hold [] t.val = evs ∧ queue u = queue s ++ [ev]) ∧
    (let ent := s.slotEntry .cane cl 5 slot.val
     entStream ent = n → entEn ent = true → caneInjects cl = true → (s.stream cl n).en = true → queue s = ev :: evs →
      s.lossless (s.stream cl n).tenant = false →
      (∀ p ∈ s.flight, ¬(p.fab = .cane ∧ p.st = cl ∧ p.input = .l ∧ p.slot = slot.val)) →
      Answers (.streamInject st slot) s fun u =>
        queue u = evs.drop 1 ∧
        u.flight = s.flight ++ [
          ⟨.cane, cl, .l, slot.val, { body := .cane (some ev) evs.head?, tenant := entTenant ent, src := cl, stream := n }⟩]) ∧
    (cl < 32 → c.ejected = x :: xs → x.flit.body = .cane (some ev) none → s.tenantOf cl = some x.tenant →
      (s.cluster cl).rx.length < 256 → Answers (.caneEject st) s fun u =>
        (u.station cl).cane.ejected = xs ∧
        (u.cluster cl).rx = (s.cluster cl).rx ++ [⟨ev, x.tenant, x.flit.src, x.flit.stream⟩])

/-- R162, R164, R166, R167 and R184. A router sends the one flit presented to it, of the tenant its slot entry names,
to the neighbour's input two slots later, with BEACON set in slot 0 alone and its CRC computed again, or to its own
station; a flit of another tenant is counted and not sent; one whose CRC does not match is not sent, and sets the bit
of its link. An input whose beacon is missing is recorded, and is dead from then on. The model's own choice in it:
notes/assumptions/62.md. -/
def Obligations.RoutersForward : Prop :=
  ∀ (s : State) (st : Station) (slot : Fin 512) (i d : Dir) (f : Flit) (n : Nat) (missing : Bool),
    let ent (o : Dir) : Word := s.slotEntry .cane st.val o.code slot.val
    let at_ : Presented := ⟨.cane, st.val, i, slot.val, f⟩
    let alone : Prop := s.flight = [at_] ∧ s.deadInput .cane st.val i = false ∧ f.valid = true ∧
      entEn (ent d) = true ∧ entIn (ent d) = i.code ∧ ∀ o, o ≠ d → entEn (ent o) = false
    let one : Prop := alone ∧ (i = .l ∨ (f.intact .cane = true ∧ f.beacon = (slot.val == 2)))
    (one → f.tenant = entTenant (ent d) → neighbour st.val d = some n →
      Answers (.caneFlitForward .cane st slot []) s fun u =>
        u.flight = [⟨.cane, n, oppositeOf d, (slot.val + 2) % 512, f.seal .cane (slot.val == 0)⟩]) ∧
    (one → f.tenant = entTenant (ent d) → d = .l → (∃ a b, f.body = .cane a b) →
      Answers (.caneFlitForward .cane st slot []) s fun u =>
        u.flight = [] ∧ (u.station st.val).cane.ejected = (s.station st.val).cane.ejected ++ [⟨f, entTenant (ent d)⟩]) ∧
    (one → f.tenant ≠ entTenant (ent d) → Answers (.caneFlitForward .cane st slot []) s fun u =>
      u.flight = [] ∧ (u.station st.val).cane.iso = cnt16 (s.station st.val).cane.iso) ∧
    (alone → inputExists .cane st.val i = true → f.intact .cane = false →
      Answers (.caneFlitForward .cane st slot []) s fun u =>
        u.flight = [] ∧ (u.station st.val).cane.linkErr.getLsbD (3 * i.code) = true) ∧
    (inputExists .cane st.val i = true → Answers (.beaconMissing .cane st i missing) s fun u =>
      u.deadInput .cane st.val i = (i != .l) ∧ (u.station st.val).fc.last.toNat / 2 ^ 40 % 2 ^ 8 = 4)

/-! ### Credits, the Thread and holds -/

/-- R181, R209, R216, R217, R221 and R225. A credit packet adds its count to its counter, as far as the window, and
leaves its Thread slot; as its slot passes, a station places the oldest packet of its first class that has one; the
stall watchdog records a stall it has not reported. The model's own choices in it: notes/assumptions/62.md and
notes/assumptions/63.md. -/
def Obligations.CreditsAndThread : Prop :=
  ∀ (s : State) (slot : Fin 44) (dst n i count : Nat) (addr note : Nat) (m1 m2 err : Bool) (p : Pkt) (ps : List Pkt)
    (c : CoreId) (x : Stall) (insn : Nat),
    let gone (u : State) : Prop := u.slotPkt slot.val = none
    let cane := (s.station dst).cane
    let gath := (s.station dst).gather
    let cl := c.cl.val
    (s.slotPkt slot.val = some ⟨.caneCred dst n i count, m1, m2, none, false⟩ → dst < 40 → 0 < count →
      s.lossless (s.stream dst n).tenant = true →
      Answers (.caneCred slot) s fun u => gone u ∧
        (Tab.get (u.station dst).cane.cred 0 (n * 64 + i)).toNat =
          min (Tab.get cane.win 0 (n * 64 + i)).toNat ((Tab.get cane.cred 0 (n * 64 + i)).toNat + count)) ∧
    (s.slotPkt slot.val = some ⟨.gathCred dst n count err addr note, m1, m2, none, false⟩ → dst < 40 → 0 < count →
      dst ≠ stDma →
      Answers (.gathCred slot) s fun u => gone u ∧
        (Tab.get (u.station dst).gather.cred 0 (n * 40 + slot.val % 40)).toNat =
          min (Tab.get gath.win 0 (n * 40 + slot.val % 40)).toNat
            ((Tab.get gath.cred 0 (n * 40 + slot.val % 40)).toNat + count) ∧
        (u.flow dst n).out = (s.flow dst n).out.drop count) ∧
    (s.slotPkt slot.val = some ⟨.qcred dst i count, m1, m2, none, false⟩ → dst < 40 → 0 < count →
      Answers (.qcred slot) s fun u => gone u ∧
      (u.qwin dst i).cred = min (s.qwin dst i).window ((s.qwin dst i).cred + count)) ∧
    (slot.val < 32 → s.slotPkt slot.val = none →
      Tab.get (s.station slot.val).thread.queues [] 0 = [] → Tab.get (s.station slot.val).thread.queues [] 1 = [] →
      Tab.get (s.station slot.val).thread.queues [] 2 = p :: ps → Answers (.threadPlace slot) s fun u =>
        u.slotPkt slot.val = some { pkt := p } ∧ Tab.get (u.station slot.val).thread.queues [] 2 = ps ∧
        (u.station slot.val).thread.tx = cnt32 (s.station slot.val).thread.tx) ∧
    ((s.core c.key).e.stall = some x → x.kind.insn = some insn → x.reported = false → (s.cluster cl).wdLimit ≠ 0 →
      Answers (.stallWatchdog c) s fun u =>
        (u.core c.key).e.stall = some { x with reported := true } ∧ (u.cluster cl).wdFired = true ∧
        (u.cluster cl).wdInsn = insn ∧ (u.cluster cl).wdCore = c.lc.val ∧ (u.cluster cl).wdArg = x.arg ∧
        (u.cluster cl).wdCnt = cnt16 (s.cluster cl).wdCnt)

/-- R186, R188, R196 and R200. REQ asks for the fabric hold of a running tenant, and REL cancels a request or releases
a hold; a low group word is staged for its writer, and the high word writes the entry with it for the management
processor while the tenant's tables are open. The model's own choice in it: notes/assumptions/33.md. -/
def Obligations.HoldsAndGroups : Prop :=
  ∀ (s : State) (r : Req) (t : Tenant) (st : Station) (i : Fin 16384) (v lo : Word),
    let sh := s.shear t
    let cane := (s.station st.val).cane
    let g := cane.grpBank * 16384 + i.val
    (ServedFor s r t → (s.tenant t).patching = none →
      (sh.hold = .running → (s.tenant t).st = .running → Answers (.caneTholdReq r t) s fun u =>
        u.shear t = { sh with hold := .requested } ∧ Replied u r 0) ∧
      (sh.hold = .requested → Answers (.caneTholdRel r t) s fun u =>
        u.shear t = { sh with hold := .running } ∧ Replied u r 0) ∧
      (sh.hold = .held → Answers (.caneTholdRel r t) s fun u =>
        u.shear t = { sh with hold := .releasing, relAt := s.now } ∧ Replied u r 0)) ∧
    (Served s .mp → caneInjects st.val = true →
      Answers (.groupLoWrite .mp st i v) s (fun u =>
        Tab.get (u.station st.val).cane.stage none Req.mp.key = some (g, v) ∧ Replied u .mp 0) ∧
      (Tab.get cane.stage none Req.mp.key = some (g, lo) → g ≠ 0 → v.msb = true → v &&& ~~~grpHiMask = 0 →
        s.tablesOpen (Fin.ofNat 4 (bitsOf v.toNat 29 2)) = true → (s.group st.val g).msb = false →
        Answers (.groupHiWrite .mp st i v) s fun u =>
          u.group st.val g = v ++ lo ∧ Tab.get (u.station st.val).cane.stage none Req.mp.key = none ∧
          Replied u .mp 0))

/-! ### The deep tier -/

/-- R236, R238, R239, R245, R250, R253 and R254. An engine takes the head event of the partition whose turn it is,
reads its row through the group map and the row table, and opens a window entry for it; each sector that returns
without error, after at most four repeats, is staged; a staged segment goes to a row-port flow of its cluster; a
refresh notes the temperatures. The model's own choice in it: notes/assumptions/65.md. -/
def Obligations.CrucibleReadsRows : Prop :=
  ∀ (s : State) (e : Engine) (t : Tenant) (x : RxEv) (xs : List RxEv) (w : WinEntry) (o : SectorOutcome) (j n : Nat)
    (r : RowEnt) (ev : DeepEv) (temps : List Byte) (i : Fin 8),
    let d := s.deep[e.val]
    let d' (u : State) : DeepEngine := u.deep[e.val]
    let st := 35 + e.val
    let m := Tab.get d.map 0 x.ev.grp.toNat
    let row := Tab.get d.rows {} (m.toNat % 4096)
    let a := row.rowAddr x.ev.src.toNat
    let key := ev.tenant.val * 32 + (r.c0 + ev.sent / r.nk)
    (d.turn = t.val → Tab.get d.ingress [] t.val = x :: xs → s.lossless t = false → m.msb = true → row.valid = true →
      row.tenant = t → row.srcFirst ≤ x.ev.src.toNat → x.ev.src.toNat ≤ row.srcFirst + row.srcSpan →
      s.deepReadable t a row.rowLen = true → s.deepEngineOf a = e.val → s.deepEngineOf (a + row.rowLen - 1) = e.val →
      d.window = [] → d.mayAllocate t row.rowLen = true → Answers (.engineEventService e) s fun u =>
        Tab.get (d' u).ingress [] t.val = xs ∧
        ∃ id, (d' u).window =
          [⟨id, a, row.rowLen, t, [⟨m.toNat % 4096, x.ev.pay, x.ev.tag, x.ev.gap, t, 0⟩], [], false⟩]) ∧
    (d.window = [w] → w.hung = false → w.allRead = false → o.edcFail = false → o.retries ≤ 4 →
      Tab.get s.edc 0 (w.addr + w.data.length) ≤ 4 →
      (s.memEcc = true → o.uncorrectable = false ∧ s.ueAt (w.addr + w.data.length) = false) →
      Answers (.sectorReadDone e w.id o) s fun u =>
        (d' u).window = [{ w with data := w.data ++ s.readBytes (w.addr + w.data.length) 32 }] ∧
        (d' u).sectors = cnt32 d.sectors ∧ ∀ b, u.readByte b = s.readByte b) ∧
    (d.window = [w] → s.nextSegment e w = some (j, r, ev) →
      pickFlow (s.rowFlows e ev.tenant (r.c0 + ev.sent / r.nk)) (Tab.get d.flowTurn 64 key) = some n →
      Answers (.segmentSend e w.id) s fun u =>
        (d' u).segs = cnt32 d.segs ∧
        ∃ p : GPkt, (u.flow st n).queue = (s.flow st n).queue ++ [p] ∧ p.op = 2 ∧ p.tenant = ev.tenant ∧
          p.aux = segmentAux r ev ∧ p.data = segmentData r w.data ev.sent) ∧
    (d.selfRef = false → temps.length = 8 → Answers (.gddr6Refresh e temps) s fun u =>
      ((d' u).chan[i.val]).temp = temps.getD i.val 0)

/-- R234, R238, R241, R247, R269 and R270. MEM_CFG and MEM_TREG are the management processor's: a change of rate or
ECC needs every tenant stopped, and a region may not overlap another or leave the memory. Row-table words are staged
for their writer, and the first word commits the entry; a group map word sets two entries. The model's own choice in
it: notes/assumptions/33.md. -/
def Obligations.DeepTierTables : Prop :=
  ∀ (s : State) (r : Req) (t : Tenant) (p : Port) (e : Engine) (i : Fin 4096) (w : Fin 8) (j : Fin 32768) (v : Word)
    (x : Nat → Word),
    let d := s.deep[e.val]
    let d' (u : State) : DeepEngine := u.deep[e.val]
    let old := Tab.get d.rows {} i.val
    let new : RowEnt := ⟨v, x 1, x 2, x 3, x 4, x 5⟩
    let stage (u : State) (r : Req) (n : Nat) : Option (Nat × Word) := Tab.get (d' u).stage none (r.key * 8 + n)
    (Served s .mp → v &&& 0xFFFFFF0F = 0 → s.allStopped = true → Answers (.memCfgWrite .mp v) s fun u =>
      u.memRate = bitsOf v.toNat 6 2 ∧ u.memDbi = v.getLsbD 5 ∧ u.memEcc = v.getLsbD 4 ∧ Replied u .mp 0) ∧
    (Served s (.port p) → v &&& 0xFFFFFF0F = 0 → Answers (.memCfgWrite (.port p) v) s fun u =>
      u.memRate = s.memRate ∧ u.memEcc = s.memEcc ∧ Rejected u (.port p)) ∧
    (Served s .mp → v &&& 0x7E00FE00 = 0 → s.isStopped t = true → (∀ u, u ≠ t → regionsMeet v (s.tregOf u) = false) →
      (regionEn v = true → (regionLimit v + 1) * 2 ^ 26 ≤ s.deepCap) → Answers (.memTregWrite .mp t v) s fun u =>
        u.tregOf t = v ∧ (∀ q, q ≠ t → u.tregOf q = s.tregOf q) ∧ Replied u .mp 0) ∧
    (Served s r → 1 ≤ w.val → w.val ≤ 5 → v &&& ~~~deepMask32 (0x4_0000 + 32 * i.val + 4 * w.val) = 0 →
      Answers (.rowTableStage r e i w v) s fun u => stage u r w.val = some (i.val, v) ∧ Replied u r 0) ∧
    (Served s .mp → (∀ n, 1 ≤ n → n ≤ 5 → stage s .mp n = some (i.val, x n)) → v.msb = true →
      new.refused s.grade.perCluster = false → s.tablesOpen new.tenant = true → old.valid = false →
      Answers (.rowTableCommit .mp e i v) s fun u =>
        Tab.get (d' u).rows {} i.val = new ∧ (∀ n, n < 8 → stage u .mp n = none) ∧ Replied u .mp 0) ∧
    (Served s .mp → v &&& 0x70007000 = 0 →
      (∀ m ∈ [Tab.get d.map 0 (2 * j.val), Tab.get d.map 0 (2 * j.val + 1), v.extractLsb' 0 16, v.extractLsb' 16 16],
        ∀ q, s.mapHolder e m = some q → s.tablesOpen q = true) →
      Answers (.groupMapWrite .mp e j v) s fun u =>
        Tab.get (d' u).map 0 (2 * j.val) = v.extractLsb' 0 16 ∧
        Tab.get (d' u).map 0 (2 * j.val + 1) = v.extractLsb' 16 16 ∧ Replied u .mp 0)

/-! ### The Gather -/

/-- R204, R206, R207, R209 and R210. A flow that holds a slot sends the next flit of its head packet, taking a credit
of each destination for the first; without one it counts the slot. A WRITE stores its data and no other byte, and a
BCAST stores it into every core it names; each frees its cell and returns its credit. A READ answers with the data on
its reply flow, and its cell is free once the last flit of the reply has been sent. Every flit carries its CRC. The
model's own choices in it: notes/assumptions/48.md and notes/assumptions/62.md. -/
def Obligations.GatherCarriesData : Prop :=
  ∀ (s : State) (st : Station) (f : Fin 64) (slot : Fin 512) (cell : Fin 64) (p : GPkt)
    (ps : List GPkt) (c : Nat) (y : Cell) (x : State × List Byte),
    let g := (s.station st.val).gather
    let fl := s.flow st.val f.val
    let inj := s.injectionOf st.val f.val slot.val
    let flit : Flit := { body := .gather p fl.flits, tenant := entTenant inj.1, src := st.val, stream := f.val }
    let sends : Prop := gatherInjects st.val = true ∧ entEn inj.1 = true ∧ entStream inj.1 = f.val ∧ fl.en = true ∧
      fl.queue = p :: ps ∧
      ∀ y ∈ s.flight, ¬(y.fab = .gather ∧ y.st = inj.2.1 ∧ y.input = inj.2.2 ∧ y.slot = slot.val)
    let holds (op : Nat) : Prop := s.cellPkt st.val cell.val = some p ∧ p.op = op ∧ p.rsvd = false ∧ 0 < p.len
    let quiet (u : State) : Prop := Tab.get (u.station st.val).thread.queues [] 1 = []
    let done (u : State) : Prop := Tab.get (u.station st.val).gather.cells none cell.val = none ∧
      Tab.get (u.station st.val).thread.queues [] 1 = [.gathCred p.src p.flow 1 false 0 0]
    let sign (a : Nat) : Bool := inAcView a && a % 4 == 3
    let stored (u : State) (base : Nat) : Prop :=
      ∀ i, i < p.data.length → sign (base + i) = false → u.readByte (base + i) = p.data.getD i 0
    (sends → (fl.flits = 0 → s.hasCredits st.val f.val = true) → Answers (.gatherFlowSend st f slot) s fun u =>
      u.flight = s.flight ++
        [⟨.gather, inj.2.1, inj.2.2, slot.val, flit.seal .gather (slot.val == 2)⟩] ∧
      (u.flow st.val f.val).queue = (if fl.flits + 1 < packetFlits p.len then p :: ps else ps) ∧
      (packetFlits p.len ≤ fl.flits + 1 → p.ack = some c → Tab.get g.cells none c = some y → y.busy = true →
        Tab.get (u.station st.val).gather.cells none c = none) ∧
      ∀ d ∈ fl.dests, u.gathCredit st.val f.val d + (if fl.flits = 0 then 1 else 0) = s.gathCredit st.val f.val d) ∧
    (sends → fl.flits = 0 → s.hasCredits st.val f.val = false → Answers (.gatherFlowSend st f slot) s fun u =>
      u.flight = s.flight ∧ (u.station st.val).gather.cwait = cnt32 g.cwait ∧ u.flow st.val f.val = fl) ∧
    (holds 0 → quiet s → s.stationOf p.addr = st.val → ¬(st.val = stDma ∧ funnelBase ≤ p.addr) →
      s.mayStore p.tenant p.addr p.data.length = true → (∀ a, Tab.get s.edc 0 a ≤ 4) →
      (∀ i, i < p.data.length → s.openVector (p.addr + i) = false) → Answers (.gatherWrite st cell) s fun u =>
        done u ∧ stored u p.addr ∧
        ∀ a, a < p.addr ∨ p.addr + p.data.length ≤ a → sign a = false → u.readByte a = s.readByte a) ∧
    (holds 4 → quiet s → st.val < 32 → bcastRangeOk p = true →
      (∀ k ∈ s.bcastCores st.val p, s.mayStore p.tenant (coreWindow k + p.addr) p.data.length = true) →
      Answers (.bcast st cell) s fun u => done u ∧ ∀ k ∈ s.bcastCores st.val p, stored u (coreWindow k + p.addr)) ∧
    (holds 3 → s.stationOf p.addr = st.val → s.replyFlowOk st.val p = true → s.replyRangeOk p = true →
      s.extRead p.tenant p.addr p.len = some x → quiet x.1 → (∀ a, Tab.get s.edc 0 a ≤ 4) → s.eccUe = [] →
      Answers (.gatherRead st cell) s fun u =>
        quiet u ∧ (∃ o, Tab.get (u.station st.val).gather.cells none cell.val = some ⟨p, o, true⟩) ∧
        (p.addr < deepTop → x.2 = s.readBytes p.addr p.len) ∧
        (u.flow st.val (readFlow p)).queue = (x.1.flow st.val (readFlow p)).queue ++
          [{ op := 0, len := x.2.length, src := st.val, addr := readAddr p, aux := 0, data := x.2, tenant := p.tenant,
             flow := readFlow p, ack := some cell.val }])

/-- R219, R220, R222, R223, R250 and R251. A descriptor lands behind the last entry of its queue, with its data in the
queue's area; a contribution is added into the vector of the combining queue bound to its queue, which is done once
COUNT have come; a segment lands in the next slot of its engine's part of the landing buffer. The model's own choice
in it: notes/assumptions/62.md. -/
def Obligations.GatherDelivers : Prop :=
  ∀ (s : State) (st : Station) (cell : Fin 64) (p : GPkt) (j slot : Nat),
    let kq := queueAt p.addr
    let k := kq.1
    let q := kq.2
    let old := (s.core k).q[q.val]
    let new (u : State) : RecvQ := (u.core k).q[q.val]
    let area := old.areaBase.toNat + 64 * ((old.head + old.entries.length) % 16)
    let holds (op : Nat) : Prop := s.cellPkt st.val cell.val = some p ∧ p.op = op ∧ p.rsvd = false
    let fits : Prop := s.queueOk st.val p = true ∧ p.len % 4 = 0 ∧ p.len ≤ 256
    let quiet : Prop := Tab.get (s.station st.val).thread.queues [] 1 = []
    let freed (u : State) : Prop := Tab.get (u.station st.val).gather.cells none cell.val = none
    let sent (u : State) (l : List Pkt) : Prop := Tab.get (u.station st.val).thread.queues [] 1 = l
    let back : Pkt := .gathCred p.src p.flow 1 false 0 0
    let x := s.comb st.val j
    let vec (i : Nat) : Nat := shAddr st.val (combBase j + p.aux.toNat % 256 + i)
    let lc := (coreAt p.addr).key
    let e : Engine := if p.src = stMemW then 0 else 1
    let row := leBytes 8 p.aux.toNat ++ (if segHdr p then leBytes 8 (formedHeader p.aux).toNat else []) ++ p.data
    (holds 1 → fits → quiet → p.aux.msb = false → old.room = true → Answers (.qdesc st cell) s fun u =>
      freed u ∧ sent u [back] ∧ (new u).entries = old.entries ++ [⟨p.aux, some (p.src, p.note), none⟩]) ∧
    (holds 1 → fits → quiet → p.aux.msb = true → s.combOf k q = none → old.areaEn = true → old.room = true →
      area + max 1 (p.data.length / 4) ≤ 2 ^ 18 →
      Answers (.qdesc st cell) s fun u => freed u ∧ sent u [back] ∧
        (∀ i, i < p.data.length → u.readByte (shAddr (k / 32) area + i) = p.data.getD i 0) ∧
        ∃ d : BitVec 64, (new u).entries = old.entries ++ [⟨d, some (p.src, p.note), none⟩] ∧
          bitsOf d.toNat 32 18 = area % 2 ^ 18 ∧ bitsOf d.toNat 0 32 = bitsOf p.aux.toNat 0 32 ∧
          bitsOf d.toNat 50 14 = bitsOf p.aux.toNat 50 14) ∧
    (holds 1 → fits → quiet → p.aux.msb = true → s.combOf k q = some j → x.done = false →
      p.aux.toNat % 256 + p.data.length / 4 ≤ x.elems → Answers (.qdesc st cell) s fun u =>
        freed u ∧ sent u [.qcred p.src p.note 1, back] ∧ (u.comb st.val j).received = x.received + 1 ∧
        (u.comb st.val j).done = decide (x.count ≤ x.received + 1) ∧
        ∀ i, i < p.data.length / 4 → u.readWord (vec i) = BitVec.ofInt 32 (sat32 ((s.readWord (vec i)).toInt +
          (BitVec.ofNat 32 (leNat ((p.data.drop (4 * i)).take 4))).toInt))) ∧
    (holds 2 → s.segmentOk st.val p = true → p.data.length = p.len → s.nextLbSlot lc e = some slot → slot < 16 →
      Answers (.segmentLand st cell) s fun u => freed u ∧
        (u.core lc).i.segs = (s.core lc).i.segs ++ [⟨Fin.ofNat 16 slot, segWords p, p.src, p.flow, (s.core lc).i.arrived⟩] ∧
        ∀ i, i < row.length → u.readByte (lbAddr lc (64 * slot) + i) = row.getD i 0)

/-! ### The sync unit and the host interface -/

/-- R330, R331, R333, R338 and R339. A SIG and a doorbell of the owner change the counter of their object, ADD
saturating with its flag; one of another tenant changes no object and is counted. A WAITS finds its reply in its slot:
met once the counter has reached its value, and its owner answers the core, or sends the request again. A doorbell
that waits acts before the register access that its port makes behind it. The unit sends a notification that pends,
and HOST writes it to the notification table and raises its vector, as NMODE selects. The model's own choices in it:
notes/assumptions/35.md and notes/assumptions/63.md. -/
def Obligations.SyncObjects : Prop :=
  ∀ (s : State) (slot : Fin 44) (n : Fin 8192) (v w : Word) (who index status : Nat) (m1 m2 : Bool) (t : Tenant)
    (r : Req),
    let o := s.syncAt n.val
    let new (u : State) : SyncObj := u.syncAt n.val
    let kept (u : State) : Prop := ∀ j, j ≠ n.val → u.syncAt j = s.syncAt j
    let pkt (p : Pkt) : Prop := s.slotPkt slot.val = some ⟨p, m1, m2, none, false⟩
    let gone (u : State) : Prop := u.slotPkt slot.val = none
    let mine : Prop := s.syncOwnerOf n.val = some t
    let sum : Int := o.cnt.toNat + v.toInt
    let added (u : State) : Prop := (new u).cnt = BitVec.ofInt 32 (max 0 (min 0xFFFFFFFF sum)) ∧
      (new u).ovf = (o.ovf || decide (0xFFFFFFFF < sum)) ∧ (new u).unf = (o.unf || decide (sum < 0))
    let settled (u : State) : Prop := (new u).above = decide (o.thr.toNat ≤ (new u).cnt.toNat) ∧
      (new u).npend = (o.npend || ((new u).above && !o.above && o.nmode != 0))
    let k := slot.val * 32 + who
    let idle : Prop := (s.station slot.val).thread.again = [] ∧
      ∀ c, c < 4 → Tab.get (s.station slot.val).thread.queues [] c = []
    let base := ((s.port t).nbase &&& 0xFFFFFFFFFFFF0000#64).toNat + 8 * n.val
    (pkt (.sync 0 n.val v who) → s.syncTenant slot.val who = some t → mine → Answers (.sync slot) s fun u =>
      gone u ∧ added u ∧ settled u ∧ kept u) ∧
    (pkt (.sync 0 n.val v who) → s.syncTenant slot.val who = some t → ¬mine → Answers (.sync slot) s fun u =>
      gone u ∧ (∀ j, u.syncAt j = s.syncAt j) ∧ (u.port t).syncForeign = cnt16 (s.port t).syncForeign ∧
      (u.port t).syncLast = BitVec.ofNat 32 n.val ∧ (u.port t).foreign = true) ∧
    (pkt (.sync 1 n.val v who) → s.syncTenant slot.val who = some t → mine → Answers (.sync slot) s fun u =>
      (∀ j, u.syncAt j = s.syncAt j) ∧ u.slotPkt slot.val =
        some ⟨.sync 1 n.val v who, m1, m2, some (if v.toNat ≤ o.cnt.toNat then 0 else 1, o.cnt), false⟩) ∧
    (slot.val < 40 → s.slotPkt slot.val = some ⟨.sync 1 n.val v who, m1, m2, some (status, w), false⟩ →
      (s.core k).e.waits = some (.asked n.val v) →
      (status = 0 → Answers (.threadPlace slot) s fun u => (u.core k).e.waits = some .met) ∧
      (status = 1 → idle → Answers (.threadPlace slot) s fun u => u.core k = s.core k ∧
        u.slotPkt slot.val = some { pkt := .sync 1 n.val v who }) ∧
      (status = 2 → Answers (.threadPlace slot) s fun u => (u.core k).e.waits = some .refused)) ∧
    (pkt (.doorbell t.val index v) → index % 8192 = n.val → mine → Answers (.doorbell slot) s fun u =>
      gone u ∧ kept u ∧ settled u ∧ (bitsOf index 13 2 = 0 → added u) ∧ (bitsOf index 13 2 ≠ 0 → (new u).cnt = v)) ∧
    (Reaches s (.port t) → s.slotPkt (40 + t.val) = none → index % 8192 = n.val → mine →
      Tab.get (s.station stHost).thread.portQ [] t.val = [.doorbell t.val index v] →
      Answers (.regRd (.port t) (BitVec.ofNat 44 (stReg stSync (0x4_0000 + 4 * n.val)))) s fun u =>
        u.doorbellWaits t = false ∧ kept u ∧ settled u ∧ (bitsOf index 13 2 = 0 → added u) ∧
        (bitsOf index 13 2 ≠ 0 → (new u).cnt = v) ∧ Replied u (.port t) (new u).cnt) ∧
    (ServedFor s r t → mine →
      Answers (.syncCntWrite r n v) s (fun u => (new u).cnt = v ∧ settled u ∧ kept u ∧ Replied u r 0) ∧
      Answers (.syncThrWrite r n v) s fun u => (new u).thr = v ∧ (new u).cnt = o.cnt ∧
        (new u).above = decide (v.toNat ≤ o.cnt.toNat) ∧ kept u ∧ Replied u r 0) ∧
    (o.npend = true → s.fabricRuns = true → mine → Answers (.notifySend n) s fun u =>
      new u = { o with npend := false } ∧ kept u ∧
      Tab.get (u.station stSync).thread.queues [] 4 =
        Tab.get (s.station stSync).thread.queues [] 4 ++ [.notify t.val n.val o.cnt]) ∧
    (pkt (.notify t.val n.val v) → Answers (.notify slot) s fun u => gone u ∧
      (o.nmode % 2 = 1 → (s.port t).nbase.getLsbD 0 = true →
        u.nseq[t.val] = s.nseq[t.val] + 1 ∧
        ∀ i, i < 8 → Tab.get u.hostMem 0 (t.val * 2 ^ 64 + base + i) =
          (leBytes 4 v.toNat ++ leBytes 4 (s.nseq[t.val] + 1).toNat).getD i 0) ∧
      (2 ≤ o.nmode → (s.port t).canSend o.vector = true →
        Tab.get (u.port t).irqs 0 o.vector = Tab.get (s.port t).irqs 0 o.vector + 1) ∧
      (2 ≤ o.nmode → o.vector < 64 → (s.port t).canSend o.vector = false → (s.port t).cfg.msixEn = true →
        (u.port t).pba.getLsbD o.vector = true))

/-- R311, R312, R326, R327 and R333. A doorbell write is forwarded in its port's order, an 8-byte one as two; a word
written into an injection window enters its queue with the queue's own domain, or is dropped with a mark when the
queue is full; BAR2 reaches what the tenant may reach of the deep tier, and no other byte. The model's own choices in
it: notes/assumptions/19.md, notes/assumptions/36.md and notes/assumptions/63.md. -/
def Obligations.HostWindows : Prop :=
  ∀ (s : State) (p : Port) (t : Tenant) (d : BitVec 20) (i : BitVec 12) (off len : Nat) (q : Bool) (bytes : List Byte) (last : LookEv)
    (rest : List LookEv),
    let doors (u : State) : List Pkt := Tab.get (u.station stHost).thread.portQ [] p.val
    let word (i : Nat) : Word := BitVec.ofNat 32 (leNat ((bytes.drop i).take 4))
    let ring (kind n i : Nat) : Pkt := .doorbell p.val (kind * 8192 + n) (word i)
    let key := 2 * p.val + b2n q
    let window : BitVec 13 := BitVec.ofNat 13 (0x1000 * b2n q + i.toNat)
    let queue (u : State) : List LookEv := Tab.get u.inj [] key
    let drops (u : State) : Nat := if q then (u.port p).injDrop1 else (u.port p).injDrop0
    let a := (s.port p).b2Base.toNat * 2 ^ 26 + off
    let loading := (s.tenant p).st == .loading
    let inside (n : Nat) : Prop := 0 < n ∧ off + n ≤ (s.port p).bar2Size
    (Reaches s (.port p) →
      (d.toNat < 0x8000 → d.toNat % 4 = 0 → bytes.length = 4 → Answers (.addDoorbellWrite p d bytes) s fun u =>
        doors u = doors s ++ [ring 0 (d.toNat / 4) 0]) ∧
      (d.toNat < 0x8000 → d.toNat % 8 = 0 → bytes.length = 8 → Answers (.addDoorbellWrite p d bytes) s fun u =>
        doors u = doors s ++ [ring 0 (d.toNat / 4) 0, ring 0 (d.toNat / 4 + 1) 4]) ∧
      (0x8000 ≤ d.toNat → d.toNat < 0x1_0000 → d.toNat % 4 = 0 → bytes.length = 4 →
        Answers (.setDoorbellWrite p d bytes) s fun u =>
          doors u = doors s ++ [ring 1 ((d.toNat - 0x8000) / 4) 0]) ∧
      (0x8000 ≤ d.toNat → d.toNat < 0x1_0000 → d.toNat % 8 = 0 → bytes.length = 8 →
        Answers (.setDoorbellWrite p d bytes) s fun u =>
          doors u = doors s ++ [ring 1 ((d.toNat - 0x8000) / 4) 0, ring 1 ((d.toNat - 0x8000) / 4 + 1) 4]) ∧
      (bytes.length = 4 → i.toNat % 4 = 0 → (queue s).length < 1024 →
        Answers (.injectionWindowWrite p window bytes) s fun u =>
        queue u = queue s ++ [⟨BitVec.ofNat 24 ((48 + key) * 2 ^ 18 + bitsOf (leNat bytes) 8 18),
          BitVec.ofNat 8 (leNat bytes), 0, false, p⟩]) ∧
      (bytes.length = 4 → i.toNat % 4 = 0 → 1024 ≤ (queue s).length → queue s = rest ++ [last] →
        Answers (.injectionWindowWrite p window bytes) s fun u =>
          queue u = rest ++ [{ last with gap := true }] ∧ drops u = cnt16 (drops s)) ∧
      (inside bytes.length → s.deepWritable p a bytes.length = true → loading = false → (∀ b, Tab.get s.edc 0 b ≤ 4) →
        Answers (.bar2Write p off bytes) s fun u =>
        (∀ i, i < bytes.length → u.readByte (a + i) = bytes.getD i 0) ∧
        ∀ b, b < deepTop → (b < a ∨ a + bytes.length ≤ b) → u.readByte b = s.readByte b) ∧
      (inside bytes.length → s.deepWritable p a bytes.length = false ∨ loading = true →
        Answers (.bar2Write p off bytes) s fun u =>
        u.mem = s.mem ∧ (u.port p).pwerr = true ∧ (u.port p).errLo = BitVec.ofNat 32 off) ∧
      (inside len → (∀ b, Tab.get s.edc 0 b ≤ 4) → s.eccUe = [] → Answers (.bar2Read p off len) s fun u =>
        (u.port p).bar2 = if s.deepReadable p a len then some (s.readBytes a len) else none)) ∧
    (s.windowOpen p = true →
      (inside bytes.length → off + bytes.length ≤ 0x20_0000 → Answers (.bar2Write p off bytes) s fun u =>
        ∀ i, i < bytes.length → Tab.get u.boot.window 0 (off + i) = bytes.getD i 0) ∧
      (inside len → off + len ≤ 0x20_0000 → Answers (.bar2Read p off len) s fun u =>
        (u.port p).bar2 = some ((List.range len).map fun i => Tab.get s.boot.window 0 (off + i)))) ∧
    ((s.shear t).openHost = true → Answers (.hostInjRelease t) s fun u =>
      (u.shear t).openHost = false ∧
      Tab.get u.injNoted 0 (2 * t.val) = (Tab.get s.inj [] (2 * t.val)).length ∧
      Tab.get u.injNoted 0 (2 * t.val + 1) = (Tab.get s.inj [] (2 * t.val + 1)).length)

/-- R313, R316, R317, R318 and R337. A tail write publishes entries unless it is behind the head or more than the
ring's size ahead of it; at most 8 entries are fetched at a time; a command of no opcode ends with status 1 and an
aborted WAITSYNC with status 6; a read error halts the ring and RESUME ends the halt; enabling the ring clears its
counters. The model's own choice in it: notes/assumptions/21.md. -/
def Obligations.CommandRing : Prop :=
  ∀ (s : State) (p : Port) (v : Word) (es : List (List (BitVec 64))) (c : Cmd) (cs : List Cmd),
    let x := s.port p
    let x' (u : State) : PortSt := u.port p
    let ok (u : State) : Prop := Replied u (.port p) 0
    let ended (u : State) (status : Nat) : Prop := (x' u).fetched = cs ∧ (x' u).cmdHead = x.cmdHead + 1 ∧
      ∃ d, (x' u).recs = x.recs ++ [.completion c.opcode status d c.tag c.counter c.irq]
    (Served s (.port p) →
      Answers (.cmdTailWrite p v) s (fun u =>
        if (v - x.cmdHead).toNat ≤ 2 ^ x.cmdSize then x' u = { x with cmdTail := v } ∧ ok u
        else (x' u).cmdTail = x.cmdTail ∧ (x' u).pwerr = true ∧ Rejected u (.port p)) ∧
      Answers (.cmdResume p) s (fun u => x' u = { x with cmdHalt := false } ∧ ok u) ∧
      (x.waiting = true → x.fetched = c :: cs → Answers (.cmdAbort p) s fun u =>
        ended u 6 ∧ (x' u).waiting = false ∧ ok u) ∧
      (v &&& 0x7FFFFFF0 = 0 → v.msb = true → x.cmdEn = false → 4 ≤ v.toNat % 16 → v.toNat % 16 ≤ 12 →
        Answers (.cmdCfgWrite p v) s fun u =>
          x' u = { x with cmdEn := true, cmdSize := v.toNat % 16, cmdHead := 0, cmdTail := 0, cmdHalt := false } ∧ ok u) ∧
      (v &&& 0x7FFFFFF0 = 0 → v.msb = false → x.cmdEn = true → v.toNat % 16 = x.cmdSize → 4 ≤ x.cmdSize →
        x.cmdSize ≤ 12 → s.cmdBusy p = false → Answers (.cmdCfgWrite p v) s fun u =>
          x' u = { x with cmdEn := false, fetched := [] } ∧ ok u)) ∧
    (s.mayFetch p = true → Answers (.cmdFetch p (some es)) s fun u =>
      (x' u).fetched.length = min es.length (min 8 (x.cmdTail - x.cmdHead).toNat) ∧
      ∀ i e, (x' u).fetched[i]? = some e → e.words = (es.getD i []).take 8 ∧ e.counter = x.cmdHead + BitVec.ofNat 32 i) ∧
    (s.mayFetch p = true → Answers (.cmdFetch p (some es)) s fun u =>
      (x' u).fetchAt = x.cmdBase.toNat + 64 * (x.cmdHead.toNat % 2 ^ x.cmdSize)) ∧
    (s.mayFetch p = true → Answers (.cmdFetch p none) s fun u => (x' u).cmdHalt = true ∧ (x' u).fetched = []) ∧
    (s.curCmd p = some c → x.fetched = c :: cs → 0x0E < c.opcode → Answers (.cmdFetch p (some es)) s fun u => ended u 1)

/-- R319 to R325. A head write frees ring space unless it is behind the head or ahead of the tail; enabling the ring
clears its counters. A record that fits is written at the tail, words least significant byte first, and the tail is
written back; one that does not fit before the end is preceded by a filler, and one longer than the ring is dropped.
Readout copies enter the open record, which closes at MAXN events, at another tag or at its flush time; vector 2
follows at its time. The model's own choices in it: notes/assumptions/21.md and notes/assumptions/61.md. -/
def Obligations.EventRing : Prop :=
  ∀ (s : State) (p : Port) (v : Word) (r : RecBody) (rs : List RecBody) (e o : WireEv) (es os : List WireEv) (since : Nat),
    let x := s.port p
    let x' (u : State) : PortSt := u.port p
    let ok (u : State) : Prop := Replied u (.port p) 0
    let at_ (u : State) (a i : Nat) : Byte := Tab.get u.hostMem 0 (p.val * 2 ^ 64 + a + i)
    let spot := x.evBase.toNat + 8 * (x.evTail.toNat % 2 ^ x.evSize)
    let wb := x.evWb.toNat
    let tail := x.evTail + BitVec.ofNat 32 r.len
    let ready : Prop := x.evEn = true ∧ s.aon.st < 3
    let writes : Prop := ready ∧ x.recs = r :: rs
    let drains : Prop := ready ∧ x.recs = [] ∧ x.readout = e :: es
    (Served s (.port p) →
      Answers (.evHeadWrite p v) s (fun u =>
        if (v - x.evHead).toNat ≤ (x.evTail - x.evHead).toNat then x' u = { x with evHead := v } ∧ ok u
        else (x' u).evHead = x.evHead ∧ (x' u).pwerr = true ∧ Rejected u (.port p)) ∧
      (v &&& 0x7000FFE0 = 0 → v.msb = true → x.evEn = false → 9 ≤ v.toNat % 32 → v.toNat % 32 ≤ 21 →
        bitsOf v.toNat 16 12 ≠ 0 → bitsOf v.toNat 16 12 ≠ 4095 → Answers (.evCfgWrite p v) s fun u =>
          x' u = { x with evEn := true, evSize := v.toNat % 32, evMaxn := bitsOf v.toNat 16 12, evHead := 0, evTail := 0,
                          seq := 0 } ∧ ok u)) ∧
    (writes → r.len ≤ x.evEnd → r.len ≤ x.evFree → (spot + 8 * (r.words x.seq).length ≤ wb ∨ wb + 8 ≤ spot) →
      Answers (.eventRecordWrite p) s fun u =>
        (x' u).recs = rs ∧ (x' u).seq = x.seq + 1 ∧ (x' u).evTail = tail ∧
        (∀ i, i < 8 * (r.words x.seq).length →
          at_ u spot i = BitVec.ofNat 8 ((r.words x.seq).getD (i / 8) 0 / 2 ^ (8 * (i % 8)))) ∧
        ∀ i, i < 8 → at_ u wb i = BitVec.ofNat 8 (tail.toNat / 2 ^ (8 * i))) ∧
    (writes → x.evSize ≤ 21 → r.len ≤ 2 ^ x.evSize → x.evEnd < r.len → x.evEnd ≤ x.evFree →
      Answers (.eventRecordWrite p) s fun u =>
        if x.evEnd + r.len ≤ x.evFree then
          (x' u).recs = rs ∧ (x' u).seq = x.seq + 1 ∧ (x' u).evTail = x.evTail + BitVec.ofNat 32 (x.evEnd + r.len)
        else (x' u).recs = x.recs ∧ (x' u).seq = x.seq ∧ (x' u).evTail = x.evTail + BitVec.ofNat 32 x.evEnd) ∧
    (writes → 2 ^ x.evSize < r.len → Answers (.eventRecordWrite p) s fun u =>
      (x' u).recs = rs ∧ (x' u).evOversize = cnt16 x.evOversize ∧ (x' u).seq = x.seq ∧ (x' u).evTail = x.evTail) ∧
    (drains → (x.openRec = [] ∨ (x.openRec = o :: os ∧ o.tag = e.tag)) → x.openRec.length + 1 < x.evMaxn →
      Answers (.readoutDrain p) s fun u => (x' u).readout = es ∧ (x' u).openRec = x.openRec ++ [e] ∧ (x' u).recs = []) ∧
    (drains → x.openRec = o :: os → o.tag = e.tag → x.evMaxn ≤ x.openRec.length + 1 →
      Answers (.readoutDrain p) s fun u =>
        (x' u).readout = es ∧ (x' u).openRec = [] ∧ (x' u).recs = [.events o.tag x.gapPend (x.openRec ++ [e])]) ∧
    (drains → x.openRec = o :: os → o.tag ≠ e.tag → 1 < x.evMaxn → Answers (.readoutDrain p) s fun u =>
      (x' u).readout = es ∧ (x' u).openRec = [e] ∧ (x' u).recs = [.events o.tag x.gapPend x.openRec]) ∧
    (s.timersQuiet = true →
      (x.openRec = o :: os → Answers (.eventsFlush p) s fun u =>
        (x' u).openRec = [] ∧ (x' u).recs = x.recs ++ [.events o.tag x.gapPend x.openRec] ∧
        u.now = max s.now (x.openAt + 25 * x.flush)) ∧
      (x.modSince = some since → x.modTime ≠ 0 → x.canSend 2 = true → Answers (.evModTimer p) s fun u =>
        Tab.get (x' u).irqs 0 2 = Tab.get x.irqs 0 2 + 1 ∧ (x' u).modSince = none ∧ (x' u).modCount = 0 ∧
        u.now = max s.now (since + 250 * x.modTime)))

/-! ### Commands -/

/-- R242, R315, R316, R317, R346 and R487. NOP completes; SIGSYNC adds to an object of the tenant, and is refused
another tenant's; WAITSYNC completes once the counter has reached its value, and holds the ring until then; CAPS and
ATTEST write their block to host memory; SHARE declares, locks, unlocks and withdraws the shared region of its owner.
The model's own choices in it: notes/assumptions/20.md, notes/assumptions/31.md and notes/assumptions/35.md. -/
def Obligations.CommandsComplete : Prop :=
  ∀ (s : State) (p : Port) (c : Cmd) (nonce : List Byte),
    let n := c.field 1 0 13
    let o := s.syncAt n
    let v : Word := BitVec.ofNat 32 (c.field 2 0 32)
    let mine : Prop := s.syncOwnerOf n = some p
    let written (u : State) (a : Nat) (bs : List Byte) : Prop :=
      ∀ i, i < bs.length → Tab.get u.hostMem 0 (p.val * 2 ^ 64 + a + i) = bs.getD i 0
    let share (action : Nat) : Prop := Taken s p c 0x06 [3, 0x1FF01FF] ∧ c.field 1 0 2 = action
    let own : Prop := regionEn s.shr = true ∧ s.shrOwner = p
    let range : Word := BitVec.ofNat 32 (2 ^ 31 + p.val * 2 ^ 28 + c.field 2 0 32)
    let done (u : State) (w : Word) : Prop := u.shr = w ∧ ∃ d, Completed s u p c 0 d
    (Taken s p c 0x00 [] → Answers (.nopCommand p) s fun u => ∃ d, Completed s u p c 0 d) ∧
    (Taken s p c 0x0D [2 ^ 13 - 1, 2 ^ 32 - 1] → Answers (.sigsync p) s fun u =>
      if mine then (u.syncAt n).cnt = BitVec.ofInt 32 (max 0 (min 0xFFFFFFFF (o.cnt.toNat + v.toInt))) ∧
        ∃ d, Completed s u p c 0 d
      else u.sync = s.sync ∧ (u.port p).syncForeign = cnt16 (s.port p).syncForeign ∧ ∃ d, Completed s u p c 3 d) ∧
    (Taken s p c 0x0C [2 ^ 13 - 1, 2 ^ 32 - 1] → mine → (s.port p).waiting = false → Answers (.waitsync p) s fun u =>
      u.sync = s.sync ∧
      if v.toNat ≤ o.cnt.toNat then ∃ d, Completed s u p c 0 d
      else u.port p = { s.port p with waiting := true }) ∧
    ((s.port p).waiting = true → (s.port p).fetched.head? = some c → mine → v.toNat ≤ o.cnt.toNat →
      Answers (.waitsync p) s fun u => (u.port p).waiting = false ∧ ∃ d, Completed s u p c 0 d) ∧
    (Taken s p c 0x0A [2 ^ 64 - 1] → (c.word 1).toNat % 8 = 0 → Answers (.caps p) s fun u =>
      written u (c.word 1).toNat (s.capsBlock p) ∧ ∃ d, Completed s u p c 0 d) ∧
    (Taken s p c 0x0B [2 ^ 64 - 1, 2 ^ 64 - 1] → (c.word 1).toNat % 8 = 0 → (c.word 2).toNat % 8 = 0 →
      (s.sec.keysOff = false → nonce.length = 32 → Answers (.attest p (some nonce)) s fun u =>
        written u (c.word 2).toNat (s.report p nonce) ∧ ∃ d, Completed s u p c 0 d) ∧
      (s.sec.keysOff = true → Answers (.attest p (some nonce)) s fun u =>
        u.hostMem = s.hostMem ∧ ∃ d, Completed s u p c 3 d)) ∧
    (share 0 → regionEn s.shr = false → regionInside range (s.tregOf p) = true → regionBase range ≤ regionLimit range →
      Answers (.shareDeclare p) s fun u => done u range) ∧
    (share 1 → own → Answers (.shareLock p) s fun u => done u (s.shr ||| 0x40000000)) ∧
    (share 2 → own → s.shareBusy = false → Answers (.shareUnlock p) s fun u => done u (s.shr &&& 0xBFFFFFFF)) ∧
    (share 3 → own → s.shr.getLsbD 30 = false → Answers (.shareWithdraw p) s fun u => done u (s.shr &&& 0x3FFFFFFF))

/-- R332, R349, R350, R352, R355, R356, R357 and R358. START makes a fit Stopped tenant Running with its first edge
due; STOP makes a Running one Stopping, and the stop ends when the tenant has drained or its limit has passed, with
every core stopped and every queue empty. LOAD and PATCH leave everything as it is where a check of the image fails;
an image that passes leaves a LOAD's tenant Loading, and the second read writes it, or leaves the tenant Unloaded
where it brings another image or fails; a PATCH of a Running tenant waits for its hold, at most 50 ms. ASSIGN gives
the tenant what it names. The model's own choices in it: notes/assumptions/23.md, notes/assumptions/25.md,
notes/assumptions/28.md, notes/assumptions/30.md, notes/assumptions/31.md, notes/assumptions/60.md and
notes/assumptions/64.md. -/
def Obligations.TenantCommands : Prop :=
  ∀ (s : State) (p : Port) (c : Cmd) (j : StopJob) (first bs : List Byte) (due : Nat) (m : Image)
    (any : Option (List Byte)),
    let x := s.tenant p
    let x' (u : State) : TenantSt := u.tenant p
    let free : Prop := s.pont.faulted = false ∧ s.inNap = false
    let startable : Prop := (s.shear p).pstop = false ∧ (s.aon.cool = true → (s.shear p).deep = false)
    let load : Prop := Taken s p c 0x01 [2 ^ 64 - 1, 2 ^ 64 - 1]
    let loads : Prop := load ∧ free ∧ x.loading = none ∧ s.loaderElsewhere p = false ∧ s.copyInProgress = false ∧
      (x.st = .unloaded ∨ x.st = .stopped) ∧ (c.word 2).toNat ≤ first.length
    let patches : Prop := x.patching = none ∧ Taken s p c 0x04 [2 ^ 64 - 1, 2 ^ 64 - 1] ∧ free ∧
      s.loaderElsewhere p = false ∧ (c.word 2).toNat ≤ first.length
    let check (patch : Bool) : Except ImgFail Image :=
      s.checkBytes p (first.take (c.word 2).toNat) (c.word 2).toNat patch
    let cl := c.field 1 0 32
    let sb := c.field 2 0 16
    let region : Word := BitVec.ofNat 32 (c.field 3 0 32)
    (Taken s p c 0x02 [] → free → x.st = .stopped →
      (s.unfit p = false → startable → Answers (.start p) s fun u =>
        (x' u).st = .running ∧ (x' u).starting = true ∧ (u.shear p).first = true ∧ (u.shear p).eptick = 0 ∧
        (u.port p).fetched = (s.port p).fetched ∧
        ∀ k ∈ s.coresOf p, (u.core k).e.st = .idle ∧
          ((s.core k).e.cr.seedSrc = true →
            (u.core k).e.regs.rng = if (s.core k).e.cr.seed = 0 then 1 else (s.core k).e.cr.seed)) ∧
      (¬startable → Answers (.start p) s fun u => x' u = x ∧ ∃ d, Completed s u p c 2 d) ∧
      (s.unfit p = true → startable → Answers (.start p) s fun u => x' u = x ∧ Completed s u p c 3 0x17000000)) ∧
    (Taken s p c 0x03 [] →
      (x.st = .running → Answers (.stop p) s fun u =>
        (x' u).st = .stopping ∧ (x' u).stop = some ⟨true, s.now + 250000, false⟩ ∧ (u.shear p).stopping = true) ∧
      (x.st = .loading → Answers (.stop p) s fun u => x' u = x ∧ ∃ d, Completed s u p c 2 d) ∧
      (x.st = .stopped → Answers (.stop p) s fun u => x' u = x ∧ Completed s u p c 0 0)) ∧
    (x.stop = some j → s.timersQuiet = true → j.expired = false → s.stopDrained p = false →
      Answers (.stopLimitExpiry p) s fun u =>
        (x' u).stop = some { j with expired := true } ∧ u.now = max s.now j.limitAt) ∧
    (x.st = .stopping → x.stop = some j → (j.expired = true ∨ s.stopDrained p = true) → s.stopBlocked p = false →
      Answers (.stopComplete p) s fun u =>
        (x' u).st = .stopped ∧ (x' u).stop = none ∧ (u.shear p).state = .stopped ∧ (u.port p).readout = [] ∧
        (∀ k ∈ s.coresOf p, (u.core k).i.fifo = [] ∧ (u.core k).e.emitBuf = [] ∧ (u.core k).e.stall = none ∧
          ((s.core k).e.st ≠ .faulted → (u.core k).e.st = .stopped)) ∧
        (∀ k ∈ s.clustersOf p, (u.cluster k).rx = []) ∧
        (j.cmd = true → (s.port p).fetched.head? = some c →
          Completed s u p c 0 (BitVec.ofNat 32 (b2n j.expired)))) ∧
    (loads → Answers (.load p (some first) any) s fun u =>
      match check false with
      | .error f => x' u = x ∧ u.mem = s.mem ∧ Completed s u p c 3 (f.detail.getD 0)
      | .ok _ => x' u = { x with st := .loading, loading := some (first.take (c.word 2).toNat) } ∧ u.mem = s.mem ∧
        (u.port p).fetched = (s.port p).fetched) ∧
    (load → x.loading = some first → parseImage first first.length = .ok m →
      (first.length ≤ bs.length → Answers (.load p any (some bs)) s fun u =>
        if sha3 ((bs.take first.length).take (m.len - trailer m.signed)) = m.digest then
          (x' u).st = .stopped ∧ (x' u).parison = m.digest ∧ (x' u).abstract = m.adig ∧ (u.shear p).tick = 0 ∧
          (u.shear p).tag = 0 ∧ ∃ d, Completed s u p c 0 d
        else (x' u).st = .unloaded ∧ Completed s u p c 3 0x14000000) ∧
      Answers (.load p any none) s fun u => (x' u).st = .unloaded ∧ ∃ d, Completed s u p c 4 d) ∧
    (patches → (x.st = .stopped ∨ x.st = .running) → Answers (.patch p (some first)) s fun u =>
      match check true with
      | .error f => x' u = x ∧ u.mem = s.mem ∧ Completed s u p c 3 (f.detail.getD 0)
      | .ok m => (x' u).st = x.st ∧
        if x.st = .stopped then (x' u).patch = m.digest ∧ ∃ d, Completed s u p c 0 d
        else (x' u).patching = some (first.take (c.word 2).toNat, s.now + 12500000) ∧ (x' u).patch = x.patch ∧
          ((s.shear p).hold = .running → (u.shear p).hold = .requested)) ∧
    (x.patching = some (bs, due) → s.timersQuiet = true → (s.shear p).hold = .requested →
      (s.port p).fetched.head? = some c → Answers (.patchHoldTimeout p) s fun u =>
        (x' u).patching = none ∧ (u.shear p).hold = .running ∧ Completed s u p c 3 0x16000000) ∧
    (Taken s p c 0x05 [2 ^ 32 - 1, 0xFFFF, 0x81FF01FF] → free → s.isStopped p = true → cl ≠ 0 →
      claimsOk s.tenantOf p cl 32 = true → claimsOk (fun b => Tab.get s.syncOwn none b) p sb 16 = true →
      s.regionOk p region = true → Answers (.assign p) s fun u =>
        (∀ i, i < 32 → u.tenantOf i =
          if cl.testBit i then some p else if s.tenantOf i = some p then none else s.tenantOf i) ∧
        (∀ b, b < 16 → Tab.get u.syncOwn none b =
          if sb.testBit b then some p
          else if Tab.get s.syncOwn none b = some p then none else Tab.get s.syncOwn none b) ∧
        u.tregOf p = region ∧ ∃ d, Completed s u p c 0 d)

/-- R287, R289 to R294, R470, R471 and R472. A SAVE takes its snapshot at once for a stopped tenant and at the next
commit for a running one, and becomes its set's newest save, with a commit record, when it has been written, after
which the save before is freed; a RESTORE of a stopped tenant writes the rows of the newest save back; RELEASE frees
the set. TEST reports, sets its schedule, or queues a pass, which ends with the number of cores tested, and leaves
memory zero where it is destructive; a step of the schedule tests the core that has gone longest without; a core found
defective is stale. The model's own choices in it: notes/assumptions/31.md, notes/assumptions/32.md,
notes/assumptions/53.md and notes/assumptions/58.md. -/
def Obligations.LehrAndTests : Prop :=
  ∀ (s : State) (p : Port) (t : Tenant) (c : Cmd) (j : LehrJob) (v : LehrSave) (rows : List SavedRow) (x : TestJob)
    (k : Nat) (ds : List CoreId) (olderOk crcOk defect : Bool),
    let set := c.field 1 0 4
    let job (ph : LehrPhase) (len : Nat) : LehrJob := ⟨c.async p, set, (c.word 2).toNat, ph, len⟩
    let mine (n : Nat) (q : Tenant) : Prop := (s.lehrSet n).owner = none ∨ (s.lehrSet n).owner = some q
    let is (ph : LehrPhase) (y : LehrJob) : Bool := y.phase == ph
    let known : Prop := s.lehr.ready = true ∧ mine set p
    let len := contentLen (s.tenantRows p)
    let n := saveBlocks j.len
    let newest := (s.lehrSet j.set).newest
    let saves : Prop := Taken s p c 0x07 [0xF, 2 ^ 64 - 1] ∧ s.inNap = false ∧ known ∧
      (s.tenant p).parison.length = 32 ∧ s.stagingOk (job .waiting 0) len = true ∧ saveBlocks len ≤ 192
    let ends (u : State) (a : Async) (d : Word) : Prop := a.silent = false →
      ∃ l, (u.port a.port).recs =
        (s.port a.port).recs ++ l ++ [.completion a.opcode 0 d a.tag a.counter a.irq]
    let apart (r q : SavedRow) : Prop :=
      r = q ∨ r.k ≠ q.k ∨ 8 * r.a + r.bytes.length ≤ 8 * q.a ∨ 8 * q.a + q.bytes.length ≤ 8 * r.a
    let test (action : Nat) : Prop := Taken s p c 0x0E [0xFFFF000F] ∧ c.field 1 0 2 = action ∧ s.pont.faulted = false
    (saves → s.isStopped p = true → Answers (.save p) s fun u =>
      u.lehr.jobs.getLast? = some (job .writing (s.saveContent p set).length) ∧
      ∀ i, i < (s.saveContent p set).length → u.readByte ((c.word 2).toNat + i) = (s.saveContent p set).getD i 0) ∧
    (saves → (s.tenant p).st = .running → (s.shear p).epochLen ≠ 0 → Answers (.save p) s fun u =>
      u.lehr.jobs = s.lehr.jobs ++ [job .snapDue 0] ∧ u.mem = s.mem) ∧
    (Taken s p c 0x08 [0xF] → s.inNap = false → s.pont.faulted = false → known → (s.lehrSet set).newest.isSome = true → s.isStopped p = true →
      Answers (.restore p) s fun u => u.lehr.jobs = s.lehr.jobs ++ [job .reading 0]) ∧
    (Taken s p c 0x09 [0xF] → known → (s.lehrSet set).newest.isSome = true → Answers (.release p) s fun u =>
      u.lehrSet set = {} ∧ (∀ r ∈ u.lehr.journal, r.set ≠ set) ∧ Completed s u p c 0 0) ∧
    (s.lehr.jobs.find? (is .freeing) = none → s.lehr.jobs.find? (is .writing) = some j → j.set < 16 →
      mine j.set j.who.port → n ≤ s.lehr.free.length → Answers (.lehrSaveDone []) s fun u =>
        (∃ w : LehrSave, u.lehrSet j.set = ⟨some j.who.port, some w, newest⟩ ∧ w.blocks.length = n ∧
          w.content = s.readBytes j.staging j.len ∧ w.seq = (match newest with | some y => y.seq + 1 | none => 1) ∧
          u.lehr.recorded j.set w = true) ∧
        if newest.isSome then { j with phase := .freeing } ∈ u.lehr.jobs
        else u.lehr.jobs = s.lehr.jobs.erase j ∧ ends u j.who 0) ∧
    (s.lehr.jobs.find? (is .freeing) = some j → j.set < 16 → Answers (.lehrSaveDone []) s fun u =>
      u.lehrSet j.set = { s.lehrSet j.set with older := none } ∧ u.lehr.jobs = s.lehr.jobs.erase j ∧ ends u j.who 0) ∧
    (s.lehr.jobs.find? (fun y => y.who.port == p && y.phase == .reading) = some j →
      mine j.set p → newest = some v → s.lehr.recorded j.set v = true → s.isStopped p = true → v.content.take 32 = (s.tenant p).parison →
      savedRows (v.content.drop 64) v.content.length = some rows → rows.all (s.rowFits p) = true →
      Answers (.lehrRestoreDone p true olderOk) s fun u =>
        (∀ r ∈ rows, (∀ q ∈ rows, apart r q) →
          ∀ i, i < r.bytes.length → u.readByte (synAddr r.k (2 * r.a) + i) = r.bytes.getD i 0) ∧
        u.lehr.jobs = s.lehr.jobs.erase j ∧ ends u j.who 0) ∧
    (s.boot.ready = true → s.lehr.ready = false → Answers .lehrJournalScanEnd s fun u =>
      u.lehr.ready = true ∧ (∀ y ∈ u.lehr.jobs, y.phase ≠ .waiting) ∧ ∀ i, i < 16 → (u.lehrSet i).older = none) ∧
    (test 0 → Answers (.testReport p) s fun u =>
      Completed s u p c 0 ((testDetail (s.schedOf p).tested (s.schedOf p).added).getD 0)) ∧
    (test 1 → Answers (.testSchedule p) s fun u =>
      (u.schedOf p).interval = c.field 1 16 16 ∧ (u.schedOf p).hold = (c.word 1).getLsbD 3 ∧
      (u.schedOf p).rotate = (c.word 1).getLsbD 2 ∧ Completed s u p c 0 0) ∧
    (test 2 → s.inNap = false → Answers (.testPreservingPass p) s fun u =>
      u.tests = s.tests ++ [⟨c.async p, p, false, (c.word 1).getLsbD 3⟩]) ∧
    (test 3 → s.inNap = false → s.isStopped p = true → Answers (.testDestructive p) s fun u =>
      u.tests = s.tests ++ [⟨c.async p, p, true, (c.word 1).getLsbD 3⟩]) ∧
    (s.tests.find? (fun y => y.tenant == t) = some x → x.destructive = false → s.testable t = true →
      Answers (.testCompletion t ds) s fun u =>
        u.tests = s.tests.erase x ∧ (∀ i ∈ s.defectsOf t ds, (u.core i).e.cr.stale = true) ∧
        (ds = [] → ends u x.who (BitVec.ofNat 32 (min 65535 (s.coresOf t).length * 2 ^ 16)))) ∧
    (s.tests.find? (fun y => y.tenant == t) = some x → x.destructive = true → s.isStopped t = true →
      Answers (.testCompletion t ds) s fun u => u.tests = s.tests.erase x ∧ (u.tenant t).st = .unloaded ∧
        ∀ i ∈ s.coresOf t, ∀ a, a < 0x3_0000 → u.readByte (coreWindow i + a) = 0) ∧
    (s.boot.ready = true → (s.schedOf t).interval ≠ 0 → s.inNap = false → s.timersQuiet = true → s.isStopped t = true →
      s.longestUntested t = some k → s.engineIdle k = true → (s.schedOf t).rotate = false →
      Answers (.inFieldStep t crcOk defect) s fun u =>
        (u.schedOf t).tested = (s.schedOf t).tested + 1 ∧ (u.schedOf t).since = u.now ∧
        Tab.get u.boot.tested 0 k = u.now ∧
        (u.core k).e.cr.stale = (defect || (s.core k).e.cr.stale))

/-! ### The DMA engine -/

/-- R359, R361 to R370, R374. A free channel goes to its claimant, and an idle one is freed; START fetches the first
descriptor, and RESUME the current one again; a descriptor that is read is checked before any byte moves; the engine
issues one burst at a time of the channel in turn; acknowledged bytes complete the descriptor, which is counted and
signalled; an error halts the channel with its cause, and ABORT returns it to Idle once nothing is in flight and its
host writes have been acknowledged by a read of no bytes. The model's own choices in it: notes/assumptions/11.md,
notes/assumptions/34.md and notes/assumptions/67.md. -/
def Obligations.DmaChannels : Prop :=
  ∀ (s : State) (r : Req) (ch : Fin 16) (owner t : Tenant) (p : Port) (b : Burst) (bs : List Byte) (d : DmaDesc)
    (data : Option (List Byte)) (link : Bool),
    let x := s.dmaCh ch
    let x' (u : State) : DmaCh := u.dmaCh ch
    let flowOf (a : Nat) : Nat := bitsOf (s.dmaRoute x.owner (s.stationOf a)).toNat 0 6
    let reach (host : Bool) (a : Nat) : Prop :=
      host = false → (s.memEnd a).isSome = true ∧ s.routeOk x.owner (s.stationOf a) = true
    let holds : Prop := Served s r ∧ x.mine r = true
    let fetches (u : State) (host : Bool) (a : Nat) : Prop := (x' u).st = .running ∧ (x' u).fetch = some (a, host) ∧
      (x' u).descs = [] ∧ (x' u).bursts.getLast? = some ⟨x.nextId, 0, host, a, 32, 0, 0, none⟩
    let runs : Prop := x.st = .running ∧ x.failing = none ∧ x.releaseAfter = false
    let halted (u : State) (cause : Nat) : Prop := (x' u).st = .halted ∧ (x' u).err = ⟨cause, b.dir, b.host, b.addr⟩
    let room : Prop := (s.dma.ch.toList.map DmaCh.inflight).sum < 32
    let picked (write : Bool) : Prop := room ∧ s.dmaFlushDue = none ∧ s.dmaPick = some ch ∧
      s.dmaReady ch = some (write, d)
    let wrLen := s.writeLen ch d
    let wrByte (i : Nat) : Byte := (Tab.get d.got none (d.wrIssued + i)).getD 0
    let desc := parseDesc b.id b.addr b.host bs
    (Served s r → claimant r owner = some t →
      (x.st = .free → Answers (.dmaClaim r ch owner) s fun u =>
        x' u = { owner := t, st := .idle, nextId := x.nextId } ∧ Replied u r 0) ∧
      (x.st ≠ .free → x.owner ≠ t → r = .port p → Answers (.dmaClaim r ch owner) s fun u =>
        x' u = x ∧ u.dma.conflict = s.dma.conflict ||| (1#4 <<< p.val) ∧ Rejected u r)) ∧
    (holds → x.st = .idle → Answers (.dmaRelease r ch) s fun u =>
      x' u = { nextId := x.nextId } ∧ Replied u r 0) ∧
    (holds → x.st = .idle → x.prio < 4 → reach x.firstSpace x.next.toNat → Answers (.dmaStart r ch) s fun u =>
      fetches u x.firstSpace x.next.toNat ∧ Replied u r 0) ∧
    (holds → x.st = .halted → reach x.curHost x.cur → Answers (.dmaResume r ch) s fun u =>
      fetches u x.curHost x.cur ∧ Replied u r 0) ∧
    (holds → x.releaseAfter = false →
      (x.st = .halted → Answers (.dmaAbort r ch) s fun u => (x' u).st = .idle ∧ (x' u).err = {} ∧ Replied u r 0) ∧
      (x.st = .running → x.bursts = [] →
        (∀ e ∈ x.descs, e.dstHost = true → 0 < e.wrIssued → e.flushed = true) → Answers (.dmaAbort r ch) s fun u =>
          (x' u).st = .idle ∧ (x' u).descs = [] ∧ Replied u r 0) ∧
      (x.st = .running → x.bursts ≠ [] → Answers (.dmaAbort r ch) s fun u => (x' u).st = .aborting ∧ Replied u r 0)) ∧
    (runs → x.bursts = [b] → b.dir = 0 → b.answer data = some (.ok bs) →
      (s.descBad desc = false → Answers (.descriptorFetch ch data) s fun u =>
        (x' u).st = .running ∧ (x' u).fetch = none ∧ (x' u).descs = x.descs ++ [desc] ∧ u.mem = s.mem) ∧
      (s.descBad desc = true → Answers (.descriptorFetch ch data) s fun u => halted u 1 ∧ u.mem = s.mem)) ∧
    (picked false → reach d.srcHost (d.src + d.rdIssued) → (d.srcHost = true → link = true) →
      Answers (.dmaBurstStart link) s fun u =>
        (x' u).bursts = x.bursts ++ [⟨x.nextId, 1, d.srcHost, d.src + d.rdIssued,
          s.readLen ch d, d.key, d.rdIssued, none⟩]) ∧
    (room → s.dmaFlushDue = some (ch, d) → 0 < d.wrIssued → Answers (.dmaBurstStart true) s fun u =>
      (x' u).bursts = x.bursts ++ [⟨x.nextId, 3, true, (d.dst + d.wrIssued - 1) / 4 * 4, 0, d.key, d.wrIssued, none⟩]) ∧
    (picked true → d.dstHost = true → Answers (.dmaBurstStart true) s fun u =>
      ∀ i, i < wrLen → Tab.get u.hostMem 0 (x.owner.val * 2 ^ 64 + (d.dst + d.wrIssued) + i) = wrByte i) ∧
    (picked true → d.dstHost = false → reach false (d.dst + d.wrIssued) → Answers (.dmaBurstStart link) s fun u =>
      ∃ q ∈ (u.flow stDma (flowOf (d.dst + d.wrIssued))).queue, q.op = 0 ∧ q.addr = d.dst + d.wrIssued ∧ q.len = wrLen ∧
        q.tenant = x.owner ∧ q.data = (List.range wrLen).map wrByte) ∧
    (runs → x.bursts = [b] → x.descs = [d] → b.desc = d.key → b.answer data = some (.ok bs) →
      (b.dir = 1 → d.acked < d.len → Answers (.dmaBurstResponse ch b.id data) s fun u =>
        ∃ e, (x' u).descs = [e] ∧ e.acked = d.acked ∧ ∀ i, i < bs.length → Tab.get e.got none (b.off + i) = bs[i]?) ∧
      (b.dir = 2 → d.acked + b.len < d.len → Answers (.dmaBurstResponse ch b.id data) s fun u =>
        (x' u).descs = [{ d with acked := d.acked + b.len }]) ∧
      (b.dir = 2 → d.acked + b.len = d.len → Answers (.dmaBurstResponse ch b.id data) s fun u =>
        (x' u).done = cnt32 x.done ∧ (x' u).bytes = cnt32 x.bytes d.len ∧ (x' u).descs = [] ∧
        (ctlEnd d.ctrl = true → (x' u).st = .idle) ∧
        (ctlSig d.ctrl = true → Tab.get (u.station stDma).thread.queues [] 2 =
          Tab.get (s.station stDma).thread.queues [] 2 ++ [.sync 0 (ctlObj d.ctrl) 1 (32 + x.owner.val)]))) ∧
    (runs → x.bursts = [b] → b.host = true →
      (b.dir = 0 → Answers (.completionTimeout (.dmaFetch ch)) s fun u => halted u 3) ∧
      (b.dir ≠ 0 → Answers (.completionTimeout (.dmaBurst ch b.id)) s fun u => halted u 3)) ∧
    (s.mayFetch p = true → Answers (.completionTimeout (.ringFetch p)) s fun u => (u.port p).cmdHalt = true)

/-! ### PORTS -/

/-- R379, R382 to R384, R386 to R390 and R401. A header of the receiver's channel and data type lets its packet
through, and others are counted; a word of an event-mode packet, and a cell whose value has changed, enters the
receiver's queue as one event; Frame Start and Frame End open and close a frame. A link trains, locks, comes up and
falls back; a good frame's events enter the link's queue and its values reach their encoder, and a faulty one is
counted and marks the next event; what waits is sent as a frame while the output gate is open. The model's own choices
in it: notes/assumptions/37.md and notes/assumptions/38.md. -/
def Obligations.PortsLinks : Prop :=
  ∀ (s : State) (r : Req) (rx : Fin 2) (n : Fin 8) (h : CsiHeader) (payload : List Byte) (px q : Byte) (f : KelFrame)
    (t : Tenant) (v w : Word) (idx : Nat) (pay : Byte) (kind : Nat) (errs : Fin 256),
    let c := s.io.csi[rx.val]
    let c' (u : State) : Csi := u.io.csi[rx.val]
    let k := s.kel n
    let k' (u : State) : Kel := u.kel n
    let queue (u : State) (ch : Nat) : List LookEv := Tab.get u.pin [] ch
    let room (ch : Nat) : Prop := s.inTenant ch = some t ∧ (queue s ch).length < inDepth ch
    let marked (ch : Nat) : Bool := (Tab.get s.io.chan {} ch).gapNext
    let event (ch i : Nat) (p : Byte) (gap : Bool) : LookEv :=
      ⟨BitVec.ofNat 24 ((32 + ch) * 2 ^ 18 + i), p, 0, gap, t⟩
    let on : Prop := s.fabricRuns = true ∧ c.en = true
    let good : Prop := h.eccBad = false ∧ h.vc.toNat = c.vc ∧ h.dt.toNat = c.dt ∧ h.crcOk = true
    let quiet (u : State) : Prop := queue u rx.val = queue s rx.val
    let frame : Prop := on ∧ good ∧ c.frameMode = true ∧ c.inFrame = true ∧ c.line < c.height
    let d : Int := max (-127) (min 127 (((px.toNat / 2 ^ c.step : Nat) : Int) - q.toNat))
    let ch := 2 + n.val
    let mine (o : Option Nat) : Prop := Served s r ∧ mayUse r o = true
    let got (type : Nat) : Prop := s.fabricRuns = true ∧ k.st = 3 ∧ frameFault f = none ∧ frameType f = type ∧ f.items = [w]
    let e := s.enc (bitsOf w.toNat 26 6)
    (on → good → c.frameMode = false → payload.length = c.wordBytes → c.extract (leNat payload) = some (some (idx, pay)) →
      room rx.val → Answers (.csiEventPacket rx h payload) s fun u =>
        queue u rx.val = queue s rx.val ++ [event rx.val idx pay (marked rx.val)]) ∧
    (on → c.frameMode = false → h.eccBad = true → Answers (.csiEventPacket rx h payload) s fun u =>
      quiet u ∧ (c' u).eccUncorr = cnt8 c.eccUncorr) ∧
    (on → h.eccBad = false → h.vc.toNat = c.vc →
      Answers (.csiFrameStart rx h) s (fun u =>
        (c' u).inFrame = true ∧ (c' u).line = 0 ∧ (c' u).priming = (c.priming && !c.inFrame) ∧ quiet u) ∧
      (c.inFrame = true → Answers (.csiFrameEnd rx h) s fun u =>
        (c' u).inFrame = false ∧ (c' u).frames = cnt32 c.frames ∧ (c' u).priming = false ∧ quiet u)) ∧
    (frame → Answers (.csiFramePacket rx h payload) s fun u => (c' u).line = c.line + 1) ∧
    (frame → c.width = 1 → c.bin = 1 → c.dt = 0x2A → c.rows = [] → c.tainted = false → c.priming = false →
      Tab.get c.refs 0 c.line = q → d ≠ 0 → room rx.val → Answers (.csiFramePacket rx h [px]) s fun u =>
        queue u rx.val = queue s rx.val ++ [event rx.val c.line (BitVec.ofInt 8 d) (marked rx.val)] ∧
        Tab.get (c' u).refs 0 c.line = BitVec.ofNat 8 (q.toNat + d).toNat) ∧
    (mine (s.owner (ownIn rx.val)) → v &&& 0x03C0FFFF = 0 → v.msb = true → c.en = false → csiCfgOk v = true →
      Answers (.csiCfgWrite r rx v) s fun u => (c' u).cfg = v ∧ Replied u r 0 ∧
        (v.getLsbD 30 = true → (c' u).refs = [] ∧ (c' u).priming = c.prime)) ∧
    (mine (s.owner (ownIn ch)) → k.en = false → Answers (.kelEnable r n) s fun u =>
      (k' u).en = true ∧ (k' u).st = 1 ∧ (k' u).trainAt = s.now ∧ Replied u r 0) ∧
    (mine (s.owner (ownIn ch)) → k.en = true → Answers (.kelRetrain r n) s fun u =>
      (k' u).st = 1 ∧ (k' u).trainAt = s.now ∧ Replied u r 0 ∧
      (k.st = 3 → (k' u).retrains = cnt16 k.retrains ∧ (k' u).txQ = [] ∧ (k' u).valQ = [])) ∧
    (s.fabricRuns = true →
      (k.st = 1 → Answers (.kelLocked n) s fun u => k' u = { k with st := 2 }) ∧
      (k.st = 2 → Answers (.kelUp n) s fun u => k' u = { k with st := 3, rxSeq := 0, txSeq := 0 }) ∧
      (k.st = 1 ∨ k.st = 2 → s.timersQuiet = true → Answers (.kelTrainTimeout n) s fun u =>
        k' u = { k with st := 1, trainAt := u.now, retrains := cnt16 k.retrains } ∧
        u.now = max s.now (k.trainAt + 250000)) ∧
      (k.st = 3 → Answers (.kelLinkFail n errs) s fun u =>
        (k' u).st = 1 ∧ (k' u).codeErr = cnt8 k.codeErr errs.val ∧ (k' u).retrains = cnt16 k.retrains ∧
        (k' u).txQ = [] ∧ (Tab.get u.io.chan {} ch).gapNext = true) ∧
      (k.st = 3 → Answers (.kelSkipSend n) s fun u => k' u = { k with skips := k.skips + 1 })) ∧
    (got 1 → room ch → Answers (.kelEventsFrame n f) s fun u =>
      queue u ch = queue s ch ++ [event ch (bitsOf w.toNat 8 18) (w.setWidth 8)
        (f.hdr.getLsbD 3 || marked ch || f.seq.toNat != k.rxSeq)] ∧
      (k' u).rxSeq = (f.seq.toNat + 1) % 256 ∧ (k' u).rxFrames = cnt32 k.rxFrames) ∧
    (s.fabricRuns = true → k.st = 3 → frameFault f = some kind → Answers (.kelEventsFrame n f) s fun u =>
      queue u ch = queue s ch ∧ (Tab.get u.io.chan {} ch).gapNext = true ∧ (k' u).rxSeq = k.rxSeq) ∧
    (got 2 → (s.owner (ownIn ch)).isSome = true → s.owner (ownEnc (bitsOf w.toNat 26 6)) = s.owner (ownIn ch) → e.src = 1 →
      e.link = n.val → Answers (.kelValueFrame n f) s fun u =>
        u.enc (bitsOf w.toNat 26 6) = { e with linkVal := bitsOf w.toNat 0 16 } ∧ (k' u).rxFrames = cnt32 k.rxFrames) ∧
    (s.fabricRuns = true → k.st = 3 → s.gateOpen = true →
      (k.txQ ≠ [] → Answers (.kelTxFrame n) s fun u =>
        (k' u).last = some (makeFrame 1 ((k.txQ.take 16).any (·.gap)) k.txSeq ((k.txQ.take 16).map fun x => x.src ++ x.pay)) ∧
        (k' u).txQ = k.txQ.drop 16 ∧ (k' u).txSeq = (k.txSeq + 1) % 256) ∧
      (k.txQ = [] → k.valQ ≠ [] → Answers (.kelTxFrame n) s fun u =>
        (k' u).last = some (makeFrame 2 false k.txSeq (k.valQ.take 16)) ∧ (k' u).valQ = k.valQ.drop 16)) ∧
    (s.fabricRuns = true → k.st = 3 → s.gateOpen = false → k.txQ ≠ [] → Answers (.kelTxFrame n) s fun u =>
      (k' u).last = k.last ∧ (k' u).txQ = k.txQ.drop 16 ∧ u.io.gated = cnt32 s.io.gated)

/-- R377, R378, R380, R391 to R393, R395 to R399 and R408. A free resource goes to its claimant, a claim of another
tenant's is refused and recorded, and a released one has no owner; at the emit opening PORTS evaluates the tenant's
encoders and notes its queues, whose noted events are released one at a time; an egress event goes to the targets that
match it; an edge computes the tenant's windowed rates; pulses and PWM periods end when they are due; pins follow
their owner's writes and their level. The model's own choices in it: notes/assumptions/39.md and
notes/assumptions/68.md. -/
def Obligations.PortsOutputs : Prop :=
  ∀ (s : State) (r : Req) (res : Resource) (owner t : Tenant) (func : Fin 16) (p : Port) (v w : Word) (k : Fin 64)
    (i : Fin 128) (n : Fin 32) (m j : Nat) (level : Bool) (ev : LookEv) (evs : List LookEv) (e : WireEv) (es : List WireEv)
    (x : EmEnt),
    let ownerOf (u : State) : Option Nat :=
      match res with
      | .ingress c => u.owner (ownIn c.val)
      | .encoder k => u.owner (ownEnc k.val)
      | .decoder k => u.owner (ownDec k.val)
      | .pin n => u.owner (ownPin n.val)
      | .timer n => (u.timers[n.val]).owner
    let enc := s.enc j
    let bank := 10 + enc.bank
    let acc := enc.state.toNat + bitsOf enc.val.toNat 0 16 * enc.gain
    let mineE : Prop := (List.range 64).filter (fun k => s.owner (ownEnc k) == some t.val && (s.enc k).en) = [j]
    let mineD : Prop := (List.range 64).filter (fun k => s.owner (ownDec k) == some t.val && (s.dec k).en) = [j]
    let d := s.dec k.val
    let d' (u : State) : Dec := u.dec k.val
    let dj := s.dec j
    let clamped (y : Dec) (z : Int) : BitVec 16 := BitVec.ofInt 16 (clampInt y.min y.max z)
    let sum := ((List.range dj.win).map fun i => Tab.get dj.buckets 0 (tagBack (s.shear t).tag (i + 1))).sum
    let taken : Prop := s.fabricRuns = true ∧
      nextInTurn 4 s.io.egTurn (fun t => !(Tab.get s.egress [] t).isEmpty) = some t.val ∧
      Tab.get s.egress [] t.val = e :: es
    let mine (o : Option Nat) : Prop := Served s r ∧ mayUse r o = true
    let bit (w : Word) (i : Nat) : Bool := w.getLsbD i
    let gpio (i : Nat) : Bool := s.owner (ownPin i) == some p.val && s.pinFunc i == 2
    (Served s r → claimant r owner = some t → ownerOf s = none → (∀ n, res = .pin n → func.val < 8) →
      Answers (.ptClaim r res owner func) s fun u =>
        ownerOf u = some t.val ∧ Replied u r 0 ∧ ∀ n, res = .pin n → u.pinFunc n.val = func.val) ∧
    (Served s (.port p) → (∃ o, ownerOf s = some o ∧ o ≠ p.val) → Answers (.ptClaim (.port p) res owner func) s fun u =>
      ownerOf u = ownerOf s ∧ Rejected u (.port p) ∧ u.io.conflict.getLsbD p.val = true) ∧
    (Served s r → s.mayRelease r (ownerOf s) = true → Answers (.ptRelease r res) s fun u =>
      ownerOf u = none ∧ Replied u r 0) ∧
    ((s.shear t).openPorts = true → Answers (.portsEmitOpen t) s fun u =>
      (u.shear t).openPorts = false ∧
      (∀ c, c < 16 → s.owner (ownIn c) = some t.val →
        Tab.get u.pinNoted 0 c = (Tab.get u.pin [] c).length) ∧
      (mineE → enc.mode = 0 → enc.src = 0 →
        (u.enc j).state = BitVec.ofNat 24 (if acc / 256 = 0 then acc else acc % 256) ∧
        (u.enc j).sat = (enc.sat || decide (255 < acc / 256)) ∧
        (s.inTenant bank = some t → (Tab.get s.pin [] bank).length < inDepth bank → acc / 256 ≠ 0 →
          Tab.get u.pin [] bank = Tab.get s.pin [] bank ++
            [⟨BitVec.ofNat 24 ((32 + bank) * 2 ^ 18 + j), BitVec.ofNat 8 (min 255 (acc / 256)), 0,
              (Tab.get s.io.chan {} bank).gapNext, t⟩]))) ∧
    (nextInTurn 16 s.io.inTurn (fun c => decide (0 < Tab.get s.pinNoted 0 c) && !(Tab.get s.pin [] c).isEmpty) = some m →
      Tab.get s.pin [] m = ev :: evs → Answers .portsRelease s fun u =>
        Tab.get u.pin [] m = evs ∧ Tab.get u.pinNoted 0 m + 1 = Tab.get s.pinNoted 0 m ∧
        (u.station stPorts).cane.lookQ =
          (s.station stPorts).cane.lookQ ++ [{ ev with tag := (s.shear ev.tenant).tag }]) ∧
    (taken → s.matches t e = [] → Answers .egressMatch s fun u =>
      Tab.get u.egress [] t.val = es ∧ u.io.unmatched = cnt16 s.io.unmatched) ∧
    (taken → s.matches t e = [x] →
      (x.kind = 0 → Answers .egressMatch s fun u =>
        Tab.get u.egress [] t.val = es ∧ u.dec x.target = (s.dec x.target).event e) ∧
      (x.kind = 1 → x.target < 8 → (s.kel (Fin.ofNat 8 x.target)).st = 3 → Answers .egressMatch s fun u =>
        (u.kel (Fin.ofNat 8 x.target)).txQ = (s.kel (Fin.ofNat 8 x.target)).txQ ++ [e]) ∧
      (x.kind = 2 → s.gateOpen = true → Answers .egressMatch s fun u =>
        Tab.get u.io.pulseEnd none x.target = some (s.now + Tab.get s.io.width 1 x.target))) ∧
    ((s.shear t).edgePorts = true → Answers (.portsEdge t) s fun u =>
      (u.shear t).edgePorts = false ∧
      (mineD → dj.mode = 0 → (u.dec j).out = clamped dj (sum * dj.gainInt / 2 ^ dj.shift) ∧
        Tab.get (u.dec j).buckets 0 (tagBack (s.shear t).tag dj.win) = 0)) ∧
    (s.fabricRuns = true → s.timersQuiet = true →
      (Tab.get s.io.pulseEnd none n.val = some m → Answers (.pulseEnd n) s fun u =>
        Tab.get u.io.pulseEnd none n.val = none ∧ u.now = max s.now m) ∧
      (d.pwm = true → Answers (.pwmPeriodStart k) s fun u =>
        u.now = max s.now d.nextAt ∧ (d' u).nextAt = u.now + d.period ∧
        (d' u).highEnd = if s.gateOpen && decide (0 < d.high) then some (u.now + d.high) else none) ∧
      (d.highEnd = some m → Answers (.pwmHighEnd k) s fun u => (d' u).highEnd = none ∧ u.now = max s.now m)) ∧
    (mine (s.owner (ownDec k.val)) →
      (v.toNat < 2 ^ 16 → (d.en && d.mode == 3) = false → Answers (.fritDecOutWrite r k v) s fun u =>
        (d' u).out = v.setWidth 16 ∧ Replied u r 0) ∧
      (v &&& 0x1000001F = 0 → v.msb = false → d.cfg &&& 0x7FFFFFFF = v → Answers (.fritDecCfgWrite r k v) s fun u =>
        (d' u).out = d.safe ∧ (d' u).en = false ∧ (d' u).highEnd = none ∧ Replied u r 0)) ∧
    (Served s .mp → Tab.get s.io.emStage none Req.mp.key = some (i.val, w) → v &&& 0x07FFFFC0 = 0 → v.msb = true →
      s.emTargetOk ⟨w.setWidth 16, v⟩ = true → (s.em i.val).valid = false →
      s.tablesOpen (⟨w.setWidth 16, v⟩ : EmEnt).tenant = true → Answers (.ptEmHiWrite .mp i v) s fun u =>
        u.em i.val = ⟨w.setWidth 16, v⟩ ∧ Tab.get u.io.emStage none Req.mp.key = none ∧ Replied u .mp 0) ∧
    (Served s (.port p) →
      Answers (.gpioSet (.port p) v) s (fun u => Replied u (.port p) 0 ∧
        ∀ i, i < 32 → bit u.io.gpioOut i = (bit s.io.gpioOut i || (bit v i && gpio i))) ∧
      Answers (.gpioClr (.port p) v) s (fun u => Replied u (.port p) 0 ∧
        ∀ i, i < 32 → bit u.io.gpioOut i = (bit s.io.gpioOut i && !(bit v i && gpio i)))) ∧
    (s.padLevel n.val = none → bit s.pinIn n.val ≠ level → Answers (.pinEdge n level) s fun u =>
      (∀ i, i < 32 → bit u.pinIn i = if i = n.val then level else bit s.pinIn i) ∧
      (level = true → s.fabricRuns = true → j < 64 → enc.src = 2 → enc.pin = n.val →
        s.owner (ownEnc j) = s.owner (ownPin n.val) → s.ownsPin (s.owner (ownPin n.val)) n.val 5 = true →
        (u.enc j).edges = satAdd 65535 enc.edges 1))

/-- R409, R417 to R422. A period written while the tenant runs waits for the next edge. A trigger resets, starts or
clocks its timer, and in the step of a load too, which sets the count; a counter that reaches CMP, or passes PER, sets
its flag, acts on itself and on its output, and signals its sync object; a capture takes the count, or is dropped with
a mark when its queue is full; a read of a low word latches the high word. The model's own choices in it:
notes/assumptions/2.md and notes/assumptions/59.md. -/
def Obligations.TimersCount : Prop :=
  ∀ (s : State) (r : Req) (t : Tenant) (n : Fin 16) (k : Fin 4) (v : Word) (x : Nat) (g : Bool) (rest : List (Nat × Bool)),
    let m := s.timers[n.val]
    let m' (u : State) : Timer := u.timers[n.val]
    let c := m.cap[k.val]
    let c' (u : State) : CapChan := (u.timers[n.val]).cap[k.val]
    let mine : Prop := Served s r ∧ mayUse r m.owner = true
    let runs : Prop := s.fabricRuns = true ∧ m.en = true ∧ s.frozen n.val = false ∧ m.load = none
    let counts : Prop := runs ∧ m.run = true ∧ m.slave = 0 ∧ m.presc = m.prescale
    let signalled (u : State) : Prop := Pkt.sync 0 (bitsOf m.obj.toNat 0 13) 1 (32 + m.owner.getD 0) ∈
      Tab.get (u.station stPorts).thread.queues [] 2
    (ServedFor s r t → v.toNat < 2 ^ 28 → (s.shear t).periodOk v.toNat = true → Answers (.shPeriodWrite r t v) s fun u =>
      Replied u r 0 ∧
      if s.isStopped t then (u.shear t).period = v.toNat ∧ (u.shear t).staged = none
      else (u.shear t).staged = some v.toNat ∧ (u.shear t).period = (s.shear t).period) ∧
    (runs → s.trigger n.val = true → Answers (.timerTrigger n) s fun u => u.now = s.now + 1 ∧
      (m.slave = 2 → (m' u).cnt = 0 ∧ (m' u).presc = 0) ∧
      (m.slave = 3 → m.matchAct ≠ 2 → m.ovfAct ≠ 2 → (m' u).run = true) ∧
      (m.slave = 4 → m.run = true → m.cnt < m.per → m.cnt + 1 ≠ m.cmp → m.cnt < 2 ^ 64 - 1 → (m' u).cnt = m.cnt + 1)) ∧
    (s.fabricRuns = true → m.en = true → s.frozen n.val = false → m.load = some x → s.trigger n.val = true →
      Answers (.timerTrigger n) s fun u => (m' u).cnt = x ∧ (m' u).load = none ∧ (m.slave = 3 → (m' u).run = true)) ∧
    (counts → m.cnt + 1 = m.cmp → m.cmp ≤ m.per → m.cmp < 2 ^ 64 → Answers (.timerMatch n) s fun u =>
      u.now = s.now + 1 ∧ (m' u).mat = true ∧ (m' u).cnt = (if m.matchAct = 1 then 0 else m.cmp) ∧
      (m' u).run = (m.matchAct != 2) ∧ (m' u).out = outAct m.outMatch m.out ∧
      (bitsOf m.obj.toNat 30 2 % 2 = 1 → signalled u)) ∧
    (counts → m.cnt = m.per → m.cmp ≠ 0 → Answers (.timerOverflow n) s fun u =>
      u.now = s.now + 1 ∧ (m' u).ovf = true ∧ (m' u).cnt = 0 ∧ (m' u).run = (m.ovfAct != 2) ∧
      (m' u).out = outAct m.outOvf m.out ∧ (2 ≤ bitsOf m.obj.toNat 30 2 → signalled u)) ∧
    (mine → v &&& 0x003F0000 = 0 → cfgFree m.ctrl v = true → bitsOf v.toNat 28 2 ≠ 3 → bitsOf v.toNat 26 2 ≠ 3 →
      Answers (.tmrCtrlWrite r n v) s fun u => (m' u).ctrl = v ∧ Replied u r 0 ∧
        (m' u).run = if v.msb then (if m.en then m.run else m.slave != 3) else false) ∧
    (mine → Answers (.tmrCntLoWrite r n v) s fun u =>
      (m' u).load = some (m.setHi.toNat * 2 ^ 32 + v.toNat) ∧ Replied u r 0) ∧
    (mine → Answers (.tmrCntLoRead r n) s fun u =>
      Replied u r (BitVec.ofNat 32 m.cnt) ∧ (m' u).cntHi = BitVec.ofNat 32 (m.cnt / 2 ^ 32)) ∧
    (s.fabricRuns = true → s.capFires n.val c = true → Answers (.capture n k) s fun u =>
      (c.queue.length < 4 → (c' u).queue = c.queue ++ [(m.cnt, false)]) ∧
      (4 ≤ c.queue.length → c.queue = rest ++ [(x, g)] →
        (c' u).queue = rest ++ [(x, true)] ∧ (c' u).drop = cnt8 c.drop)) ∧
    (mine → c.queue = (x, g) :: rest → Answers (.capturePop r n k) s fun u =>
      Replied u r (BitVec.ofNat 32 x) ∧ (c' u).queue = rest ∧ (c' u).hi = BitVec.ofNat 32 (x / 2 ^ 32)) ∧
    (mine → c.queue = [] → Answers (.capturePop r n k) s fun u => Replied u r 0 ∧ (c' u).empty = true)

/-! ### Power -/

/-- R435 to R447 and R449. A vote begins an entry, is refused with its cause, or wakes; an entry ends in NAP, or
passes through its commit window to GLORY or HOLD; a wake source aborts an entry or begins the exit and is recorded; a
GLORY window wakes the device where a slot is met; the exit clears every vote and signals the wake objects. Each ms
the governor moves the stretch factor by at most one, and notes the die temperature. The Cool profile puts the GDDR6
into self-refresh while no deep tenant runs, and a sleep keeps it there. The model's own choices in it:
notes/assumptions/41.md, notes/assumptions/42.md, notes/assumptions/54.md and notes/assumptions/60.md. -/
def Obligations.PowerStates : Prop :=
  ∀ (s : State) (r : Req) (p q : Port) (v : Word) (t : Nat) (n : Fin 32) (measured : List Nat) (linksOk memOk : Bool)
    (stale : List CoreId) (corrected : Nat) (bad : Option Nat) (power : BitVec 16) (temp : Int),
    let a := s.aon
    let on : Prop := s.boot.inReset = false ∧ s.boot.ready = true ∧
      (r = .mp ∨ (r = .port q ∧ s.configured q = true ∧ (s.port q).linkUp = true ∧ (s.port q).cfg.d3 = false))
    let settled : Prop := a.entering = none ∧ a.window = false ∧ a.waking = false
    let target := (s.modAon fun a => { a with votes := a.votes.set p.val v.toNat }).target
    let votes : Prop := on ∧ (r = .mp ∨ r = .port p) ∧ v.toNat < 4 ∧ settled
    let woken (u : State) (bit : Nat) : Prop := u.aon.waking = true ∧ u.aon.srcBits.getLsbD bit = true ∧ u.aon.st = a.st
    let enters : Prop := a.entering = some t ∧ s.saveWriting = false ∧ s.meshIdle = true
    let met : List Nat := (List.range 8).filter fun i => s.slotMet (Tab.get a.slots 0 i) (measured.getD i 0)
    let cap : Nat := if a.cool then 1000 else 5500
    let high : Bool := decide (cap < power.toNat) || decide (105 < temp)
    (votes → a.st = 0 →
      (target = 0 → Answers (.aonVoteWrite r p v) s fun u =>
        u.aon = { a with votes := a.votes.set p.val v.toNat } ∧ Replied u r 0) ∧
      (target ≠ 0 → s.refusal = 0 → Answers (.aonVoteWrite r p v) s fun u =>
        u.aon.entering = some target ∧ u.aon.votes[p.val] = v.toNat ∧ Replied u r 0) ∧
      (target ≠ 0 → s.refusal ≠ 0 → Answers (.aonVoteWrite r p v) s fun u =>
        u.aon.entering = none ∧ u.aon.refused = true ∧ u.aon.cause = s.refusal ∧ Replied u r 0)) ∧
    (votes → 3 ≤ a.st → target + 1 < a.st → Answers (.aonVoteWrite r p v) s fun u => woken u 1 ∧ Replied u r 0) ∧
    (enters → a.window = false → t ≤ 1 → Answers .sleepEntry s fun u => u.aon.st = 2 ∧ u.aon.entering = none) ∧
    (enters → a.window = false → 1 < t → Answers .sleepEntry s fun u =>
      u.aon.window = true ∧ u.aon.entryEnd = s.now + 40 ∧ u.aon.entering = some t ∧
      (∀ e : Fin 2, (u.deep[e.val]).selfRef = true) ∧
      ∀ q, (s.port q).linkUp = true → u.port q =
        { s.port q with
          former := ((s.port q).width, (s.port q).rate)
          width := if (s.port q).cfg.noWidth then (s.port q).width else 1
          rate := if (s.port q).cfg.noSpeed then (s.port q).rate else 1
          sleep := true }) ∧
    (a.entering = some t → a.window = true → 2 ≤ t → Answers .sleepEntryDone s fun u =>
      u.aon.st = t + 1 ∧ u.aon.window = false ∧ u.aon.entering = none ∧ u.aon.sleptAt = u.now ∧
      u.now = max s.now a.entryEnd) ∧
    (on → settled → 3 ≤ a.st → Answers (.aonWake r) s fun u => woken u 0 ∧ Replied u r 0) ∧
    (on → a.entering = some t → a.window = false → Answers (.aonWake r) s fun u =>
      u.aon.entering = none ∧ u.aon.aborted = true ∧ u.aon.st = 0 ∧ Replied u r 0) ∧
    (on → Answers (.padRelease r) s fun u => Replied u r 0 ∧
      u.aon.padsHeld = if r = .mp then 0 else a.padsHeld &&& ~~~(1#4 <<< q.val)) ∧
    (settled → 3 ≤ a.st →
      (s.padLevel n.val = none → a.wakeEdge.getLsbD n.val = true → Answers (.wakePin n) s fun u =>
        woken u 2 ∧ u.aon.srcPin = n.val ∧ u.pinIn.getLsbD n.val = a.wakePol.getLsbD n.val) ∧
      (a.wakeTime ≠ 0 → Answers .wakeTimer s fun u => woken u 4 ∧ u.now = max s.now (a.sleptAt + oscTime a.wakeTime)) ∧
      (a.st = 3 → a.gloryPeriod ≠ 0 → a.sampling = false → Answers .glorySample s fun u =>
        u.aon.sampling = true ∧ u.aon.gloryCnt = cnt32 a.gloryCnt ∧ u.aon.sampledAt = u.now ∧
        u.now = max s.now (a.sampledAt + oscTime a.gloryPeriod)) ∧
      (a.st = 3 → a.sampling = true → Answers (.gloryWindowEnd measured) s fun u =>
        u.aon.sampling = false ∧ (met = [] → u.aon.waking = false) ∧ (met ≠ [] → woken u 5))) ∧
    (a.waking = true → 2 ≤ a.st → Answers (.wakeExit linksOk memOk stale corrected bad) s fun u =>
      u.aon.st = 0 ∧ u.aon.waking = false ∧ u.aon.entering = none ∧ u.aon.votes = Vector.replicate 4 0 ∧
      (3 ≤ a.st → ∀ e : Fin 2, (u.deep[e.val]).selfRef = a.cool) ∧ u.pont.wakeReq = false ∧ u.aon.retCe = cnt16 a.retCe corrected ∧
      (∀ c ∈ stale, (s.coreTenant c.key).isSome = true → s.coreExists c.key = true →
        (u.core c.key).e.cr.stale = true) ∧
      ∀ q : Fin 4, (Tab.get a.objs 0 q.val).msb = true →
        Pkt.sync 0 (bitsOf (Tab.get a.objs 0 q.val).toNat 0 13) 1 (32 + q.val) ∈
          Tab.get (u.station stMgmt).thread.queues [] 2) ∧
    Answers (.governorTick power temp) s (fun u =>
      u.aon.power = power ∧ u.pont.temp = BitVec.ofInt 8 (max (-128) (min 127 temp)) ∧ u.aon.govLimit = (a.govLimit || (high && s.govF == 255)) ∧
      u.govF = if high then min 255 (s.govF + 1) else if power.toNat * 10 < cap * 9 then max 16 (s.govF - 1) else s.govF) ∧
    (on → (r = .mp ∨ r = .port 0) → v.toNat < 2 →
      (v.getLsbD 0 = false ∨ s.deepRuns = false → Answers (.aonCoolWrite r v) s fun u =>
        u.aon.cool = v.getLsbD 0 ∧ (∀ e : Fin 2, (u.deep[e.val]).selfRef = (v.getLsbD 0 || !s.fabricRuns)) ∧ Replied u r 0) ∧
      (v.getLsbD 0 = true → s.deepRuns = true → Answers (.aonCoolWrite r v) s fun u =>
        u.aon.cool = a.cool ∧ Rejected u r))

/-- R435. The target is the shallowest of the four votes, where a port that is not configured votes HOLD; a vote that
is written is held, and every vote is 0 after a reset and after a wake. A vote field has two bits. -/
def Obligations.SleepTarget : Prop :=
  ∀ (s : State) (r : Req) (p : Port) (v : Word) (straps : Straps) (linksOk memOk : Bool) (stale : List CoreId)
    (corrected : Nat) (bad : Option Nat),
    let vote (q : Port) : Nat := if s.configured q then min 3 s.aon.votes[q.val] else 3
    let zero (u : State) : Prop := ∀ q : Port, u.aon.votes[q.val] = 0
    (∀ q, s.target ≤ vote q) ∧ (∃ q, s.target = vote q) ∧
    (s.boot.inReset = false → s.boot.ready = true →
      (r = .mp ∨ (r = .port p ∧ s.configured p = true ∧ (s.port p).linkUp = true ∧ (s.port p).cfg.d3 = false)) →
      v.toNat < 4 →
      Answers (.aonVoteWrite r p v) s fun u => Replied u r 0 ∧
        ∀ q : Port, u.aon.votes[q.val] = if q = p then v.toNat else s.aon.votes[q.val]) ∧
    (zero State.reset ∧ Answers .perstPort0Assert s zero ∧ Answers (.powerOn straps) s zero) ∧
    (s.aon.waking = true → 2 ≤ s.aon.st → Answers (.wakeExit linksOk memOk stale corrected bad) s zero)

/-- R477 and R490. A failed TRNG health test sets SEC_STATUS.TRNG_FAIL and raises a device fault of code 0x0D. A
lockstep mismatch enters the safe state, and so does a failed self-check in boot step 1. Only a reset undoes either:
every other command, and every step with none waiting, keeps TRNG_FAIL set, FAULT_N low and the output gate closed. -/
def Obligations.HeldUntilReset : Prop :=
  ∀ (s : State) (straps : Straps) (f : BootFindings),
    let held (u : State) : Prop :=
      u.pont.hard = true ∧ u.pont.faulted = true ∧ u.pont.gate = false ∧ u.boot.inReset = false
    let reset (c : Instr) : Prop := (∃ x y, c = .perstPort0 x y) ∨ c = .perstPort0Assert ∨ (∃ x, c = .powerOn x) ∨
      ∃ b, c = .supplyOutOfRange b
    Answers .trngHealthFail s (fun u => u.sec = { s.sec with trngFail := true } ∧
      ((s.station stSec).fc.seen.getLsbD stSec = false →
        Pkt.fault stSec 0x0D (u.sec.detect.setWidth 40) ∈ Tab.get (u.station stSec).thread.queues [] 0)) ∧
    Answers .lockstepMismatch s (fun u => s.boot.inReset = false → held u ∧ u.faultLow = true) ∧
    (s.boot.powered = true → f.pontilOk = false → Answers (.perstPort0 straps f) s fun u => held u ∧ u.faultLow = true) ∧
    ∀ t, step s = .next t → (∀ c ∈ s.pending.head?, ¬ reset c) →
      (s.sec.trngFail = true → t.sec.trngFail = true) ∧ (held s → held t ∧ t.faultLow = true)


/-! ### Security, the safe state and faults -/

/-- R477 to R480, R482 to R485 and R506. A TRANSITION takes its token into the island, and the transition it asks for
blows the new state, which takes effect at the next reset, and wipes the keys, if every check passes; SVN_COMMIT
raises the minimum SVN; COMMIT enrols a parison key and LOCK locks it; a tamper event wipes secure SRAM, is recorded
and counted; full scan wipes, disconnects the keys and enters the safe state in TEST and RETURNED, and is a tamper
event elsewhere. The model's own choice in it: notes/assumptions/45.md. -/
def Obligations.SecurityIsland : Prop :=
  ∀ (s : State) (r : Req) (t : Tenant) (ok : Bool) (d : Fin 4),
    let x := s.sec
    let res := s.checkToken x.token
    let target := tokenNat x.token 5 1
    let key (u : State) (t : Tenant) : ParKey := u.sec.keys[t.val]
    let wiped (u : State) : Prop := u.sec.token = [] ∧ ∀ t, (key u t).window = [] ∧ (key u t).enrolled = none ∧
      (key u t).locked = (key s t).locked
    let tampered (u : State) (d : Nat) : Prop := wiped u ∧ u.sec.detect = x.detect ||| (1#4 <<< d) ∧
      u.fuses.tamperCnt = cnt16 s.fuses.tamperCnt
    let reported (u : State) : Prop := (s.station stSec).fc.seen.getLsbD stSec = false →
      (u.station stSec).fc.seen.getLsbD stSec = true ∧ Pkt.fault stSec 0x0D (u.sec.detect.setWidth 40) ∈
        Tab.get (u.station stSec).thread.queues [] 0
    (s.recovery = true → x.busy = false → (r = .port 0 ∨ r = .smbus) → Answers (.transition r) s fun u =>
      u.sec = { x with busy := true, token := imageBytes s.boot.window 0 tokenLen } ∧ Replied u r 0) ∧
    (Served s r → Answers (.transition r) s fun u => u.sec = x ∧ Rejected u r) ∧
    (x.busy = true → Answers (.lifecycleTransitionEnd ok) s fun u =>
      u.sec.busy = false ∧ u.sec.token = [] ∧ u.fuses.lc = s.fuses.lc ∧
      u.sec.result = (if res ≠ 0 then res else if ok then 0 else 6) ∧
      if res = 0 ∧ ok = true then
        u.fuses.blown = target ∧ u.fuses.trans = s.fuses.trans + 1 ∧ (∀ t, key u t = {}) ∧ (target = 4 → u.fuses.seed = false) ∧
        (3 ≤ target → u.lehr.sets = Vector.replicate 16 {})
      else u.fuses = s.fuses ∧ u.sec.keys = x.keys ∧ u.lehr = s.lehr) ∧
    (Served s (.port 0) → s.boot.svn ≤ 64 → Answers (.svnCommit (.port 0)) s fun u =>
      u.fuses = { s.fuses with minSvn := max s.fuses.minSvn s.boot.svn } ∧ Replied u (.port 0) 0) ∧
    (Served s r → (r ≠ .port 0 ∨ 64 < s.boot.svn) → Answers (.svnCommit r) s fun u =>
      u.fuses = s.fuses ∧ Rejected u r) ∧
    (ServedFor s r t → (key s t).locked = false → s.isStopped t = true → Answers (.keyCommit r t) s fun u =>
      key u t = { key s t with enrolled := some (imageBytes (key s t).window 0 1312) } ∧ Replied u r 0) ∧
    (ServedFor s r t → Answers (.keyLock r t) s fun u => key u t = { key s t with locked := true } ∧ Replied u r 0) ∧
    Answers (.tamperEvent d) s (fun u => tampered u d.val ∧ reported u) ∧
    Answers .trngHealthFail s (fun u => u.sec = { x with trngFail := true } ∧ reported u) ∧
    Answers .fullScan s fun u =>
      if s.fuses.lc = 0 ∨ s.fuses.lc = 3 then
        wiped u ∧ u.sec.keysOff = true ∧ u.sec.scan = true ∧ u.pont.faulted = true ∧ u.pont.gate = false ∧
        (s.pont.faulted = false → u.pont.src = 9)
      else tampered u 3

/-- R490 to R494, R498, R502 and R503. The safe state closes the output gate, sets PSTOP of every tenant, stops what
runs and latches its first source; it is entered by a lockstep mismatch, a monitor, an expiry whose action asks for
it, the SPI timeout and a device fault. MGMT takes a fault into the summary; a FAULT packet stays in its slot until
MGMT and the tap have taken it and it has come back to its owner; a collector sends each key once until it is cleared.
The model's own choices in it: notes/assumptions/24.md, notes/assumptions/33.md and notes/assumptions/44.md. -/
def Obligations.SafeState : Prop :=
  ∀ (s : State) (t : Tenant) (p : Port) (m : Fin 7) (slot : Fin 44) (origin code : Nat) (detail : BitVec 40) (b : Bool)
    (r : Req) (st : Station),
    let x := s.pont
    let safe (u : State) (src detail : Nat) : Prop :=
      u.pont.faulted = true ∧ u.pont.gate = false ∧ u.mpIrq = s.mpIrq + 1 ∧
      (x.faulted = false → u.pont.src = src ∧ u.pont.detail = BitVec.ofNat 22 detail) ∧
      (x.faulted = true → u.pont.src = x.src ∧ u.pont.detail = x.detail) ∧
      ∀ t, (u.shear t).pstop = true ∧ ((s.tenant t).st = .running → (u.tenant t).st = .stopping)
    let acted (u : State) (a src : Nat) (t : Tenant) : Prop :=
      (a = 0 → u.mpIrq = s.mpIrq + 1 ∧ u.pont.faulted = x.faulted) ∧ (a = 1 → (u.shear t).pstop = true) ∧
      (2 ≤ a → safe u src t.val)
    let w := x.wd[t.val]
    let h := x.hb[p.val]
    let place := origin * 2 ^ 16 + code * 2 ^ 8
    let pkt (mgmt tap : Bool) : Option SlotPkt := some ⟨.fault origin code detail, mgmt, tap, none, false⟩
    let seen (u : State) : BitVec 256 := (u.station st.val).fc.seen
    Answers .lockstepMismatch s (fun u => safe u 1 0 ∧ u.pont.hard = true) ∧
    Answers (.monitorTrip m) s (fun u => safe u 2 m.val ∧ u.pont.mon = x.mon ||| (1#7 <<< m.val)) ∧
    ((s.shear t).state ≠ .stopped → (s.shear t).pstop = false → w.timeout ≠ 0 → w.armed = true →
      (w.dbgPause && s.debugHalted t) = false → s.timersQuiet = true → Answers (.tickLivenessExpiry t) s fun u =>
        acted u w.act 4 t ∧ u.pont.expired.getLsbD t.val = true ∧ u.now = max s.now (w.since + 250 * w.timeout)) ∧
    (h.en = true → h.armed = true → s.timersQuiet = true → Answers (.heartbeatExpiry p) s fun u =>
      acted u h.act 5 p ∧ u.pont.expired.getLsbD p.val = true ∧ u.now = max s.now (h.since + 25000 * h.timeout)) ∧
    (x.gate = true → x.spiTimeout ≠ 0 → s.timersQuiet = true → Answers .spiTimeout s fun u =>
      safe u 7 0 ∧ u.now = max s.now (x.lastGood + 250000 * x.spiTimeout)) ∧
    (s.slotPkt slot.val = pkt b false →
      (faultClass code = 0 → Answers (.faultAtTap slot) s fun u =>
        safe u 3 place ∧ u.slotPkt slot.val = pkt b true) ∧
      (faultClass code = 1 → x.actP = 1 → s.originTenant origin = some t → Answers (.faultAtTap slot) s fun u =>
        (u.shear t).pstop = true ∧ u.pont.faulted = x.faulted) ∧
      (faultClass code = 2 → 2 ≤ x.actC → Answers (.faultAtTap slot) s fun u => safe u 8 place) ∧
      (faultClass code = 3 → x.actW = 0 → Answers (.faultAtTap slot) s fun u =>
        u.mpIrq = s.mpIrq + 1 ∧ u.pont = x)) ∧
    (s.slotPkt slot.val = pkt false b → origin < 64 → Answers (.fault slot) s fun u =>
      u.slotPkt slot.val = pkt true b ∧
      u.fa.first = some (s.fa.first.getD (slot.val, origin, code, detail)) ∧ u.fa.seen.getLsbD origin = true ∧
      (code = 1 → s.originTenant origin = some t →
        ∃ d, (u.port t).recs = (s.port t).recs ++ [.note 1 d])) ∧
    (s.slotPkt slot.val = pkt true true → slot.val < 40 → (s.station slot.val).thread.again = [] →
      (∀ c, c < 5 → Tab.get (s.station slot.val).thread.queues [] c = []) →
      Answers (.threadPlace slot) s fun u => u.slotPkt slot.val = none) ∧
    (Served s .mp →
      Answers (.clearPcw .mp st) s (fun u => Replied u .mp 0 ∧
        ∀ i, i < 256 → (seen u).getLsbD i = ((seen s).getLsbD i && decide (i < 64))) ∧
      Answers (.faClear .mp) s fun u => u.fa = {} ∧ Replied u .mp 0) ∧
    (Served s (.port p) → st.val = stHost → Answers (.clearPcw (.port p) st) s fun u =>
      seen u = seen s ∧ Rejected u (.port p))

/-- R494 to R497. A frame of the safety SPI whose CRC passes is performed; the response to it is shifted out with the
next frame. One whose CRC fails, or of a wrong length, is counted and not performed. OPEN needs the self-check,
readiness, no fault and a timeout; PRESUME is refused while Faulted. The model's own choice in it:
notes/assumptions/47.md. -/
def Obligations.SafetySpi : Prop :=
  ∀ (s : State) (f : BitVec 64),
    let x := s.pont
    let good (cmd : Nat) : Prop := spiCrcOk f = true ∧ spiCmd f = cmd
    let out : BitVec 64 := if x.respValid then x.resp else s.spiResponse 4 0 0
    let answered (u : State) (status : Nat) (data : Word) : Prop := u.pont.miso = out ∧ u.pont.respValid = true ∧
      u.pont.resp = u.spiResponse status (spiCmd f) data
    let still (u : State) : Prop := u.pont.gate = x.gate ∧ u.pont.faulted = x.faulted ∧ u.tenants = s.tenants ∧ u.sh = s.sh
    let d := spiData f
    (good 0x01 → Answers (.spiRead f) s fun u =>
      answered u 0 (BitVec.ofNat 32 (s.pontGet (4 * spiAddr f))) ∧ still u ∧ u.pont.lastGood = s.now) ∧
    (good 0x02 → 4 * spiAddr f = 0x014 → d.toNat < 256 → Answers (.spiWrite f) s fun u =>
      answered u 0 0 ∧ still u ∧ u.pont.spiTimeout = d.toNat) ∧
    (good 0x02 → 4 * spiAddr f = 0x010 → d.toNat < 64 → d.toNat % 4 ≠ 3 → d.toNat / 4 % 4 ≠ 3 → d.toNat / 16 ≠ 3 →
      Answers (.spiWrite f) s fun u => answered u 0 0 ∧ still u ∧
        u.pont.actP = d.toNat % 4 ∧ u.pont.actC = d.toNat / 4 % 4 ∧ u.pont.actW = d.toNat / 16) ∧
    (good 0x03 → Answers (.spiNop f) s fun u => answered u 0 0 ∧ still u) ∧
    (good 0x10 → d = 0xA55A → Answers (.spiOpen f) s fun u =>
      if x.selfOk && s.boot.ready && !x.faulted && decide (x.spiTimeout ≠ 0) then answered u 0 0 ∧ u.pont.gate = true
      else answered u 3 0 ∧ still u) ∧
    (good 0x11 → Answers (.spiClose f) s fun u => answered u 0 0 ∧ u.pont.gate = false ∧ u.sh = s.sh) ∧
    (good 0x12 → Answers (.spiSafe f) s fun u =>
      answered u 0 0 ∧ u.pont.faulted = true ∧ u.pont.gate = false ∧ (x.faulted = false → u.pont.src = 6) ∧
      ∀ t, (u.shear t).pstop = true) ∧
    (good 0x13 → Answers (.spiPstop f) s fun u =>
      answered u 0 0 ∧ (u.shear (spiTenant f)).pstop = true ∧
      ∀ t, t ≠ spiTenant f → u.shear t = s.shear t) ∧
    (good 0x14 → Answers (.spiPresume f) s fun u =>
      if x.faulted then answered u 3 0 ∧ still u
      else answered u 0 0 ∧ u.shear (spiTenant f) = { s.shear (spiTenant f) with pstop := false }) ∧
    (spiCrcOk f = false →
      ∀ i ∈ [Instr.spiRead f, .spiWrite f, .spiNop f, .spiOpen f, .spiClose f, .spiSafe f, .spiPstop f, .spiPresume f],
        Answers i s fun u => answered u 1 0 ∧ still u ∧ u.pont.errCrc = cnt16 x.errCrc ∧ u.pont.lastGood = x.lastGood) ∧
    Answers .spiWrongLengthFrame s fun u => u.pont = { x with errLen := cnt16 x.errLen } ∧ still u

/-! ### Debug, SMBus, resets and registers -/

/-- R86 to R88, R99 and R100. HALT halts an engine between instructions, RESUME lets it go on, STEP executes the
instruction at its pc as that instruction's own command would and halts again once it completes, HALT_AT_EDGE waits
for the edge, and CORE_DBG_DATA writes the register that CORE_DBG_SEL selects. All are ignored while debug is not
enabled. The model's own choice in it: notes/assumptions/46.md. -/
def Obligations.DebugAccess : Prop :=
  ∀ (s : State) (r : Req) (c : CoreId) (v : Word) (i : Instr), Served s r →
    (r = .mp ∨ ∃ p, r = .port p ∧ s.tenantOf c.cl.val = some p ∧ (s.tenant p).st ≠ .loading) → s.noCore c = false →
    let k := c.key
    let s0 := s.carried r c.cl.val
    let e := (s.core k).e
    let d := e.dbg
    let replied (t : State) : State := { t with replies := Tab.put t.replies none r.key (some (true, 0)) }
    let now (e' : NEngine) (u : State) : Prop := EngineIs (replied s0) u k e'
    let ignored (u : State) : Prop := u = replied s0
    let dbg (d' : Debug) : State → Prop := now { e with dbg := d' }
    let regs (r' : Regs) : State → Prop := now { e with regs := r' }
    let running : Prop := e.st = .tick ∨ e.st = .update ∨ e.st = .epoch ∨ e.st = .message
    let sel := d.sel.toNat
    let stepping : State := s0.modE k fun e => { e with dbg := { e.dbg with stepping := true } }
    (s.debugEnabled = false →
      ∀ a ∈ [Instr.dbgHalt r c, .haltAtEdge r c, .dbgStep r c, .dbgResume r c, .dbgDataWrite r c v],
        Answers a s ignored) ∧
    (s.debugEnabled = true →
      (d.halted = false → e.stall = none → (s.core k).mrv.working = false →
        Answers (.dbgHalt r c) s (dbg { d with halted := true, reason := 0, haltReq := false })) ∧
      (d.halted = false → (e.stall ≠ none ∨ (s.core k).mrv.working = true) →
        Answers (.dbgHalt r c) s (dbg { d with haltReq := true })) ∧
      Answers (.haltAtEdge r c) s (dbg { d with haltAtEdge := true }) ∧
      (d.halted = true → e.st ≠ .faulted → (e.st ≠ .idle ∨ e.fl.edgeDue = false) →
        Answers (.dbgResume r c) s (dbg { d with halted := false, stepping := false, bpPassed := e.st.runs })) ∧
      ((d.halted = false ∨ e.st = .faulted) →
        Answers (.dbgResume r c) s ignored ∧ Answers (.dbgStep r c) s ignored) ∧
      (d.halted = true → d.stepping = false → running → decodeWord c (s.fetch k) = some i →
        Answers (.dbgStep r c) s fun u => Answers i stepping fun t => u = replied t) ∧
      (d.halted = true → d.stepping = false → running → decodeWord c (s.fetch k) = some (.iNop c) →
        s.ueAt (progAddr k e.regs.pc.toNat) = false → e.loop.on = false → Answers (.dbgStep r c) s
          (now { e with
            stall := none
            waits := none
            emitAt := 0
            regs := { e.regs with pc := e.regs.pc + 1 }
            dbg := { d with halted := true, reason := 3, stepping := false, haltReq := false, bpPassed := false } })) ∧
      (d.halted = true →
        (∀ n : GReg, sel = n.val → Answers (.dbgDataWrite r c v) s (regs (e.regs.putG n v))) ∧
        (∀ (n : VReg) (l : Fin 16), sel = 0x10 + 16 * n.val + l.val →
          Answers (.dbgDataWrite r c v) s (regs (e.regs.putV n ((e.regs.v[n.val]).set l.val v)))) ∧
        (∀ n : MReg, sel = 0x90 + n.val →
          Answers (.dbgDataWrite r c v) s (regs (e.regs.putM n (v.setWidth 16)))) ∧
        (sel = 0xAA → Answers (.dbgDataWrite r c v) s (regs { e.regs with lc := v })) ∧
        (sel = 0xAB → Answers (.dbgDataWrite r c v) s (regs { e.regs with lr := v })) ∧
        (sel = 0xB0 → Answers (.dbgDataWrite r c v) s (regs { e.regs with pc := v.setWidth 12 })) ∧
        (0xB0 < sel → Answers (.dbgDataWrite r c v) s ignored)) ∧
      (d.halted = false → Answers (.dbgDataWrite r c v) s ignored))

/-- R525. The SMBus target sets its pointer to a multiple of 4, returns the word at the pointer and advances it, and
writes words into the image window while it is open; what it refuses is NACKed and has no effect. The Alert Response
Address releases SMB_ALERT_N. The model's own choice in it: notes/assumptions/47.md. -/
def Obligations.SmbusTarget : Prop :=
  ∀ (s : State) (v : Word) (ws : List Word) (o : Nat) (f : BootFindings), s.boot.powered = true →
    let x := s.smb
    let a := x.pointer.toNat
    let smb (x' : Smb) (u : State) : Prop := u = { s with smb := x' }
    let nack : State → Prop := smb { x with acked := false }
    let read (w : Nat) : Prop :=
      Answers .smbReadWord s (smb { x with data := BitVec.ofNat 32 w, pointer := x.pointer + 4, acked := true })
    let fits : Prop := ws ≠ [] ∧ ws.length ≤ 8
    Answers (.smbSetPointer v true) s
      (if v.toNat % 4 = 0 then smb { x with pointer := v, acked := true } else nack) ∧
    Answers (.smbSetPointer v false) s nack ∧
    (a < 0x200 → s.boot.inReset = false → read (s.bootRead a)) ∧
    (a = 0x1000 → read (s.fuses.trans % 256 * 2 ^ 16 + b2n s.sec.scan * 512 + b2n s.fuses.dbgOk * 256 + s.fuses.lc)) ∧
    (a = 0x1008 → read (b2n s.sec.busy * 2 ^ 31 + s.sec.result)) ∧
    (a = 0x1100 → read (s.pontGet 4)) ∧
    ((0x200 ≤ a ∧ a < 0x1000 ∨ 0x100C ≤ a ∧ a ≠ 0x1100) → read 0) ∧
    (fits → s.windowOpen 0 = true → a = 0x01000000 + o → o + 4 * ws.length ≤ 0x200000 →
      Answers (.smbWriteWords ws true f) s fun u =>
        u = { s with
          smb := { x with pointer := x.pointer + BitVec.ofNat 32 (4 * ws.length), acked := true }
          boot := { s.boot with window := u.boot.window } } ∧
        ∀ j, Tab.get u.boot.window 0 j =
          if o ≤ j ∧ j < o + 4 * ws.length then ((ws.getD ((j - o) / 4) 0) >>> (8 * ((j - o) % 4))).setWidth 8
          else Tab.get s.boot.window 0 j) ∧
    (fits → (a < 0x01000000 ∧ a ≠ 0x008 ∧ a ≠ 0x1004 ∨ 0x01200000 ≤ a ∨ 0x01000000 ≤ a ∧ s.windowOpen 0 = false) →
      Answers (.smbWriteWords ws true f) s nack) ∧
    (¬fits → Answers (.smbWriteWords ws true f) s nack) ∧
    Answers (.smbWriteWords ws false f) s nack ∧
    Answers .smbAlertResponse s (smb { x with alert := false })

/-- R306, R452, R458 to R461 and R515. PERST# of port 0 resets the whole device, but for what is not volatile, latches
the straps and boots it: it is ready when every step passes and fails with the cause of the step that does not. The
module holds itself in reset while a supply is out of range. In host push GO verifies the image of the window and
boots from it; in recovery NOR_WRITE copies a valid image to its slot. The model's own choices in it:
notes/assumptions/7.md, notes/assumptions/19.md, notes/assumptions/43.md, notes/assumptions/58.md and
notes/assumptions/66.md. -/
def Obligations.ResetAndBoot : Prop :=
  ∀ (s : State) (straps : Straps) (n : Nat) (f : BootFindings) (vin slotB : Bool) (r : Req),
    let kept (u : State) : Prop := u.nor = s.nor ∧ u.hostMem = s.hostMem ∧ u.pending = s.pending ∧
      u.fuses = { s.fuses with lc := s.fuses.blown } ∧ (∃ torn, u.lehr = s.lehr.lose torn) ∧ u.lehr.ready = false ∧
      u.lehr.jobs = [] ∧ u.lehr.sets = s.lehr.sets
    let cleared (u : State) : Prop := (∀ k, u.core k = {}) ∧ (∀ k, u.cluster k = {}) ∧ u.mem = [] ∧ u.flight = [] ∧
      u.sync = [] ∧ (∀ t, u.tenant t = {} ∧ u.shear t = {}) ∧ (∀ p, (u.port p).cmdEn = false ∧ (u.port p).evEn = false) ∧
      u.timers = Vector.replicate 16 {} ∧ u.dma = {} ∧ u.aon = {} ∧ u.pont.gate = false
    let reset (u : State) : Prop := kept u ∧ cleared u ∧ u.straps = straps
    let held (u : State) : Prop := kept u ∧ cleared u ∧ u.boot.inReset = true ∧ u.boot.ready = false
    let v := s.deviceReset straps
    let repairable : Prop := ∀ c, c < 32 → s.grade.perCluster ≤ (s.goodCores [] c).length
    let ready (u : State) (slot : Nat) (i : FwInfo) : Prop :=
      u.boot.ready = true ∧ u.boot.fail = false ∧ u.boot.stage = 10 ∧ u.boot.cause = 0 ∧ u.boot.slot = slot ∧
      u.boot.fw = i.version ∧ u.boot.svn = i.svn ∧ u.boot.time = min 65535 n ∧ u.smb.alert = true ∧
      u.now = s.now + 250000 * n ∧ ∀ p, u.configured p = true → (u.port p).linkUp = true
    let failed (u : State) (stage cause : Nat) : Prop := u.boot.ready = false ∧ u.boot.fail = true ∧
      u.boot.stage = stage ∧ u.boot.cause = cause ∧ u.smb.alert = true
    let sender : Prop := r = .port 0 ∨ r = .smbus
    (s.boot.powered = true →
      (Answers (.perstPort0 straps f) s fun u => kept u ∧ u.straps = straps ∧ u.starts = s.starts + 1) ∧
      (straps.boot = 0 → straps.mem = s.grade.clamshell → repairable →
        Answers (.perstPort0 straps { ms := n }) s fun u =>
          u.pont.selfOk = true ∧ match v.pickSlot with
            | .inl (slot, i) => reset u ∧ ready u slot i
            | .inr cause => failed u 2 cause) ∧
      (f.pontilOk = false → Answers (.perstPort0 straps f) s fun u =>
        failed u 1 0x0D ∧ u.pont.faulted = true ∧ u.pont.gate = false ∧ u.pont.src = 1) ∧
      (f.pontilOk = true → straps.boot ≠ 0 → Answers (.perstPort0 straps f) s fun u =>
        reset u ∧ u.boot.ready = false ∧ u.boot.fail = false ∧ u.boot.cause = if straps.boot = 1 then 0 else 0x0C)) ∧
    (s.boot.powered = false → Answers (.perstPort0 straps f) s fun u => u = s) ∧
    Answers .perstPort0Assert s (fun u => held u ∧ u.straps = s.straps ∧ u.boot.powered = s.boot.powered) ∧
    Answers (.powerOn straps) s (fun u => held u ∧ u.straps = straps ∧ u.boot.powered = true) ∧
    Answers (.supplyOutOfRange vin) s (fun u => held u ∧ u.boot.powered = false) ∧
    (s.hostPush = true → s.boot.fail = false → s.pont.selfOk = true → sender → s.straps.mem = s.grade.clamshell →
      repairable → Answers (.bootGo r { ms := n }) s fun u => Replied u r 0 ∧
        match s.checkImage s.boot.window with
        | .ok i => ready u 2 i
        | .oldSvn => failed u 2 3
        | .bad => failed u 2 2) ∧
    (s.recovery = true → sender → Answers (.norWrite r slotB) s fun u => Replied u r 0 ∧
      u.nor[b2n (!slotB)]? = s.nor[b2n (!slotB)]? ∧
      match s.checkImage s.boot.window with
      | .ok _ => u.nor[b2n slotB]? = some (some s.boot.window)
      | _ => u.nor = s.nor ∧ u.boot.cause = 2) ∧
    (s.hostPush = false → s.recovery = false → s.boot.inReset = false → sender →
      Answers (.bootGo r f) s fun u => u.boot = s.boot ∧ u.nor = s.nor ∧ Rejected u r)

/-- R306. An FLR of a port stops its tenant as STOP does, without a completion, and resets the port's page, its MSI-X
table and its injection queues; its DMA channels, ports and timers are released, and other ports are as they were.
PERST# of ports 1 to 3 and the loss of a link act as an FLR. The model's own choices in it: notes/assumptions/22.md,
notes/assumptions/61.md and notes/assumptions/64.md. -/
def Obligations.PortResets : Prop :=
  ∀ (s : State) (p : Port), s.boot.ready = true → s.configured p = true →
    let x := s.port p
    let c := x.cfg
    let flr (u : State) (up : Bool) : Prop :=
      u.port p = { ({} : PortSt) with
        linkUp := up && x.linkUp
        width := if up then x.width else 0
        rate := if up then x.rate else 0
        sleep := x.sleep
        former := x.former
        irqs := (u.port p).irqs
        readout := x.readout
        bar2 := x.bar2
        fetchAt := x.fetchAt
        cpl := x.cpl
        cfg := ⟨false, false, false, c.payload, 2, true, c.noSpeed, c.noWidth, 8, c.aerUnc, c.aerCor⟩ } ∧
      (∀ q, q ≠ p → u.port q = s.port q ∧ u.tenant q = s.tenant q) ∧
      Tab.get u.inj [] (2 * p.val) = [] ∧ Tab.get u.inj [] (2 * p.val + 1) = [] ∧
      ((s.tenant p).st = .running → (u.tenant p).st = .stopping ∧
        (u.tenant p).stop = some ⟨false, s.now + 250000, false⟩ ∧ (u.shear p).stopping = true) ∧
      ((s.tenant p).st = .stopped ∨ (s.tenant p).st = .unloaded → (u.tenant p).st = (s.tenant p).st) ∧
      ((s.tenant p).st = .loading → (u.tenant p).st = .unloaded) ∧
      (∀ k, k < 176 → u.owner k = if s.owner k = some p.val then none else s.owner k) ∧
      (∀ n : Fin 16, u.timers[n.val] = if (s.timers[n.val]).owner = some p.val then {} else s.timers[n.val]) ∧
      (∀ n, (s.dmaCh n).owner = p →
        u.dmaCh n = { nextId := (s.dmaCh n).nextId } ∨ ((u.dmaCh n).st = .aborting ∧ (u.dmaCh n).releaseAfter = true) ∨ (s.dmaCh n).st = .free) ∧
      (∀ n, (s.dmaCh n).owner ≠ p → u.dmaCh n = s.dmaCh n) ∧
      (∀ j ∈ u.lehr.jobs, j.who.port = p → j.who.silent = true) ∧
      (∀ j ∈ u.tests, j.who.port = p → j.who.silent = true) ∧ u.cores = s.cores ∧ u.mem = s.mem
    Answers (.flr p) s (fun u => flr u true) ∧
    (p ≠ 0 → Answers (.perstPort p) s fun u => flr u true) ∧
    Answers (.linkDown p) s fun u => flr u false

/-- R11, R32, R86, R90, R307, R309 and R328. A register access reaches the register its address names: a Pontil
register reads as it stands and ignores writes; a core's seed is written, and reads as zero. Another tenant's core
window reads as zero and discards writes. An access that meets an error response has no effect and, as a write of a
port, is recorded; one that meets a sleeping device is counted. A host's read ends with a completion status:
Successful Completion, Completer Abort for an error response, Unsupported Request in sleep. The model's own choices in
it: notes/assumptions/12.md, notes/assumptions/17.md, notes/assumptions/18.md and notes/assumptions/56.md. -/
def Obligations.RegisterAccess : Prop :=
  ∀ (s : State) (r : Req) (p t : Port) (c : CoreId) (a : BitVec 44) (o : Nat) (v : Word),
    let adr (n : Nat) : BitVec 44 := BitVec.ofNat 44 n
    let reach (r : Req) : Prop := s.noCore c = false ∧
      (r = .mp ∨ ∃ q, r = .port q ∧ s.tenantOf c.cl.val = some q ∧ (s.tenant q).st ≠ .loading)
    let rest (u s0 : State) : Prop := { u with replies := s0.replies, ports := s0.ports } = s0
    let written (r : Req) (st : Nat) (u : State) : Prop :=
      Replied u r 0 ∧ rest u (s.carried r st) ∧ u.ports = s.ports
    let read (r : Req) (st : Nat) (w : Word) (u : State) : Prop := Replied u r w ∧ rest u (s.carried r st) ∧
      ∀ q, u.port q = if r = .port q then { s.port q with cpl := 0 } else s.port q
    let seed := adr (coreReg c 0x008)
    (Served s r → o < 0x1000 → o % 4 = 0 →
      Answers (.regRd r (adr (regBase + 0x3000000 + o))) s (read r stMgmt (BitVec.ofNat 32 (s.pontGet o))) ∧
      Answers (.regWr r (adr (regBase + 0x3000000 + o)) v) s (written r stMgmt)) ∧
    (Served s r → reach r →
      Answers (.regRd r (adr (coreReg c 0x000))) s (read r c.cl.val (s.coreId c.key)) ∧
      Answers (.regWr r (adr (coreReg c 0x000)) v) s (written r c.cl.val) ∧
      (Answers (.regWr r seed v) s fun u => Replied u r 0 ∧ (u.core c.key).e.cr.seed = v ∧
        ∀ j, j ≠ c.key → u.core j = s.core j) ∧
      Answers (.regRd r seed) s (read r c.cl.val 0) ∧
      (Answers (.regRd r (adr (coreReg c 0x044))) s fun u => Replied u r (BitVec.ofNat 32 (s.core c.key).e.cr.emitCnt) ∧
        (u.core c.key).e.cr.emitCnt = 0)) ∧
    (Served s (.port p) → s.tenantOf c.cl.val = some t → p ≠ t →
      Answers (.regRd (.port p) seed) s (read (.port p) c.cl.val 0) ∧
      Answers (.regWr (.port p) seed v) s (written (.port p) c.cl.val)) ∧
    (Served s (.port p) → placeOf (.port p) a.toNat = .nowhere → regBase ≤ a.toNat → a.toNat < regBase + 0x4000000 →
      (Answers (.regRd (.port p) a) s fun u => Rejected u (.port p) ∧ rest u s ∧ (u.port p).cpl = 4 ∧
        ∀ q, q ≠ p → u.port q = s.port q) ∧
      (Answers (.regWr (.port p) a v) s fun u => Rejected u (.port p) ∧ u.cores = s.cores ∧ u.mem = s.mem ∧
        (u.port p).pwerr = true ∧ (u.port p).errLo = BitVec.ofNat 32 (a.toNat - regBase))) ∧
    (s.boot.inReset = false → s.boot.ready = true → s.configured p = true → (s.port p).cfg.d3 = false →
      s.asleep = true →
      let x := { s.port p with sleepReq := cnt16 (s.port p).sleepReq }
      (Answers (.regRd (.port p) seed) s fun u => Rejected u (.port p) ∧ rest u s ∧ u.port p = { x with cpl := 1 }) ∧
      (Answers (.regWr (.port p) seed v) s fun u => Rejected u (.port p) ∧ rest u s ∧ u.port p = x)) ∧
    (s.boot.inReset = true → Answers (.regRd r a) s fun u => Rejected u r ∧ rest u s)

/-! ### Steps, reset, encodings and invariants -/

/-- A step takes the command at the front of the queue and runs it on the state with the rest of the queue. With no
command waiting a step of the 4 ns timer clock passes: that is the model's choice (notes/assumptions/2.md). The
model's own choice in it: notes/assumptions/8.md. -/
def Obligations.StepRunsFront : Prop :=
  ∀ (s : State) (c : Instr) (rest : List Instr),
    step { s with pending := c :: rest } = exec c { s with pending := rest } ∧
    ∃ t, step { s with pending := [] } = .next t ∧ t.pending = []

/-- R2, R24, R93, R96, R261, R313, R337, R409, R416, R454, R491 and R505. What the rules give for reset: the tenant
map of straps that read 0, every core Stopped, every tenant Unloaded with its Shears stopped, memory rate, ring sizes,
timers and DMA channels free, the output gate closed, the device not ready; nothing waits in a queue. The model's own
choice in it: notes/assumptions/5.md. -/
def Obligations.ResetValues : Prop :=
  let s := State.reset
  (∀ c, c < 32 → s.tenantOf c = some 0) ∧ (∀ b, b < 16 → s.syncOwnerOf (512 * b) = some 0) ∧
  (∀ k, (s.core k).e.st = .stopped ∧ (s.core k).e.cr.entUpdate.en = false ∧ (s.core k).e.dbg.halted = false) ∧
  (∀ t, (s.tenant t).st = .unloaded ∧ (s.shear t).state = .stopped ∧ (s.shear t).period = 250 ∧
    (s.shear t).epochLen = 0 ∧ (s.shear t).pstop = false) ∧
  (∀ p, (s.port p).cmdEn = false ∧ (s.port p).cmdSize = 4 ∧ (s.port p).evEn = false ∧ (s.port p).evSize = 9 ∧
    (s.port p).evMaxn = 256 ∧ (s.port p).fetched = [] ∧ (s.port p).recs = []) ∧
  s.memRate = 3 ∧ s.memDbi = true ∧ s.memEcc = false ∧ s.shr = 0 ∧
  (∀ n : Fin 16, (s.timers[n.val]).owner = none ∧ (s.dmaCh n).st = .free) ∧ (∀ k, s.owner k = none) ∧
  s.pont.gate = false ∧ s.pont.faulted = false ∧ s.boot.ready = false ∧ s.boot.fail = false ∧ s.boot.slot = 3 ∧
  s.aon.st = 0 ∧ s.mem = [] ∧ Tab.wf s.mem 0 = true ∧ s.flight = [] ∧ s.pending = []

/-- R105 to R111 and R118. Decoding the word of a well-formed Mladza instruction gives that instruction, with every
operand at every value its encoding admits. -/
def Obligations.DecodeEncode : Prop :=
  ∀ (i : Instr) (c : CoreId) (w : Word), i.wellFormed = true → coreOf i = some c → encodeWord i = some w →
    decodeWord c w = some i

/-- Every step keeps the memory in its canonical form: addresses rise strictly and no listed byte is 0. The form is
the model's own (notes/assumptions/5.md). -/
def Obligations.MemoryStaysCanonical : Prop :=
  ∀ s t, Tab.wf s.mem 0 = true → step s = .next t → Tab.wf t.mem 0 = true

/-- R496, R497 and R498. The output gate is never open while the device is Faulted: every step keeps it so. The
model's own choice in it: notes/assumptions/24.md. -/
def Obligations.GateClosedWhileFaulted : Prop :=
  ∀ s t, (s.pont.faulted = true → s.pont.gate = false) → step s = .next t →
    (t.pont.faulted = true → t.pont.gate = false)
end

