-- ==== Sys2Proof/Laws/Tab.lean ====
section
/-!
SUPPORT. Sparse tables: reading after writing, and the canonical form.
-/

namespace Sys2Proof

variable {V : Type}

@[simp] theorem Tab.get_erase_self (t : Tab V) (d : V) (k : Nat) : Tab.get (Tab.erase t k) d k = d := by
  induction t with
  | nil => rfl
  | cons e r ih =>
    obtain ⟨j, v⟩ := e
    by_cases h : j = k <;> simp [Tab.erase, Tab.get, h, ih]

theorem Tab.get_erase_of_ne (t : Tab V) (d : V) {j k : Nat} (h : j ≠ k) :
    Tab.get (Tab.erase t k) d j = Tab.get t d j := by
  induction t with
  | nil => rfl
  | cons e r ih =>
    obtain ⟨i, v⟩ := e
    by_cases hk : i = k
    · subst hk
      simp [Tab.erase, Tab.get, ih, Ne.symm h]
    · by_cases hj : i = j
      · subst hj
        simp [Tab.erase, Tab.get, hk]
      · simp [Tab.erase, Tab.get, hk, hj, ih]

theorem Tab.get_insert_of_ne (t : Tab V) (d v : V) {j k : Nat} (h : j ≠ k) :
    Tab.get (Tab.insert t k v) d j = Tab.get t d j := by
  induction t with
  | nil => simp [Tab.insert, Tab.get, Ne.symm h]
  | cons e r ih =>
    obtain ⟨i, w⟩ := e
    by_cases hk : k < i
    · simp [Tab.insert, Tab.get, hk, Ne.symm h]
    · by_cases hj : i = j
      · subst hj
        simp [Tab.insert, Tab.get, hk]
      · simp [Tab.insert, Tab.get, hk, hj, ih]

theorem Tab.get_insert_erase (t : Tab V) (d v : V) (k : Nat) :
    Tab.get (Tab.insert (Tab.erase t k) k v) d k = v := by
  induction t with
  | nil => simp [Tab.erase, Tab.insert, Tab.get]
  | cons e r ih =>
    obtain ⟨i, w⟩ := e
    by_cases hi : i = k
    · simpa [Tab.erase, hi] using ih
    · by_cases hk : k < i <;> simp [Tab.erase, Tab.insert, Tab.get, hi, hk, ih]

/-! ### The canonical form -/

theorem Tab.rising_mono {t : Tab V} {a : Option Nat} {b : Nat} (h : Tab.rising (some b) t = true)
    (hab : ∀ x, a = some x → x ≤ b) : Tab.rising a t = true := by
  cases t with
  | nil => rfl
  | cons e r =>
    obtain ⟨k, v⟩ := e
    simp only [Tab.rising, Bool.and_eq_true, decide_eq_true_eq] at h ⊢
    refine ⟨?_, h.2⟩
    cases a with
    | none => rfl
    | some x => simpa using Nat.lt_of_le_of_lt (hab x rfl) h.1

theorem Tab.rising_erase {t : Tab V} {a : Option Nat} (k : Nat) (h : Tab.rising a t = true) :
    Tab.rising a (Tab.erase t k) = true := by
  induction t generalizing a with
  | nil => rfl
  | cons e r ih =>
    obtain ⟨j, v⟩ := e
    simp only [Tab.rising, Bool.and_eq_true] at h
    by_cases hj : j = k
    · simp only [Tab.erase, hj, if_true]
      refine ih (Tab.rising_mono h.2 ?_)
      intro x hx
      subst hx
      have := h.1
      simp only [decide_eq_true_eq] at this
      omega
    · simp only [Tab.erase, hj, if_false, Tab.rising, Bool.and_eq_true]
      exact ⟨h.1, ih h.2⟩

theorem Tab.rising_insert {t : Tab V} {a : Option Nat} (k : Nat) (v : V) (ha : ∀ x, a = some x → x < k)
    (hk : ∀ e ∈ t, e.1 ≠ k) (h : Tab.rising a t = true) : Tab.rising a (Tab.insert t k v) = true := by
  induction t generalizing a with
  | nil =>
    cases a with
    | none => rfl
    | some x => simp [Tab.insert, Tab.rising, ha x rfl]
  | cons e r ih =>
    obtain ⟨j, w⟩ := e
    simp only [Tab.rising, Bool.and_eq_true] at h
    by_cases hj : k < j
    · simp only [Tab.insert, hj, if_true, Tab.rising, Bool.and_eq_true, decide_eq_true_eq]
      refine ⟨?_, trivial, h.2⟩
      cases a with
      | none => rfl
      | some x => simpa using ha x rfl
    · have hne := hk (j, w) (by simp)
      simp only [Tab.insert, hj, if_false, Tab.rising, Bool.and_eq_true]
      refine ⟨h.1, ih ?_ (fun e he => hk e (by simp [he])) h.2⟩
      intro x hx
      cases hx
      simp only [ne_eq] at hne
      omega

theorem Tab.mem_erase_ne {t : Tab V} {k : Nat} : ∀ e ∈ Tab.erase t k, e.1 ≠ k := by
  induction t with
  | nil => simp [Tab.erase]
  | cons e r ih =>
    obtain ⟨j, v⟩ := e
    by_cases hj : j = k
    · simpa [Tab.erase, hj] using ih
    · intro e he
      simp only [Tab.erase, hj, if_false, List.mem_cons] at he
      rcases he with rfl | he
      · exact hj
      · exact ih e he

theorem Tab.mem_of_mem_erase {t : Tab V} {k : Nat} {e : Nat × V} (h : e ∈ Tab.erase t k) : e ∈ t := by
  induction t with
  | nil => simp [Tab.erase] at h
  | cons f r ih =>
    obtain ⟨j, v⟩ := f
    by_cases hj : j = k
    · simp only [Tab.erase, hj, if_true] at h
      exact List.mem_cons_of_mem _ (ih h)
    · simp only [Tab.erase, hj, if_false, List.mem_cons] at h
      rcases h with rfl | h
      · simp
      · exact List.mem_cons_of_mem _ (ih h)

theorem Tab.mem_insert {t : Tab V} {k : Nat} {v : V} {e : Nat × V} (h : e ∈ Tab.insert t k v) :
    e = (k, v) ∨ e ∈ t := by
  induction t with
  | nil => simpa [Tab.insert] using h
  | cons f r ih =>
    obtain ⟨j, w⟩ := f
    by_cases hj : k < j
    · simpa [Tab.insert, hj] using h
    · simp only [Tab.insert, hj, if_false, List.mem_cons] at h
      rcases h with rfl | h
      · simp
      · rcases ih h with h | h <;> simp [h]

variable [DecidableEq V]

/-- A read after a write of the same key gives what was written. -/
@[simp] theorem Tab.get_put_self (t : Tab V) (d v : V) (k : Nat) : Tab.get (Tab.put t d k v) d k = v := by
  unfold Tab.put
  split
  · simp_all
  · exact Tab.get_insert_erase t d v k

/-- A write leaves every other key alone. -/
theorem Tab.get_put_of_ne (t : Tab V) (d v : V) {j k : Nat} (h : j ≠ k) :
    Tab.get (Tab.put t d k v) d j = Tab.get t d j := by
  unfold Tab.put
  split
  · exact Tab.get_erase_of_ne t d h
  · rw [Tab.get_insert_of_ne _ _ _ h, Tab.get_erase_of_ne t d h]

theorem Tab.get_put (t : Tab V) (d v : V) (j k : Nat) :
    Tab.get (Tab.put t d k v) d j = if j = k then v else Tab.get t d j := by
  by_cases h : j = k
  · simp [h]
  · simp [h, Tab.get_put_of_ne t d v h]

/-- Writing keeps the canonical form. -/
theorem Tab.wf_put {t : Tab V} {d : V} (k : Nat) (v : V) (h : Tab.wf t d = true) :
    Tab.wf (Tab.put t d k v) d = true := by
  simp only [Tab.wf, Bool.and_eq_true, List.all_eq_true, decide_eq_true_eq] at h ⊢
  unfold Tab.put
  split
  · exact ⟨Tab.rising_erase k h.1, fun e he => h.2 e (Tab.mem_of_mem_erase he)⟩
  · rename_i hv
    refine ⟨Tab.rising_insert k v (by simp) Tab.mem_erase_ne (Tab.rising_erase k h.1), ?_⟩
    intro e he
    rcases Tab.mem_insert he with rfl | he
    · exact hv
    · exact h.2 e (Tab.mem_of_mem_erase he)

theorem Tab.wf_nil (d : V) : Tab.wf ([] : Tab V) d = true := rfl

end Sys2Proof
end

