-- ==== Sys2Proof/Laws/Ops.lean ====
section
/-!
SUPPORT. Reading a table of the state after it has been written, and what writing a byte of memory keeps.
-/

namespace Sys2Proof.Machine

@[simp] theorem core_setCore_self (s : State) (k : Nat) (c : Core) : (s.setCore k c).core k = c := by
  simp [State.setCore, State.core]
theorem core_setCore_of_ne (s : State) {j k : Nat} (c : Core) (h : j ≠ k) : (s.setCore k c).core j = s.core j := by
  simp [State.setCore, State.core, Tab.get_put_of_ne _ _ _ h]
@[simp] theorem core_modCore_self (s : State) (k : Nat) (f : Core → Core) : (s.modCore k f).core k = f (s.core k) := by
  simp [State.modCore]
theorem core_modCore_of_ne (s : State) {j k : Nat} (f : Core → Core) (h : j ≠ k) :
    (s.modCore k f).core j = s.core j := core_setCore_of_ne s _ h
@[simp] theorem core_modE_self (s : State) (k : Nat) (f : NEngine → NEngine) :
    (s.modE k f).core k = { s.core k with e := f (s.core k).e } := by simp [State.modE]
theorem core_modE_of_ne (s : State) {j k : Nat} (f : NEngine → NEngine) (h : j ≠ k) :
    (s.modE k f).core j = s.core j := core_modCore_of_ne s _ h
@[simp] theorem core_modI_self (s : State) (k : Nat) (f : Integ → Integ) :
    (s.modI k f).core k = { s.core k with i := f (s.core k).i } := by simp [State.modI]
theorem core_modI_of_ne (s : State) {j k : Nat} (f : Integ → Integ) (h : j ≠ k) :
    (s.modI k f).core j = s.core j := core_modCore_of_ne s _ h

@[simp] theorem station_setStation_self (s : State) (n : Nat) (x : StationSt) : (s.setStation n x).station n = x := by
  simp [State.setStation, State.station]
theorem station_setStation_of_ne (s : State) {m n : Nat} (x : StationSt) (h : m ≠ n) :
    (s.setStation n x).station m = s.station m := by
  simp [State.setStation, State.station, Tab.get_put_of_ne _ _ _ h]
@[simp] theorem station_modStation_self (s : State) (n : Nat) (f : StationSt → StationSt) :
    (s.modStation n f).station n = f (s.station n) := by simp [State.modStation]
theorem station_modStation_of_ne (s : State) {m n : Nat} (f : StationSt → StationSt) (h : m ≠ n) :
    (s.modStation n f).station m = s.station m := station_setStation_of_ne s _ h

@[simp] theorem cluster_setCluster_self (s : State) (n : Nat) (x : ClusterSt) : (s.setCluster n x).cluster n = x := by
  simp [State.setCluster, State.cluster]
theorem cluster_setCluster_of_ne (s : State) {m n : Nat} (x : ClusterSt) (h : m ≠ n) :
    (s.setCluster n x).cluster m = s.cluster m := by
  simp [State.setCluster, State.cluster, Tab.get_put_of_ne _ _ _ h]
@[simp] theorem cluster_modCluster_self (s : State) (n : Nat) (f : ClusterSt → ClusterSt) :
    (s.modCluster n f).cluster n = f (s.cluster n) := by simp [State.modCluster]

@[simp] theorem shear_modShear_self (s : State) (t : Tenant) (f : Shears → Shears) :
    (s.modShear t f).shear t = f (s.shear t) := by simp [State.modShear, State.shear]
theorem shear_modShear_of_ne (s : State) {t u : Tenant} (f : Shears → Shears) (h : u ≠ t) :
    (s.modShear t f).shear u = s.shear u := by
  have : t.val ≠ u.val := fun e => h (Fin.ext e.symm)
  simp [State.modShear, State.shear, Vector.getElem_set_ne, this]
@[simp] theorem port_modPort_self (s : State) (p : Port) (f : PortSt → PortSt) :
    (s.modPort p f).port p = f (s.port p) := by simp [State.modPort, State.port]
theorem port_modPort_of_ne (s : State) {p q : Port} (f : PortSt → PortSt) (h : q ≠ p) :
    (s.modPort p f).port q = s.port q := by
  have : p.val ≠ q.val := fun e => h (Fin.ext e.symm)
  simp [State.modPort, State.port, Vector.getElem_set_ne, this]
@[simp] theorem tenant_modTenant_self (s : State) (t : Tenant) (f : TenantSt → TenantSt) :
    (s.modTenant t f).tenant t = f (s.tenant t) := by simp [State.modTenant, State.tenant]
theorem tenant_modTenant_of_ne (s : State) {t u : Tenant} (f : TenantSt → TenantSt) (h : u ≠ t) :
    (s.modTenant t f).tenant u = s.tenant u := by
  have : t.val ≠ u.val := fun e => h (Fin.ext e.symm)
  simp [State.modTenant, State.tenant, Vector.getElem_set_ne, this]

/-! ### Memory -/

/-- The memory is in canonical form: addresses strictly rising and no zero byte listed. -/
theorem mem_writeByte_wf (s : State) (a : Nat) (b : Byte) (h : Tab.wf s.mem 0 = true) :
    Tab.wf (s.writeByte a b).mem 0 = true := by
  unfold State.writeByte
  split
  · exact h
  · exact Tab.wf_put a _ h

theorem mem_writeBytes_wf (s : State) (a : Nat) (bs : List Byte) (h : Tab.wf s.mem 0 = true) :
    Tab.wf (s.writeBytes a bs).mem 0 = true := by
  induction bs generalizing s a with
  | nil => exact h
  | cons b bs ih => exact ih _ _ (mem_writeByte_wf s a b h)

theorem mem_writeWord_wf (s : State) (a : Nat) (w : Word) (h : Tab.wf s.mem 0 = true) :
    Tab.wf (s.writeWord a w).mem 0 = true := mem_writeBytes_wf s a _ h

theorem mem_writeDword_wf (s : State) (a : Nat) (w : BitVec 64) (h : Tab.wf s.mem 0 = true) :
    Tab.wf (s.writeDword a w).mem 0 = true := mem_writeBytes_wf s a _ h

theorem maskAt_writeByte (s : State) (a c : Nat) (b : Byte) : (s.writeByte a b).maskAt c = s.maskAt c := by
  unfold State.writeByte
  split <;> rfl

theorem rawByte_writeByte (s : State) (a c : Nat) (b : Byte) (h : (inAcView a && a % 4 == 3) = false) :
    (s.writeByte a b).rawByte c = if c = a then b else s.rawByte c := by
  have hm := maskAt_writeByte s a c b
  unfold State.rawByte
  rw [hm]
  simp only [State.writeByte, h, Bool.false_eq_true, if_false, Tab.get_put]
  split
  · rename_i e
    subst e
    rw [BitVec.xor_assoc, BitVec.xor_self, BitVec.xor_zero]
  · rfl

/-- A byte reads back as written, but for the top byte of an accumulator word (R30). -/
theorem readByte_writeByte_self (s : State) (a : Nat) (b : Byte) (h : (inAcView a && a % 4 == 3) = false) :
    (s.writeByte a b).readByte a = b := by
  simp [State.readByte, h, rawByte_writeByte]

/-- A write leaves every other byte outside its accumulator word alone. -/
theorem readByte_writeByte_of_ne (s : State) {a c : Nat} (b : Byte) (h : c ≠ a) (hac : inAcView c = false) :
    (s.writeByte a b).readByte c = s.readByte c := by
  unfold State.readByte
  simp only [hac, Bool.false_and, Bool.false_eq_true, if_false]
  by_cases ha : (inAcView a && a % 4 == 3) = true
  · simp [State.writeByte, ha]
  · rw [rawByte_writeByte s a c b (by simpa using ha), if_neg h]

end Sys2Proof.Machine
end

