-- ==== Sys2Proof/Laws/Access.lean ====
section
/-!
SUPPORT. What a register access of a requester that the device serves does: it reaches its register behind no doorbell,
counts on the Thread, and its reply is kept.
-/

namespace Sys2Proof.Machine

/-- With no doorbell waiting, nothing acts before an access (R334). -/
theorem flushPort_of_quiet {s : State} {p : Port} (h : s.doorbellWaits p = false) : s.flushPort p = s := by
  simp only [State.doorbellWaits, Bool.or_eq_false_iff, Bool.not_eq_false'] at h
  obtain ⟨hq, hs⟩ := h
  unfold State.flushPort
  split
  · rename_i heq; rw [heq] at hs; simp at hs
  · simp [hq]

/-- An access of a served requester is counted on the Thread, and that is all that its way there changes (R23, R229). -/
theorem viaThread_of_served {s : State} {r : Req} (h : Served s r) (pl : Place) (write : Bool) :
    s.viaThread r pl write = match pl.dst write with | none => s | some d => s.carried r d := by
  unfold State.viaThread
  cases pl.dst write with
  | none => rfl
  | some d =>
    cases r with
    | port p => simp only [flushPort_of_quiet (show s.doorbellWaits p = false from h.2)]
    | mp => rfl
    | smbus => rfl

/-- The link of a served requester is up already. -/
theorem linkSeen_of_served {s : State} {r : Req} (h : Served s r) : s.linkSeen r = s := by
  cases r with
  | port p =>
    obtain ⟨⟨_, _, _, _, hup, _⟩, _⟩ := h
    simp [State.linkSeen, hup]
  | mp => rfl
  | smbus => rfl

/-- A write that its gate and its register let through leaves what the register's write leaves, and its reply. -/
theorem cmdWrite_of_done {s t : State} {r : Req} {a : Nat} {v : Word} {f : BootFindings} {pl : Place} (h : Served s r)
    (hg : s.gateOf r a = (.ok, pl))
    (hw : (match pl.dst true with | none => s | some d => s.carried r d).placeWrite r pl v f = (t, true)) :
    s.cmdWrite r a v f = t.reply r true 0 := by
  simp only [State.cmdWrite, State.regWrite, hg, linkSeen_of_served h, viaThread_of_served h, hw]

/-- A read that its gate and its register let through returns the register's word to its requester. -/
theorem regRead_of_served {s : State} {r : Req} {a : Nat} {pl : Place} (h : Served s r) (hg : s.gateOf r a = (.ok, pl)) :
    s.regRead r a = (match pl.dst false with | none => s | some d => s.carried r d).placeRead r pl := by
  simp only [State.regRead, hg, linkSeen_of_served h, viaThread_of_served h]

/-- A register of another tenant reads as zero, and a write of it is discarded (R310). -/
theorem regRead_of_hidden {s : State} {r : Req} {a : Nat} {pl : Place} (h : Served s r) (hg : s.gateOf r a = (.hidden, pl)) :
    s.regRead r a = rd (match pl.dst false with | none => s | some d => s.carried r d) 0 := by
  simp only [State.regRead, hg, linkSeen_of_served h, viaThread_of_served h]

end Sys2Proof.Machine
end

