-- ==== Sys2Proof/Laws/Issue.lean ====
section
/-!
SUPPORT. What the shared issue of a Mladza instruction can do: an instruction that is next has its effect applied, and
each effect that changes the engine alone leaves everything else as it was.
-/

namespace Sys2Proof.Machine

/-- An instruction that is next has its effect applied. -/
theorem issue_of_ready {s : State} {c : CoreId} {i : Instr} (eff : State → Res) (h : Ready s c i) :
    s.issue c i eff = s.apply c.key (eff s) := by
  obtain ⟨hr, hb, hu, hd⟩ := h
  unfold State.issue
  simp only [hr, Bool.not_true, Bool.false_eq_true, if_false]
  have : (if ((s.core c.key).e.stall.isNone && !(s.core c.key).e.dbg.bpPassed && !(s.core c.key).e.dbg.stepping) = true
      then (s.core c.key).e.bpAt else none) = none := by
    split
    · exact hb ‹_›
    · rfl
  rw [this]
  simp [hu, hd]

theorem onlyCore_refl (s : State) (k : Nat) : OnlyCore s s k := ⟨rfl, fun _ _ => rfl⟩

theorem onlyCore_modE {s t : State} {k : Nat} (f : NEngine → NEngine) (h : OnlyCore s t k) :
    OnlyCore s (t.modE k f) k :=
  ⟨h.1, fun j hj => by rw [core_modE_of_ne _ _ hj, h.2 j hj]⟩

theorem engineIs_modE (s : State) (k : Nat) (f : NEngine → NEngine) : EngineIs s (s.modE k f) k (f (s.core k).e) :=
  ⟨onlyCore_modE f (onlyCore_refl s k), by simp⟩

theorem EngineIs.modE {s t : State} {k : Nat} {e : NEngine} (f : NEngine → NEngine) (h : EngineIs s t k e) :
    EngineIs s (t.modE k f) k (f e) :=
  ⟨onlyCore_modE f h.1, by simp [h.2]⟩

/-- An instruction that is next, falls through and leaves only its engine changed. -/
theorem answers_of_done {s t : State} {c : CoreId} {i : Instr} {eff : State → Res} {e : NEngine}
    (hx : exec i s = issued c i eff s) (h : Ready s c i) (he : eff s = .done t) (ht : EngineIs s t c.key e) :
    Answers i s fun u => EngineIs s u c.key e.movedOn :=
  ⟨_, by rw [hx, issued, issue_of_ready eff h, he]; rfl, ht.modE _⟩

/-- A register instruction computes what its effect writes. -/
theorem computes_of_done {s : State} {c : CoreId} {i : Instr} {eff : State → Res} {f : Regs → Regs}
    (hx : exec i s = issued c i eff s)
    (he : eff s = .done (s.modE c.key fun e => { e with regs := f e.regs })) : Computes s c i f := fun h =>
  answers_of_done hx h he (engineIs_modE s c.key _)

end Sys2Proof.Machine
end

