-- ==== Sys2Proof/Laws/State.lean ====
section
/-!
SUPPORT. What each update of the state leaves as it was, field by field.
-/

namespace Sys2Proof.Machine

variable (s : State)
@[simp] theorem now_setCore (k : Nat) (c : Core) : (s.setCore k c).now = s.now := rfl
@[simp] theorem freeCtr_setCore (k : Nat) (c : Core) : (s.setCore k c).freeCtr = s.freeCtr := rfl
@[simp] theorem grade_setCore (k : Nat) (c : Core) : (s.setCore k c).grade = s.grade := rfl
@[simp] theorem assign_setCore (k : Nat) (c : Core) : (s.setCore k c).assign = s.assign := rfl
@[simp] theorem sh_setCore (k : Nat) (c : Core) : (s.setCore k c).sh = s.sh := rfl
@[simp] theorem clusters_setCore (k : Nat) (c : Core) : (s.setCore k c).clusters = s.clusters := rfl
@[simp] theorem stations_setCore (k : Nat) (c : Core) : (s.setCore k c).stations = s.stations := rfl
@[simp] theorem wheelAt_setCore (k : Nat) (c : Core) : (s.setCore k c).wheelAt = s.wheelAt := rfl
@[simp] theorem flight_setCore (k : Nat) (c : Core) : (s.setCore k c).flight = s.flight := rfl
@[simp] theorem thread_setCore (k : Nat) (c : Core) : (s.setCore k c).thread = s.thread := rfl
@[simp] theorem dir_setCore (k : Nat) (c : Core) : (s.setCore k c).dir = s.dir := rfl
@[simp] theorem masks_setCore (k : Nat) (c : Core) : (s.setCore k c).masks = s.masks := rfl
@[simp] theorem deep_setCore (k : Nat) (c : Core) : (s.setCore k c).deep = s.deep := rfl
@[simp] theorem memRate_setCore (k : Nat) (c : Core) : (s.setCore k c).memRate = s.memRate := rfl
@[simp] theorem memDbi_setCore (k : Nat) (c : Core) : (s.setCore k c).memDbi = s.memDbi := rfl
@[simp] theorem memEcc_setCore (k : Nat) (c : Core) : (s.setCore k c).memEcc = s.memEcc := rfl
@[simp] theorem treg_setCore (k : Nat) (c : Core) : (s.setCore k c).treg = s.treg := rfl
@[simp] theorem shr_setCore (k : Nat) (c : Core) : (s.setCore k c).shr = s.shr := rfl
@[simp] theorem straps_setCore (k : Nat) (c : Core) : (s.setCore k c).straps = s.straps := rfl
@[simp] theorem ports_setCore (k : Nat) (c : Core) : (s.setCore k c).ports = s.ports := rfl
@[simp] theorem tenants_setCore (k : Nat) (c : Core) : (s.setCore k c).tenants = s.tenants := rfl
@[simp] theorem replies_setCore (k : Nat) (c : Core) : (s.setCore k c).replies = s.replies := rfl
@[simp] theorem sync_setCore (k : Nat) (c : Core) : (s.setCore k c).sync = s.sync := rfl
@[simp] theorem syncOwn_setCore (k : Nat) (c : Core) : (s.setCore k c).syncOwn = s.syncOwn := rfl
@[simp] theorem nseq_setCore (k : Nat) (c : Core) : (s.setCore k c).nseq = s.nseq := rfl
@[simp] theorem inj_setCore (k : Nat) (c : Core) : (s.setCore k c).inj = s.inj := rfl
@[simp] theorem injNoted_setCore (k : Nat) (c : Core) : (s.setCore k c).injNoted = s.injNoted := rfl
@[simp] theorem egress_setCore (k : Nat) (c : Core) : (s.setCore k c).egress = s.egress := rfl
@[simp] theorem egDrop_setCore (k : Nat) (c : Core) : (s.setCore k c).egDrop = s.egDrop := rfl
@[simp] theorem govF_setCore (k : Nat) (c : Core) : (s.setCore k c).govF = s.govF := rfl
@[simp] theorem own_setCore (k : Nat) (c : Core) : (s.setCore k c).own = s.own := rfl
@[simp] theorem pin_setCore (k : Nat) (c : Core) : (s.setCore k c).pin = s.pin := rfl
@[simp] theorem pinNoted_setCore (k : Nat) (c : Core) : (s.setCore k c).pinNoted = s.pinNoted := rfl
@[simp] theorem pinIn_setCore (k : Nat) (c : Core) : (s.setCore k c).pinIn = s.pinIn := rfl
@[simp] theorem timers_setCore (k : Nat) (c : Core) : (s.setCore k c).timers = s.timers := rfl
@[simp] theorem mem_setCore (k : Nat) (c : Core) : (s.setCore k c).mem = s.mem := rfl
@[simp] theorem deepGen_setCore (k : Nat) (c : Core) : (s.setCore k c).deepGen = s.deepGen := rfl
@[simp] theorem coreGen_setCore (k : Nat) (c : Core) : (s.setCore k c).coreGen = s.coreGen := rfl
@[simp] theorem eccUe_setCore (k : Nat) (c : Core) : (s.setCore k c).eccUe = s.eccUe := rfl
@[simp] theorem eccCe_setCore (k : Nat) (c : Core) : (s.setCore k c).eccCe = s.eccCe := rfl
@[simp] theorem mpHalted_setCore (k : Nat) (c : Core) : (s.setCore k c).mpHalted = s.mpHalted := rfl
@[simp] theorem edc_setCore (k : Nat) (c : Core) : (s.setCore k c).edc = s.edc := rfl
@[simp] theorem boot_setCore (k : Nat) (c : Core) : (s.setCore k c).boot = s.boot := rfl
@[simp] theorem fuses_setCore (k : Nat) (c : Core) : (s.setCore k c).fuses = s.fuses := rfl
@[simp] theorem sec_setCore (k : Nat) (c : Core) : (s.setCore k c).sec = s.sec := rfl
@[simp] theorem pont_setCore (k : Nat) (c : Core) : (s.setCore k c).pont = s.pont := rfl
@[simp] theorem fa_setCore (k : Nat) (c : Core) : (s.setCore k c).fa = s.fa := rfl
@[simp] theorem lehr_setCore (k : Nat) (c : Core) : (s.setCore k c).lehr = s.lehr := rfl
@[simp] theorem tests_setCore (k : Nat) (c : Core) : (s.setCore k c).tests = s.tests := rfl
@[simp] theorem io_setCore (k : Nat) (c : Core) : (s.setCore k c).io = s.io := rfl
@[simp] theorem dma_setCore (k : Nat) (c : Core) : (s.setCore k c).dma = s.dma := rfl
@[simp] theorem aon_setCore (k : Nat) (c : Core) : (s.setCore k c).aon = s.aon := rfl
@[simp] theorem smb_setCore (k : Nat) (c : Core) : (s.setCore k c).smb = s.smb := rfl
@[simp] theorem nor_setCore (k : Nat) (c : Core) : (s.setCore k c).nor = s.nor := rfl
@[simp] theorem cullet_setCore (k : Nat) (c : Core) : (s.setCore k c).cullet = s.cullet := rfl
@[simp] theorem starts_setCore (k : Nat) (c : Core) : (s.setCore k c).starts = s.starts := rfl
@[simp] theorem hostMem_setCore (k : Nat) (c : Core) : (s.setCore k c).hostMem = s.hostMem := rfl
@[simp] theorem mpIrq_setCore (k : Nat) (c : Core) : (s.setCore k c).mpIrq = s.mpIrq := rfl
@[simp] theorem pending_setCore (k : Nat) (c : Core) : (s.setCore k c).pending = s.pending := rfl

@[simp] theorem now_setCluster (n : Nat) (x : ClusterSt) : (s.setCluster n x).now = s.now := rfl
@[simp] theorem freeCtr_setCluster (n : Nat) (x : ClusterSt) : (s.setCluster n x).freeCtr = s.freeCtr := rfl
@[simp] theorem grade_setCluster (n : Nat) (x : ClusterSt) : (s.setCluster n x).grade = s.grade := rfl
@[simp] theorem assign_setCluster (n : Nat) (x : ClusterSt) : (s.setCluster n x).assign = s.assign := rfl
@[simp] theorem sh_setCluster (n : Nat) (x : ClusterSt) : (s.setCluster n x).sh = s.sh := rfl
@[simp] theorem cores_setCluster (n : Nat) (x : ClusterSt) : (s.setCluster n x).cores = s.cores := rfl
@[simp] theorem stations_setCluster (n : Nat) (x : ClusterSt) : (s.setCluster n x).stations = s.stations := rfl
@[simp] theorem wheelAt_setCluster (n : Nat) (x : ClusterSt) : (s.setCluster n x).wheelAt = s.wheelAt := rfl
@[simp] theorem flight_setCluster (n : Nat) (x : ClusterSt) : (s.setCluster n x).flight = s.flight := rfl
@[simp] theorem thread_setCluster (n : Nat) (x : ClusterSt) : (s.setCluster n x).thread = s.thread := rfl
@[simp] theorem dir_setCluster (n : Nat) (x : ClusterSt) : (s.setCluster n x).dir = s.dir := rfl
@[simp] theorem masks_setCluster (n : Nat) (x : ClusterSt) : (s.setCluster n x).masks = s.masks := rfl
@[simp] theorem deep_setCluster (n : Nat) (x : ClusterSt) : (s.setCluster n x).deep = s.deep := rfl
@[simp] theorem memRate_setCluster (n : Nat) (x : ClusterSt) : (s.setCluster n x).memRate = s.memRate := rfl
@[simp] theorem memDbi_setCluster (n : Nat) (x : ClusterSt) : (s.setCluster n x).memDbi = s.memDbi := rfl
@[simp] theorem memEcc_setCluster (n : Nat) (x : ClusterSt) : (s.setCluster n x).memEcc = s.memEcc := rfl
@[simp] theorem treg_setCluster (n : Nat) (x : ClusterSt) : (s.setCluster n x).treg = s.treg := rfl
@[simp] theorem shr_setCluster (n : Nat) (x : ClusterSt) : (s.setCluster n x).shr = s.shr := rfl
@[simp] theorem straps_setCluster (n : Nat) (x : ClusterSt) : (s.setCluster n x).straps = s.straps := rfl
@[simp] theorem ports_setCluster (n : Nat) (x : ClusterSt) : (s.setCluster n x).ports = s.ports := rfl
@[simp] theorem tenants_setCluster (n : Nat) (x : ClusterSt) : (s.setCluster n x).tenants = s.tenants := rfl
@[simp] theorem replies_setCluster (n : Nat) (x : ClusterSt) : (s.setCluster n x).replies = s.replies := rfl
@[simp] theorem sync_setCluster (n : Nat) (x : ClusterSt) : (s.setCluster n x).sync = s.sync := rfl
@[simp] theorem syncOwn_setCluster (n : Nat) (x : ClusterSt) : (s.setCluster n x).syncOwn = s.syncOwn := rfl
@[simp] theorem nseq_setCluster (n : Nat) (x : ClusterSt) : (s.setCluster n x).nseq = s.nseq := rfl
@[simp] theorem inj_setCluster (n : Nat) (x : ClusterSt) : (s.setCluster n x).inj = s.inj := rfl
@[simp] theorem injNoted_setCluster (n : Nat) (x : ClusterSt) : (s.setCluster n x).injNoted = s.injNoted := rfl
@[simp] theorem egress_setCluster (n : Nat) (x : ClusterSt) : (s.setCluster n x).egress = s.egress := rfl
@[simp] theorem egDrop_setCluster (n : Nat) (x : ClusterSt) : (s.setCluster n x).egDrop = s.egDrop := rfl
@[simp] theorem govF_setCluster (n : Nat) (x : ClusterSt) : (s.setCluster n x).govF = s.govF := rfl
@[simp] theorem own_setCluster (n : Nat) (x : ClusterSt) : (s.setCluster n x).own = s.own := rfl
@[simp] theorem pin_setCluster (n : Nat) (x : ClusterSt) : (s.setCluster n x).pin = s.pin := rfl
@[simp] theorem pinNoted_setCluster (n : Nat) (x : ClusterSt) : (s.setCluster n x).pinNoted = s.pinNoted := rfl
@[simp] theorem pinIn_setCluster (n : Nat) (x : ClusterSt) : (s.setCluster n x).pinIn = s.pinIn := rfl
@[simp] theorem timers_setCluster (n : Nat) (x : ClusterSt) : (s.setCluster n x).timers = s.timers := rfl
@[simp] theorem mem_setCluster (n : Nat) (x : ClusterSt) : (s.setCluster n x).mem = s.mem := rfl
@[simp] theorem deepGen_setCluster (n : Nat) (x : ClusterSt) : (s.setCluster n x).deepGen = s.deepGen := rfl
@[simp] theorem coreGen_setCluster (n : Nat) (x : ClusterSt) : (s.setCluster n x).coreGen = s.coreGen := rfl
@[simp] theorem eccUe_setCluster (n : Nat) (x : ClusterSt) : (s.setCluster n x).eccUe = s.eccUe := rfl
@[simp] theorem eccCe_setCluster (n : Nat) (x : ClusterSt) : (s.setCluster n x).eccCe = s.eccCe := rfl
@[simp] theorem mpHalted_setCluster (n : Nat) (x : ClusterSt) : (s.setCluster n x).mpHalted = s.mpHalted := rfl
@[simp] theorem edc_setCluster (n : Nat) (x : ClusterSt) : (s.setCluster n x).edc = s.edc := rfl
@[simp] theorem boot_setCluster (n : Nat) (x : ClusterSt) : (s.setCluster n x).boot = s.boot := rfl
@[simp] theorem fuses_setCluster (n : Nat) (x : ClusterSt) : (s.setCluster n x).fuses = s.fuses := rfl
@[simp] theorem sec_setCluster (n : Nat) (x : ClusterSt) : (s.setCluster n x).sec = s.sec := rfl
@[simp] theorem pont_setCluster (n : Nat) (x : ClusterSt) : (s.setCluster n x).pont = s.pont := rfl
@[simp] theorem fa_setCluster (n : Nat) (x : ClusterSt) : (s.setCluster n x).fa = s.fa := rfl
@[simp] theorem lehr_setCluster (n : Nat) (x : ClusterSt) : (s.setCluster n x).lehr = s.lehr := rfl
@[simp] theorem tests_setCluster (n : Nat) (x : ClusterSt) : (s.setCluster n x).tests = s.tests := rfl
@[simp] theorem io_setCluster (n : Nat) (x : ClusterSt) : (s.setCluster n x).io = s.io := rfl
@[simp] theorem dma_setCluster (n : Nat) (x : ClusterSt) : (s.setCluster n x).dma = s.dma := rfl
@[simp] theorem aon_setCluster (n : Nat) (x : ClusterSt) : (s.setCluster n x).aon = s.aon := rfl
@[simp] theorem smb_setCluster (n : Nat) (x : ClusterSt) : (s.setCluster n x).smb = s.smb := rfl
@[simp] theorem nor_setCluster (n : Nat) (x : ClusterSt) : (s.setCluster n x).nor = s.nor := rfl
@[simp] theorem cullet_setCluster (n : Nat) (x : ClusterSt) : (s.setCluster n x).cullet = s.cullet := rfl
@[simp] theorem starts_setCluster (n : Nat) (x : ClusterSt) : (s.setCluster n x).starts = s.starts := rfl
@[simp] theorem hostMem_setCluster (n : Nat) (x : ClusterSt) : (s.setCluster n x).hostMem = s.hostMem := rfl
@[simp] theorem mpIrq_setCluster (n : Nat) (x : ClusterSt) : (s.setCluster n x).mpIrq = s.mpIrq := rfl
@[simp] theorem pending_setCluster (n : Nat) (x : ClusterSt) : (s.setCluster n x).pending = s.pending := rfl

@[simp] theorem now_setStation (n : Nat) (x : StationSt) : (s.setStation n x).now = s.now := rfl
@[simp] theorem freeCtr_setStation (n : Nat) (x : StationSt) : (s.setStation n x).freeCtr = s.freeCtr := rfl
@[simp] theorem grade_setStation (n : Nat) (x : StationSt) : (s.setStation n x).grade = s.grade := rfl
@[simp] theorem assign_setStation (n : Nat) (x : StationSt) : (s.setStation n x).assign = s.assign := rfl
@[simp] theorem sh_setStation (n : Nat) (x : StationSt) : (s.setStation n x).sh = s.sh := rfl
@[simp] theorem cores_setStation (n : Nat) (x : StationSt) : (s.setStation n x).cores = s.cores := rfl
@[simp] theorem clusters_setStation (n : Nat) (x : StationSt) : (s.setStation n x).clusters = s.clusters := rfl
@[simp] theorem wheelAt_setStation (n : Nat) (x : StationSt) : (s.setStation n x).wheelAt = s.wheelAt := rfl
@[simp] theorem flight_setStation (n : Nat) (x : StationSt) : (s.setStation n x).flight = s.flight := rfl
@[simp] theorem thread_setStation (n : Nat) (x : StationSt) : (s.setStation n x).thread = s.thread := rfl
@[simp] theorem dir_setStation (n : Nat) (x : StationSt) : (s.setStation n x).dir = s.dir := rfl
@[simp] theorem masks_setStation (n : Nat) (x : StationSt) : (s.setStation n x).masks = s.masks := rfl
@[simp] theorem deep_setStation (n : Nat) (x : StationSt) : (s.setStation n x).deep = s.deep := rfl
@[simp] theorem memRate_setStation (n : Nat) (x : StationSt) : (s.setStation n x).memRate = s.memRate := rfl
@[simp] theorem memDbi_setStation (n : Nat) (x : StationSt) : (s.setStation n x).memDbi = s.memDbi := rfl
@[simp] theorem memEcc_setStation (n : Nat) (x : StationSt) : (s.setStation n x).memEcc = s.memEcc := rfl
@[simp] theorem treg_setStation (n : Nat) (x : StationSt) : (s.setStation n x).treg = s.treg := rfl
@[simp] theorem shr_setStation (n : Nat) (x : StationSt) : (s.setStation n x).shr = s.shr := rfl
@[simp] theorem straps_setStation (n : Nat) (x : StationSt) : (s.setStation n x).straps = s.straps := rfl
@[simp] theorem ports_setStation (n : Nat) (x : StationSt) : (s.setStation n x).ports = s.ports := rfl
@[simp] theorem tenants_setStation (n : Nat) (x : StationSt) : (s.setStation n x).tenants = s.tenants := rfl
@[simp] theorem replies_setStation (n : Nat) (x : StationSt) : (s.setStation n x).replies = s.replies := rfl
@[simp] theorem sync_setStation (n : Nat) (x : StationSt) : (s.setStation n x).sync = s.sync := rfl
@[simp] theorem syncOwn_setStation (n : Nat) (x : StationSt) : (s.setStation n x).syncOwn = s.syncOwn := rfl
@[simp] theorem nseq_setStation (n : Nat) (x : StationSt) : (s.setStation n x).nseq = s.nseq := rfl
@[simp] theorem inj_setStation (n : Nat) (x : StationSt) : (s.setStation n x).inj = s.inj := rfl
@[simp] theorem injNoted_setStation (n : Nat) (x : StationSt) : (s.setStation n x).injNoted = s.injNoted := rfl
@[simp] theorem egress_setStation (n : Nat) (x : StationSt) : (s.setStation n x).egress = s.egress := rfl
@[simp] theorem egDrop_setStation (n : Nat) (x : StationSt) : (s.setStation n x).egDrop = s.egDrop := rfl
@[simp] theorem govF_setStation (n : Nat) (x : StationSt) : (s.setStation n x).govF = s.govF := rfl
@[simp] theorem own_setStation (n : Nat) (x : StationSt) : (s.setStation n x).own = s.own := rfl
@[simp] theorem pin_setStation (n : Nat) (x : StationSt) : (s.setStation n x).pin = s.pin := rfl
@[simp] theorem pinNoted_setStation (n : Nat) (x : StationSt) : (s.setStation n x).pinNoted = s.pinNoted := rfl
@[simp] theorem pinIn_setStation (n : Nat) (x : StationSt) : (s.setStation n x).pinIn = s.pinIn := rfl
@[simp] theorem timers_setStation (n : Nat) (x : StationSt) : (s.setStation n x).timers = s.timers := rfl
@[simp] theorem mem_setStation (n : Nat) (x : StationSt) : (s.setStation n x).mem = s.mem := rfl
@[simp] theorem deepGen_setStation (n : Nat) (x : StationSt) : (s.setStation n x).deepGen = s.deepGen := rfl
@[simp] theorem coreGen_setStation (n : Nat) (x : StationSt) : (s.setStation n x).coreGen = s.coreGen := rfl
@[simp] theorem eccUe_setStation (n : Nat) (x : StationSt) : (s.setStation n x).eccUe = s.eccUe := rfl
@[simp] theorem eccCe_setStation (n : Nat) (x : StationSt) : (s.setStation n x).eccCe = s.eccCe := rfl
@[simp] theorem mpHalted_setStation (n : Nat) (x : StationSt) : (s.setStation n x).mpHalted = s.mpHalted := rfl
@[simp] theorem edc_setStation (n : Nat) (x : StationSt) : (s.setStation n x).edc = s.edc := rfl
@[simp] theorem boot_setStation (n : Nat) (x : StationSt) : (s.setStation n x).boot = s.boot := rfl
@[simp] theorem fuses_setStation (n : Nat) (x : StationSt) : (s.setStation n x).fuses = s.fuses := rfl
@[simp] theorem sec_setStation (n : Nat) (x : StationSt) : (s.setStation n x).sec = s.sec := rfl
@[simp] theorem pont_setStation (n : Nat) (x : StationSt) : (s.setStation n x).pont = s.pont := rfl
@[simp] theorem fa_setStation (n : Nat) (x : StationSt) : (s.setStation n x).fa = s.fa := rfl
@[simp] theorem lehr_setStation (n : Nat) (x : StationSt) : (s.setStation n x).lehr = s.lehr := rfl
@[simp] theorem tests_setStation (n : Nat) (x : StationSt) : (s.setStation n x).tests = s.tests := rfl
@[simp] theorem io_setStation (n : Nat) (x : StationSt) : (s.setStation n x).io = s.io := rfl
@[simp] theorem dma_setStation (n : Nat) (x : StationSt) : (s.setStation n x).dma = s.dma := rfl
@[simp] theorem aon_setStation (n : Nat) (x : StationSt) : (s.setStation n x).aon = s.aon := rfl
@[simp] theorem smb_setStation (n : Nat) (x : StationSt) : (s.setStation n x).smb = s.smb := rfl
@[simp] theorem nor_setStation (n : Nat) (x : StationSt) : (s.setStation n x).nor = s.nor := rfl
@[simp] theorem cullet_setStation (n : Nat) (x : StationSt) : (s.setStation n x).cullet = s.cullet := rfl
@[simp] theorem starts_setStation (n : Nat) (x : StationSt) : (s.setStation n x).starts = s.starts := rfl
@[simp] theorem hostMem_setStation (n : Nat) (x : StationSt) : (s.setStation n x).hostMem = s.hostMem := rfl
@[simp] theorem mpIrq_setStation (n : Nat) (x : StationSt) : (s.setStation n x).mpIrq = s.mpIrq := rfl
@[simp] theorem pending_setStation (n : Nat) (x : StationSt) : (s.setStation n x).pending = s.pending := rfl

@[simp] theorem now_modShear (t : Tenant) (f : Shears → Shears) : (s.modShear t f).now = s.now := rfl
@[simp] theorem freeCtr_modShear (t : Tenant) (f : Shears → Shears) : (s.modShear t f).freeCtr = s.freeCtr := rfl
@[simp] theorem grade_modShear (t : Tenant) (f : Shears → Shears) : (s.modShear t f).grade = s.grade := rfl
@[simp] theorem assign_modShear (t : Tenant) (f : Shears → Shears) : (s.modShear t f).assign = s.assign := rfl
@[simp] theorem cores_modShear (t : Tenant) (f : Shears → Shears) : (s.modShear t f).cores = s.cores := rfl
@[simp] theorem clusters_modShear (t : Tenant) (f : Shears → Shears) : (s.modShear t f).clusters = s.clusters := rfl
@[simp] theorem stations_modShear (t : Tenant) (f : Shears → Shears) : (s.modShear t f).stations = s.stations := rfl
@[simp] theorem wheelAt_modShear (t : Tenant) (f : Shears → Shears) : (s.modShear t f).wheelAt = s.wheelAt := rfl
@[simp] theorem flight_modShear (t : Tenant) (f : Shears → Shears) : (s.modShear t f).flight = s.flight := rfl
@[simp] theorem thread_modShear (t : Tenant) (f : Shears → Shears) : (s.modShear t f).thread = s.thread := rfl
@[simp] theorem dir_modShear (t : Tenant) (f : Shears → Shears) : (s.modShear t f).dir = s.dir := rfl
@[simp] theorem masks_modShear (t : Tenant) (f : Shears → Shears) : (s.modShear t f).masks = s.masks := rfl
@[simp] theorem deep_modShear (t : Tenant) (f : Shears → Shears) : (s.modShear t f).deep = s.deep := rfl
@[simp] theorem memRate_modShear (t : Tenant) (f : Shears → Shears) : (s.modShear t f).memRate = s.memRate := rfl
@[simp] theorem memDbi_modShear (t : Tenant) (f : Shears → Shears) : (s.modShear t f).memDbi = s.memDbi := rfl
@[simp] theorem memEcc_modShear (t : Tenant) (f : Shears → Shears) : (s.modShear t f).memEcc = s.memEcc := rfl
@[simp] theorem treg_modShear (t : Tenant) (f : Shears → Shears) : (s.modShear t f).treg = s.treg := rfl
@[simp] theorem shr_modShear (t : Tenant) (f : Shears → Shears) : (s.modShear t f).shr = s.shr := rfl
@[simp] theorem straps_modShear (t : Tenant) (f : Shears → Shears) : (s.modShear t f).straps = s.straps := rfl
@[simp] theorem ports_modShear (t : Tenant) (f : Shears → Shears) : (s.modShear t f).ports = s.ports := rfl
@[simp] theorem tenants_modShear (t : Tenant) (f : Shears → Shears) : (s.modShear t f).tenants = s.tenants := rfl
@[simp] theorem replies_modShear (t : Tenant) (f : Shears → Shears) : (s.modShear t f).replies = s.replies := rfl
@[simp] theorem sync_modShear (t : Tenant) (f : Shears → Shears) : (s.modShear t f).sync = s.sync := rfl
@[simp] theorem syncOwn_modShear (t : Tenant) (f : Shears → Shears) : (s.modShear t f).syncOwn = s.syncOwn := rfl
@[simp] theorem nseq_modShear (t : Tenant) (f : Shears → Shears) : (s.modShear t f).nseq = s.nseq := rfl
@[simp] theorem inj_modShear (t : Tenant) (f : Shears → Shears) : (s.modShear t f).inj = s.inj := rfl
@[simp] theorem injNoted_modShear (t : Tenant) (f : Shears → Shears) : (s.modShear t f).injNoted = s.injNoted := rfl
@[simp] theorem egress_modShear (t : Tenant) (f : Shears → Shears) : (s.modShear t f).egress = s.egress := rfl
@[simp] theorem egDrop_modShear (t : Tenant) (f : Shears → Shears) : (s.modShear t f).egDrop = s.egDrop := rfl
@[simp] theorem govF_modShear (t : Tenant) (f : Shears → Shears) : (s.modShear t f).govF = s.govF := rfl
@[simp] theorem own_modShear (t : Tenant) (f : Shears → Shears) : (s.modShear t f).own = s.own := rfl
@[simp] theorem pin_modShear (t : Tenant) (f : Shears → Shears) : (s.modShear t f).pin = s.pin := rfl
@[simp] theorem pinNoted_modShear (t : Tenant) (f : Shears → Shears) : (s.modShear t f).pinNoted = s.pinNoted := rfl
@[simp] theorem pinIn_modShear (t : Tenant) (f : Shears → Shears) : (s.modShear t f).pinIn = s.pinIn := rfl
@[simp] theorem timers_modShear (t : Tenant) (f : Shears → Shears) : (s.modShear t f).timers = s.timers := rfl
@[simp] theorem mem_modShear (t : Tenant) (f : Shears → Shears) : (s.modShear t f).mem = s.mem := rfl
@[simp] theorem deepGen_modShear (t : Tenant) (f : Shears → Shears) : (s.modShear t f).deepGen = s.deepGen := rfl
@[simp] theorem coreGen_modShear (t : Tenant) (f : Shears → Shears) : (s.modShear t f).coreGen = s.coreGen := rfl
@[simp] theorem eccUe_modShear (t : Tenant) (f : Shears → Shears) : (s.modShear t f).eccUe = s.eccUe := rfl
@[simp] theorem eccCe_modShear (t : Tenant) (f : Shears → Shears) : (s.modShear t f).eccCe = s.eccCe := rfl
@[simp] theorem mpHalted_modShear (t : Tenant) (f : Shears → Shears) : (s.modShear t f).mpHalted = s.mpHalted := rfl
@[simp] theorem edc_modShear (t : Tenant) (f : Shears → Shears) : (s.modShear t f).edc = s.edc := rfl
@[simp] theorem boot_modShear (t : Tenant) (f : Shears → Shears) : (s.modShear t f).boot = s.boot := rfl
@[simp] theorem fuses_modShear (t : Tenant) (f : Shears → Shears) : (s.modShear t f).fuses = s.fuses := rfl
@[simp] theorem sec_modShear (t : Tenant) (f : Shears → Shears) : (s.modShear t f).sec = s.sec := rfl
@[simp] theorem pont_modShear (t : Tenant) (f : Shears → Shears) : (s.modShear t f).pont = s.pont := rfl
@[simp] theorem fa_modShear (t : Tenant) (f : Shears → Shears) : (s.modShear t f).fa = s.fa := rfl
@[simp] theorem lehr_modShear (t : Tenant) (f : Shears → Shears) : (s.modShear t f).lehr = s.lehr := rfl
@[simp] theorem tests_modShear (t : Tenant) (f : Shears → Shears) : (s.modShear t f).tests = s.tests := rfl
@[simp] theorem io_modShear (t : Tenant) (f : Shears → Shears) : (s.modShear t f).io = s.io := rfl
@[simp] theorem dma_modShear (t : Tenant) (f : Shears → Shears) : (s.modShear t f).dma = s.dma := rfl
@[simp] theorem aon_modShear (t : Tenant) (f : Shears → Shears) : (s.modShear t f).aon = s.aon := rfl
@[simp] theorem smb_modShear (t : Tenant) (f : Shears → Shears) : (s.modShear t f).smb = s.smb := rfl
@[simp] theorem nor_modShear (t : Tenant) (f : Shears → Shears) : (s.modShear t f).nor = s.nor := rfl
@[simp] theorem cullet_modShear (t : Tenant) (f : Shears → Shears) : (s.modShear t f).cullet = s.cullet := rfl
@[simp] theorem starts_modShear (t : Tenant) (f : Shears → Shears) : (s.modShear t f).starts = s.starts := rfl
@[simp] theorem hostMem_modShear (t : Tenant) (f : Shears → Shears) : (s.modShear t f).hostMem = s.hostMem := rfl
@[simp] theorem mpIrq_modShear (t : Tenant) (f : Shears → Shears) : (s.modShear t f).mpIrq = s.mpIrq := rfl
@[simp] theorem pending_modShear (t : Tenant) (f : Shears → Shears) : (s.modShear t f).pending = s.pending := rfl

@[simp] theorem now_modTenant (t : Tenant) (f : TenantSt → TenantSt) : (s.modTenant t f).now = s.now := rfl
@[simp] theorem freeCtr_modTenant (t : Tenant) (f : TenantSt → TenantSt) : (s.modTenant t f).freeCtr = s.freeCtr := rfl
@[simp] theorem grade_modTenant (t : Tenant) (f : TenantSt → TenantSt) : (s.modTenant t f).grade = s.grade := rfl
@[simp] theorem assign_modTenant (t : Tenant) (f : TenantSt → TenantSt) : (s.modTenant t f).assign = s.assign := rfl
@[simp] theorem sh_modTenant (t : Tenant) (f : TenantSt → TenantSt) : (s.modTenant t f).sh = s.sh := rfl
@[simp] theorem cores_modTenant (t : Tenant) (f : TenantSt → TenantSt) : (s.modTenant t f).cores = s.cores := rfl
@[simp] theorem clusters_modTenant (t : Tenant) (f : TenantSt → TenantSt) : (s.modTenant t f).clusters = s.clusters := rfl
@[simp] theorem stations_modTenant (t : Tenant) (f : TenantSt → TenantSt) : (s.modTenant t f).stations = s.stations := rfl
@[simp] theorem wheelAt_modTenant (t : Tenant) (f : TenantSt → TenantSt) : (s.modTenant t f).wheelAt = s.wheelAt := rfl
@[simp] theorem flight_modTenant (t : Tenant) (f : TenantSt → TenantSt) : (s.modTenant t f).flight = s.flight := rfl
@[simp] theorem thread_modTenant (t : Tenant) (f : TenantSt → TenantSt) : (s.modTenant t f).thread = s.thread := rfl
@[simp] theorem dir_modTenant (t : Tenant) (f : TenantSt → TenantSt) : (s.modTenant t f).dir = s.dir := rfl
@[simp] theorem masks_modTenant (t : Tenant) (f : TenantSt → TenantSt) : (s.modTenant t f).masks = s.masks := rfl
@[simp] theorem deep_modTenant (t : Tenant) (f : TenantSt → TenantSt) : (s.modTenant t f).deep = s.deep := rfl
@[simp] theorem memRate_modTenant (t : Tenant) (f : TenantSt → TenantSt) : (s.modTenant t f).memRate = s.memRate := rfl
@[simp] theorem memDbi_modTenant (t : Tenant) (f : TenantSt → TenantSt) : (s.modTenant t f).memDbi = s.memDbi := rfl
@[simp] theorem memEcc_modTenant (t : Tenant) (f : TenantSt → TenantSt) : (s.modTenant t f).memEcc = s.memEcc := rfl
@[simp] theorem treg_modTenant (t : Tenant) (f : TenantSt → TenantSt) : (s.modTenant t f).treg = s.treg := rfl
@[simp] theorem shr_modTenant (t : Tenant) (f : TenantSt → TenantSt) : (s.modTenant t f).shr = s.shr := rfl
@[simp] theorem straps_modTenant (t : Tenant) (f : TenantSt → TenantSt) : (s.modTenant t f).straps = s.straps := rfl
@[simp] theorem ports_modTenant (t : Tenant) (f : TenantSt → TenantSt) : (s.modTenant t f).ports = s.ports := rfl
@[simp] theorem replies_modTenant (t : Tenant) (f : TenantSt → TenantSt) : (s.modTenant t f).replies = s.replies := rfl
@[simp] theorem sync_modTenant (t : Tenant) (f : TenantSt → TenantSt) : (s.modTenant t f).sync = s.sync := rfl
@[simp] theorem syncOwn_modTenant (t : Tenant) (f : TenantSt → TenantSt) : (s.modTenant t f).syncOwn = s.syncOwn := rfl
@[simp] theorem nseq_modTenant (t : Tenant) (f : TenantSt → TenantSt) : (s.modTenant t f).nseq = s.nseq := rfl
@[simp] theorem inj_modTenant (t : Tenant) (f : TenantSt → TenantSt) : (s.modTenant t f).inj = s.inj := rfl
@[simp] theorem injNoted_modTenant (t : Tenant) (f : TenantSt → TenantSt) : (s.modTenant t f).injNoted = s.injNoted := rfl
@[simp] theorem egress_modTenant (t : Tenant) (f : TenantSt → TenantSt) : (s.modTenant t f).egress = s.egress := rfl
@[simp] theorem egDrop_modTenant (t : Tenant) (f : TenantSt → TenantSt) : (s.modTenant t f).egDrop = s.egDrop := rfl
@[simp] theorem govF_modTenant (t : Tenant) (f : TenantSt → TenantSt) : (s.modTenant t f).govF = s.govF := rfl
@[simp] theorem own_modTenant (t : Tenant) (f : TenantSt → TenantSt) : (s.modTenant t f).own = s.own := rfl
@[simp] theorem pin_modTenant (t : Tenant) (f : TenantSt → TenantSt) : (s.modTenant t f).pin = s.pin := rfl
@[simp] theorem pinNoted_modTenant (t : Tenant) (f : TenantSt → TenantSt) : (s.modTenant t f).pinNoted = s.pinNoted := rfl
@[simp] theorem pinIn_modTenant (t : Tenant) (f : TenantSt → TenantSt) : (s.modTenant t f).pinIn = s.pinIn := rfl
@[simp] theorem timers_modTenant (t : Tenant) (f : TenantSt → TenantSt) : (s.modTenant t f).timers = s.timers := rfl
@[simp] theorem mem_modTenant (t : Tenant) (f : TenantSt → TenantSt) : (s.modTenant t f).mem = s.mem := rfl
@[simp] theorem deepGen_modTenant (t : Tenant) (f : TenantSt → TenantSt) : (s.modTenant t f).deepGen = s.deepGen := rfl
@[simp] theorem coreGen_modTenant (t : Tenant) (f : TenantSt → TenantSt) : (s.modTenant t f).coreGen = s.coreGen := rfl
@[simp] theorem eccUe_modTenant (t : Tenant) (f : TenantSt → TenantSt) : (s.modTenant t f).eccUe = s.eccUe := rfl
@[simp] theorem eccCe_modTenant (t : Tenant) (f : TenantSt → TenantSt) : (s.modTenant t f).eccCe = s.eccCe := rfl
@[simp] theorem mpHalted_modTenant (t : Tenant) (f : TenantSt → TenantSt) : (s.modTenant t f).mpHalted = s.mpHalted := rfl
@[simp] theorem edc_modTenant (t : Tenant) (f : TenantSt → TenantSt) : (s.modTenant t f).edc = s.edc := rfl
@[simp] theorem boot_modTenant (t : Tenant) (f : TenantSt → TenantSt) : (s.modTenant t f).boot = s.boot := rfl
@[simp] theorem fuses_modTenant (t : Tenant) (f : TenantSt → TenantSt) : (s.modTenant t f).fuses = s.fuses := rfl
@[simp] theorem sec_modTenant (t : Tenant) (f : TenantSt → TenantSt) : (s.modTenant t f).sec = s.sec := rfl
@[simp] theorem pont_modTenant (t : Tenant) (f : TenantSt → TenantSt) : (s.modTenant t f).pont = s.pont := rfl
@[simp] theorem fa_modTenant (t : Tenant) (f : TenantSt → TenantSt) : (s.modTenant t f).fa = s.fa := rfl
@[simp] theorem lehr_modTenant (t : Tenant) (f : TenantSt → TenantSt) : (s.modTenant t f).lehr = s.lehr := rfl
@[simp] theorem tests_modTenant (t : Tenant) (f : TenantSt → TenantSt) : (s.modTenant t f).tests = s.tests := rfl
@[simp] theorem io_modTenant (t : Tenant) (f : TenantSt → TenantSt) : (s.modTenant t f).io = s.io := rfl
@[simp] theorem dma_modTenant (t : Tenant) (f : TenantSt → TenantSt) : (s.modTenant t f).dma = s.dma := rfl
@[simp] theorem aon_modTenant (t : Tenant) (f : TenantSt → TenantSt) : (s.modTenant t f).aon = s.aon := rfl
@[simp] theorem smb_modTenant (t : Tenant) (f : TenantSt → TenantSt) : (s.modTenant t f).smb = s.smb := rfl
@[simp] theorem nor_modTenant (t : Tenant) (f : TenantSt → TenantSt) : (s.modTenant t f).nor = s.nor := rfl
@[simp] theorem cullet_modTenant (t : Tenant) (f : TenantSt → TenantSt) : (s.modTenant t f).cullet = s.cullet := rfl
@[simp] theorem starts_modTenant (t : Tenant) (f : TenantSt → TenantSt) : (s.modTenant t f).starts = s.starts := rfl
@[simp] theorem hostMem_modTenant (t : Tenant) (f : TenantSt → TenantSt) : (s.modTenant t f).hostMem = s.hostMem := rfl
@[simp] theorem mpIrq_modTenant (t : Tenant) (f : TenantSt → TenantSt) : (s.modTenant t f).mpIrq = s.mpIrq := rfl
@[simp] theorem pending_modTenant (t : Tenant) (f : TenantSt → TenantSt) : (s.modTenant t f).pending = s.pending := rfl

@[simp] theorem now_modPort (p : Port) (f : PortSt → PortSt) : (s.modPort p f).now = s.now := rfl
@[simp] theorem freeCtr_modPort (p : Port) (f : PortSt → PortSt) : (s.modPort p f).freeCtr = s.freeCtr := rfl
@[simp] theorem grade_modPort (p : Port) (f : PortSt → PortSt) : (s.modPort p f).grade = s.grade := rfl
@[simp] theorem assign_modPort (p : Port) (f : PortSt → PortSt) : (s.modPort p f).assign = s.assign := rfl
@[simp] theorem sh_modPort (p : Port) (f : PortSt → PortSt) : (s.modPort p f).sh = s.sh := rfl
@[simp] theorem cores_modPort (p : Port) (f : PortSt → PortSt) : (s.modPort p f).cores = s.cores := rfl
@[simp] theorem clusters_modPort (p : Port) (f : PortSt → PortSt) : (s.modPort p f).clusters = s.clusters := rfl
@[simp] theorem stations_modPort (p : Port) (f : PortSt → PortSt) : (s.modPort p f).stations = s.stations := rfl
@[simp] theorem wheelAt_modPort (p : Port) (f : PortSt → PortSt) : (s.modPort p f).wheelAt = s.wheelAt := rfl
@[simp] theorem flight_modPort (p : Port) (f : PortSt → PortSt) : (s.modPort p f).flight = s.flight := rfl
@[simp] theorem thread_modPort (p : Port) (f : PortSt → PortSt) : (s.modPort p f).thread = s.thread := rfl
@[simp] theorem dir_modPort (p : Port) (f : PortSt → PortSt) : (s.modPort p f).dir = s.dir := rfl
@[simp] theorem masks_modPort (p : Port) (f : PortSt → PortSt) : (s.modPort p f).masks = s.masks := rfl
@[simp] theorem deep_modPort (p : Port) (f : PortSt → PortSt) : (s.modPort p f).deep = s.deep := rfl
@[simp] theorem memRate_modPort (p : Port) (f : PortSt → PortSt) : (s.modPort p f).memRate = s.memRate := rfl
@[simp] theorem memDbi_modPort (p : Port) (f : PortSt → PortSt) : (s.modPort p f).memDbi = s.memDbi := rfl
@[simp] theorem memEcc_modPort (p : Port) (f : PortSt → PortSt) : (s.modPort p f).memEcc = s.memEcc := rfl
@[simp] theorem treg_modPort (p : Port) (f : PortSt → PortSt) : (s.modPort p f).treg = s.treg := rfl
@[simp] theorem shr_modPort (p : Port) (f : PortSt → PortSt) : (s.modPort p f).shr = s.shr := rfl
@[simp] theorem straps_modPort (p : Port) (f : PortSt → PortSt) : (s.modPort p f).straps = s.straps := rfl
@[simp] theorem tenants_modPort (p : Port) (f : PortSt → PortSt) : (s.modPort p f).tenants = s.tenants := rfl
@[simp] theorem replies_modPort (p : Port) (f : PortSt → PortSt) : (s.modPort p f).replies = s.replies := rfl
@[simp] theorem sync_modPort (p : Port) (f : PortSt → PortSt) : (s.modPort p f).sync = s.sync := rfl
@[simp] theorem syncOwn_modPort (p : Port) (f : PortSt → PortSt) : (s.modPort p f).syncOwn = s.syncOwn := rfl
@[simp] theorem nseq_modPort (p : Port) (f : PortSt → PortSt) : (s.modPort p f).nseq = s.nseq := rfl
@[simp] theorem inj_modPort (p : Port) (f : PortSt → PortSt) : (s.modPort p f).inj = s.inj := rfl
@[simp] theorem injNoted_modPort (p : Port) (f : PortSt → PortSt) : (s.modPort p f).injNoted = s.injNoted := rfl
@[simp] theorem egress_modPort (p : Port) (f : PortSt → PortSt) : (s.modPort p f).egress = s.egress := rfl
@[simp] theorem egDrop_modPort (p : Port) (f : PortSt → PortSt) : (s.modPort p f).egDrop = s.egDrop := rfl
@[simp] theorem govF_modPort (p : Port) (f : PortSt → PortSt) : (s.modPort p f).govF = s.govF := rfl
@[simp] theorem own_modPort (p : Port) (f : PortSt → PortSt) : (s.modPort p f).own = s.own := rfl
@[simp] theorem pin_modPort (p : Port) (f : PortSt → PortSt) : (s.modPort p f).pin = s.pin := rfl
@[simp] theorem pinNoted_modPort (p : Port) (f : PortSt → PortSt) : (s.modPort p f).pinNoted = s.pinNoted := rfl
@[simp] theorem pinIn_modPort (p : Port) (f : PortSt → PortSt) : (s.modPort p f).pinIn = s.pinIn := rfl
@[simp] theorem timers_modPort (p : Port) (f : PortSt → PortSt) : (s.modPort p f).timers = s.timers := rfl
@[simp] theorem mem_modPort (p : Port) (f : PortSt → PortSt) : (s.modPort p f).mem = s.mem := rfl
@[simp] theorem deepGen_modPort (p : Port) (f : PortSt → PortSt) : (s.modPort p f).deepGen = s.deepGen := rfl
@[simp] theorem coreGen_modPort (p : Port) (f : PortSt → PortSt) : (s.modPort p f).coreGen = s.coreGen := rfl
@[simp] theorem eccUe_modPort (p : Port) (f : PortSt → PortSt) : (s.modPort p f).eccUe = s.eccUe := rfl
@[simp] theorem eccCe_modPort (p : Port) (f : PortSt → PortSt) : (s.modPort p f).eccCe = s.eccCe := rfl
@[simp] theorem mpHalted_modPort (p : Port) (f : PortSt → PortSt) : (s.modPort p f).mpHalted = s.mpHalted := rfl
@[simp] theorem edc_modPort (p : Port) (f : PortSt → PortSt) : (s.modPort p f).edc = s.edc := rfl
@[simp] theorem boot_modPort (p : Port) (f : PortSt → PortSt) : (s.modPort p f).boot = s.boot := rfl
@[simp] theorem fuses_modPort (p : Port) (f : PortSt → PortSt) : (s.modPort p f).fuses = s.fuses := rfl
@[simp] theorem sec_modPort (p : Port) (f : PortSt → PortSt) : (s.modPort p f).sec = s.sec := rfl
@[simp] theorem pont_modPort (p : Port) (f : PortSt → PortSt) : (s.modPort p f).pont = s.pont := rfl
@[simp] theorem fa_modPort (p : Port) (f : PortSt → PortSt) : (s.modPort p f).fa = s.fa := rfl
@[simp] theorem lehr_modPort (p : Port) (f : PortSt → PortSt) : (s.modPort p f).lehr = s.lehr := rfl
@[simp] theorem tests_modPort (p : Port) (f : PortSt → PortSt) : (s.modPort p f).tests = s.tests := rfl
@[simp] theorem io_modPort (p : Port) (f : PortSt → PortSt) : (s.modPort p f).io = s.io := rfl
@[simp] theorem dma_modPort (p : Port) (f : PortSt → PortSt) : (s.modPort p f).dma = s.dma := rfl
@[simp] theorem aon_modPort (p : Port) (f : PortSt → PortSt) : (s.modPort p f).aon = s.aon := rfl
@[simp] theorem smb_modPort (p : Port) (f : PortSt → PortSt) : (s.modPort p f).smb = s.smb := rfl
@[simp] theorem nor_modPort (p : Port) (f : PortSt → PortSt) : (s.modPort p f).nor = s.nor := rfl
@[simp] theorem cullet_modPort (p : Port) (f : PortSt → PortSt) : (s.modPort p f).cullet = s.cullet := rfl
@[simp] theorem starts_modPort (p : Port) (f : PortSt → PortSt) : (s.modPort p f).starts = s.starts := rfl
@[simp] theorem hostMem_modPort (p : Port) (f : PortSt → PortSt) : (s.modPort p f).hostMem = s.hostMem := rfl
@[simp] theorem mpIrq_modPort (p : Port) (f : PortSt → PortSt) : (s.modPort p f).mpIrq = s.mpIrq := rfl
@[simp] theorem pending_modPort (p : Port) (f : PortSt → PortSt) : (s.modPort p f).pending = s.pending := rfl

@[simp] theorem now_spend : (s.spend).now = s.now := rfl
@[simp] theorem grade_spend : (s.spend).grade = s.grade := rfl
@[simp] theorem assign_spend : (s.spend).assign = s.assign := rfl
@[simp] theorem sh_spend : (s.spend).sh = s.sh := rfl
@[simp] theorem cores_spend : (s.spend).cores = s.cores := rfl
@[simp] theorem clusters_spend : (s.spend).clusters = s.clusters := rfl
@[simp] theorem stations_spend : (s.spend).stations = s.stations := rfl
@[simp] theorem wheelAt_spend : (s.spend).wheelAt = s.wheelAt := rfl
@[simp] theorem flight_spend : (s.spend).flight = s.flight := rfl
@[simp] theorem thread_spend : (s.spend).thread = s.thread := rfl
@[simp] theorem dir_spend : (s.spend).dir = s.dir := rfl
@[simp] theorem masks_spend : (s.spend).masks = s.masks := rfl
@[simp] theorem deep_spend : (s.spend).deep = s.deep := rfl
@[simp] theorem memRate_spend : (s.spend).memRate = s.memRate := rfl
@[simp] theorem memDbi_spend : (s.spend).memDbi = s.memDbi := rfl
@[simp] theorem memEcc_spend : (s.spend).memEcc = s.memEcc := rfl
@[simp] theorem treg_spend : (s.spend).treg = s.treg := rfl
@[simp] theorem shr_spend : (s.spend).shr = s.shr := rfl
@[simp] theorem straps_spend : (s.spend).straps = s.straps := rfl
@[simp] theorem ports_spend : (s.spend).ports = s.ports := rfl
@[simp] theorem tenants_spend : (s.spend).tenants = s.tenants := rfl
@[simp] theorem replies_spend : (s.spend).replies = s.replies := rfl
@[simp] theorem sync_spend : (s.spend).sync = s.sync := rfl
@[simp] theorem syncOwn_spend : (s.spend).syncOwn = s.syncOwn := rfl
@[simp] theorem nseq_spend : (s.spend).nseq = s.nseq := rfl
@[simp] theorem inj_spend : (s.spend).inj = s.inj := rfl
@[simp] theorem injNoted_spend : (s.spend).injNoted = s.injNoted := rfl
@[simp] theorem egress_spend : (s.spend).egress = s.egress := rfl
@[simp] theorem egDrop_spend : (s.spend).egDrop = s.egDrop := rfl
@[simp] theorem govF_spend : (s.spend).govF = s.govF := rfl
@[simp] theorem own_spend : (s.spend).own = s.own := rfl
@[simp] theorem pin_spend : (s.spend).pin = s.pin := rfl
@[simp] theorem pinNoted_spend : (s.spend).pinNoted = s.pinNoted := rfl
@[simp] theorem pinIn_spend : (s.spend).pinIn = s.pinIn := rfl
@[simp] theorem timers_spend : (s.spend).timers = s.timers := rfl
@[simp] theorem mem_spend : (s.spend).mem = s.mem := rfl
@[simp] theorem deepGen_spend : (s.spend).deepGen = s.deepGen := rfl
@[simp] theorem coreGen_spend : (s.spend).coreGen = s.coreGen := rfl
@[simp] theorem eccUe_spend : (s.spend).eccUe = s.eccUe := rfl
@[simp] theorem eccCe_spend : (s.spend).eccCe = s.eccCe := rfl
@[simp] theorem mpHalted_spend : (s.spend).mpHalted = s.mpHalted := rfl
@[simp] theorem edc_spend : (s.spend).edc = s.edc := rfl
@[simp] theorem boot_spend : (s.spend).boot = s.boot := rfl
@[simp] theorem fuses_spend : (s.spend).fuses = s.fuses := rfl
@[simp] theorem sec_spend : (s.spend).sec = s.sec := rfl
@[simp] theorem pont_spend : (s.spend).pont = s.pont := rfl
@[simp] theorem fa_spend : (s.spend).fa = s.fa := rfl
@[simp] theorem lehr_spend : (s.spend).lehr = s.lehr := rfl
@[simp] theorem tests_spend : (s.spend).tests = s.tests := rfl
@[simp] theorem io_spend : (s.spend).io = s.io := rfl
@[simp] theorem dma_spend : (s.spend).dma = s.dma := rfl
@[simp] theorem aon_spend : (s.spend).aon = s.aon := rfl
@[simp] theorem smb_spend : (s.spend).smb = s.smb := rfl
@[simp] theorem nor_spend : (s.spend).nor = s.nor := rfl
@[simp] theorem cullet_spend : (s.spend).cullet = s.cullet := rfl
@[simp] theorem starts_spend : (s.spend).starts = s.starts := rfl
@[simp] theorem hostMem_spend : (s.spend).hostMem = s.hostMem := rfl
@[simp] theorem mpIrq_spend : (s.spend).mpIrq = s.mpIrq := rfl
@[simp] theorem pending_spend : (s.spend).pending = s.pending := rfl

end Sys2Proof.Machine
end

