-- ==== Sys2Proof/Tests/Slice0.lean ====
section
/-!
SUPPORT. Small tests of the model, and for each statement concrete states that meet its hypotheses together, clause by
clause.
-/

open Sys2Proof Sys2Proof.Machine

namespace Sys2Proof.Tests

set_option Elab.async false

/-! ### Small states -/

def k0 : CoreId := ⟨0, 0⟩

/-- A ready device whose tenant 0 has cluster 0 and whose port 0 is up. -/
def small : State :=
  { State.reset with
    assign := [(0, some 0)]
    boot := { ready := true }
    ports := State.reset.ports.set 0 { linkUp := true, cfg := { msixEn := true } } }

/-- Core 0 runs its UPDATE program. -/
def eng (f : NEngine → NEngine) : State := small.modE 0 fun e => f { e with st := .update }
/-- The engine as f makes it, idle. -/
def idle (f : NEngine → NEngine) : State := eng fun e => f { e with st := .idle }
/-- The word of i stands at the program counter of core 0. -/
def word (i : Instr) (s : State) : State :=
  match encodeWord i with
  | some w => s.writeWord (progAddr 0 (s.core 0).e.regs.pc.toNat) w
  | none => s
/-- Registers 1 to 3 of core 0. -/
def with3 (a b c : Word) (e : NEngine) : NEngine :=
  { e with regs := { e.regs with g := ((e.regs.g.set 1 a).set 2 b).set 3 c } }
/-- s with 64-bit words written at their addresses. -/
def words8 (xs : List (Nat × Nat)) (s : State) : State :=
  xs.foldl (fun s x => ((leBytes 8 x.2).zip (List.range 8)).foldl (fun s p => s.writeByte (x.1 + p.2) p.1) s) s
def shears (f : Shears → Shears) (s : State) : State := s.modShear 0 f
def ten (f : TenantSt → TenantSt) (s : State) : State := s.modTenant 0 f
def cane (n : Nat) (f : Cane → Cane) (s : State) : State := s.modStation n fun x => { x with cane := f x.cane }
def gather (n : Nat) (f : Gather → Gather) (s : State) : State := s.modStation n fun x => { x with gather := f x.gather }
def rider (slot : Nat) (p : Pkt) (s : State) : State := { s with thread := [(slot, some { pkt := p })] }
def port0 (f : PortSt → PortSt) (s : State) : State := s.modPort 0 f
def cmd (op : Nat) (w1 w2 w3 : Nat) : Cmd :=
  ⟨[BitVec.ofNat 64 op, BitVec.ofNat 64 w1, BitVec.ofNat 64 w2, BitVec.ofNat 64 w3, 0, 0, 0, 0], 0⟩
/-- Command c is the one to execute at port 0. -/
def ringed (c : Cmd) (s : State) : State := port0 (fun x => { x with cmdEn := true, fetched := [c], cmdTail := 1 }) s
def own (xs : List (Nat × Nat)) (s : State) : State := { s with own := xs.map fun p => (p.1, some p.2) }

/-- Served, as a value that can be computed. -/
def servedB (s : State) (r : Req) : Bool :=
  !s.boot.inReset && s.boot.ready && !s.asleep &&
    match r with
    | .mp => true
    | .port p => s.configured p && (s.port p).linkUp && !(s.port p).cfg.d3 && !s.doorbellWaits p
    | .smbus => false

theorem served_of {s : State} {r : Req} (h : servedB s r = true) : Served s r := by
  cases r <;> simp_all [servedB, Served, Reaches]

/-! ### Ill-formed commands are refused -/

theorem test_ill_formed :
    (Instr.iSrs k0 1 2 0).wellFormed = false ∧ (Instr.iSrs k0 1 2 17).wellFormed = false ∧
    (Instr.iVsrs k0 1 2 0 0).wellFormed = false ∧ (Instr.iLd k0 1 2 1 1 0).wellFormed = false ∧
    (Instr.iSt k0 1 2 1 1 0).wellFormed = false ∧ (Instr.iVld k0 1 2 6 0 0 0).wellFormed = false ∧
    (Instr.iVst k0 1 2 6 0 0 0).wellFormed = false ∧ (Instr.iQrecv k0 3 3 0).wellFormed = false ∧
    (Instr.perstPort 0).wellFormed = false ∧ (Instr.perstPort0 {} { badCores := [1152] }).wellFormed = false ∧
    (Instr.rowTableStage .mp 0 0 0 0).wellFormed = false ∧ (Instr.rowTableStage .mp 0 0 6 0).wellFormed = false ∧
    (Instr.sectorReadDone 0 128 {}).wellFormed = false ∧ (Instr.sectorReadDone 0 0 { retries := 5 }).wellFormed = false ∧
    (Instr.gddr6Refresh 0 (List.replicate 9 0)).wellFormed = false ∧
    (Instr.beaconMissing .cane 0 .l true).wellFormed = false ∧ (Instr.cmdFetch 0 (some [[0]])).wellFormed = false ∧
    (Instr.attest 0 (some [])).wellFormed = false ∧ (Instr.gloryWindowEnd (List.replicate 9 0)).wellFormed = false ∧
    (Instr.smbWriteWords [] true {}).wellFormed = false ∧
    (Instr.smbWriteWords (List.replicate 9 0) true {}).wellFormed = false ∧
    (Instr.addDoorbellWrite 0 0 []).wellFormed = false ∧ (Instr.setDoorbellWrite 0 0 []).wellFormed = false ∧
    (Instr.injectionWindowWrite 0 0x1000 []).wellFormed = false ∧ (Instr.bar2Write 0 0 []).wellFormed = false ∧
    (Instr.bar2Read 0 0 0).wellFormed = false := by decide

theorem test_well_formed :
    (Instr.iSrs k0 1 2 1).wellFormed = true ∧ (Instr.iSrs k0 1 2 16).wellFormed = true ∧
    (Instr.iLd k0 1 2 0 2 0).wellFormed = true ∧ (Instr.perstPort 3).wellFormed = true ∧
    (Instr.rowTableStage .mp 0 0 5 0).wellFormed = true := by decide

/-! ### Words of Mladza, written out from R105 to R118 -/
theorem test_decode_scalar :
    decodeWord k0 0x04480415 = some (.iSrs k0 1 2 16) ∧          -- 0x01, rd 1, ra 2, SH 16, FN 0x15
    decodeWord k0 0x084BFFFF = some (.iAddi k0 1 2 0x3FFFF) ∧    -- 0x02, rd 1, ra 2, IMM18 -1
    decodeWord k0 0x1FC08000 = some (.iLih k0 15 0x8000) := by decide   -- 0x07, rd 15

theorem test_decode_vector :
    decodeWord k0 0x4110300A = some (.iVsra k0 2 1 0 12) ∧       -- 0x10, vd 2, va 1, m 0, SH 12, FN 0x0A
    decodeWord k0 0x402E8024 = some (.iVcmpGt k0 1 2 7) ∧        -- 0x10, md 1, va 2, vb 7, FN 0x24
    decodeWord k0 0x44C40006 = some (.iMfm k0 4 3) ∧             -- 0x11, ma 3, g 4, FN 6
    decodeWord k0 0x48900082 = some (.iDecay k0 1 1 0 2) := by decide   -- 0x12, vd 1, va 1, ga 2, FN 2

theorem test_decode_memory_and_control :
    decodeWord k0 0x89C85FFF = some (.iVld k0 7 2 0 2 3 0x7FF) ∧ -- 0x22, v7, ga 2, NS.W, m 3, OFF11 -1
    decodeWord k0 0xC0000100 = some (.iBr k0 0x100) ∧            -- 0x30, COND 0
    decodeWord k0 0xCC3FFFFF = some (.iLoopi k0 1023 0xFFF) ∧    -- 0x33, IMM10 1023
    decodeWord k0 0xD040010F = some (.iNxtblkA k0 1 0x10F) ∧     -- 0x34, g 1
    decodeWord k0 0xE00C0244 = some (.iMts k0 9 3) := by decide  -- 0x38, ra 3, IMM8 9, FN 4

/-- R105 and R106: no word of an undefined opcode, with a used bit out of place or an SH out of range decodes. -/
theorem test_decode_illegal :
    decodeWord k0 0 = none ∧ decodeWord k0 0xFFFFFFFF = none ∧ decodeWord k0 0x04480040 = none ∧
    decodeWord k0 0x04480015 = none ∧ decodeWord k0 0x04480455 = none ∧ decodeWord k0 0x80006000 = none := by decide

/-! ### Worked examples of the spec -/

/-- R76: three missed ticks with α = 0xF000 take 4,096 to 3,375; R116: α = 0xE000 and n = 2 give f = 0xC400. -/
theorem test_decay :
    alphaPow 0xF000 3 = 0xD2F0 ∧ (decayWord 4096 (alphaPow 0xF000 3)).toNat = 3375 ∧ alphaPow 0xE000 2 = 0xC400 := by
  decide +kernel

/-- The example after R34: neuron 5,000 of logical core 19 in cluster 13. -/
theorem test_neuron_address :
    nsAddr (32 * 13 + 19) 5000 = 0x2001A9B4E20 ∧ acAddr (32 * 13 + 19) 5000 = 0x2001A9BCE20 := by decide +kernel

/-- The example before R135: the filter set of source 0x367388 with FILT_LOG2 10 and FILT_SALT 0x0A5. -/
theorem test_filter_set : filterSet { filtLog2 := 10, salt := 0x0A5 } 0x367388 = 74 := by decide +kernel

/-- The example after R255: the row of source 0x360105. -/
theorem test_row_address :
    (⟨0x90000000, 0x1E360000, 0, 0x08000000, 90, 0x00405000⟩ : RowEnt).rowAddr 0x360105 = 0x1000B7840 ∧
    (⟨0x90000000, 0x1E360000, 0, 0x08000000, 90, 0x00405000⟩ : RowEnt).rowLen = 2880 := by decide +kernel

/-- The example after R324: HEAD 5,008 and TAIL 5,104 in a ring of 512 words. -/
theorem test_event_ring_space :
    ({ evSize := 9, evHead := 5008, evTail := 5104 } : PortSt).evFree = 416 ∧
    ({ evSize := 9, evHead := 5008, evTail := 5104 } : PortSt).evEnd = 16 := by decide +kernel

/-- R397 and R398: payloads +3 and -1 on OUT 8,192 with GAIN 512, and the high time they give with PERIOD 10,000. -/
def motor : Dec := { cfg := 0xC0000000, gain := 512, lim := 0x7FFF0000, period := 10000, out := 8192 }

theorem test_motor_pwm :
    (motor.event ⟨0, 3, 0, 0, false⟩).out = 9728 ∧
    ((motor.event ⟨0, 3, 0, 0, false⟩).event ⟨0, 0xFF, 0, 0, false⟩).out = 9216 ∧
    ((motor.event ⟨0, 3, 0, 0, false⟩).event ⟨0, 0xFF, 0, 0, false⟩).high = 2812 := by decide +kernel

/-! ### One step -/

/-- The state after command i, and s where it stops. -/
def after (i : Instr) (s : State) : State :=
  match exec i s with
  | .next t => t
  | _ => s

/-- Command i answers a next state in s. -/
def completes (i : Instr) (s : State) : Bool :=
  match exec i s with
  | .next _ => true
  | _ => false

theorem test_add_wraps :
    (after (.iAdd k0 3 1 2) (word (.iAdd k0 3 1 2) (eng (with3 0xFFFFFFFF 2 0)))).getG 0 3 = 1 := by decide +kernel

theorem test_mulhs_signed :
    (after (.iMulhs k0 2 1 2) (word (.iMulhs k0 2 1 2) (eng (with3 0x80000000 2 0)))).getG 0 2 = 0xFFFFFFFF := by
  decide +kernel

/-- R108: LIH keeps the low half of its own destination. -/
theorem test_lih_keeps_low :
    (after (.iLih k0 1 0x1234) (word (.iLih k0 1 0x1234) (eng (with3 0xABCD5678 0 0)))).getG 0 1 = 0x12345678 := by
  decide +kernel

/-- R64: a write of m0 is ignored. -/
theorem test_m0_all_ones :
    ((after (.iMnot k0 0 0) (word (.iMnot k0 0 0) (eng id))).core 0).e.regs.readM 0 = 0xFFFF := by decide +kernel

/-- The state after a step of s, and s where it stops. -/
def stepped (s : State) : State :=
  match step s with
  | .next t => t
  | _ => s

/-- A step takes the command at the front: a period written for a stopped tenant holds at once (R409). -/
theorem test_step_period :
    (stepped { small with pending := [.shPeriodWrite (.port 0) 0 500, .portsRelease] }).pending = [.portsRelease] ∧
    ((stepped { small with pending := [.shPeriodWrite (.port 0) 0 500] }).shear 0).period = 500 := by decide +kernel

/-! ### Mladza -/

/-- A core in UPDATE executes each of these next. -/
theorem witness_ScalarOps :
    ∀ i ∈ [Instr.iAdd k0 1 2 3, .iSub k0 1 2 3, .iAnd k0 1 2 3, .iOr k0 1 2 3, .iXor k0 1 2 3, .iSll k0 1 2 3,
      .iSrl k0 1 2 3, .iSra k0 1 2 3, .iMul k0 1 2 3, .iMulhs k0 1 2 3, .iMin k0 1 2 3, .iMax k0 1 2 3, .iSlt k0 1 2 3,
      .iSltu k0 15 0 15, .iSlli k0 1 2 31, .iSrli k0 1 2 31, .iSrai k0 1 2 0, .iAddi k0 1 2 0x20000, .iAndi k0 1 2 0x3FFFF,
      .iOri k0 1 2 0, .iXori k0 1 2 5, .iLi k0 1 0x8000, .iLih k0 0 0xFFFF], Ready (word i (eng id)) k0 i := by
  unfold Ready; decide +kernel

theorem witness_ScalarSaturationAndDraws :
    ∀ i ∈ [Instr.iSatS8 k0 1 2, .iSatS16 k0 1 2, .iSatU8 k0 1 2, .iAbs k0 1 1, .iMuls k0 1 2 3 31, .iRand k0 15,
      .iSrs k0 1 2 1, .iSrs k0 1 2 16], Ready (word i (eng id)) k0 i := by
  unfold Ready; decide +kernel

theorem witness_VectorElementOps :
    ∀ i ∈ [Instr.iVadd k0 1 2 3 0, .iVsub k0 1 2 3 1, .iVand k0 1 2 3 2, .iVor k0 1 2 3 3, .iVxor k0 7 7 7 0,
      .iVmin k0 1 2 3 0, .iVmax k0 1 2 3 0, .iVsllv k0 1 2 3 0, .iVsrav k0 1 2 3 0, .iVmul k0 1 2 3 0,
      .iVmuls k0 1 2 3 0 31, .iVsel k0 1 2 3 0], Ready (word i (eng id)) k0 i := by
  unfold Ready; decide +kernel

theorem witness_VectorUnaryOps :
    ∀ i ∈ [Instr.iVabs k0 1 2 3, .iVsll k0 1 2 3 31, .iVsrl k0 1 2 3 0, .iVsra k0 1 2 3 31, .iVmov k0 1 2 0,
      .iVbcast k0 7 15 0, .iViota k0 1 3, .iVext k0 15 7 15, .iVins k0 1 2 0, .iVsum k0 1 2 3],
      Ready (word i (eng id)) k0 i := by
  unfold Ready; decide +kernel

theorem witness_VectorSaturationAndDraws :
    ∀ i ∈ [Instr.iVsatS8 k0 1 2 0, .iVsatS16 k0 1 2 1, .iVsatU8 k0 7 0 3, .iVrand k0 1 3, .iVsrs k0 1 2 3 1,
      .iVsrs k0 1 2 3 16], Ready (word i (eng id)) k0 i := by
  unfold Ready; decide +kernel

theorem witness_VectorComparesAndMasks :
    ∀ i ∈ [Instr.iVcmpEq k0 0 2 3, .iVcmpNe k0 1 2 3, .iVcmpLt k0 1 2 3, .iVcmpLe k0 1 2 3, .iVcmpGt k0 1 2 3,
      .iVcmpGe k0 3 7 7, .iMand k0 1 2 3, .iMor k0 1 2 3, .iMxor k0 1 2 3, .iMandn k0 1 2 3, .iMnot k0 0 2, .iMmov k0 1 15,
      .iMfm k0 15 0, .iMpop k0 1 3], Ready (word i (eng id)) k0 i := by
  unfold Ready; decide +kernel

theorem witness_Branches :
    ∀ i ∈ [Instr.iBr k0 4095, .iBeq k0 1 1 0, .iBne k0 1 2 77, .iBlt k0 1 2 77, .iBge k0 1 2 77, .iBltu k0 1 2 77,
      .iBgeu k0 1 2 77, .iBz k0 0 77, .iBnz k0 15 77, .iBany k0 0 77, .iBnone k0 3 77], Ready (word i (eng id)) k0 i := by
  unfold Ready; decide +kernel

theorem witness_CallsAndLoops :
    (∀ i ∈ [Instr.iCall k0 4095, .iRet k0, .iNop k0, .iLoop k0 1 1, .iLoopi k0 0 4095, .iLoopi k0 1023 1],
      Ready (word i (eng id)) k0 i) ∧
    (∀ i ∈ [Instr.iLoop k0 1 1, .iLoopi k0 0 4095, .iLoopi k0 1023 1], ∀ t ∈ [1, 4095],
      ((word i (eng id)).core 0).e.regs.pc.toNat < t ∧ (word i (eng id)).ueAt (progAddr 0 t) = false ∧
      loopEndBad ((word i (eng id)).readWord (progAddr 0 t)) = false) := by
  unfold Ready; decide +kernel

/-- Blocks 511 or none in the sets, the cursor at its ends. -/
def blocks (set : BitVec 512) (cursor : Nat) : State :=
  eng fun e => { e with blk := { e.blk with
    active := set
    pending := set
    curA := cursor
    curP := cursor
    cur := some 3
    stampOnLeave := true } }

abbrev WalkHyp (i : Instr) (s : State) : Prop := (s.core 0).e.st = .update ∧ Ready (word i s) k0 i

theorem witness_BlockWalk :
    WalkHyp (.iNxtblkA k0 1 77) (blocks (1 <<< 511) 511) ∧ WalkHyp (.iNxtblkP k0 0 4095) (blocks (1 <<< 511) 0) ∧
    WalkHyp (.iNxtblkA k0 15 0) (blocks 0 512) ∧ WalkHyp (.iNxtblkP k0 1 77) (blocks 0 0) := by
  unfold WalkHyp Ready; decide +kernel

theorem witness_BlockWalk_first :
    (1 <<< 511 : BitVec 512).getLsbD 511 = true ∧ ∀ j, j < 511 → (1 <<< 511 : BitVec 512).getLsbD j = false := by
  decide +kernel

theorem witness_BlockWalk_absent : ∀ j : Nat, 0 ≤ j → ((blocks 0 0).core 0).e.blk.active.getLsbD j = false := by
  intro j _; exact BitVec.getLsbD_zero

/-- Core 0 runs END in an entry. -/
def ending (st : EState) (f : NEngine → NEngine) (s : State := small) : State :=
  word (.iEnd k0) (s.modE 0 fun e => f { e with st := st })

theorem witness_EntryEndsAndFaults :
    (let s := ending .tick fun e => { e with cr := { e.cr with entUpdate := ⟨true, 9, 0⟩ } }
     Ready s k0 (.iEnd k0) ∧ (s.core 0).e.st = .tick ∧ (s.core 0).e.cr.entUpdate.en = true) ∧
    (Ready (ending .update id) k0 (.iEnd k0) ∧ ((ending .update id).core 0).e.st = .update) ∧
    (Ready (ending .tick id) k0 (.iEnd k0) ∧ ((ending .tick id).core 0).e.cr.entUpdate.en = false) ∧
    (Ready (ending .epoch id) k0 (.iEnd k0) ∧ (ending .epoch id).mayCommit 0 = true) ∧
    (let s := ending .epoch id (shears (fun x => { x with stopping := true }) small)
     Ready s k0 (.iEnd k0) ∧ (s.core 0).e.st = .epoch ∧ s.mayCommit 0 = false) ∧
    (∀ b ∈ [true, false], let s := ending .message fun e => { e with fl := { e.fl with edgeDue := b } }
     Ready s k0 (.iEnd k0) ∧ (s.core 0).e.st = .message ∧ (s.core 0).e.fl.edgeDue = b) ∧
    (let s := eng fun e => { e with regs := { e.regs with pc := 4095 } }
     coreOf (.iNop k0) = some k0 ∧ (s.core 0).e.runnable = true ∧ (s.core 0).e.bpAt = none ∧
     s.ueAt (progAddr 0 (s.core 0).e.regs.pc.toNat) = false ∧ decodeWord k0 (s.fetch 0) = none) := by
  unfold Ready; decide +kernel

/-- The current block is 511, with a table entry and a scale. -/
def current : State :=
  eng fun e => { e with blk := { e.blk with cur := some 511, table := [(511, 0x03000000)], scale := [(3, 33)] } }

theorem witness_BlockInstructions :
    (current.core 0).e.st = .update ∧ (current.core 0).e.blk.cur = some 511 ∧
    ∀ i ∈ [Instr.iDecay k0 1 2 3 15, .iVscl k0 1 2 0, .iPmark k0 0, .iPmark k0 1, .iHold k0 3, .iBstamp k0],
      Ready (word i current) k0 i ∧ ((word i current).core 0).e = (current.core 0).e := by
  unfold Ready; decide +kernel

theorem witness_AccumulatorReads :
    ∀ i ∈ [Instr.iVacc k0 7, .iAclr k0], Ready (word i current) k0 i ∧
      ((word i current).core 0).e = (current.core 0).e ∧
      ∀ j, j < 16 → (word i current).ueAt (acAddr 0 (16 * 511 + j)) = false := by
  unfold Ready; decide +kernel

abbrev TraceHyp (i : Instr) (n : Nat) (s : State) : Prop :=
  Ready s k0 i ∧ (s.getG 0 1).toNat = n ∧ n < 8192 ∧ ∀ j, j < 8 → s.ueAt (trAddr 0 (16 * (n / 16) + 2 * j)) = false

theorem witness_TraceUpdates :
    TraceHyp (.iVtrupH k0 1 2 1 2 3) 8191 (word (.iVtrupH k0 1 2 1 2 3) (eng (with3 8191 0xE000 2))) ∧
    TraceHyp (.iVtrupL k0 1 0 1 2 3) 0 (word (.iVtrupL k0 1 0 1 2 3) (eng (with3 0 0xFFFF 0xFFFFFFFF))) := by
  unfold TraceHyp Ready; decide +kernel

/-- The emit phase is open, register 1 holds n, and m1 masks the first and the last element of block 511. -/
def emitting (n : Word) (sent : BitVec 8192) (waiting : Nat) : State :=
  eng fun e => { (with3 n 7 0 e) with
    fl := { e.fl with phase := true, sent := sent }
    emitBuf := List.replicate waiting ⟨7, 9, 0⟩
    blk := { e.blk with cur := some 511 }
    regs := { (with3 n 7 0 e).regs with m := e.regs.m.set 1 0x8001 } }

abbrev EmitHyp (n : Nat) (sent : Bool) (s : State) : Prop :=
  Ready s k0 (.iEmit k0 1 2) ∧ (s.core 0).e.st = .update ∧ (s.core 0).e.fl.phase = true ∧ (s.getG 0 1).toNat = n ∧
  n < 8192 ∧ (s.core 0).e.fl.sent.getLsbD n = sent ∧ (s.core 0).e.emitBuf.length < 4
abbrev VemitHyp (i : Instr) (s : State) : Prop :=
  Ready s k0 i ∧ (s.core 0).e.blk.cur = some 511 ∧ (s.core 0).e.emitAt = 0 ∧
  ((List.finRange 16).filter fun j => ((s.core 0).e.regs.readM 1).getLsbD j.val) = [0, 15] ∧
  (s.core 0).e.emitBuf.length + 2 ≤ 4 ∧ ∀ j ∈ [(0 : Fin 16), 15], (s.core 0).e.fl.sent.getLsbD (16 * 511 + j.val) = false

theorem witness_Emissions :
    EmitHyp 0 false (word (.iEmit k0 1 2) (emitting 0 0 3)) ∧
    EmitHyp 8191 false (word (.iEmit k0 1 2) (emitting 8191 0 0)) ∧
    EmitHyp 8191 true (word (.iEmit k0 1 2) (emitting 8191 (1 <<< 8191) 0)) ∧
    VemitHyp (.iVemitU k0 1 1) (word (.iVemitU k0 1 1) (emitting 0 0 2)) ∧
    VemitHyp (.iVemitS k0 7 1) (word (.iVemitS k0 7 1) (emitting 0 0 0)) := by
  refine ⟨?_, ?_, ?_, ?_, ?_⟩ <;> first | unfold EmitHyp Ready | unfold VemitHyp Ready
  all_goals decide +kernel

/-- Register 2 holds an element number. -/
def views (n : Word) : State := eng (with3 5 n 0)

abbrev LoadHyp (view sfx n : Nat) (i : Instr) (s : State) : Prop :=
  Ready (word i s) k0 i ∧ (word i s).viewIndex 0 view 2 0 = some n ∧ (word i s).viewUe 0 view sfx n false = false

theorem witness_ViewLoads :
    LoadHyp 0 0 0 (.iLd k0 1 2 0 0 0) (views 0) ∧ LoadHyp 0 1 8191 (.iLd k0 1 2 0 1 0) (views 8191) ∧
    LoadHyp 0 2 8191 (.iLd k0 1 2 0 2 0) (views 8191) ∧ LoadHyp 1 2 8191 (.iLd k0 1 2 1 2 0) (views 8191) ∧
    LoadHyp 2 0 0 (.iLd k0 1 2 2 0 0) (views 0) ∧ LoadHyp 2 1 8191 (.iLd k0 1 2 2 1 0) (views 8191) ∧
    LoadHyp 3 2 255 (.iLd k0 1 2 3 2 0) (views 255) ∧ LoadHyp 4 2 511 (.iLd k0 1 2 4 2 0) (views 511) ∧
    LoadHyp 5 2 1 (.iLd k0 1 2 5 2 0) (views 1) ∧ (word (.iLd k0 1 2 5 2 0) (views 1)).ueAt (synAddr 0 0) = false ∧
    LoadHyp 6 2 65535 (.iLd k0 1 2 6 2 0) (views 65535) := by
  refine ⟨?_, ?_, ?_, ?_, ?_, ?_, ?_, ?_, ?_, by decide +kernel, ?_⟩ <;> unfold LoadHyp Ready <;> decide +kernel

abbrev VectorHyp (view sfx n : Nat) (store : Bool) (i : Instr) (s : State) : Prop :=
  viewOk view sfx true = true ∧ Ready (word i s) k0 i ∧ (word i s).viewIndex 0 view 2 0 = some n ∧
  ∀ j : Fin 16, (word i s).viewUe 0 view sfx (16 * (n / 16) + j.val) store = false

theorem witness_ViewLoads_vector :
    VectorHyp 0 0 0 false (.iVld k0 7 2 0 0 0 0) (views 0) ∧ VectorHyp 0 1 8191 false (.iVld k0 7 2 0 1 3 0) (views 8191) ∧
    VectorHyp 0 2 8191 false (.iVld k0 7 2 0 2 0 0) (views 8191) ∧
    VectorHyp 1 2 8191 false (.iVld k0 7 2 1 2 0 0) (views 8191) ∧
    VectorHyp 2 0 0 false (.iVld k0 7 2 2 0 0 0) (views 0) ∧
    VectorHyp 2 1 8191 false (.iVld k0 7 2 2 1 0 0) (views 8191) := by
  unfold VectorHyp Ready; decide +kernel

abbrev StoreHyp (view sfx n : Nat) (i : Instr) (s : State) : Prop :=
  viewOk view sfx false = true ∧ Ready (word i s) k0 i ∧ view ≠ 4 ∧ view ≠ 5 ∧ (word i s).viewIndex 0 view 2 0 = some n ∧
  (word i s).viewUe 0 view sfx n true = false

theorem witness_ViewStores :
    StoreHyp 0 0 0 (.iSt k0 1 2 0 0 0) (views 0) ∧ StoreHyp 0 1 8191 (.iSt k0 1 2 0 1 0) (views 8191) ∧
    StoreHyp 0 2 8191 (.iSt k0 1 2 0 2 0) (views 8191) ∧ StoreHyp 1 2 8191 (.iSt k0 1 2 1 2 0) (views 8191) ∧
    StoreHyp 2 0 0 (.iSt k0 1 2 2 0 0) (views 0) ∧ StoreHyp 2 1 8191 (.iSt k0 1 2 2 1 0) (views 8191) ∧
    StoreHyp 3 2 255 (.iSt k0 1 2 3 2 0) (views 255) ∧ StoreHyp 6 2 65535 (.iSt k0 1 2 6 2 0) (views 65535) ∧
    (∀ j, j < 4 → (word (.iSt k0 1 2 6 2 0) (views 65535)).openVector (shAddr 0 65535 + j) = false) := by
  refine ⟨?_, ?_, ?_, ?_, ?_, ?_, ?_, ?_, by decide +kernel⟩ <;> unfold StoreHyp Ready <;> decide +kernel

theorem witness_VectorStores :
    VectorHyp 0 0 0 true (.iVst k0 7 2 0 0 0 0) (views 0) ∧ VectorHyp 0 1 8191 true (.iVst k0 7 2 0 1 3 0) (views 8191) ∧
    VectorHyp 0 2 8191 true (.iVst k0 7 2 0 2 0 0) (views 8191) ∧
    VectorHyp 1 2 8191 true (.iVst k0 7 2 1 2 0 0) (views 8191) ∧
    VectorHyp 2 0 0 true (.iVst k0 7 2 2 0 0 0) (views 0) ∧
    VectorHyp 2 1 8191 true (.iVst k0 7 2 2 1 0 0) (views 8191) := by
  unfold VectorHyp Ready; decide +kernel

theorem witness_SpecialRegisters :
    ∀ n ∈ [0, 3, 4, 9, 12, 15, 16, 255],
      Ready (word (.iMfs k0 1 (BitVec.ofNat 8 n)) current) k0 (.iMfs k0 1 (BitVec.ofNat 8 n)) ∧
      Ready (word (.iMts k0 (BitVec.ofNat 8 n) 15) current) k0 (.iMts k0 (BitVec.ofNat 8 n) 15) := by
  unfold Ready; decide +kernel

theorem witness_ModulatorAndPeek :
    ∀ i ∈ [Instr.iMod k0 15, .iMskip k0, .iQpeek k0 15 3], Ready (word i (eng id)) k0 i := by
  unfold Ready; decide +kernel

/-- Core 0 may send to its own queue 3 through window entry 255 and flow 3; high is the high descriptor word. -/
def sends (high : Word) : State :=
  gather 0 (fun g => { g with flows := [(3, { en := true, clusters := 4 })] })
    ((eng (with3 0x7F high 0x1234)).modCluster 0 fun x => { x with qwin := [(255, ⟨true, 3, 0x7F, 1, 4⟩)] })
/-- Queue 3 holds one descriptor, and kept is the one taken before. -/
def receives (kept : Option QEnt) : State :=
  (eng id).modCore 0 fun c => { c with q := c.q.set 3 { entries := [⟨5, some (0, 3), none⟩], kept := kept } }

theorem witness_CoreQueues :
    (∀ p ∈ [((0x55 : Word), ([] : List Byte)), (0x81000004, [0, 0, 0, 0])],
      let s := word (.iQsend k0 1 2 3) (sends p.1)
      Ready s k0 (.iQsend k0 1 2 3) ∧ s.qdestOk 0 (s.getG 0 1) = true ∧
      s.findQWin 0 ((s.getG 0 1).setWidth 12) = some 255 ∧ 0 < (s.qwin 0 255).cred ∧ (s.flow 0 3).dests.length ≤ 1 ∧
      (if (s.getG 0 2).msb then s.pushData 0 (s.getG 0 2) else some []) = some p.2) ∧
    (∀ kept ∈ [none, some ⟨5, some (0, 3), none⟩], let s := word (.iQrecv k0 3 1 3) (receives kept)
      Ready s k0 (.iQrecv k0 3 1 3) ∧ ((s.core 0).q[3]).entries = [⟨5, some (0, 3), none⟩] ∧
      ((s.core 0).q[3]).kept = kept) := by
  unfold Ready; decide +kernel

def syncs (i : Instr) (o : Word) (w : Option WaitsReply) : State :=
  word i (eng fun e => { (with3 o 5 0 e) with waits := w })
abbrev SyncHyp (i : Instr) (o : Nat) (w : Option WaitsReply) (s : State) : Prop :=
  Ready s k0 i ∧ (s.getG 0 1).toNat = o ∧ o < 8192 ∧ (s.core 0).e.waits = w

theorem witness_CoreSync :
    SyncHyp (.iSig k0 1 2) 8191 none (syncs (.iSig k0 1 2) 8191 none) ∧
    SyncHyp (.iWaits k0 1 2) 0 none (syncs (.iWaits k0 1 2) 0 none) ∧
    SyncHyp (.iWaits k0 1 2) 8191 (some .met) (syncs (.iWaits k0 1 2) 8191 (some .met)) := by
  unfold SyncHyp Ready; decide +kernel

/-- The states after ADD and after END, which meet the hypotheses of the frame. -/
theorem witness_InstructionFrames :
    ∀ i ∈ [Instr.iAdd k0 1 2 3, .iEnd k0, .iSt k0 1 2 0 2 0, .iBr k0 77], Ready (word i (eng id)) k0 i ∧
      completes i (word i (eng id)) = true := by
  unfold Ready; decide +kernel

/-! ### Ticks, commits and entries -/

def tickFirst : State := shears (fun x => { x with first := true, staged := some 500 }) small
def tickNext : State :=
  { shears (fun x => { x with state := .emit, tick := 5, tag := 15, edgeAt := 10 }) small with now := 260 }
def tickCore : State :=
  idle fun e => { e with
    cr := { e.cr with entTick := ⟨true, 9, 0⟩ }
    fl := { e.fl with edgeSig := true, gapNext := true, sent := 5 } }
def tickOpen : State :=
  (shears (fun x => { x with state := .update }) { small with grade := .k768 }).modCores (small.coresOf 0)
    fun c => { c with e := { c.e with fl := { c.e.fl with gate := true } } }
def tickHold : State := shears (fun x => { x with state := .emit, hold := .requested }) small

theorem witness_TicksAdvance :
    ((tickFirst.shear 0).pstop = false ∧ (tickFirst.shear 0).stopping = false ∧ (tickFirst.shear 0).first = true) ∧
    ((tickNext.shear 0).pstop = false ∧ (tickNext.shear 0).stopping = false ∧ (tickNext.shear 0).first = false ∧
      (tickNext.shear 0).state = .emit ∧ (tickNext.shear 0).hold = .running ∧ tickNext.lossless 0 = false ∧
      (tickNext.shear 0).lastOfEpoch = false ∧ (tickNext.shear 0).lossless = false ∧ tickNext.ended 0 = true ∧
      0 < (tickNext.shear 0).period ∧ tickNext.govF ≤ 16 ∧
      tickNext.now = (tickNext.shear 0).edgeAt + (tickNext.shear 0).period) ∧
    (tickCore.coreTenant 0 = some 0 ∧ (tickCore.core 0).e.fl.edgeSig = true ∧ (tickCore.core 0).canStart = true ∧
      (tickCore.core 0).e.cr.entTick.en = true) ∧
    ((tickOpen.shear 0).state = .update ∧ tickOpen.allGates 0 = true) ∧
    ((tickHold.shear 0).hold = .requested ∧ (tickHold.shear 0).stopping = false ∧ tickHold.creditOut 0 = false ∧
      (tickHold.shear 0).state = .emit ∧ (tickHold.shear 0).lastOfEpoch = false ∧ tickHold.drained 0 = true) := by
  decide +kernel

def commitLast : State := shears (fun x => { x with state := .emit, epochLen := 4, eptick := 3 }) small
def commitCore (en : Bool) : State :=
  idle fun e => { e with fl := { e.fl with commitDue := true }, cr := { e.cr with entEpoch := ⟨en, 44, 0⟩ } }
def commitWork : State := small.modCore 0 fun c => { c with mrv := { c.mrv with busy := true } }
def commitReported : State :=
  (shears (fun x => { x with state := .commit }) small).modCores (small.coresOf 0)
    fun c => { c with e := { c.e with fl := { c.e.fl with commitDone := true } } }
def commitSnap : State :=
  { commitReported with lehr := { ready := true, jobs := [⟨⟨0, 7, 0, false, 0, false⟩, 0, 0x100, .snapDue, 0⟩] } }
def commitCopied : State := shears (fun x => { x with state := .snapshot }) small
def messageDue : State :=
  (idle fun e => { e with cr := { e.cr with entMessage := ⟨true, 3, 0b0110⟩ } }).modQ 0 2
    fun q => { q with entries := [⟨5, none, none⟩] }

theorem witness_CommitsAndMessages :
    ((commitLast.shear 0).state = .emit ∧ (commitLast.shear 0).pstop = false ∧ (commitLast.shear 0).stopping = false ∧
      (commitLast.shear 0).lastOfEpoch = true ∧ commitLast.ended 0 = true ∧ commitLast.drained 0 = true) ∧
    (∀ b ∈ [true, false], ((commitCore b).core 0).e.fl.commitDue = true ∧ ((commitCore b).core 0).e.st = .idle ∧
      ((commitCore b).core 0).e.dbg.halted = false ∧ (commitCore b).mayCommit 0 = true ∧
      ((commitCore b).core 0).e.cr.entEpoch.en = b) ∧
    ((commitWork.core 0).mrv.busy = true ∧ (commitWork.core 0).mrv.en = false) ∧
    (∀ s ∈ [commitReported, commitSnap], (s.shear 0).state = .commit ∧ s.allReported 0 = true ∧
      (s.shear 0).stopping = false ∧ (s.shear 0).hold = .running ∧ (s.shear 0).pstop = false ∧ s.govF ≤ 16) ∧
    commitReported.snapshotDue 0 = false ∧ commitSnap.snapshotDue 0 = true ∧
    ((commitCopied.shear 0).state = .snapshot ∧ (commitCopied.shear 0).stopping = false ∧
      (commitCopied.shear 0).hold = .running ∧ (commitCopied.shear 0).pstop = false ∧ commitCopied.govF ≤ 16) ∧
    ((messageDue.core 0).mayMessage = true ∧ (messageDue.core 0).namedQueues ≠ []) := by
  decide +kernel

/-! ### Integration and receive units -/

def inEv (tag : BitVec 4) : InEv := { src := 0x040001, pay := 9, tag := tag, gap := true }
def seg : Seg := ⟨15, 3, 35, 0, 0⟩
/-- An event crosses to core 0, whose FIFO holds n events. -/
def crossing (tag : BitVec 4) (n : Nat) : State :=
  small.modI 0 fun i => { i with crossing := [inEv tag], fifo := List.replicate n (inEv 0) }
def integrating : State :=
  (eng fun e => { e with fl := { e.fl with phase := true } }).modI 0
    fun i => { i with fifo := [inEv 0], segs := [seg] }
/-- A segment of tick 0 or of another waits in landing slot 15; its header is right, or names no format that is stored. -/
def landed (tick : BitVec 4) (header : Nat) : State :=
  words8 [(lbAddr 0 (2 * (32 * 15 + 1)), header)] ((eng fun e => { e with fl := { e.fl with phase := true, tag := tick } }).modI 0
    fun i => { i with segs := [seg] })
def badLanded (s : State) : Bool := (rowHdr (s.rowWord 0 (.lb 15) 1)).badSeg 3 (auxStored (s.segAux 0 15))
/-- A received event whose group reaches the first and the last core. -/
def received (lossless : Bool) : State :=
  shears (fun x => { x with lossless := lossless })
    { small.modCluster 0 (fun c => { c with rx := [⟨⟨5, 0x1234, 1, 2, false⟩, 0, 36, 0⟩] }) with
      masks := [(0x1234, 0x80000001)] }

theorem witness_EventsReachAccumulators :
    (((crossing 0 31).core 0).i.crossing = [inEv 0] ∧ (inEv 0).tag = ((crossing 0 31).core 0).e.fl.tag ∧
      ((crossing 0 31).core 0).i.fifo.length < 32) ∧
    (((crossing 15 0).core 0).i.crossing = [inEv 15] ∧ (inEv 15).tag ≠ ((crossing 15 0).core 0).e.fl.tag) ∧
    (((crossing 0 32).core 0).i.crossing = [inEv 0] ∧ (inEv 0).tag = ((crossing 0 32).core 0).e.fl.tag ∧
      32 ≤ ((crossing 0 32).core 0).i.fifo.length ∧ (crossing 0 32).coreLossless 0 = false) ∧
    ((integrating.core 0).i.fifo = [inEv 0] ∧ (∀ g ∈ (integrating.core 0).i.segs.head?, (inEv 0).order ≤ g.order) ∧
      (inEv 0).tag = (integrating.core 0).e.fl.tag ∧ (inEv 15).tag ≠ (integrating.core 0).e.fl.tag ∧
      ((integrating.modI 0 fun i => { i with fifo := [inEv 15] }).core 0).i.fifo = [inEv 15] ∧
      (integrating.core 0).e.fl.phase = true ∧ integrating.eccUe = [] ∧ integrating.eccCe = [] ∧
      (integrating.core 0).mrv.preEn = false) ∧
    (∀ s ∈ [landed 0 (2 ^ 48), landed 0 (2 ^ 60 + 2 ^ 48), landed 5 (2 ^ 48)], (s.core 0).i.segs = [seg] ∧ (s.core 0).i.fifo = [] ∧
      (s.core 0).e.fl.phase = true ∧ s.eccUe = []) ∧
    (auxTag ((landed 5 (2 ^ 48)).segAux 0 15) ≠ ((landed 5 (2 ^ 48)).core 0).e.fl.tag ∧
      (∀ h ∈ [2 ^ 48, 2 ^ 60 + 2 ^ 48], auxTag ((landed 0 h).segAux 0 15) = ((landed 0 h).core 0).e.fl.tag) ∧
      badLanded (landed 0 (2 ^ 60 + 2 ^ 48)) = true ∧ badLanded (landed 0 (2 ^ 48)) = false) ∧
    (∀ b ∈ [true, false], ((received b).cluster 0).rx = [⟨⟨5, 0x1234, 1, 2, false⟩, 0, 36, 0⟩] ∧
      (received b).lossless 0 = b ∧ (received b).coresAccept ((received b).maskedCores 0 0x1234) = true) := by
  decide +kernel

/-! ### The Cane -/

def wire : WireEv := ⟨0x000007, 9, 5, 0, false⟩
/-- Cluster 0 whose stream 0 sends to cluster 2, with group 5 on it. -/
def streamed : State :=
  cane 0 (fun x => { x with groups := [(5, 0x8000000000000004)], streams := [(0, { en := true, dest := 4 })] }) small
def emitted : State := { streamed with dir := [(7, 5)] }.modE 0 fun e => { e with emitBuf := [⟨7, 9, 0⟩] }
def heldEvent : State := cane 0 (fun x => { x with hold := [(0, [wire])] }) streamed
def queued : State :=
  cane 0 (fun x => { x with
    streams := [(0, { en := true, dest := 4, queue := [wire, wire, wire] })]
    slots := [(5 * 512 + 511, 0x80000000)] }) small
def caneFlit (t : Tenant) : Flit := Flit.seal { body := .cane (some wire) none, tenant := t, src := 0, stream := 0 } .cane false
def ejected : State := cane 0 (fun x => { x with ejected := [⟨caneFlit 0, 0⟩] }) small

theorem witness_CaneCarriesEvents :
    (emitted.tenantOf 0 = some 0 ∧ (emitted.station 0).cane.rr = 0 ∧ 0 < emitted.grade.perCluster ∧
      (emitted.core 0).e.emitBuf = [⟨7, 9, 0⟩] ∧ emitted.holdEmpty 0 0 = true ∧ emitted.eccUe = [] ∧ emitted.eccCe = [] ∧
      emitted.dirEntry 7 = 5 ∧ (emitted.group 0 5).msb = true ∧ grpTenant (emitted.group 0 5) = 0 ∧
      emitted.copiesOf 0 0 (emitted.group 0 5) = [(0, true)] ∧ (emitted.stream 0 0).queue.length < 32) ∧
    (Tab.get (heldEvent.station 0).cane.hold [] 0 = [wire] ∧
      heldEvent.copiesOf 0 0 (heldEvent.group 0 wire.grp.toNat) = [(0, true)] ∧
      (heldEvent.stream 0 0).queue.length < 32) ∧
    (entStream (queued.slotEntry .cane 0 5 511) = 0 ∧ entEn (queued.slotEntry .cane 0 5 511) = true ∧
      caneInjects 0 = true ∧ (queued.stream 0 0).en = true ∧ (queued.stream 0 0).queue = [wire, wire, wire] ∧
      queued.lossless (queued.stream 0 0).tenant = false ∧
      ∀ p ∈ queued.flight, ¬(p.fab = .cane ∧ p.st = 0 ∧ p.input = .l ∧ p.slot = 511)) ∧
    ((ejected.station 0).cane.ejected = [⟨caneFlit 0, 0⟩] ∧ (caneFlit 0).body = .cane (some wire) none ∧
      ejected.tenantOf 0 = some 0 ∧ (ejected.cluster 0).rx.length < 256) := by
  decide +kernel

/-- Router 1 with one output entry for slot 511, and a flit of tenant t at its west input. -/
def routing (d : Dir) (t : Tenant) (f : Flit := caneFlit t) : State :=
  { cane 1 (fun x => { x with slots := [(d.code * 512 + 511, 0x80000000 + BitVec.ofNat 32 Dir.w.code)] }) small with
    flight := [⟨.cane, 1, .w, 511, f⟩] }
abbrev RouteHyp (d : Dir) (f : Flit) (s : State) : Prop :=
  s.flight = [⟨.cane, 1, .w, 511, f⟩] ∧ s.deadInput .cane 1 .w = false ∧ f.valid = true ∧
  entEn (s.slotEntry .cane 1 d.code 511) = true ∧ entIn (s.slotEntry .cane 1 d.code 511) = Dir.w.code ∧
  ∀ o ∈ [Dir.n, .e, .s, .w, .l], o ≠ d → entEn (s.slotEntry .cane 1 o.code 511) = false

theorem witness_RoutersForward :
    (RouteHyp .e (caneFlit 0) (routing .e 0) ∧ (caneFlit 0).tenant = entTenant ((routing .e 0).slotEntry .cane 1 Dir.e.code 511) ∧
      neighbour 1 .e = some 2) ∧
    (RouteHyp .l (caneFlit 0) (routing .l 0) ∧
      (caneFlit 0).tenant = entTenant ((routing .l 0).slotEntry .cane 1 Dir.l.code 511)) ∧
    (RouteHyp .l (caneFlit 3) (routing .l 3) ∧
      (caneFlit 3).tenant ≠ entTenant ((routing .l 3).slotEntry .cane 1 Dir.l.code 511)) ∧
    ((∀ t ∈ [(0 : Tenant), 3], (caneFlit t).intact .cane = true ∧ (caneFlit t).beacon = ((511 : Fin 512).val == 2)) ∧
      { caneFlit 0 with crc := ~~~(caneFlit 0).crc }.intact .cane = false ∧
      RouteHyp .e { caneFlit 0 with crc := ~~~(caneFlit 0).crc } (routing .e 0 { caneFlit 0 with crc := ~~~(caneFlit 0).crc }) ∧
      inputExists .cane 1 .w = true) ∧
    inputExists .cane 0 .e = true := by
  decide +kernel

/-! ### Credits, the Thread and holds -/

def caneCredited : State :=
  shears (fun x => { x with lossless := true }) (rider 43 (.caneCred 36 63 39 3)
    (cane 36 (fun x => { x with win := [(63 * 64 + 39, 200)], cred := [(63 * 64 + 39, 198)] }) small))
def gathCredited : State :=
  rider 43 (.gathCred 0 63 3 false 0 0)
    (gather 0 (fun x => { x with win := [(63 * 40 + 3, 20)], cred := [(63 * 40 + 3, 10)] }) small)
def queueCredited : State :=
  rider 0 (.qcred 0 255 1) (small.modCluster 0 fun c => { c with qwin := [(255, { valid := true, cred := 1, window := 2 })] })
def threaded : State :=
  small.modStation 31 fun x => { x with thread := { x.thread with queues := [(2, [.sync 0 1 2 3, .sync 0 1 2 4])] } }
def stalled : State :=
  (eng fun e => { e with stall := some ⟨.qsend, 7, false⟩ }).modCluster 0 fun c => { c with wdLimit := 5 }

theorem witness_CreditsAndThread :
    (caneCredited.slotPkt 43 = some ⟨.caneCred 36 63 39 3, false, false, none, false⟩ ∧
      caneCredited.lossless (caneCredited.stream 36 63).tenant = true) ∧
    (gathCredited.slotPkt 43 = some ⟨.gathCred 0 63 3 false 0 0, false, false, none, false⟩ ∧ (0 : Nat) ≠ stDma) ∧
    queueCredited.slotPkt 0 = some ⟨.qcred 0 255 1, false, false, none, false⟩ ∧
    (threaded.slotPkt 31 = none ∧ Tab.get (threaded.station 31).thread.queues [] 0 = [] ∧
      Tab.get (threaded.station 31).thread.queues [] 1 = [] ∧
      Tab.get (threaded.station 31).thread.queues [] 2 = [.sync 0 1 2 3, .sync 0 1 2 4]) ∧
    ((stalled.core 0).e.stall = some ⟨.qsend, 7, false⟩ ∧ (StallKind.qsend.insn).isSome = true ∧
      (stalled.cluster 0).wdLimit ≠ 0) := by
  decide +kernel

def holdAt (h : HoldState) : State := shears (fun x => { x with hold := h }) (ten (fun x => { x with st := .running }) small)
def grouped : State := cane 0 (fun x => { x with stage := [(Req.mp.key, some (16383, 9))] }) small

theorem witness_HoldsAndGroups :
    (∀ h ∈ [HoldState.running, .requested, .held], servedB (holdAt h) (.port 0) = true ∧ servedB (holdAt h) .mp = true ∧
      ((holdAt h).tenant 0).patching = none ∧ ((holdAt h).shear 0).hold = h ∧ ((holdAt h).tenant 0).st = .running) ∧
    (servedB grouped .mp = true ∧ caneInjects 0 = true ∧
      Tab.get (grouped.station 0).cane.stage none Req.mp.key = some (16383, 9) ∧
      (grouped.station 0).cane.grpBank * 16384 + 16383 = 16383 ∧ (0x80000000 : Word).msb = true ∧
      (0x80000000 : Word) &&& ~~~grpHiMask = 0 ∧ grouped.tablesOpen (Fin.ofNat 4 (bitsOf 0x80000000 29 2)) = true ∧
      (grouped.group 0 16383).msb = false) := by
  decide +kernel

/-! ### The deep tier and the Gather -/

def deep0 (f : DeepEngine → DeepEngine) (s : State) : State := { s with deep := s.deep.set 0 (f s.deep[0]) }
/-- A row of segments of 2 words for sources 7 to 10, at address 0. -/
def row0 : RowEnt := ⟨0x80000000, 0x02000007, 3, 0, 1, 0x00001000⟩
def rxEv : RxEv := ⟨⟨10, 9, 0xFFFF, 0, false⟩, 0, 0, 0⟩
def rowState : State :=
  deep0 (fun d => { d with ingress := [(0, [rxEv, rxEv])], map := [(0xFFFF, 0x8FFF)], rows := [(4095, row0)] })
    { small with treg := [(0, 0x80000000)] }
def deepEv : DeepEv := ⟨4095, 9, 0, false, 0, 0⟩
def winEntry (data : List Byte) : WinEntry := ⟨127, 32, 32, 0, [deepEv], data, false⟩
def reading : State := deep0 (fun d => { d with window := [winEntry []] }) { rowState with memEcc := true }
def segmented : State :=
  deep0 (fun d => { d with window := [winEntry (List.replicate 32 7)], route := [(5, 1)] })
    (gather 35 (fun g => { g with flows := [(5, { en := true, clusters := 1 })] }) rowState)
theorem witness_CrucibleReadsRows :
    ((rowState.deep[0]).turn = 0 ∧ Tab.get (rowState.deep[0]).ingress [] 0 = [rxEv, rxEv] ∧ rowState.lossless 0 = false ∧
      Tab.get (rowState.deep[0]).map 0 0xFFFF = 0x8FFF ∧ (0x8FFF : BitVec 16).msb = true ∧ (0x8FFF : BitVec 16).toNat % 4096 = 4095 ∧
      Tab.get (rowState.deep[0]).rows {} 4095 = row0 ∧ row0.valid = true ∧ row0.tenant = 0 ∧ row0.srcFirst ≤ 10 ∧
      10 ≤ row0.srcFirst + row0.srcSpan ∧ rowState.deepReadable 0 (row0.rowAddr 10) row0.rowLen = true ∧
      rowState.deepEngineOf (row0.rowAddr 10) = 0 ∧ rowState.deepEngineOf (row0.rowAddr 10 + row0.rowLen - 1) = 0 ∧
      (rowState.deep[0]).window = [] ∧ (rowState.deep[0]).mayAllocate 0 row0.rowLen = true) ∧
    ((reading.deep[0]).window = [winEntry []] ∧ (winEntry []).allRead = false ∧ reading.memEcc = true ∧
      reading.ueAt ((winEntry []).addr + 0) = false ∧ (winEntry []).hung = false ∧
      Tab.get reading.edc 0 (winEntry []).addr ≤ 4) ∧
    ((segmented.deep[0]).window = [winEntry (List.replicate 32 7)] ∧
      segmented.nextSegment 0 (winEntry (List.replicate 32 7)) = some (0, row0, deepEv) ∧
      pickFlow (segmented.rowFlows 0 0 (row0.c0 + deepEv.sent / row0.nk)) (Tab.get (segmented.deep[0]).flowTurn 64 row0.c0) =
        some 5) ∧
    ((small.deep[1]).selfRef = false ∧ (List.replicate 8 (105 : Byte)).length = 8) := by
  decide +kernel

def rowStaged : State :=
  deep0 (fun d => { d with stage := [(33, some (4095, row0.w1)), (34, some (4095, row0.w2)), (35, some (4095, row0.w3)),
    (36, some (4095, row0.w4)), (37, some (4095, row0.w5))] }) small

theorem witness_DeepTierTables :
    (servedB small .mp = true ∧ servedB small (.port 0) = true) ∧
    ((0xF0 : Word) &&& 0xFFFFFF0F = 0 ∧ small.allStopped = true) ∧
    ((0x80FF0000 : Word) &&& 0x7E00FE00 = 0 ∧ small.isStopped 0 = true ∧
      (∀ u : Tenant, u ≠ 0 → regionsMeet 0x80FF0000 (small.tregOf u) = false) ∧ regionEn 0x80FF0000 = true ∧
      (regionLimit 0x80FF0000 + 1) * 2 ^ 26 ≤ small.deepCap) ∧
    ((5 : Word) &&& ~~~deepMask32 (0x4_0000 + 32 * 4095 + 4 * 1) = 0 ∧
      row0.w5 &&& ~~~deepMask32 (0x4_0000 + 32 * 0 + 4 * 5) = 0) ∧
    (Req.mp.key * 8 = 32 ∧ (∀ n ∈ [1, 2, 3, 4, 5],
        Tab.get (rowStaged.deep[0]).stage none (Req.mp.key * 8 + n) = some (4095, row0.word n)) ∧
      (0x80000000 : Word).msb = true ∧ row0.refused rowStaged.grade.perCluster = false ∧
      rowStaged.tablesOpen row0.tenant = true ∧ (Tab.get (rowStaged.deep[0]).rows {} 4095).valid = false) ∧
    ((0x80008FFF : Word) &&& 0x70007000 = 0 ∧
      Tab.get (small.deep[0]).map 0 65534 = 0 ∧ Tab.get (small.deep[0]).map 0 65535 = 0 ∧
      ∀ n ∈ [0, 0x8FFF, 0x8000], ∀ q, small.mapHolder 0 (BitVec.ofNat 16 n) = some q → small.tablesOpen q = true) := by
  decide +kernel

def packet (op len addr : Nat) (aux : BitVec 64) : GPkt :=
  ⟨op, len, 36, addr, aux, (List.range len).map fun i => BitVec.ofNat 8 (i + 1), 0, 3, 77, false, none⟩
/-- Cell 63 of station 0 holds packet p. -/
def celled (p : GPkt) (s : State) : State := gather 0 (fun g => { g with cells := [(63, some ⟨p, 0, false⟩)] }) s
def flowing (credit : Nat) : State :=
  gather 0 (fun g => { g with
    slots := [(5 * 512 + 511, 0x80000003)]
    cred := [(3 * 40 + 2, BitVec.ofNat 8 credit)]
    flows := [(3, { en := true, clusters := 4, queue := [packet 0 4 0 0] })] }) small
def writing : State := celled (packet 0 8 (sharedBase + 0x100) 0) small
def casting : State := celled (packet 4 4 (0x4_4000 - 16) 0x80000001) small
def readPkt : GPkt := { packet 3 8 (sharedBase + 0x100) (BitVec.ofNat 64 (63 * 2 ^ 52 + funnelBase)) with data := [] }
def readingGather : State :=
  celled readPkt (gather 0 (fun g => { g with flows := [(63, { en := true, edge := 2 })] }) small)
abbrev CellHyp (op : Nat) (p : GPkt) (s : State) : Prop :=
  s.cellPkt 0 63 = some p ∧ p.op = op ∧ p.rsvd = false ∧ Tab.get (s.station 0).thread.queues [] 1 = []

theorem witness_GatherCarriesData :
    (∀ c ∈ [0, 1], gatherInjects 0 = true ∧ entEn ((flowing c).injectionOf 0 3 511).1 = true ∧
      entStream ((flowing c).injectionOf 0 3 511).1 = 3 ∧ ((flowing c).flow 0 3).en = true ∧
      ((flowing c).flow 0 3).queue = [packet 0 4 0 0] ∧ (flowing c).flight = [] ∧ ((flowing c).flow 0 3).flits = 0 ∧
      (flowing c).hasCredits 0 3 = (c != 0)) ∧
    (packetFlits 16 ≤ 0 + 1 ∧ (packet 0 16 0 0).len = 16) ∧
    (CellHyp 0 (packet 0 8 (sharedBase + 0x100) 0) writing ∧ writing.stationOf (sharedBase + 0x100) = 0 ∧
      writing.mayStore 0 (sharedBase + 0x100) 8 = true ∧ writing.edc = [] ∧
      ∀ i, i < 8 → writing.openVector (sharedBase + 0x100 + i) = false) ∧
    (CellHyp 4 (packet 4 4 (0x4_4000 - 16) 0x80000001) casting ∧ bcastRangeOk (packet 4 4 (0x4_4000 - 16) 0x80000001) = true ∧
      ∀ k ∈ casting.bcastCores 0 (packet 4 4 (0x4_4000 - 16) 0x80000001),
        casting.mayStore 0 (coreWindow k + (0x4_4000 - 16)) 4 = true) ∧
    (casting.bcastCores 0 (packet 4 4 (0x4_4000 - 16) 0x80000001)).length = 2 ∧
    (CellHyp 3 readPkt readingGather ∧ readingGather.stationOf readPkt.addr = 0 ∧ readingGather.replyFlowOk 0 readPkt = true ∧
      0 < readPkt.len ∧ readingGather.edc = [] ∧ readingGather.eccUe = [] ∧
      readingGather.replyRangeOk readPkt = true ∧
      (readingGather.extRead 0 readPkt.addr 8).map (fun x => Tab.get (x.1.station 0).thread.queues [] 1) = some []) := by
  decide +kernel

def plainDesc : GPkt := packet 1 0 (queueRegAddr (31 * 4 + 3)) 0x1234567
def dataDesc : GPkt := packet 1 256 (queueRegAddr (31 * 4 + 3)) 0x8000000001234567
def partDesc : GPkt := packet 1 8 (queueRegAddr (31 * 4 + 3)) 0x80000000000000FE
def descArea : State := celled dataDesc (small.modQ 31 3 fun q => { q with areaEn := true, areaBase := 0x3F000, head := 15 })
def combining : State :=
  celled partDesc (small.modCluster 0 fun c => { c with comb := [(63, { en := true, len := 255, lcore := 31, queue := 3, count := 2 })] })
def segPkt : GPkt := { packet 2 16 (coreWindow 31 + 0x4_8000) (BitVec.ofNat 64 (2 * 2 ^ 21 + 2 ^ 58 + 5)) with src := 35 }
def landing : State := celled segPkt small

theorem witness_GatherDelivers :
    (CellHyp 1 plainDesc (celled plainDesc small) ∧ (celled plainDesc small).queueOk 0 plainDesc = true ∧
      queueAt plainDesc.addr = (31, 3) ∧ plainDesc.aux.msb = false ∧ (((celled plainDesc small).core 31).q[3]).room = true) ∧
    (CellHyp 1 dataDesc descArea ∧ descArea.queueOk 0 dataDesc = true ∧ dataDesc.len % 4 = 0 ∧ dataDesc.len ≤ 256 ∧
      dataDesc.aux.msb = true ∧ descArea.combOf 31 3 = none ∧ ((descArea.core 31).q[3]).areaEn = true ∧
      ((descArea.core 31).q[3]).room = true ∧ 0x3F000 + 64 * ((15 + 0) % 16) + max 1 (dataDesc.data.length / 4) ≤ 2 ^ 18) ∧
    (CellHyp 1 partDesc combining ∧ combining.queueOk 0 partDesc = true ∧ partDesc.len % 4 = 0 ∧ partDesc.aux.msb = true ∧
      combining.combOf 31 3 = some 63 ∧ (combining.comb 0 63).done = false ∧
      partDesc.aux.toNat % 256 + partDesc.data.length / 4 ≤ (combining.comb 0 63).elems) ∧
    (CellHyp 2 segPkt landing ∧ landing.segmentOk 0 segPkt = true ∧ segPkt.data.length = segPkt.len ∧
      (coreAt segPkt.addr).key = 31 ∧ (landing.nextLbSlot 31 0).isSome = true ∧ ∀ n ∈ landing.nextLbSlot 31 0, n < 16) := by
  decide +kernel

/-! ### The sync unit and the host interface -/

def object (o : SyncObj) (s : State) : State := { s with sync := [(8191, o)] }
/-- A SYNC packet of core 31 and object 8191 is at station 0, and core 31 waits. -/
def synced (kind v : Nat) : State :=
  (object { cnt := 5, thr := 3 } (rider 0 (.sync kind 8191 (BitVec.ofNat 32 v) 31) small)).modE 31 fun e => { e with waits := some (.asked 8191 (BitVec.ofNat 32 v)) }
/-- The sync unit has answered core 31's WAITS with a status. -/
def replied (status : Nat) : State :=
  { synced 1 5 with thread := [(0, some ⟨.sync 1 8191 5 31, false, false, some (status, 9), false⟩)] }
/-- A doorbell of port 0 waits at HOST. -/
def waitingBell (index : Nat) : State :=
  { object { cnt := 7, thr := 12 } small with syncOwn := [(15, some 0)] }.modStation stHost
    fun x => { x with thread := { x.thread with portQ := [(0, [.doorbell 0 index 25])] } }
def foreign : State := { synced 0 1 with syncOwn := [] }
def rung (index : Nat) : State := object { cnt := 5, thr := 30, nmode := 3 } (rider 0 (.doorbell 0 index 25) small)
def notifying : State :=
  port0 (fun x => { x with nbase := 0x10001, msixMask := 0 })
    (object { cnt := 5, thr := 30, nmode := 3, vector := 63, npend := true } (rider 0 (.notify 0 8191 9) small))

theorem witness_SyncObjects :
    (∀ v ∈ [0x7FFFFFFF, 0x80000000], (synced 0 v).slotPkt 0 = some ⟨.sync 0 8191 (BitVec.ofNat 32 v) 31, false, false, none, false⟩ ∧
      (synced 0 v).syncTenant 0 31 = some 0 ∧ (synced 0 v).syncOwnerOf 8191 = some 0) ∧
    (foreign.slotPkt 0 = some ⟨.sync 0 8191 1 31, false, false, none, false⟩ ∧ foreign.syncTenant 0 31 = some 0 ∧
      foreign.syncOwnerOf 8191 ≠ some 0) ∧
    (∀ v ∈ [5, 6], (synced 1 v).slotPkt 0 = some ⟨.sync 1 8191 (BitVec.ofNat 32 v) 31, false, false, none, false⟩ ∧
      (synced 1 v).syncTenant 0 31 = some 0 ∧ (synced 1 v).syncOwnerOf 8191 = some 0 ∧
      ((synced 1 v).core 31).e.waits = some (.asked 8191 (BitVec.ofNat 32 v))) ∧
    (∀ n ∈ [0, 1, 2], (replied n).slotPkt 0 = some ⟨.sync 1 8191 5 31, false, false, some (n, 9), false⟩ ∧
      ((replied n).core 31).e.waits = some (.asked 8191 5) ∧ ((replied n).station 0).thread.again = [] ∧
      ∀ c ∈ [0, 1, 2, 3], Tab.get ((replied n).station 0).thread.queues [] c = []) ∧
    (∀ n ∈ [8191, 16383], servedB { waitingBell n with stations := small.stations } (.port 0) = true ∧
      (waitingBell n).slotPkt 40 = none ∧ (waitingBell n).syncOwnerOf 8191 = some 0 ∧
      Tab.get ((waitingBell n).station stHost).thread.portQ [] 0 = [.doorbell 0 n 25]) ∧
    (∀ n ∈ [8191, 16383], (rung n).slotPkt 0 = some ⟨.doorbell 0 n 25, false, false, none, false⟩ ∧ n % 8192 = 8191 ∧
      (rung n).syncOwnerOf 8191 = some 0) ∧
    (servedB notifying (.port 0) = true ∧ servedB notifying .mp = true ∧ notifying.syncOwnerOf 8191 = some 0 ∧
      (notifying.syncAt 8191).npend = true ∧ notifying.slotPkt 0 = some ⟨.notify 0 8191 9, false, false, none, false⟩ ∧
      (notifying.syncAt 8191).nmode % 2 = 1 ∧ (notifying.port 0).nbase.getLsbD 0 = true ∧
      2 ≤ (notifying.syncAt 8191).nmode ∧ (notifying.port 0).canSend 63 = true ∧ notifying.fabricRuns = true ∧
      ((port0 (fun x => { x with msixMask := BitVec.allOnes 64 }) notifying).port 0).canSend 63 = false) := by
  decide +kernel

def lookEv : LookEv := ⟨1, 2, 0, false, 0⟩
def region0 : State := { small with treg := [(0, 0x80000000)] }
def injected : State := { small with inj := [(1, List.replicate 1024 lookEv)] }
def pushing : State := { small with straps := { small.straps with boot := 1 }, boot := { small.boot with ready := false } }

theorem witness_HostWindows :
    servedB small (.port 0) = true ∧
    ((0x7FFC : BitVec 20).toNat < 0x8000 ∧ (0x7FFC : BitVec 20).toNat % 4 = 0 ∧ (0x7FF8 : BitVec 20).toNat % 8 = 0 ∧
      0x8000 ≤ (0x8000 : BitVec 20).toNat ∧ (0xFFF8 : BitVec 20).toNat < 0x1_0000 ∧ (0xFFF8 : BitVec 20).toNat % 8 = 0) ∧
    (Tab.get small.inj [] 0).length < 1024 ∧
    (servedB injected (.port 0) = true ∧ Tab.get injected.inj [] 1 = List.replicate 1023 lookEv ++ [lookEv] ∧
      1024 ≤ (Tab.get injected.inj [] 1).length) ∧
    (servedB region0 (.port 0) = true ∧ 2 ^ 26 - 4 + 4 ≤ (region0.port 0).bar2Size ∧ (region0.tenant 0).st ≠ .loading ∧
      region0.edc = [] ∧ region0.eccUe = [] ∧ region0.deepWritable 0 (2 ^ 26 - 4) 4 = true ∧
      (region0.port 0).b2Base = 0 ∧ region0.deepWritable 0 (2 ^ 26) 4 = false ∧
      2 ^ 26 + 4 ≤ (region0.port 0).bar2Size) ∧
    (0xFFC : BitVec 12).toNat % 4 = 0 ∧
    (pushing.windowOpen 0 = true ∧ 0x20_0000 - 4 + 4 ≤ 0x20_0000 ∧ 0x20_0000 ≤ (pushing.port 0).bar2Size) ∧
    ((shears (fun x => { x with openHost := true }) injected).shear 0).openHost = true := by
  decide +kernel

def waitSync : Cmd := cmd 0x0C 0 5 0
def waitingRing : State := port0 (fun x => { x with waiting := true }) (ringed waitSync small)
def fetching : State := port0 (fun x => { x with cmdEn := true, cmdTail := 9 }) small

theorem witness_CommandRing :
    (servedB waitingRing (.port 0) = true ∧ (waitingRing.port 0).waiting = true ∧
      (waitingRing.port 0).fetched = [waitSync]) ∧
    ((small.port 0).cmdEn = false ∧ ∀ n ∈ [4, 12], (BitVec.ofNat 32 (2 ^ 31 + n)) &&& 0x7FFFFFF0 = 0 ∧
      (BitVec.ofNat 32 (2 ^ 31 + n)).msb = true) ∧
    ((4 : Word) &&& 0x7FFFFFF0 = 0 ∧ (4 : Word).msb = false ∧ (fetching.port 0).cmdEn = true ∧
      (4 : Word).toNat % 16 = (fetching.port 0).cmdSize ∧ fetching.cmdBusy 0 = false) ∧
    fetching.mayFetch 0 = true ∧
    ((ringed (cmd 0x0F 0 0 0) small).curCmd 0 = some (cmd 0x0F 0 0 0) ∧ 0x0E < (cmd 0x0F 0 0 0).opcode) := by
  decide +kernel

def record (n : Nat) : RecBody := .note n 0
def longRecord : RecBody := .events 0 false (List.replicate 600 wire)
def eventRing (f : PortSt → PortSt) : State := port0 (fun x => f { x with evEn := true, evBase := 0x1000, evWb := 0xFF8 }) small
/-- Room at the end of the ring, at its last word, with a full ring ahead, and a record longer than the ring. -/
def evPlain : State := eventRing fun x => { x with recs := [record 1] }
def evWraps : State := eventRing fun x => { x with recs := [record 1], evTail := 511, evHead := 300 }
def evLate : State := eventRing fun x => { x with recs := [record 1], evTail := 511, evHead := 0 }
def evLong : State := eventRing fun x => { x with recs := [longRecord] }
def draining (tag : BitVec 4) (maxn : Nat) : State :=
  eventRing fun x => { x with readout := [wire], openRec := [{ wire with tag := tag }], evMaxn := maxn }

def evLater : State := eventRing fun x => { x with modSince := some 5, evMod := 4, msixMask := 0 }

theorem witness_EventRing :
    (servedB small (.port 0) = true ∧ (small.port 0).evEn = false ∧ ∀ n ∈ [0x80010009, 0x8FFE0015],
      BitVec.ofNat 32 n &&& 0x7000FFE0 = 0 ∧ (BitVec.ofNat 32 n).msb = true ∧ 9 ≤ n % 32 ∧ n % 32 ≤ 21 ∧
      bitsOf n 16 12 ≠ 0 ∧ bitsOf n 16 12 ≠ 4095) ∧
    (∀ s ∈ [evPlain, evWraps, evLate], (s.port 0).evEn = true ∧ s.aon.st < 3 ∧ (s.port 0).recs = [record 1]) ∧
    ((record 1).len ≤ (evPlain.port 0).evEnd ∧ (record 1).len ≤ (evPlain.port 0).evFree ∧
      (evPlain.port 0).evWb.toNat + 8 ≤ (evPlain.port 0).evBase.toNat) ∧
    (∀ s ∈ [evWraps, evLate], (s.port 0).evSize ≤ 21 ∧ (record 1).len ≤ 2 ^ (s.port 0).evSize ∧
      (s.port 0).evEnd < (record 1).len ∧ (s.port 0).evEnd ≤ (s.port 0).evFree) ∧
    ((evWraps.port 0).evEnd + (record 1).len ≤ (evWraps.port 0).evFree ∧
      ¬(evLate.port 0).evEnd + (record 1).len ≤ (evLate.port 0).evFree) ∧
    ((evLong.port 0).recs = [longRecord] ∧ 2 ^ (evLong.port 0).evSize < longRecord.len) ∧
    (∀ s ∈ [draining 5 2, draining 5 3, draining 9 2], s.aon.st < 3 ∧ (s.port 0).recs = [] ∧ (s.port 0).readout = [wire] ∧
      (s.port 0).openRec.length = 1 ∧ 1 < (s.port 0).evMaxn ∧ s.timersQuiet = true) ∧
    wire.tag ≠ 9 ∧
    ((evLater.port 0).modSince = some 5 ∧ (evLater.port 0).modTime ≠ 0 ∧ (evLater.port 0).canSend 2 = true ∧
      evLater.timersQuiet = true) := by
  decide +kernel

/-! ### Commands -/

def owner15 : State := object { cnt := 5 } { small with syncOwn := [(15, some 0)] }
def shared (shr : Word) : State := { small with treg := [(0, 0x80050004)], shr := shr }
abbrev TakenHyp (s : State) (c : Cmd) (op : Nat) (masks : List Nat) : Prop :=
  (ringed c s).curCmd 0 = some c ∧ c.opcode = op ∧ c.legal masks = true

theorem witness_CommandsComplete :
    TakenHyp small (cmd 0 0 0 0) 0 [] ∧
    (TakenHyp owner15 (cmd 0x0D 8191 (2 ^ 32 - 1) 0) 0x0D [2 ^ 13 - 1, 2 ^ 32 - 1] ∧ owner15.syncOwnerOf 8191 = some 0) ∧
    (TakenHyp foreign (cmd 0x0D 8191 5 0) 0x0D [2 ^ 13 - 1, 2 ^ 32 - 1] ∧ foreign.syncOwnerOf 8191 ≠ some 0) ∧
    (∀ n ∈ [5, 6], TakenHyp owner15 (cmd 0x0C 8191 n 0) 0x0C [2 ^ 13 - 1, 2 ^ 32 - 1]) ∧
    (((port0 (fun x => { x with waiting := true }) (ringed (cmd 0x0C 8191 5 0) owner15)).port 0).fetched.head? =
        some (cmd 0x0C 8191 5 0) ∧ (owner15.syncAt 8191).cnt = 5) ∧
    (TakenHyp small (cmd 0x0A (2 ^ 64 - 8) 0 0) 0x0A [2 ^ 64 - 1] ∧ ((cmd 0x0A (2 ^ 64 - 8) 0 0).word 1).toNat % 8 = 0) ∧
    (TakenHyp small (cmd 0x0B 8 (2 ^ 64 - 8) 0) 0x0B [2 ^ 64 - 1, 2 ^ 64 - 1] ∧ small.sec.keysOff = false ∧
      { small.sec with keysOff := true }.keysOff = true) ∧
    (TakenHyp (shared 0) (cmd 6 0 0x50005 0) 6 [3, 0x1FF01FF] ∧ regionEn (shared 0).shr = false ∧
      regionInside 0x80050005 ((shared 0).tregOf 0) = true ∧ regionBase 0x80050005 ≤ regionLimit 0x80050005) ∧
    (∀ n ∈ [1, 2, 3], TakenHyp (shared 0x80050005) (cmd 6 n 0 0) 6 [3, 0x1FF01FF] ∧ (cmd 6 n 0 0).field 1 0 2 = n) ∧
    (regionEn (shared 0x80050005).shr = true ∧ (shared 0x80050005).shrOwner = 0 ∧ (shared 0x80050005).shareBusy = false ∧
      (shared 0x80050005).shr.getLsbD 30 = false) := by
  decide +kernel

def stopped : State := ten (fun x => { x with st := .stopped }) small
def running : State := ten (fun x => { x with st := .running }) small
def stopJob : StopJob := ⟨true, 250000, false⟩
def stopping (expired busy : Bool) : State :=
  ten (fun x => { x with st := .stopping, stop := some { stopJob with expired := expired } })
    (if busy then small.modE 0 fun e => { e with st := .tick, fl := { e.fl with edgeSig := true } } else small)
/-- A tenant whose ticks are stopped, and one with rows in the deep tier on a Cool device, may not start. -/
def unstartable (pstop : Bool) : State :=
  { shears (fun x => { x with pstop := pstop, deep := !pstop }) stopped with aon := { stopped.aon with cool := true } }
/-- An image of one empty section, 160 bytes long; tenant 0 is Loading it. -/
def shortImage : List Byte := [0x4B, 0x50, 0x52, 0x53, 1, 0, 1, 0, 160] ++ List.replicate 151 0
def loading : State := ten (fun x => { x with st := .loading, loading := some shortImage }) small
def unfitDevice : State := stopped.modE 0 fun e => { e with st := .faulted }
def patched : State :=
  shears (fun x => { x with hold := .requested }) (ten (fun x => { x with st := .running, patching := some ([], 12500000) }) small)

theorem witness_TenantCommands_load :
    TakenHyp loading (cmd 3 0 0 0) 3 [] ∧ TakenHyp loading (cmd 1 0x1000 160 0) 1 [2 ^ 64 - 1, 2 ^ 64 - 1] ∧
    (loading.tenant 0).st = .loading ∧ (loading.tenant 0).loading = some shortImage ∧
    (headerForm shortImage shortImage.length = true) := by
  decide +kernel

theorem witness_TenantCommands_image : ∃ m, parseImage shortImage shortImage.length = .ok m := by
  have h : headerForm shortImage shortImage.length = true := by decide +kernel
  simp [parseImage, h]

theorem witness_TenantCommands :
    (∀ s ∈ [stopped, unfitDevice], TakenHyp s (cmd 2 0 0 0) 2 [] ∧ s.pont.faulted = false ∧ s.inNap = false ∧
      (s.tenant 0).st = .stopped) ∧
    (stopped.unfit 0 = false ∧ unfitDevice.unfit 0 = true ∧ (stopped.shear 0).pstop = false ∧ stopped.aon.cool = false) ∧
    (∀ b ∈ [true, false], TakenHyp (unstartable b) (cmd 2 0 0 0) 2 [] ∧ ((unstartable b).tenant 0).st = .stopped ∧
      ((unstartable b).shear 0).pstop = b ∧ ((unstartable b).shear 0).deep = !b ∧ (unstartable b).aon.cool = true) ∧
    (TakenHyp running (cmd 3 0 0 0) 3 [] ∧ (running.tenant 0).st = .running ∧ TakenHyp stopped (cmd 3 0 0 0) 3 []) ∧
    (((stopping false true).tenant 0).stop = some stopJob ∧ (stopping false true).timersQuiet = true ∧
      stopJob.expired = false ∧ (stopping false true).stopDrained 0 = false) ∧
    (∀ s ∈ [stopping true true, stopping true false, stopping false false], (s.tenant 0).st = .stopping ∧
      s.stopBlocked 0 = false) ∧
    ((stopping false false).stopDrained 0 = true) ∧
    (TakenHyp stopped (cmd 1 0x1000 384 0) 1 [2 ^ 64 - 1, 2 ^ 64 - 1] ∧
      (ringed (cmd 1 0x1000 384 0) stopped).loaderElsewhere 0 = false ∧ (stopped.tenant 0).loading = none ∧
      stopped.copyInProgress = false ∧ ((cmd 1 0x1000 384 0).word 2).toNat ≤ (List.replicate 384 (0 : Byte)).length) ∧
    (∀ s ∈ [stopped, running], TakenHyp s (cmd 4 0x1000 384 0) 4 [2 ^ 64 - 1, 2 ^ 64 - 1] ∧ s.loaderElsewhere 0 = false ∧
      (s.tenant 0).patching = none) ∧
    ((patched.tenant 0).patching = some ([], 12500000) ∧ patched.timersQuiet = true ∧ (patched.shear 0).hold = .requested) ∧
    (TakenHyp stopped (cmd 5 1 0x8000 0x80010000) 5 [2 ^ 32 - 1, 0xFFFF, 0x81FF01FF] ∧ stopped.isStopped 0 = true ∧
      claimsOk stopped.tenantOf 0 1 32 = true ∧
      claimsOk (fun b => Tab.get stopped.syncOwn none b) 0 0x8000 16 = true ∧ stopped.regionOk 0 0x80010000 = true) := by
  and_intros <;> decide +kernel

/-- The row table and one plastic row of core 0, so that there is something to save. -/
def plastic (s : State) : State :=
  words8 [(synAddr 0 0, 2 ^ 63 + 2 ^ 48 * 16), (synAddr 0 32, 3 * 2 ^ 61 + 2 * 2 ^ 48), (synAddr 0 34, 0x1122334455667788),
    (synAddr 0 36, 0x99AABBCCDD)] (s.modI 0 fun i => { i with filtEn := true })
def lehrReady (s : State) : State := { s.modLehr (fun l => { l with ready := true }) with treg := [(0, 0x80010000)] }
def digest : List Byte := List.replicate 32 7
def image (s : State) : State := ten (fun x => { x with parison := digest }) (lehrReady (plastic s))
def lehrJob (ph : LehrPhase) : LehrJob := ⟨⟨0, 7, 0, false, 0, false⟩, 15, 0, ph, 88⟩
def saved (v : LehrSave) (s : State) : State := s.modSet 15 fun _ => { owner := some 0, newest := some v, older := none }
def jobbed (ph : LehrPhase) (s : State) : State := s.modLehr fun l => { l with jobs := [lehrJob ph] }
def saveNow : State := image stopped
def saveLater : State := image (shears (fun x => { x with epochLen := 4 }) running)
def holding : State := saved ⟨1, [0], []⟩ (lehrReady stopped)
def restored : LehrSave := ⟨3, [0], saveNow.saveContent 0 15⟩
/-- A commit record stands for the save v of set 15. -/
def recorded (v : LehrSave) (s : State) : State :=
  let r : CommitRec := { set := 15, seq := v.seq }
  s.modLehr fun l => { l with journal := [{ r with crc := r.crcOf }] }
def restoring : State := recorded restored (jobbed .reading (saved restored saveNow))

theorem witness_LehrAndTests :
    (∀ s ∈ [saveNow, saveLater], TakenHyp s (cmd 7 15 0x10000 0) 7 [0xF, 2 ^ 64 - 1] ∧ s.inNap = false ∧
      s.lehr.ready = true ∧ (s.lehrSet 15).owner = none ∧ (s.tenant 0).parison.length = 32 ∧
      s.stagingOk ⟨(cmd 7 15 0x10000 0).async 0, 15, 0x10000, .waiting, 0⟩ (contentLen (s.tenantRows 0)) = true ∧
      saveBlocks (contentLen (s.tenantRows 0)) ≤ 192) ∧
    (saveNow.isStopped 0 = true ∧ (saveNow.tenantRows 0).length = 1 ∧ (saveLater.tenant 0).st = .running ∧
      (saveLater.shear 0).epochLen ≠ 0) ∧
    (TakenHyp holding (cmd 8 15 0 0) 8 [0xF] ∧ TakenHyp holding (cmd 9 15 0 0) 9 [0xF] ∧ holding.inNap = false ∧
      holding.pont.faulted = false ∧ holding.lehr.ready = true ∧ (holding.lehrSet 15).owner = some 0 ∧
      (holding.lehrSet 15).newest.isSome = true ∧ holding.isStopped 0 = true) ∧
    ((jobbed .writing holding).lehr.jobs.find? (fun y => y.phase == .writing) = some (lehrJob .writing) ∧
      (jobbed .writing holding).lehr.jobs.find? (fun y => y.phase == .freeing) = none ∧
      saveBlocks (lehrJob .writing).len ≤ (jobbed .writing holding).lehr.free.length ∧
      ((jobbed .writing holding).lehrSet 15).owner = some 0) ∧
    (jobbed .freeing holding).lehr.jobs.find? (fun y => y.phase == .freeing) = some (lehrJob .freeing) ∧
    (restoring.lehr.jobs.find? (fun y => y.who.port == 0 && y.phase == .reading) = some (lehrJob .reading) ∧
      restoring.isStopped 0 = true ∧ restored.content.take 32 = (restoring.tenant 0).parison ∧
      (savedRows (restored.content.drop 64) restored.content.length).map (fun r => r.all (restoring.rowFits 0)) =
        some true) ∧
    (small.boot.ready = true ∧ small.lehr.ready = false) ∧
    (∀ n ∈ [0, 0xFFFF0000 + 8 + 4 + 1, 8 + 2, 8 + 3], TakenHyp stopped (cmd 0xE n 0 0) 0xE [0xFFFF000F]) := by
  decide +kernel

theorem witness_LehrAndTests_restored : (restoring.lehrSet 15).newest = some restored := rfl

def tested (destructive : Bool) : State := { stopped with tests := [⟨⟨0, 14, 0, false, 0, false⟩, 0, destructive, false⟩] }
def scheduled : State := stopped.modSched 0 fun x => { x with interval := 1 }

theorem witness_LehrAndTests_tests :
    (∀ b ∈ [true, false], (tested b).tests.find? (fun y => y.tenant == 0) = some ⟨⟨0, 14, 0, false, 0, false⟩, 0, b, false⟩ ∧
      (tested b).testable 0 = true ∧ (tested b).isStopped 0 = true) ∧
    (scheduled.boot.ready = true ∧ (scheduled.schedOf 0).interval ≠ 0 ∧ scheduled.inNap = false ∧
      scheduled.timersQuiet = true ∧ scheduled.isStopped 0 = true ∧ scheduled.longestUntested 0 = some 0 ∧
      scheduled.engineIdle 0 = true ∧ (scheduled.schedOf 0).rotate = false) := by
  decide +kernel

/-! ### The DMA engine -/

/-- Tenant 0 may move data between its shared memory, its deep-tier region and host memory; f makes channel 15. -/
def dma (f : DmaCh → DmaCh) : State :=
  (gather 33 (fun g => { g with flows := [(8, { en := true, edge := 8 }), (9, { en := true, clusters := 1 })] })
    { small with
      dma := { small.dma with rt := [(0, 0x80000009), (35, 0x80000008)] }
      treg := [(0, 0x80010000)] }).modDma 15 f
def toHost : DmaDesc :=
  { key := 3, at_ := 0, host := true, src := sharedBase, dst := 0x1000, ctrl := BitVec.ofNat 64 (8 + 2 ^ 38), next := 32 }
def fromHost : DmaDesc :=
  { key := 3, at_ := 0, host := true, src := 0x1000, dst := sharedBase, ctrl := BitVec.ofNat 64 (8 + 2 ^ 37), next := 32 }
def burst (dir len : Nat) (host : Bool) (bs : List Byte) : Burst :=
  ⟨7, dir, host, sharedBase, len, if dir = 0 then 0 else 3, 0, some (true, bs)⟩
/-- Channel 15 runs with one descriptor. -/
def moving (d : DmaDesc) : State := dma fun c => { c with st := .running, descs := [d] }
def descBytes (ctl : Nat) : List Byte := leBytes 8 0 ++ leBytes 8 0x1000 ++ leBytes 8 ctl ++ leBytes 8 0
def got8 (d : DmaDesc) : DmaDesc := { d with rdIssued := 8, got := (List.range 8).map fun i => (i, some 5) }

theorem witness_DmaChannels :
    (servedB (dma id) (.port 0) = true ∧ claimant (.port 0) 3 = some 0 ∧ ((dma id).dmaCh 15).st = .free) ∧
    (((dma fun c => { c with st := .idle, owner := 1 }).dmaCh 15).st ≠ .free ∧
      ((dma fun c => { c with st := .idle, owner := 1 }).dmaCh 15).owner ≠ 0) ∧
    (((dma fun c => { c with st := .idle, next := BitVec.ofNat 64 sharedBase }).dmaCh 15).mine (.port 0) = true ∧
      ((dma fun c => { c with st := .idle, next := BitVec.ofNat 64 sharedBase }).dmaCh 15).prio < 4 ∧
      ((dma id).memEnd sharedBase).isSome = true ∧ (dma id).routeOk 0 ((dma id).stationOf sharedBase) = true) ∧
    (((dma fun c => { c with st := .halted, cur := sharedBase }).dmaCh 15).mine (.port 0) = true ∧
      ((dma fun c => { c with st := .halted, cur := sharedBase }).dmaCh 15).releaseAfter = false) ∧
    (∀ e ∈ [{ toHost with wrIssued := 8, flushed := true }], e.dstHost = true → 0 < e.wrIssued → e.flushed = true) ∧
    (∀ d ∈ [toHost, fromHost, got8 toHost, got8 fromHost], (moving d).dmaPick = some 15 ∧ (moving d).dmaFlushDue = none ∧
      ((moving d).dma.ch.toList.map DmaCh.inflight).sum < 32) ∧
    ((moving toHost).dmaReady 15 = some (false, toHost) ∧ toHost.srcHost = false ∧
      (moving fromHost).dmaReady 15 = some (false, fromHost) ∧ fromHost.srcHost = true ∧
      (moving (got8 toHost)).dmaReady 15 = some (true, got8 toHost) ∧ (got8 toHost).dstHost = true ∧
      (moving (got8 fromHost)).dmaReady 15 = some (true, got8 fromHost) ∧ (got8 fromHost).dstHost = false) ∧
    (dma fun c => { c with st := .aborting, descs := [{ toHost with wrIssued := 5 }] }).dmaFlushDue =
      some (15, { toHost with wrIssued := 5 }) := by
  decide +kernel

def answered (d : DmaDesc) (b : Burst) : State := dma fun c => { c with st := .running, descs := [d], bursts := [b] }
abbrev BurstHyp (d : DmaDesc) (b : Burst) (bs : List Byte) : Prop :=
  ((answered d b).dmaCh 15).failing = none ∧ ((answered d b).dmaCh 15).releaseAfter = false ∧
  ((answered d b).dmaCh 15).bursts = [b] ∧ b.answer none = some (.ok bs)

theorem witness_DmaChannels_bursts :
    (BurstHyp toHost (burst 0 32 false (descBytes (8 + 2 ^ 38 + 2 ^ 40))) (descBytes (8 + 2 ^ 38 + 2 ^ 40)) ∧
      (answered toHost (burst 0 32 false [])).descBad (parseDesc 7 sharedBase false (descBytes (8 + 2 ^ 38 + 2 ^ 40))) = false ∧
      (answered toHost (burst 0 32 false [])).descBad (parseDesc 7 sharedBase false (descBytes 0)) = true) ∧
    (BurstHyp toHost (burst 1 8 false (List.replicate 8 5)) (List.replicate 8 5) ∧ toHost.acked < toHost.len ∧
      (burst 1 8 false []).desc = toHost.key) ∧
    (BurstHyp { fromHost with ctrl := BitVec.ofNat 64 (9 + 2 ^ 37) } (burst 2 8 false []) [] ∧
      fromHost.acked + 8 < { fromHost with ctrl := BitVec.ofNat 64 (9 + 2 ^ 37) }.len) ∧
    (BurstHyp fromHost (burst 2 8 false []) [] ∧ fromHost.acked + 8 = fromHost.len) ∧
    (BurstHyp toHost (burst 0 32 true []) [] ∨ (burst 0 32 true []).host = true) ∧
    (ringed (cmd 0 0 0 0) small).mayFetch 0 = false ∧ fetching.mayFetch 0 = true := by
  decide +kernel

/-! ### PORTS and timers -/

/-- Tenant 0 runs and owns ingress 0 and 9 and CSI receiver 0, in event mode; f changes the receiver. -/
def csi (f : Csi → Csi) : State :=
  let s := own [(0, 0), (9, 0), (16 + 63, 0)] running
  { s with io := { s.io with csi := s.io.csi.set 0 (f { s.io.csi[0] with cfg := 0x80300000 }) } }
def header (dt : BitVec 6) (ecc : Bool) : CsiHeader := ⟨0, dt, false, ecc, true⟩
/-- A frame of one cell to a line, 8 bits. -/
def framing : State := csi fun c => { c with cfg := 0xC02A0000, td := 0x200800, inFrame := true }
def csiOff : State := csi fun c => { c with cfg := 0 }
/-- Link 7 in state st. -/
def kelState (st : Nat) (f : Kel → Kel) : State := (csi id).modKel 7 fun k => f { k with en := true, st := st }
def kelEnc : State := (kelState 3 id).modEnc 63 fun e => { e with cfg := 0x08E00000 }
def gate (s : State) : State := { s with pont := { s.pont with gate := true } }
def eventFrame : KelFrame := makeFrame 1 true 255 [0x00000709]
def valueFrame : KelFrame := makeFrame 2 false 4 [0xFC001234]

theorem witness_PortsLinks :
    ((csi id).fabricRuns = true ∧ ((csi id).io.csi[0]).en = true ∧ ((csi id).io.csi[0]).frameMode = false ∧
      (header 0x30 false).vc.toNat = ((csi id).io.csi[0]).vc ∧ (header 0x30 false).dt.toNat = ((csi id).io.csi[0]).dt ∧
      ([5, 0] : List Byte).length = ((csi id).io.csi[0]).wordBytes ∧
      (((csi id).io.csi[0]).extract (leNat [5, 0])).join.isSome = true ∧ (csi id).inTenant 0 = some 0 ∧
      (Tab.get (csi id).pin [] 0).length < inDepth 0) ∧
    (header 0x30 true).eccBad = true ∧
    ((framing.io.csi[0]).frameMode = true ∧ (framing.io.csi[0]).inFrame = true ∧
      (framing.io.csi[0]).line < (framing.io.csi[0]).height ∧ (framing.io.csi[0]).width = 1 ∧ (framing.io.csi[0]).bin = 1 ∧
      (framing.io.csi[0]).dt = 0x2A ∧ (header 0x2A false).vc.toNat = (framing.io.csi[0]).vc ∧ (framing.io.csi[0]).rows = [] ∧
      (framing.io.csi[0]).tainted = false ∧ (framing.io.csi[0]).priming = false ∧
      Tab.get (framing.io.csi[0]).refs 0 (framing.io.csi[0]).line = 0 ∧
      max (-127) (min 127 (((255 / 2 ^ (framing.io.csi[0]).step : Nat) : Int) - 0)) ≠ 0 ∧ framing.inTenant 0 = some 0) ∧
    (servedB csiOff (.port 0) = true ∧ mayUse (.port 0) (csiOff.owner (ownIn 0)) = true ∧
      (0xC02A0000 : Word) &&& 0x03C0FFFF = 0 ∧ (csiOff.io.csi[0]).en = false ∧ csiCfgOk 0xC02A0000 = true) ∧
    (mayUse (.port 0) ((csi id).owner (ownIn 9)) = true ∧ ((csi id).kel 7).en = false) ∧
    (∀ n ∈ [1, 2, 3], ((kelState n id).kel 7).st = n ∧ ((kelState n id).kel 7).en = true ∧ (kelState n id).fabricRuns = true ∧
      (kelState n id).timersQuiet = true) ∧
    (frameFault eventFrame = none ∧ frameType eventFrame = 1 ∧ eventFrame.items = [0x00000709] ∧
      (kelState 3 id).inTenant 9 = some 0 ∧ (Tab.get (kelState 3 id).pin [] 9).length < inDepth 9) ∧
    ((frameFault { eventFrame with crc := 1 }).isSome = true ∧ (frameFault { eventFrame with aborted := true }).isSome = true) ∧
    (frameFault valueFrame = none ∧ frameType valueFrame = 2 ∧ valueFrame.items = [0xFC001234] ∧
      bitsOf 0xFC001234 26 6 = 63 ∧ kelEnc.owner (ownEnc 63) = kelEnc.owner (ownIn 9) ∧
      (kelEnc.owner (ownIn 9)).isSome = true ∧ (kelEnc.enc 63).src = 1 ∧ (kelEnc.enc 63).link = 7) ∧
    ((gate (kelState 3 fun k => { k with txQ := List.replicate 17 wire })).gateOpen = true ∧
      (kelState 3 fun k => { k with txQ := List.replicate 17 wire }).gateOpen = false ∧
      ((kelState 3 fun k => { k with valQ := [5] }).kel 7).txQ = []) := by
  decide +kernel

def encoding (val : Word) : State :=
  (shears (fun x => { x with openPorts := true }) (own [(10, 0), (79, 0)] running)).modEnc 63
    fun e => { e with cfg := 0x8000FF00, val := val, state := 255 }
def noted : State := { small with pin := [(15, [lookEv, lookEv])], pinNoted := [(15, 2)] }
def em (kind target : Nat) : EmEnt := ⟨wire.grp, BitVec.ofNat 32 (2 ^ 31 + kind * 2 ^ 27 + target)⟩
def egressing (es : List EmEnt) : State :=
  gate ({ small with egress := [(0, [wire])], io := { small.io with em := (List.range es.length).zip es } }.modKel 7
    fun k => { k with st := 3 })
def decoding (f : Dec → Dec) : State :=
  (shears (fun x => { x with edgePorts := true }) (own [(143, 0)] running)).modDec 63 fun d => f { d with cfg := 0x8F000000 }
def pwm : State := decoding fun d => { d with cfg := 0xC0000000, period := 2, highEnd := some 9 }
def pulsing : State := { small with io := { small.io with pulseEnd := [(31, some 77)] } }
def emStaged : State :=
  own [(143, 0)] { small with io := { small.io with emStage := [(Req.mp.key, some (127, 0x12345))] } }
def pinned : State :=
  (own [(175, 0), (79, 0)] { running with io := { running.io with func := [(31, 5)] } }).modEnc 63 fun e => { e with cfg := 0x101F0000 }

theorem witness_PortsOutputs :
    (servedB small (.port 0) = true ∧ claimant (.port 0) 3 = some 0 ∧ small.owner (ownIn 15) = none ∧
      small.owner (ownEnc 63) = none ∧ small.owner (ownDec 63) = none ∧ small.owner (ownPin 31) = none ∧
      (small.timers[15]).owner = none) ∧
    (own [(175, 1)] small).owner (ownPin 31) = some 1 ∧
    (own [(175, 0)] small).mayRelease (.port 0) ((own [(175, 0)] small).owner (ownPin 31)) = true ∧
    (∀ n ∈ [1, 0xFFFF], ((encoding (BitVec.ofNat 32 n)).shear 0).openPorts = true ∧
      (List.range 64).filter (fun k => (encoding (BitVec.ofNat 32 n)).owner (ownEnc k) == some 0 &&
        ((encoding (BitVec.ofNat 32 n)).enc k).en) = [63] ∧
      ((encoding (BitVec.ofNat 32 n)).enc 63).mode = 0 ∧ ((encoding (BitVec.ofNat 32 n)).enc 63).src = 0 ∧
      10 + ((encoding (BitVec.ofNat 32 n)).enc 63).bank = 10 ∧ (encoding (BitVec.ofNat 32 n)).inTenant 10 = some 0) ∧
    (nextInTurn 16 noted.io.inTurn (fun c => decide (0 < Tab.get noted.pinNoted 0 c) && !(Tab.get noted.pin [] c).isEmpty) =
        some 15 ∧ Tab.get noted.pin [] 15 = [lookEv, lookEv]) ∧
    ((egressing []).fabricRuns = true ∧
      nextInTurn 4 (egressing []).io.egTurn (fun t => !(Tab.get (egressing []).egress [] t).isEmpty) = some 0 ∧
      Tab.get (egressing []).egress [] 0 = [wire] ∧ (egressing []).matches 0 wire = []) ∧
    (∀ p ∈ [(0, 63), (1, 7), (2, 31)], (egressing [em p.1 p.2]).matches 0 wire = [em p.1 p.2] ∧ (em p.1 p.2).kind = p.1 ∧
      (em p.1 p.2).target = p.2) ∧
    (((egressing []).kel 7).st = 3 ∧ (egressing []).gateOpen = true) ∧
    (((decoding id).shear 0).edgePorts = true ∧
      (List.range 64).filter (fun k => (decoding id).owner (ownDec k) == some 0 && ((decoding id).dec k).en) = [63] ∧
      ((decoding id).dec 63).mode = 0) ∧
    (pwm.fabricRuns = true ∧ pwm.timersQuiet = true ∧ (pwm.dec 63).pwm = true ∧ (pwm.dec 63).highEnd = some 9) ∧
    (pulsing.fabricRuns = true ∧ pulsing.timersQuiet = true ∧ Tab.get pulsing.io.pulseEnd none 31 = some 77) ∧
    (servedB (decoding id) (.port 0) = true ∧ mayUse (.port 0) ((decoding id).owner (ownDec 63)) = true ∧
      (((decoding id).dec 63).en && ((decoding id).dec 63).mode == 3) = false ∧ (0x0F000000 : Word) &&& 0x1000001F = 0 ∧
      (0x0F000000 : Word).msb = false ∧ ((decoding id).dec 63).cfg &&& 0x7FFFFFFF = 0x0F000000) ∧
    (servedB emStaged .mp = true ∧ Tab.get emStaged.io.emStage none Req.mp.key = some (127, 0x12345) ∧
      (0x8000003F : Word) &&& 0x07FFFFC0 = 0 ∧ emStaged.emTargetOk ⟨(0x12345 : Word).setWidth 16, 0x8000003F⟩ = true ∧
      (emStaged.em 127).valid = false ∧
      emStaged.tablesOpen (⟨(0x12345 : Word).setWidth 16, 0x8000003F⟩ : EmEnt).tenant = true) ∧
    (pinned.padLevel 31 = none ∧ pinned.pinIn.getLsbD 31 ≠ true ∧ pinned.fabricRuns = true ∧ (pinned.enc 63).src = 2 ∧
      (pinned.enc 63).pin = 31 ∧ pinned.owner (ownEnc 63) = pinned.owner (ownPin 31) ∧
      pinned.ownsPin (pinned.owner (ownPin 31)) 31 5 = true) := by
  refine ⟨?_, ?_, ?_, ?_⟩ <;> decide +kernel

/-- Timer 15 is port 0's, enabled and running; f changes it. -/
def timer (f : Timer → Timer) : State :=
  { small with timers := small.timers.set 15 (f { small.timers[15] with owner := some 0, ctrl := 0x80000000, run := true }) }
def triggered (slave : Nat) : State :=
  timer fun t => { t with trig := BitVec.ofNat 32 (slave * 2 ^ 29), trigNow := true, run := slave == 4, per := 9, cnt := 7 }
def loads : State := timer fun t => { t with trig := 0x60000000, trigNow := true, load := some 9 }
def matching : State := timer fun t => { t with cnt := 7, cmp := 8, per := 8, obj := 0xC0001FFF }
def matchEnd : State := timer fun t => { t with cnt := 2 ^ 64 - 2, cmp := 2 ^ 64 - 1, per := 2 ^ 64 - 1 }
def overflowing : State := timer fun t => { t with cnt := 2 ^ 64 - 1, cmp := 7, per := 2 ^ 64 - 1, obj := 0x80001FFF }
def capturing (q : List (Nat × Bool)) : State :=
  timer fun t => { t with cap := t.cap.set 3 { queue := q, cfg := 0x80000000, capNow := true } }
abbrev RunsHyp (s : State) : Prop :=
  s.fabricRuns = true ∧ (s.timers[15]).en = true ∧ s.frozen 15 = false ∧ (s.timers[15]).load = none

theorem witness_TimersCount :
    (servedB small (.port 0) = true ∧ servedB small .mp = true ∧ (small.shear 0).periodOk 250 = true ∧
      (running.shear 0).periodOk 5000000 = true ∧ running.isStopped 0 = false) ∧
    (∀ n ∈ [2, 3, 4], RunsHyp (triggered n) ∧ (triggered n).trigger 15 = true ∧ ((triggered n).timers[15]).slave = n ∧
      ((triggered n).timers[15]).matchAct ≠ 2 ∧ ((triggered n).timers[15]).ovfAct ≠ 2) ∧
    (loads.fabricRuns = true ∧ (loads.timers[15]).en = true ∧ loads.frozen 15 = false ∧ (loads.timers[15]).load = some 9 ∧
      loads.trigger 15 = true) ∧
    (((triggered 4).timers[15]).run = true ∧ ((triggered 4).timers[15]).cnt < ((triggered 4).timers[15]).per ∧
      ((triggered 4).timers[15]).cnt + 1 ≠ ((triggered 4).timers[15]).cmp) ∧
    (∀ s ∈ [matching, matchEnd, overflowing], RunsHyp s ∧ (s.timers[15]).run = true ∧ (s.timers[15]).slave = 0 ∧
      (s.timers[15]).presc = (s.timers[15]).prescale) ∧
    (∀ s ∈ [matching, matchEnd], (s.timers[15]).cnt + 1 = (s.timers[15]).cmp ∧ (s.timers[15]).cmp ≤ (s.timers[15]).per ∧
      (s.timers[15]).cmp < 2 ^ 64) ∧
    ((overflowing.timers[15]).cnt = (overflowing.timers[15]).per ∧ (overflowing.timers[15]).cmp ≠ 0) ∧
    (servedB (timer id) (.port 0) = true ∧ mayUse (.port 0) ((timer id).timers[15]).owner = true ∧
      ∀ n ∈ [0, 0x80000000], BitVec.ofNat 32 n &&& 0x003F0000 = 0 ∧
        cfgFree ((timer id).timers[15]).ctrl (BitVec.ofNat 32 n) = true ∧ bitsOf n 28 2 ≠ 3 ∧ bitsOf n 26 2 ≠ 3) ∧
    (∀ q ∈ [[], [(5, false), (6, false), (7, false)], [(5, false), (6, false), (7, false), (2 ^ 64 - 1, false)]],
      (capturing q).fabricRuns = true ∧ (((capturing q).timers[15]).cap[3]).queue = q ∧
      (capturing q).capFires 15 ((capturing q).timers[15]).cap[3] = true) := by
  decide +kernel

/-! ### Power -/

def aon (f : Aon → Aon) : State := { small with aon := f small.aon }
def sleeping (st : Nat) : State :=
  aon fun a => { a with st := st, votes := Vector.replicate 4 3, wakeEdge := 0x80000000, wakeTime := 1, gloryPeriod := 1 }
def entering (t : Nat) (window : Bool) : State := aon fun a => { a with entering := some t, window := window, entryEnd := 50 }
def sampling : State := aon fun a => { a with st := 3, sampling := true, slots := [(7, 0xA0000005)] }
def waking : State := aon fun a => { a with st := 3, waking := true, objs := [(3, 0x80001FFF)] }
/-- A tenant with rows in the deep tier runs. -/
def deepRunning : State := shears (fun x => { x with deep := true }) running
abbrev OnHyp (s : State) : Prop :=
  s.boot.inReset = false ∧ s.boot.ready = true ∧ s.configured 0 = true ∧ (s.port 0).linkUp = true ∧
  (s.port 0).cfg.d3 = false
abbrev SettledHyp (s : State) : Prop := s.aon.entering = none ∧ s.aon.window = false ∧ s.aon.waking = false
/-- The target once port 0 votes v. -/
def targetOf (s : State) (v : Nat) : Nat := (s.modAon fun a => { a with votes := a.votes.set 0 v }).target

theorem witness_PowerStates :
    (∀ s ∈ [small, running, sleeping 3, sleeping 4], OnHyp s ∧ SettledHyp s) ∧
    (small.aon.st = 0 ∧ targetOf small 0 = 0 ∧ targetOf small 3 = 3 ∧ small.refusal = 0 ∧ running.aon.st = 0 ∧
      running.refusal ≠ 0) ∧
    (∀ n ∈ [3, 4], (sleeping n).aon.st = n ∧ targetOf (sleeping n) 0 + 1 < n) ∧
    (∀ t ∈ [0, 1, 2, 3], (entering t false).aon.entering = some t ∧ (entering t false).saveWriting = false ∧
      (entering t false).meshIdle = true ∧ (entering t false).aon.window = false) ∧
    (∀ t ∈ [2, 3], (entering t true).aon.entering = some t ∧ (entering t true).aon.window = true) ∧
    ((sleeping 4).padLevel 31 = none ∧ (sleeping 4).aon.wakeEdge.getLsbD 31 = true ∧ (sleeping 4).aon.wakeTime ≠ 0 ∧
      (sleeping 3).aon.gloryPeriod ≠ 0 ∧ (sleeping 3).aon.sampling = false) ∧
    (SettledHyp sampling ∧ sampling.aon.sampling = true ∧ (∀ n ∈ [(4, false), (5, true)],
      sampling.slotMet (Tab.get sampling.aon.slots 0 7) n.1 = n.2)) ∧
    (waking.aon.waking = true ∧ 2 ≤ waking.aon.st) ∧
    (small.deepRuns = false ∧ OnHyp deepRunning ∧ deepRunning.deepRuns = true) := by
  decide +kernel

theorem witness_SleepTarget :
    OnHyp small ∧ (3 : Word).toNat < 4 ∧ waking.aon.waking = true ∧ 2 ≤ waking.aon.st := by decide +kernel

/-! ### Security, the safe state and faults -/

def recovering : State := { small with boot := { small.boot with ready := false }, straps := { small.straps with boot := 2 } }
def transiting : State := { small with sec := { small.sec with busy := true } }
def stageSvn (n : Nat) : State := { small with boot := { small.boot with svn := n } }

theorem witness_SecurityIsland :
    (recovering.recovery = true ∧ recovering.sec.busy = false) ∧
    (servedB small .mp = true ∧ servedB small (.port 0) = true ∧ transiting.sec.busy = true) ∧
    (servedB (stageSvn 64) (.port 0) = true ∧ (stageSvn 64).boot.svn ≤ 64 ∧ servedB (stageSvn 65) (.port 0) = true ∧
      64 < (stageSvn 65).boot.svn) ∧
    ((small.sec.keys[0]).locked = false ∧ small.isStopped 0 = true) := by
  decide +kernel

def pontil (f : Pontil → Pontil) : State := { small with pont := f small.pont }
def watched (act : Nat) : State :=
  shears (fun x => { x with state := .update }) (pontil fun x => { x with wd := x.wd.set 0 { act := act, timeout := 65535 } })
def beating (act : Nat) : State := pontil fun x => { x with hb := x.hb.set 0 { en := true, act := act, timeout := 65535 } }
def spiDue : State := pontil fun x => { x with gate := true, spiTimeout := 255 }
def faultSlot (origin code act : Nat) (mgmt tap : Bool) : State :=
  { pontil (fun x => { x with actP := act, actC := act, actW := act }) with
    thread := [(43, some ⟨.fault origin code 0xFFFFFFFFFF, mgmt, tap, none, false⟩)] }

theorem witness_SafeState :
    (∀ a ∈ [0, 1, 2], ((watched a).shear 0).state ≠ .stopped ∧ ((watched a).shear 0).pstop = false ∧
      ((watched a).pont.wd[0]).timeout ≠ 0 ∧ ((watched a).pont.wd[0]).armed = true ∧
      (((watched a).pont.wd[0]).dbgPause && (watched a).debugHalted 0) = false ∧ (watched a).timersQuiet = true) ∧
    (∀ a ∈ [0, 1, 2], ((beating a).pont.hb[0]).en = true ∧ ((beating a).pont.hb[0]).armed = true ∧
      (beating a).timersQuiet = true) ∧
    (spiDue.pont.gate = true ∧ spiDue.pont.spiTimeout ≠ 0 ∧ spiDue.timersQuiet = true) ∧
    (∀ b ∈ [true, false], (faultSlot 0 1 1 b false).slotPkt 43 = some ⟨.fault 0 1 0xFFFFFFFFFF, b, false, none, false⟩ ∧
      (faultSlot 0 1 1 false b).slotPkt 43 = some ⟨.fault 0 1 0xFFFFFFFFFF, false, b, none, false⟩) ∧
    (∀ n ∈ [0, 39], let s : State := { small with thread := [(n, some ⟨.fault n 1 5, true, true, none, false⟩)] }
      s.slotPkt n = some ⟨.fault n 1 5, true, true, none, false⟩ ∧ (s.station n).thread.again = [] ∧
      ∀ c ∈ [0, 1, 2, 3, 4], Tab.get (s.station n).thread.queues [] c = []) ∧
    (∀ n ∈ [0, 1, 2, 3], (List.range 16).any (fun code => faultClass code == n) = true) ∧
    ((faultSlot 0 1 1 false false).pont.actP = 1 ∧ (faultSlot 0 1 1 false false).originTenant 0 = some 0 ∧
      2 ≤ (faultSlot 0 1 2 false false).pont.actC ∧ (faultSlot 0 1 0 false false).pont.actW = 0) ∧
    (servedB small .mp = true ∧ servedB small (.port 0) = true ∧ stHost < 40) := by
  decide +kernel

/-- A frame of the safety SPI; bad is added to its CRC. -/
def spiFrame (cmd addr data bad : Nat) : BitVec 64 :=
  let x := BitVec.ofNat 64 (cmd * 2 ^ 56 + addr * 2 ^ 40 + data * 2 ^ 8)
  x ||| BitVec.ofNat 64 ((crc8 ((List.range 7).map (spiByte x)) + bad) % 256)

theorem witness_SafetySpi :
    (∀ n ∈ [1, 3, 0x10, 0x11, 0x12, 0x13, 0x14], spiCrcOk (spiFrame n 4 0xA55A 0) = true ∧
      spiCmd (spiFrame n 4 0xA55A 0) = n ∧ spiData (spiFrame n 4 0xA55A 0) = 0xA55A) ∧
    (spiCrcOk (spiFrame 2 5 255 0) = true ∧ 4 * spiAddr (spiFrame 2 5 255 0) = 0x014 ∧
      (spiData (spiFrame 2 5 255 0)).toNat < 256) ∧
    (spiCrcOk (spiFrame 2 4 0x2A 0) = true ∧ 4 * spiAddr (spiFrame 2 4 0x2A 0) = 0x010 ∧
      (spiData (spiFrame 2 4 0x2A 0)).toNat = 0x2A) ∧
    (0x2A < 64 ∧ 0x2A % 4 ≠ 3 ∧ 0x2A / 4 % 4 ≠ 3 ∧ 0x2A / 16 ≠ 3) ∧
    spiCrcOk (spiFrame 1 4 5 1) = false := by
  decide +kernel

/-! ### Debug, SMBus, resets and registers -/

def debugging (f : NEngine → NEngine) : State :=
  { small with straps := { small.straps with dbg := true } }.modE 0 fun e => f { e with st := .update }
def haltedCore (sel : Nat) (i : Instr) : State :=
  word i (debugging fun e => { e with dbg := { e.dbg with halted := true, sel := BitVec.ofNat 8 sel } })

theorem witness_DebugAccess :
    (servedB small (.port 0) = true ∧ small.tenantOf 0 = some 0 ∧ small.noCore k0 = false ∧ small.debugEnabled = false) ∧
    ((debugging id).debugEnabled = true ∧ ((debugging id).core 0).e.dbg.halted = false ∧
      ((debugging id).core 0).e.stall = none ∧ ((debugging id).core 0).mrv.working = false ∧
      ((debugging id).tenant 0).st ≠ .loading) ∧
    ((debugging fun e => { e with stall := some ⟨.waits, 0, false⟩ }).debugEnabled = true ∧
      ((debugging fun e => { e with stall := some ⟨.waits, 0, false⟩ }).core 0).e.stall ≠ none) ∧
    (∀ i ∈ [Instr.iNop k0, .iAdd k0 1 2 3], ((haltedCore 0 i).core 0).e.dbg.halted = true ∧
      ((haltedCore 0 i).core 0).e.dbg.stepping = false ∧ ((haltedCore 0 i).core 0).e.st = .update ∧
      decodeWord k0 ((haltedCore 0 i).fetch 0) = some i ∧ (haltedCore 0 i).ueAt (progAddr 0 0) = false ∧
      ((haltedCore 0 i).core 0).e.loop.on = false) ∧
    (∀ n ∈ [0, 15, 0x10, 0x8F, 0x90, 0x93, 0xAA, 0xAB, 0xB0, 0xB1, 0xFF],
      ((haltedCore n (.iNop k0)).core 0).e.dbg.sel.toNat = n ∧ servedB (haltedCore n (.iNop k0)) (.port 0) = true) := by
  decide +kernel

def pointing (p : Nat) (boot : BitVec 2) : State :=
  { small with
    smb := { small.smb with pointer := BitVec.ofNat 32 p }
    straps := { small.straps with boot := boot }
    boot := { small.boot with ready := boot == 0 } }

theorem witness_SmbusTarget :
    (∀ n ∈ [0, 0x1FC, 0x200, 0xFFC, 0x1000, 0x1008, 0x100C, 0x1100, 0x11FFFFC, 0x1200000], (pointing n 0).boot.powered = true ∧
      (pointing n 0).boot.inReset = false ∧ (pointing n 0).smb.pointer.toNat = n) ∧
    ((pointing 0x11FFFFC 1).boot.powered = true ∧ (pointing 0x11FFFFC 1).windowOpen 0 = true ∧
      0x11FFFFC = 0x01000000 + 0x1FFFFC ∧ 0x1FFFFC + 4 * 1 ≤ 0x200000) ∧
    ((pointing 0x1000000 0).windowOpen 0 = false ∧ (4 : Word).toNat % 4 = 0) := by
  decide +kernel

def pushReady : State := { pushing with pont := { pushing.pont with selfOk := true } }

theorem witness_ResetAndBoot :
    (small.boot.powered = true ∧ ({} : Straps).boot = 0 ∧ ({} : Straps).mem = small.grade.clamshell) ∧
    ({ small.boot with powered := false } : Boot).powered = false ∧
    (∀ c, c < 32 → pushReady.grade.perCluster ≤ (pushReady.goodCores [] c).length) ∧
    (pushReady.hostPush = true ∧ pushReady.boot.fail = false ∧ pushReady.pont.selfOk = true ∧
      pushReady.straps.mem = pushReady.grade.clamshell) ∧
    recovering.recovery = true ∧
    (small.hostPush = false ∧ small.recovery = false ∧ small.boot.inReset = false) := by
  decide +kernel

/-- Tenant 0 runs with a port's worth of things to reset. -/
def busy : State :=
  { (running.modDma 3 fun c => { c with st := .running, owner := 0, bursts := [burst 0 32 false []] }) with
    own := [(0, some 0), (1, some 1), (175, some 0)]
    inj := [(0, [lookEv]), (3, [lookEv])] }

theorem witness_PortResets :
    (busy.boot.ready = true ∧ busy.configured 0 = true ∧ (busy.tenant 0).st = .running ∧ busy.owner 175 = some 0 ∧
      (busy.dmaCh 3).owner = 0) ∧
    ((loading.tenant 0).st = .loading ∧ (stopped.tenant 0).st = .stopped ∧ loading.boot.ready = true) ∧
    ({ small with straps := { small.straps with host := 2 } }.configured 3 = true) := by
  decide +kernel

def host2 : State := { small with straps := { small.straps with host := 2 }, ports := small.ports.set 1 { linkUp := true } }
def resetting : State := { small with boot := { small.boot with inReset := true } }

theorem witness_RegisterAccess :
    (servedB small (.port 0) = true ∧ servedB small .mp = true ∧ 0xFFC < 0x1000 ∧ 0xFFC % 4 = 0 ∧
      small.tenantOf 0 = some 0 ∧ small.noCore k0 = false) ∧
    (servedB host2 (.port 1) = true ∧ host2.tenantOf 0 = some 0) ∧
    (placeOf (.port 0) (regBase + 0x3FFFFFC) = .nowhere ∧ regBase + 0x3FFFFFC < regBase + 0x4000000) ∧
    ((sleeping 3).boot.ready = true ∧ (sleeping 3).configured 0 = true ∧ (sleeping 3).asleep = true ∧ ((sleeping 3).port 0).cfg.d3 = false) ∧
    (small.tenant 0).st ≠ .loading ∧
    resetting.boot.inReset = true := by
  decide +kernel

/-! ### Steps and invariants -/

/-- A step of s answers a next state. -/
def goesOn (s : State) : Bool :=
  match step s with
  | .next _ => true
  | _ => false

theorem witness_DecodeEncode :
    (Instr.iSrs k0 1 2 16).wellFormed = true ∧ coreOf (.iSrs k0 1 2 16) = some k0 ∧
    encodeWord (.iSrs k0 1 2 16) = some 0x04480415 := by decide

theorem witness_MemoryStaysCanonical :
    Tab.wf small.mem 0 = true ∧ goesOn { small with pending := [.dbgHalt (.port 0) k0] } = true := by decide +kernel

/-- A Faulted device with its gate closed, and one with TRNG_FAIL set; each goes on. -/
def failed : State :=
  { pontil (fun x => { x with faulted := true, hard := true, gate := false }) with sec := { small.sec with trngFail := true } }

theorem witness_GateClosedWhileFaulted :
    (failed.pont.faulted = true ∧ failed.pont.gate = false) ∧ goesOn failed = true := by decide +kernel

theorem witness_HeldUntilReset :
    (failed.sec.trngFail = true ∧ failed.pont.hard = true ∧ failed.pont.faulted = true ∧ failed.pont.gate = false ∧
      failed.boot.inReset = false ∧ failed.boot.powered = true ∧ failed.pending = []) ∧
    goesOn failed = true := by decide +kernel

end Sys2Proof.Tests
end

/-!
The state after reset (R24, R96, R313, R337, R350, R359, R409, R416): what each of its tables holds at every key.
-/

namespace Sys2Proof.Machine

theorem tenantOf_reset : ∀ c, c < 32 → State.reset.tenantOf c = some 0 := by decide

theorem syncOwnerOf_reset : ∀ b, b < 16 → State.reset.syncOwnerOf (512 * b) = some 0 := by decide

theorem core_reset (k : Nat) : State.reset.core k = {} := rfl

theorem shear_reset : ∀ t, State.reset.shear t = {} := by decide

theorem tenant_reset : ∀ t, State.reset.tenant t = {} := by decide

theorem port_reset : ∀ p, State.reset.port p = {} := by decide

theorem timers_reset : ∀ n : Fin 16, State.reset.timers[n.val] = {} := by decide

theorem dmaCh_reset : ∀ n, (State.reset.dmaCh n).st = .free := by decide

theorem owner_reset (k : Nat) : State.reset.owner k = none := rfl

/-- Settles O57: the tenant map and the sync blocks list tenant 0 throughout, every other table of the reset state
holds its default entry at every key, and each clause is read off that entry. -/
theorem resetValues : Obligations.ResetValues := by
  refine ⟨tenantOf_reset, syncOwnerOf_reset, fun k => ?_, fun t => ?_, fun p => ?_, rfl, rfl, rfl, rfl,
    fun n => ⟨?_, dmaCh_reset n⟩, owner_reset, rfl, rfl, rfl, rfl, rfl, rfl, rfl, Tab.wf_nil 0, rfl, rfl⟩
  · simp [core_reset]
  · simp [tenant_reset, shear_reset]
  · simp [port_reset]
  · simp [timers_reset]

end Sys2Proof.Machine

/-!
Register accesses as commands (R11, R307 to R310, R328): where the addresses of the Pontil and of a core register
window lead, what gate stands before them, and what the access leaves.
-/

namespace Sys2Proof.Machine

/-! ### Addresses -/

theorem coreReg_eq (c : CoreId) (off : Nat) :
    coreReg c off = coreBase + c.cl.val * 0x200_0000 + c.lc.val * 0x8_0000 + 0x4_9000 + off := by
  have hq : c.key / 32 = c.cl.val := by unfold CoreId.key; omega
  have hr : c.key % 32 = c.lc.val := by unfold CoreId.key; omega
  rw [coreReg, coreWindow, hq, hr]

theorem toNat_coreReg (c : CoreId) {off : Nat} (h : off < 0x1000) :
    (BitVec.ofNat 44 (coreReg c off)).toNat = coreReg c off := by
  have hb : coreBase = 0x200_0000_0000 := rfl
  have he := coreReg_eq c off
  rw [BitVec.toNat_ofNat]
  omega

theorem toNat_pontilAddr {o : Nat} (h : o < 0x1000) :
    (BitVec.ofNat 44 (regBase + 0x3000000 + o)).toNat = regBase + 0x3000000 + o := by
  have hb : regBase = 0x400_0000_0000 := rfl
  rw [BitVec.toNat_ofNat]
  omega

/-- The Pontil block (R32). -/
theorem placeOf_pontilAddr (r : Req) {o : Nat} (h : o < 0x1000) (h4 : o % 4 = 0) :
    placeOf r (regBase + 0x3000000 + o) = .pontil o := by
  have hin : regBase ≤ regBase + 0x3000000 + o ∧ regBase + 0x3000000 + o < regBase + 0x400_0000 := by omega
  have hal : (regBase + 0x3000000 + o) % 4 = 0 := by unfold regBase; omega
  have hx : regBase + 0x3000000 + o - regBase = 0x3000000 + o := by omega
  have hst : ¬ 0x3000000 + o < 40 * 0x10_0000 := by omega
  have hp : 0x300_0000 ≤ 0x3000000 + o ∧ 0x3000000 + o < 0x300_1000 := by omega
  simp only [placeOf, if_pos hin, if_pos hal, hx, placeOff, if_neg hst, if_pos hp, Nat.add_sub_cancel_left]

theorem coreAt_coreReg (c : CoreId) {off : Nat} (h : off < 0x1000) : coreAt (coreReg c off) = c := by
  have hx : coreReg c off - coreBase = c.cl.val * 0x200_0000 + (c.lc.val * 0x8_0000 + 0x4_9000 + off) := by
    rw [coreReg_eq]; omega
  have hcl : (coreReg c off - coreBase) / 0x200_0000 = c.cl.val := by omega
  have hlc : (coreReg c off - coreBase) % 0x200_0000 / 0x8_0000 = c.lc.val := by omega
  rw [coreAt, hcl, hlc]
  simp

/-- A core register window, at its place in the core memories (R30, R89). -/
theorem placeOf_coreReg (r : Req) (c : CoreId) {off : Nat} (h : off < 0x1000) (h4 : off % 4 = 0) :
    placeOf r (coreReg c off) = .core c off := by
  have he := coreReg_eq c off
  have hb : coreBase = 0x200_0000_0000 := rfl
  have hout : ¬(regBase ≤ coreReg c off ∧ coreReg c off < regBase + 0x400_0000) := by
    unfold regBase; omega
  have hin : coreBase ≤ coreReg c off ∧ coreReg c off < coreBase + 0x4000_0000 ∧
      0x4_9000 ≤ coreReg c off % 0x8_0000 ∧ coreReg c off % 0x8_0000 < 0x4_A000 := by omega
  have hal : coreReg c off % 4 = 0 := by omega
  have hoff : coreReg c off % 0x1000 = off := by omega
  simp only [placeOf, if_neg hout, if_pos hin, if_pos hal, coreAt_coreReg c h, hoff]

/-! ### Gates -/

/-- A requester reaches the registers of a core: the core exists and is awake, and a port's tenant owns its cluster and
is not Loading (R310, R352). -/
def ReachesCore (s : State) (c : CoreId) (r : Req) : Prop := s.noCore c = false ∧
  (r = .mp ∨ ∃ q, r = .port q ∧ s.tenantOf c.cl.val = some q ∧ (s.tenant q).st ≠ .loading)

theorem gateOf_of_ready {s : State} {p : Port} (hreset : s.boot.inReset = false) (hready : s.boot.ready = true)
    (hconf : s.configured p = true) (a : Nat) :
    s.gateOf (.port p) a = (s.gateReady (.port p) (placeOf (.port p) a), placeOf (.port p) a) := by
  simp [State.gateOf, hreset, hready, hconf]

theorem gateOf_of_served {s : State} {r : Req} (h : Served s r) (a : Nat) :
    s.gateOf r a = (s.gateReady r (placeOf r a), placeOf r a) := by
  obtain ⟨⟨hreset, hready, -, hr⟩, -⟩ := h
  cases r with
  | port p => exact gateOf_of_ready hreset hready hr.1 a
  | mp => simp [State.gateOf, hreset]
  | smbus => exact hr.elim

theorem inD3_of_served {s : State} {r : Req} (h : Served s r) : s.inD3 r = false := by
  obtain ⟨⟨-, -, -, hr⟩, -⟩ := h
  cases r with
  | port p => exact hr.2.2
  | mp => rfl
  | smbus => rfl

theorem asleep_of_served {s : State} {r : Req} (h : Served s r) : s.asleep = false := h.1.2.2.1

theorem answering_of_served {s : State} {p : Port} (h : Served s (.port p)) : s.answering p = true := by
  obtain ⟨⟨-, hready, -, hconf, -⟩, -⟩ := h
  simp [State.answering, hready, hconf]

theorem gateReady_pontil {s : State} {r : Req} (h : Served s r) (o : Nat) : s.gateReady r (.pontil o) = .ok := by
  simp [State.gateReady, inD3_of_served h]

theorem gateReady_core {s : State} {r : Req} {c : CoreId} (h : Served s r) (hc : ReachesCore s c r) (off : Nat) :
    s.gateReady r (.core c off) = .ok := by
  obtain ⟨hno, rfl | ⟨q, rfl, hq, -⟩⟩ := hc
  · simp [State.gateReady, inD3_of_served h, asleep_of_served h, hno]
  · simp [State.gateReady, inD3_of_served h, asleep_of_served h, hno, hq]

theorem gateReady_core_of_other {s : State} {p t : Port} {c : CoreId} (h : Served s (.port p))
    (ht : s.tenantOf c.cl.val = some t) (hne : p ≠ t) (off : Nat) : s.gateReady (.port p) (.core c off) = .hidden := by
  simp [State.gateReady, inD3_of_served h, asleep_of_served h, ht, hne]

theorem gateReady_nowhere {s : State} {r : Req} (h : Served s r) : s.gateReady r .nowhere = .error := by
  simp [State.gateReady, inD3_of_served h, asleep_of_served h]

theorem portLoads_of_reachesCore {s : State} {c : CoreId} {r : Req} (hc : ReachesCore s c r) : s.portLoads r = false := by
  obtain ⟨-, rfl | ⟨q, rfl, -, hl⟩⟩ := hc
  · rfl
  · simpa [State.portLoads] using hl

/-! ### What an access leaves -/

/-- Nothing but the replies kept and the ports' own state differs. -/
def SameButAnswers (u s : State) : Prop := { u with replies := s.replies, ports := s.ports } = s

/-- A write that is performed and changes no register: its packet to a station is counted, and its reply kept. -/
def WriteIgnored (s : State) (r : Req) (st : Nat) (u : State) : Prop :=
  Replied u r 0 ∧ SameButAnswers u (s.carried r st) ∧ u.ports = s.ports

/-- A read that returns w and changes no register: a port's completes successfully. -/
def ReadReturns (s : State) (r : Req) (st : Nat) (w : Word) (u : State) : Prop :=
  Replied u r w ∧ SameButAnswers u (s.carried r st) ∧
    ∀ q, u.port q = if r = .port q then { s.port q with cpl := 0 } else s.port q

@[simp] theorem replies_reply (s : State) (r : Req) (ok : Bool) (w : Word) :
    Tab.get (s.reply r ok w).replies none r.key = some (ok, w) := by
  simp [State.reply]

theorem answers_regWr {r : Req} {a : BitVec 44} {v : Word} {s : State} {P : State → Prop}
    (h : P (s.cmdWrite r a.toNat v)) : Answers (.regWr r a v) s P := ⟨_, rfl, h⟩

theorem answers_regRd {r : Req} {a : BitVec 44} {s : State} {P : State → Prop}
    (h : P (s.cmdRead r a.toNat)) : Answers (.regRd r a) s P := ⟨_, rfl, h⟩

theorem SameButAnswers.refl (s : State) : SameButAnswers s s := rfl

theorem SameButAnswers.modPort {t s : State} (h : SameButAnswers t s) (p : Port) (f : PortSt → PortSt) :
    SameButAnswers (t.modPort p f) s := h

theorem SameButAnswers.logAer {t s : State} (h : SameButAnswers t s) (p : Port) (bit : Nat) :
    SameButAnswers (t.logAer p bit) s := h.modPort p _

theorem SameButAnswers.reply {t s : State} (h : SameButAnswers t s) (r : Req) (ok : Bool) (w : Word) :
    SameButAnswers (t.reply r ok w) s := h

theorem writeIgnored_reply (s : State) (r : Req) (st : Nat) : WriteIgnored s r st ((s.carried r st).reply r true 0) :=
  ⟨replies_reply .., (SameButAnswers.refl _).reply .., rfl⟩

theorem readDone_true (t : State) (p : Port) (g : Gate) :
    t.readDone p g true = t.modPort p fun x => { x with cpl := 0 } := rfl

/-- The state after a read that returns a word: a port's read ends in Successful Completion (R307). -/
def State.completed (t : State) : Req → State
  | .port p => t.modPort p fun x => { x with cpl := 0 }
  | _ => t

@[simp] theorem port_reply (s : State) (r : Req) (ok : Bool) (w : Word) (q : Port) :
    (s.reply r ok w).port q = s.port q := rfl

@[simp] theorem port_carried (s : State) (r : Req) (d : Nat) (q : Port) : (s.carried r d).port q = s.port q := rfl

theorem port_completed (t : State) (r : Req) (q : Port) :
    (t.completed r).port q = if r = .port q then { t.port q with cpl := 0 } else t.port q := by
  cases r with
  | port p =>
    by_cases hq : q = p
    · subst hq
      rw [if_pos rfl]
      exact port_modPort_self ..
    · rw [if_neg fun e => hq (Req.port.inj e).symm]
      exact port_modPort_of_ne t _ hq
  | mp => rfl
  | smbus => rfl

theorem SameButAnswers.completed {t s : State} (h : SameButAnswers t s) (r : Req) : SameButAnswers (t.completed r) s := by
  cases r with
  | port p => exact h.modPort p _
  | mp => exact h
  | smbus => exact h

theorem cmdRead_of_some {s t : State} {r : Req} {a : Nat} {w : Word} (h : Served s r)
    (hr : s.regRead r a = (t, some w)) : s.cmdRead r a = (t.completed r).reply r true w := by
  cases r with
  | port p => simp [State.cmdRead, hr, answering_of_served h, readDone_true, State.completed]
  | mp => simp [State.cmdRead, hr, State.completed]
  | smbus => exact h.1.2.2.2.elim

theorem readReturns_completed (s : State) (r : Req) (st : Nat) (w : Word) :
    ReadReturns s r st w (((s.carried r st).completed r).reply r true w) := by
  refine ⟨replies_reply .., ((SameButAnswers.refl _).completed r).reply .., fun q => ?_⟩
  rw [port_reply, port_completed, port_carried]

/-- A read whose word changes nothing returns it to its requester. -/
theorem readReturns_of_regRead {s : State} {r : Req} {a st : Nat} {w : Word} (h : Served s r)
    (hr : s.regRead r a = (s.carried r st, some w)) : ReadReturns s r st w (s.cmdRead r a) :=
  cmdRead_of_some h hr ▸ readReturns_completed s r st w

/-- A write of a hidden register is discarded (R310). -/
theorem cmdWrite_of_hidden {s : State} {r : Req} {a d : Nat} {v : Word} {pl : Place} (h : Served s r)
    (hg : s.gateOf r a = (.hidden, pl)) (hd : pl.dst true = some d) :
    s.cmdWrite r a v = (s.carried r d).reply r true 0 := by
  simp only [State.cmdWrite, State.regWrite, hg, linkSeen_of_served h, viaThread_of_served h, hd, wrOk]

/-! ### Registers of the Pontil and of a core -/

theorem maskedWrite_full (s : State) (v : Word) (f : State → Word → WrRes) : s.maskedWrite 0xFFFFFFFF v f = f s v := by
  simp [State.maskedWrite]

theorem coreRead_id (s : State) (c : CoreId) : s.coreRead c 0x000 = (s, some (s.coreId c.key)) := rfl

theorem coreRead_seed (s : State) (c : CoreId) : s.coreRead c 0x008 = (s, some 0) := rfl

theorem coreRead_emitCnt (s : State) (c : CoreId) : s.coreRead c 0x044 =
    rdThen (s.modE c.key fun e => { e with cr := { e.cr with emitCnt := 0 } }) (s.core c.key).e.cr.emitCnt := rfl

theorem coreWrite_id (s : State) (c : CoreId) (v : Word) : s.coreWrite c 0x000 v = (s, true) := rfl

theorem coreWrite_seed (s : State) (c : CoreId) (v : Word) : s.coreWrite c 0x008 v =
    (s.modE c.key fun e => { e with cr := { e.cr with seed := v } }, true) := rfl

theorem coreId_carried (s : State) (r : Req) (d k : Nat) : (s.carried r d).coreId k = s.coreId k := rfl

theorem pontGet_carried (s : State) (r : Req) (d o : Nat) : (s.carried r d).pontGet o = s.pontGet o := rfl

@[simp] theorem core_carried (s : State) (r : Req) (d k : Nat) : (s.carried r d).core k = s.core k := rfl

@[simp] theorem core_reply (s : State) (r : Req) (ok : Bool) (w : Word) (k : Nat) :
    (s.reply r ok w).core k = s.core k := rfl

theorem core_completed (t : State) (r : Req) (k : Nat) : (t.completed r).core k = t.core k := by
  cases r with
  | port p => rfl
  | mp => rfl
  | smbus => rfl

section
variable {s : State} {r : Req} {c : CoreId} (h : Served s r)
include h

theorem regRead_pontilAddr {o : Nat} (ho : o < 0x1000) (h4 : o % 4 = 0) :
    s.regRead r (regBase + 0x3000000 + o) = (s.carried r stMgmt, some (BitVec.ofNat 32 (s.pontGet o))) := by
  have hg := gateOf_of_served h (regBase + 0x3000000 + o)
  rw [placeOf_pontilAddr r ho h4, gateReady_pontil h] at hg
  rw [regRead_of_served h hg, ← pontGet_carried s r stMgmt]
  rfl

theorem cmdWrite_pontilAddr {o : Nat} (ho : o < 0x1000) (h4 : o % 4 = 0) (v : Word) :
    s.cmdWrite r (regBase + 0x3000000 + o) v = (s.carried r stMgmt).reply r true 0 := by
  have hg := gateOf_of_served h (regBase + 0x3000000 + o)
  rw [placeOf_pontilAddr r ho h4, gateReady_pontil h] at hg
  exact cmdWrite_of_done h hg rfl

theorem regRead_coreReg (hc : ReachesCore s c r) {off : Nat} (ho : off < 0x1000) (h4 : off % 4 = 0) :
    s.regRead r (coreReg c off) = (s.carried r c.cl.val).coreRead c off := by
  have hg := gateOf_of_served h (coreReg c off)
  rw [placeOf_coreReg r c ho h4, gateReady_core h hc] at hg
  rw [regRead_of_served h hg]
  rfl

/-- A write that sets no reserved bit of a core register. -/
theorem cmdWrite_coreReg (hc : ReachesCore s c r) {off : Nat} {v : Word} {t : State} (ho : off < 0x1000)
    (h4 : off % 4 = 0) (hm : coreMaskBits off = 0xFFFFFFFF)
    (hw : (s.carried r c.cl.val).coreWrite c off v = (t, true)) : s.cmdWrite r (coreReg c off) v = t.reply r true 0 := by
  have hg := gateOf_of_served h (coreReg c off)
  rw [placeOf_coreReg r c ho h4, gateReady_core h hc] at hg
  have hl : (s.carried r c.cl.val).portLoads r = false := portLoads_of_reachesCore hc
  refine cmdWrite_of_done h hg ?_
  simp only [Place.dst, State.placeWrite, hl, hm, maskedWrite_full, hw, Bool.false_eq_true, if_false]

theorem readReturns_pontil {o : Nat} (ho : o < 0x1000) (h4 : o % 4 = 0) :
    ReadReturns s r stMgmt (BitVec.ofNat 32 (s.pontGet o)) (s.cmdRead r (regBase + 0x3000000 + o)) :=
  readReturns_of_regRead h (regRead_pontilAddr h ho h4)

theorem writeIgnored_pontil {o : Nat} (ho : o < 0x1000) (h4 : o % 4 = 0) (v : Word) :
    WriteIgnored s r stMgmt (s.cmdWrite r (regBase + 0x3000000 + o) v) :=
  cmdWrite_pontilAddr h ho h4 v ▸ writeIgnored_reply s r stMgmt

theorem readReturns_coreId (hc : ReachesCore s c r) :
    ReadReturns s r c.cl.val (s.coreId c.key) (s.cmdRead r (coreReg c 0x000)) := by
  refine readReturns_of_regRead h ?_
  rw [regRead_coreReg h hc (by decide) rfl, coreRead_id, coreId_carried]

theorem writeIgnored_coreId (hc : ReachesCore s c r) (v : Word) :
    WriteIgnored s r c.cl.val (s.cmdWrite r (coreReg c 0x000) v) := by
  rw [cmdWrite_coreReg h hc (by decide) rfl rfl (coreWrite_id _ c v)]
  exact writeIgnored_reply ..

theorem readReturns_seed (hc : ReachesCore s c r) : ReadReturns s r c.cl.val 0 (s.cmdRead r (coreReg c 0x008)) := by
  refine readReturns_of_regRead h ?_
  rw [regRead_coreReg h hc (by decide) rfl, coreRead_seed]

/-- A write of a core's seed sets it, and touches no other core (R90). -/
theorem cmdWrite_seed (hc : ReachesCore s c r) (v : Word) : Replied (s.cmdWrite r (coreReg c 0x008) v) r 0 ∧
    ((s.cmdWrite r (coreReg c 0x008) v).core c.key).e.cr.seed = v ∧
    ∀ j, j ≠ c.key → (s.cmdWrite r (coreReg c 0x008) v).core j = s.core j := by
  rw [cmdWrite_coreReg h hc (by decide) rfl rfl (coreWrite_seed _ c v)]
  refine ⟨replies_reply .., ?_, fun j hj => ?_⟩
  · simp
  · rw [core_reply, core_modE_of_ne _ _ hj, core_carried]

/-- A read of EMIT_CNT returns it and clears it (R11). -/
theorem cmdRead_emitCnt (hc : ReachesCore s c r) :
    Replied (s.cmdRead r (coreReg c 0x044)) r (BitVec.ofNat 32 (s.core c.key).e.cr.emitCnt) ∧
    ((s.cmdRead r (coreReg c 0x044)).core c.key).e.cr.emitCnt = 0 := by
  have hr := regRead_coreReg h hc (off := 0x044) (by decide) rfl
  rw [coreRead_emitCnt, core_carried] at hr
  rw [cmdRead_of_some h hr]
  refine ⟨replies_reply .., ?_⟩
  simp [core_completed]

end

/-! ### A core of another tenant -/

section
variable {s : State} {p t : Port} {c : CoreId} (h : Served s (.port p)) (ht : s.tenantOf c.cl.val = some t) (hne : p ≠ t)
include h ht hne

theorem gateOf_coreReg_of_other {off : Nat} (ho : off < 0x1000) (h4 : off % 4 = 0) :
    s.gateOf (.port p) (coreReg c off) = (.hidden, .core c off) := by
  rw [gateOf_of_served h, placeOf_coreReg _ c ho h4, gateReady_core_of_other h ht hne]

theorem readReturns_of_other : ReadReturns s (.port p) c.cl.val 0 (s.cmdRead (.port p) (coreReg c 0x008)) :=
  readReturns_of_regRead h (regRead_of_hidden h (gateOf_coreReg_of_other h ht hne (by decide) rfl))

theorem writeIgnored_of_other (v : Word) :
    WriteIgnored s (.port p) c.cl.val (s.cmdWrite (.port p) (coreReg c 0x008) v) := by
  rw [cmdWrite_of_hidden h (gateOf_coreReg_of_other h ht hne (by decide) rfl) rfl]
  exact writeIgnored_reply ..

end

/-! ### Accesses that are not performed -/

theorem SameButAnswers.readDone {t s : State} (h : SameButAnswers t s) (p : Port) (g : Gate) (ok : Bool) :
    SameButAnswers (t.readDone p g ok) s := by
  have hstatus (n : Nat) : SameButAnswers (t.modPort p fun x => { x with cpl := n }) s := h.modPort p _
  cases ok with
  | true => exact hstatus 0
  | false =>
    cases g with
    | asleep => exact hstatus 1
    | unsupported => exact (hstatus 1).logAer p 20
    | ok => exact (hstatus 4).logAer p 15
    | error => exact (hstatus 4).logAer p 15
    | hidden => exact (hstatus 4).logAer p 15

theorem rejected_reply (s : State) (r : Req) : Rejected (s.reply r false 0) r := replies_reply ..

/-- A read that is not performed changes nothing but its requester's reply and port. -/
theorem cmdRead_of_none {s t : State} {r : Req} {a : Nat} (hr : s.regRead r a = (t, none)) (ht : SameButAnswers t s) :
    Rejected (s.cmdRead r a) r ∧ SameButAnswers (s.cmdRead r a) s := by
  simp only [State.cmdRead, hr]
  refine ⟨rejected_reply .., SameButAnswers.reply ?_ ..⟩
  cases r with
  | port p =>
    by_cases ha : s.answering p = true
    · simpa only [if_pos ha] using ht.readDone p _ _
    · simpa only [if_neg ha] using ht
  | mp => exact ht
  | smbus => exact ht

theorem cmdRead_port_of_none {s t : State} {p : Port} {a : Nat} (ha : s.answering p = true)
    (hr : s.regRead (.port p) a = (t, none)) :
    s.cmdRead (.port p) a = (t.readDone p (s.gateOf (.port p) a).1 false).reply (.port p) false 0 := by
  simp [State.cmdRead, hr, ha]

theorem cmdWrite_port_of_refused {s t : State} {p : Port} {a : Nat} {v : Word} (ha : s.answering p = true)
    (hw : s.regWrite (.port p) a v = (t, false)) :
    s.cmdWrite (.port p) a v = (t.writeRefused p a (s.gateOf (.port p) a).1).reply (.port p) false 0 := by
  simp [State.cmdWrite, hw, ha]

theorem regRead_of_error {s : State} {r : Req} {a : Nat} (hg : (s.gateOf r a).1 = .error) :
    s.regRead r a = (s, none) := by
  have : s.gateOf r a = (.error, (s.gateOf r a).2) := by rw [← hg]
  rw [State.regRead, this]
  rfl

theorem regWrite_of_error {s : State} {r : Req} {a : Nat} (hg : (s.gateOf r a).1 = .error) (v : Word) :
    s.regWrite r a v = (s, false) := by
  have : s.gateOf r a = (.error, (s.gateOf r a).2) := by rw [← hg]
  rw [State.regWrite, this]
  rfl

theorem regRead_of_asleep {s : State} {r : Req} {a : Nat} (hg : (s.gateOf r a).1 = .asleep) :
    s.regRead r a = (s.noteSleepReq r, none) := by
  have : s.gateOf r a = (.asleep, (s.gateOf r a).2) := by rw [← hg]
  rw [State.regRead, this]
  rfl

theorem regWrite_of_asleep {s : State} {r : Req} {a : Nat} (hg : (s.gateOf r a).1 = .asleep) (v : Word) :
    s.regWrite r a v = (s.noteSleepReq r, false) := by
  have : s.gateOf r a = (.asleep, (s.gateOf r a).2) := by rw [← hg]
  rw [State.regWrite, this]
  rfl

/-- In reset the device answers nothing. -/
theorem gateOf_of_inReset {s : State} (h : s.boot.inReset = true) (r : Req) (a : Nat) : (s.gateOf r a).1 = .error := by
  simp [State.gateOf, h]

theorem gateOf_nowhere {s : State} {r : Req} {a : Nat} (h : Served s r) (hp : placeOf r a = .nowhere) :
    (s.gateOf r a).1 = .error := by
  rw [gateOf_of_served h, hp, gateReady_nowhere h]

/-- A host's access of a core register window in sleep (R328). -/
theorem gateReady_core_of_asleep {s : State} {p : Port} (hd3 : (s.port p).cfg.d3 = false) (hsleep : s.asleep = true)
    (c : CoreId) (off : Nat) : s.gateReady (.port p) (.core c off) = .asleep := by
  simp [State.gateReady, State.inD3, hd3, hsleep]

theorem barOf_register {r : Req} {a : Nat} (h : regBase ≤ a) (h' : a < regBase + 0x4000000) :
    barOf r a = (0, a - regBase) := by
  have hb : a < bar4Base := by
    unfold regBase at h'
    unfold bar4Base
    omega
  rw [barOf, if_neg (Nat.not_lt.mpr h), if_pos hb]

theorem writeRefused_error (s : State) (p : Port) (a : Nat) :
    s.writeRefused p a .error = s.refusedWrite p (barOf (.port p) a).1 (barOf (.port p) a).2 := rfl

theorem pwerr_raise (x : PortSt) (v : Nat) : (x.raise v).pwerr = x.pwerr := by
  unfold PortSt.raise
  split
  · rfl
  · split <;> rfl

theorem errLo_raise (x : PortSt) (v : Nat) : (x.raise v).errLo = x.errLo := by
  unfold PortSt.raise
  split
  · rfl
  · split <;> rfl

theorem pwerr_refusedWrite (s : State) (p : Port) (bar off : Nat) :
    ((s.refusedWrite p bar off).port p).pwerr = true := by
  rw [State.refusedWrite, State.raiseIrq, port_modPort_self, pwerr_raise, port_modPort_self]

theorem errLo_refusedWrite (s : State) (p : Port) (bar off : Nat) :
    ((s.refusedWrite p bar off).port p).errLo = BitVec.ofNat 32 off := by
  rw [State.refusedWrite, State.raiseIrq, port_modPort_self, errLo_raise, port_modPort_self]

@[simp] theorem cores_reply (s : State) (r : Req) (ok : Bool) (w : Word) : (s.reply r ok w).cores = s.cores := rfl

@[simp] theorem mem_reply (s : State) (r : Req) (ok : Bool) (w : Word) : (s.reply r ok w).mem = s.mem := rfl

theorem cores_refusedWrite (s : State) (p : Port) (bar off : Nat) : (s.refusedWrite p bar off).cores = s.cores := by
  rw [State.refusedWrite, State.raiseIrq, State.logAer, cores_modPort, cores_modPort, cores_modPort]

theorem mem_refusedWrite (s : State) (p : Port) (bar off : Nat) : (s.refusedWrite p bar off).mem = s.mem := by
  rw [State.refusedWrite, State.raiseIrq, State.logAer, mem_modPort, mem_modPort, mem_modPort]

section
variable {s : State} {p : Port} {a : Nat} (h : Served s (.port p)) (hp : placeOf (.port p) a = .nowhere)
include h hp

/-- A host's read that meets an error response ends in Completer Abort (R307). -/
theorem cmdRead_nowhere : Rejected (s.cmdRead (.port p) a) (.port p) ∧ SameButAnswers (s.cmdRead (.port p) a) s ∧
    ((s.cmdRead (.port p) a).port p).cpl = 4 ∧ ∀ q, q ≠ p → (s.cmdRead (.port p) a).port q = s.port q := by
  have hg := gateOf_nowhere h hp
  have hr := regRead_of_error hg
  have hu : s.cmdRead (.port p) a =
      ((s.modPort p fun x => { x with cpl := 4 }).logAer p 15).reply (.port p) false 0 := by
    rw [cmdRead_port_of_none (answering_of_served h) hr, hg]
    rfl
  obtain ⟨hrej, hsame⟩ := cmdRead_of_none hr (SameButAnswers.refl s)
  refine ⟨hrej, hsame, ?_, fun q hq => ?_⟩
  · rw [hu, port_reply, State.logAer, port_modPort_self, port_modPort_self]
  · rw [hu, port_reply, State.logAer, port_modPort_of_ne _ _ hq, port_modPort_of_ne _ _ hq]

/-- A host's write that meets an error response changes no core and no memory, and is recorded (R307, R337). -/
theorem cmdWrite_nowhere (hlo : regBase ≤ a) (hhi : a < regBase + 0x4000000) (v : Word) :
    Rejected (s.cmdWrite (.port p) a v) (.port p) ∧ (s.cmdWrite (.port p) a v).cores = s.cores ∧
      (s.cmdWrite (.port p) a v).mem = s.mem ∧ ((s.cmdWrite (.port p) a v).port p).pwerr = true ∧
      ((s.cmdWrite (.port p) a v).port p).errLo = BitVec.ofNat 32 (a - regBase) := by
  have hg := gateOf_nowhere h hp
  have hu : s.cmdWrite (.port p) a v = (s.refusedWrite p 0 (a - regBase)).reply (.port p) false 0 := by
    rw [cmdWrite_port_of_refused (answering_of_served h) (regWrite_of_error hg v), hg, writeRefused_error,
      barOf_register hlo hhi]
  rw [hu, cores_reply, mem_reply, port_reply]
  exact ⟨rejected_reply .., cores_refusedWrite .., mem_refusedWrite .., pwerr_refusedWrite .., errLo_refusedWrite ..⟩

end

section
variable {s : State} {p : Port} {a : Nat} (ha : s.answering p = true) (hg : (s.gateOf (.port p) a).1 = .asleep)
include ha hg

/-- A host's read of a sleeping device is counted and ends in Unsupported Request (R307, R328). -/
theorem cmdRead_asleep : Rejected (s.cmdRead (.port p) a) (.port p) ∧ SameButAnswers (s.cmdRead (.port p) a) s ∧
    (s.cmdRead (.port p) a).port p = { s.port p with sleepReq := cnt16 (s.port p).sleepReq, cpl := 1 } := by
  have hr := regRead_of_asleep hg
  have hu : s.cmdRead (.port p) a =
      ((s.noteSleepReq (.port p)).modPort p fun x => { x with cpl := 1 }).reply (.port p) false 0 := by
    rw [cmdRead_port_of_none ha hr, hg]
    rfl
  obtain ⟨hrej, hsame⟩ := cmdRead_of_none hr ((SameButAnswers.refl s).modPort p _)
  refine ⟨hrej, hsame, ?_⟩
  rw [hu, port_reply, State.noteSleepReq, port_modPort_self, port_modPort_self]

/-- A host's write to a sleeping device is counted, and nothing else (R307, R328). -/
theorem cmdWrite_asleep (v : Word) :
    Rejected (s.cmdWrite (.port p) a v) (.port p) ∧ SameButAnswers (s.cmdWrite (.port p) a v) s ∧
      (s.cmdWrite (.port p) a v).port p = { s.port p with sleepReq := cnt16 (s.port p).sleepReq } := by
  have hu : s.cmdWrite (.port p) a v = (s.noteSleepReq (.port p)).reply (.port p) false 0 := by
    rw [cmdWrite_port_of_refused ha (regWrite_of_asleep hg v), hg]
    rfl
  rw [hu]
  refine ⟨rejected_reply .., ((SameButAnswers.refl s).modPort p _).reply .., ?_⟩
  rw [port_reply, State.noteSleepReq, port_modPort_self]

end

/-- Settles O55: each access is followed from its address to its place and through the gate before it, and what that
place, or the refusal, leaves is read off. -/
theorem registerAccess : Obligations.RegisterAccess := by
  intro s r p t c a o v adr reach rest written read seed
  have hid : (BitVec.ofNat 44 (coreReg c 0x000)).toNat = coreReg c 0x000 := toNat_coreReg c (by decide)
  have hseed : (BitVec.ofNat 44 (coreReg c 0x008)).toNat = coreReg c 0x008 := toNat_coreReg c (by decide)
  have hcnt : (BitVec.ofNat 44 (coreReg c 0x044)).toNat = coreReg c 0x044 := toNat_coreReg c (by decide)
  refine ⟨fun h ho h4 => ?_, fun h hc => ?_, fun h ht hne => ?_, fun h hp hlo hhi => ?_,
    fun hreset hready hconf hd3 hsleep => ?_, fun hreset => ?_⟩
  · have hpont := toNat_pontilAddr ho
    refine ⟨answers_regRd ?_, answers_regWr ?_⟩
    · rw [hpont]
      exact readReturns_pontil h ho h4
    · rw [hpont]
      exact writeIgnored_pontil h ho h4 v
  · refine ⟨answers_regRd ?_, answers_regWr ?_, answers_regWr ?_, answers_regRd ?_, answers_regRd ?_⟩
    · rw [hid]
      exact readReturns_coreId h hc
    · rw [hid]
      exact writeIgnored_coreId h hc v
    · rw [hseed]
      exact cmdWrite_seed h hc v
    · rw [hseed]
      exact readReturns_seed h hc
    · rw [hcnt]
      exact cmdRead_emitCnt h hc
  · refine ⟨answers_regRd ?_, answers_regWr ?_⟩
    · rw [hseed]
      exact readReturns_of_other h ht hne
    · rw [hseed]
      exact writeIgnored_of_other h ht hne v
  · exact ⟨answers_regRd (cmdRead_nowhere h hp), answers_regWr (cmdWrite_nowhere h hp hlo hhi v)⟩
  · have ha : s.answering p = true := by simp [State.answering, hready, hconf]
    have hg : (s.gateOf (.port p) (coreReg c 0x008)).1 = .asleep := by
      rw [gateOf_of_ready hreset hready hconf, placeOf_coreReg _ c (by decide) rfl, gateReady_core_of_asleep hd3 hsleep]
    refine ⟨answers_regRd ?_, answers_regWr ?_⟩
    · rw [hseed]
      exact cmdRead_asleep ha hg
    · rw [hseed]
      exact cmdWrite_asleep ha hg v
  · exact answers_regRd (cmdRead_of_none (regRead_of_error (gateOf_of_inReset hreset r a.toNat)) (SameButAnswers.refl s))

end Sys2Proof.Machine

/-!
Scalar stores (R30, R68, R114): what bytes of memory read as after a list of bytes has been written, the words and
halves that they spell, and what ST leaves of each view.
-/

namespace Sys2Proof.Machine

/-! ### Bytes and numbers -/

theorem length_leBytes (k n : Nat) : (leBytes k n).length = k := by
  induction k generalizing n with
  | zero => rfl
  | succ k ih => simp [leBytes, ih]

/-- The first k bytes of a number spell it modulo 256 ^ k. -/
theorem leNat_leBytes (k n : Nat) : leNat (leBytes k n) = n % 256 ^ k := by
  induction k generalizing n with
  | zero => simp [leBytes, leNat, Nat.mod_one]
  | succ k ih =>
    rw [leBytes, leNat, ih, BitVec.toNat_ofNat, Nat.pow_succ' (m := 256)]
    exact Nat.mod_mul.symm

theorem ofNat_leNat_leBytes (w : Word) : BitVec.ofNat 32 (leNat (leBytes 4 w.toNat)) = w := by
  have hw : leNat (leBytes 4 w.toNat) = w.toNat := (leNat_leBytes 4 w.toNat).trans (Nat.mod_eq_of_lt w.isLt)
  rw [hw, BitVec.ofNat_toNat, BitVec.setWidth_eq]

/-! ### Memory after a list of bytes has been written -/

/-- The top byte of an accumulator word: a write ignores it, and it reads as the sign (R30). -/
def isTop (a : Nat) : Bool := inAcView a && a % 4 == 3

theorem readByte_of_not_top (s : State) {a : Nat} (h : isTop a = false) : s.readByte a = s.rawByte a := by
  unfold isTop at h
  simp [State.readByte, h]

theorem readByte_of_top (s : State) {a : Nat} (h : isTop a = true) :
    s.readByte a = if (s.rawByte (a - 1)).msb then 0xFF else 0 := by
  unfold isTop at h
  simp only [State.readByte, h, if_true]

theorem rawByte_writeByte_of_ne (s : State) {a c : Nat} (b : Byte) (h : c ≠ a) :
    (s.writeByte a b).rawByte c = s.rawByte c := by
  by_cases ha : (inAcView a && a % 4 == 3) = true
  · simp [State.writeByte, ha]
  · rw [rawByte_writeByte s a c b (by simpa using ha), if_neg h]

/-- A list of bytes written from a leaves every byte outside it as it was. -/
theorem rawByte_writeBytes_of_apart (s : State) {a c : Nat} (bs : List Byte) (h : c < a ∨ a + bs.length ≤ c) :
    (s.writeBytes a bs).rawByte c = s.rawByte c := by
  induction bs generalizing s a with
  | nil => rfl
  | cons b bs ih =>
    rw [List.length_cons] at h
    rw [State.writeBytes, ih _ (by omega), rawByte_writeByte_of_ne s b (by omega)]

/-- Byte j of a list written from a is stored at a + j, unless an accumulator word's top byte is there. -/
theorem rawByte_writeBytes (s : State) (a : Nat) (bs : List Byte) {j : Nat} (hj : j < bs.length)
    (ht : isTop (a + j) = false) : (s.writeBytes a bs).rawByte (a + j) = bs[j] := by
  induction bs generalizing s a j with
  | nil => exact absurd hj (Nat.not_lt_zero j)
  | cons b bs ih =>
    cases j with
    | zero =>
      rw [State.writeBytes, rawByte_writeBytes_of_apart _ bs (by omega), Nat.add_zero, rawByte_writeByte s a a b ht,
        if_pos rfl, List.getElem_cons_zero]
    | succ j =>
      have he : a + (j + 1) = a + 1 + j := by omega
      rw [he] at ht ⊢
      rw [State.writeBytes, ih _ _ (Nat.lt_of_succ_lt_succ hj) ht, List.getElem_cons_succ]

/-- A write leaves what a byte outside it reads as alone, if for a top byte the byte below it, whose sign it reads as,
lies outside too. -/
theorem readByte_writeBytes_of_apart (s : State) {a c : Nat} (bs : List Byte) (h : c < a ∨ a + bs.length ≤ c)
    (hlow : isTop c = true → c - 1 < a ∨ a + bs.length ≤ c - 1) : (s.writeBytes a bs).readByte c = s.readByte c := by
  by_cases hc : isTop c = true
  · rw [readByte_of_top _ hc, readByte_of_top _ hc, rawByte_writeBytes_of_apart s bs (hlow hc)]
  · rw [Bool.not_eq_true] at hc
    rw [readByte_of_not_top _ hc, readByte_of_not_top _ hc, rawByte_writeBytes_of_apart s bs h]

theorem readByte_writeBytes (s : State) (a : Nat) (bs : List Byte) {j : Nat} (hj : j < bs.length)
    (ht : isTop (a + j) = false) : (s.writeBytes a bs).readByte (a + j) = bs[j] := by
  rw [readByte_of_not_top _ ht, rawByte_writeBytes s a bs hj ht]

/-- Bytes that hold no accumulator byte read back as written. -/
theorem readBytes_writeBytes (s : State) (a : Nat) (bs : List Byte) (ht : ∀ j, j < bs.length → isTop (a + j) = false) :
    (s.writeBytes a bs).readBytes a bs.length = bs := by
  refine List.ext_getElem (by simp [State.readBytes]) fun j _ hj => ?_
  simp only [State.readBytes, List.getElem_map, List.getElem_range, readByte_writeBytes s a bs hj (ht j hj)]

theorem readBytes_writeBytes_leBytes (s : State) (a k n : Nat) (ht : ∀ j, j < k → isTop (a + j) = false) :
    (s.writeBytes a (leBytes k n)).readBytes a k = leBytes k n := by
  simpa only [length_leBytes] using readBytes_writeBytes s a (leBytes k n) (by simpa only [length_leBytes] using ht)

/-! ### Words -/

@[simp] theorem readByte_clearEcc (s : State) (a n c : Nat) : (s.clearEcc a n).readByte c = s.readByte c := rfl

@[simp] theorem readWord_clearEcc (s : State) (a n c : Nat) : (s.clearEcc a n).readWord c = s.readWord c := rfl

theorem readByte_writeWord_of_apart (s : State) {a c : Nat} (w : Word) (h : c < a ∨ a + 4 ≤ c)
    (hlow : isTop c = true → c - 1 < a ∨ a + 4 ≤ c - 1) : (s.writeWord a w).readByte c = s.readByte c := by
  rw [State.writeWord, readByte_clearEcc]
  exact readByte_writeBytes_of_apart s _ (by rwa [length_leBytes]) (by rwa [length_leBytes])

/-- A word outside the accumulator views reads back as written. -/
theorem readWord_writeWord (s : State) (a : Nat) (w : Word) (ht : ∀ j, j < 4 → isTop (a + j) = false) :
    (s.writeWord a w).readWord a = w := by
  rw [State.writeWord, readWord_clearEcc, State.readWord, readBytes_writeBytes_leBytes s a 4 _ ht, ofNat_leNat_leBytes]

theorem toNat_readWord (s : State) (a : Nat) : (s.readWord a).toNat =
    (s.readByte a).toNat + 256 * ((s.readByte (a + 1)).toNat +
      256 * ((s.readByte (a + 2)).toNat + 256 * (s.readByte (a + 3)).toNat)) := by
  have hb : ∀ c, (s.readByte c).toNat < 256 := fun c => (s.readByte c).isLt
  have h0 := hb a
  have h1 := hb (a + 1)
  have h2 := hb (a + 2)
  have h3 := hb (a + 3)
  have hbytes : s.readBytes a 4 = [s.readByte a, s.readByte (a + 1), s.readByte (a + 2), s.readByte (a + 3)] := rfl
  rw [State.readWord, hbytes, BitVec.toNat_ofNat]
  simp only [leNat]
  omega

theorem leNat_readBytes_two (s : State) (a : Nat) :
    leNat (s.readBytes a 2) = (s.readByte a).toNat + 256 * (s.readByte (a + 1)).toNat := by
  have hbytes : s.readBytes a 2 = [s.readByte a, s.readByte (a + 1)] := rfl
  rw [hbytes]
  rfl

theorem leNat_readBytes_two_lt (s : State) (a : Nat) : leNat (s.readBytes a 2) < 65536 := by
  have h0 := (s.readByte a).isLt
  have h1 := (s.readByte (a + 1)).isLt
  rw [leNat_readBytes_two]
  omega

/-- A word is its low half, the first two bytes, and its high half, the last two (R30). -/
theorem toNat_readWord_halves (s : State) (a : Nat) :
    (s.readWord a).toNat = leNat (s.readBytes a 2) + 65536 * leNat (s.readBytes (a + 2) 2) := by
  rw [toNat_readWord, leNat_readBytes_two, leNat_readBytes_two, Nat.add_assoc a 2 1]
  omega

theorem toNat_readWord_mod (s : State) (a : Nat) : (s.readWord a).toNat % 65536 = leNat (s.readBytes a 2) := by
  have hlt := leNat_readBytes_two_lt s a
  rw [toNat_readWord_halves]
  omega

theorem toNat_readWord_ushiftRight (s : State) (a : Nat) :
    (s.readWord a >>> 16).toNat = leNat (s.readBytes (a + 2) 2) := by
  have hlt := leNat_readBytes_two_lt s a
  rw [BitVec.toNat_ushiftRight, Nat.shiftRight_eq_div_pow, toNat_readWord_halves]
  omega

/-- An accumulator word reads back as the sign extension of its low 24 bits (R30). -/
theorem readWord_writeWord_top (s : State) (a : Nat) (w : Word) (ht : ∀ j, j < 3 → isTop (a + j) = false)
    (h3 : isTop (a + 3) = true) : (s.writeWord a w).readWord a = (w.setWidth 24).signExtend 32 := by
  have hraw (j : Nat) (hj : j < 3) :
      (s.writeWord a w).rawByte (a + j) = (leBytes 4 w.toNat)[j]'(by rw [length_leBytes]; omega) :=
    rawByte_writeBytes s a _ _ (ht j hj)
  have h0 : (s.writeWord a w).readByte a = BitVec.ofNat 8 w.toNat :=
    (readByte_of_not_top _ (ht 0 (by decide))).trans (hraw 0 (by decide))
  have h1 : (s.writeWord a w).readByte (a + 1) = BitVec.ofNat 8 (w.toNat / 256) :=
    (readByte_of_not_top _ (ht 1 (by decide))).trans (hraw 1 (by decide))
  have h2 : (s.writeWord a w).readByte (a + 2) = BitVec.ofNat 8 (w.toNat / 256 / 256) :=
    (readByte_of_not_top _ (ht 2 (by decide))).trans (hraw 2 (by decide))
  have htop : (s.writeWord a w).readByte (a + 3) = if (BitVec.ofNat 8 (w.toNat / 256 / 256)).msb then 0xFF else 0 := by
    rw [readByte_of_top _ h3]
    exact congrArg (fun b : Byte => if b.msb then (0xFF : Byte) else 0) (hraw 2 (by decide))
  have hw := w.isLt
  refine BitVec.eq_of_toNat_eq ?_
  rw [toNat_readWord, h0, h1, h2, htop, BitVec.toNat_signExtend]
  simp only [BitVec.msb_eq_decide, BitVec.toNat_ofNat, BitVec.toNat_setWidth, decide_eq_true_eq]
  split <;> split <;> simp <;> omega

/-! ### Narrowing -/

theorem clampInt_eq_max_min {lo hi : Int} (h : lo ≤ hi) (x : Int) : clampInt lo hi x = max lo (min hi x) := by
  unfold clampInt
  split
  · omega
  · split <;> omega

theorem clampInt_mem {lo hi : Int} (h : lo ≤ hi) (x : Int) : lo ≤ clampInt lo hi x ∧ clampInt lo hi x ≤ hi := by
  rw [clampInt_eq_max_min h]
  omega

/-- A clamp clips exactly where it changes the value. -/
theorem clips_eq_decide {lo hi : Int} (h : lo ≤ hi) (w : Word) :
    clips lo hi w = decide (clampInt lo hi w.toInt ≠ w.toInt) := by
  rw [Bool.eq_iff_iff, clampInt_eq_max_min h]
  simp only [clips, Bool.or_eq_true, decide_eq_true_eq]
  omega

theorem toNat_ofInt_mod (x : Int) : ((BitVec.ofInt 32 x).toNat : Int) = x % 2 ^ 32 := by
  rw [BitVec.toNat_ofInt]
  omega

/-- A half that holds the low 16 bits of a word clamped to int16, sign-extended, is that word. -/
theorem sextWord_eq_satWord {v w : Word} (h : v.toNat % 65536 = (satWord (-32768) 32767 w).toNat % 65536) :
    sextWord 16 v = satWord (-32768) 32767 w := by
  have hr := clampInt_mem (show (-32768 : Int) ≤ 32767 by decide) w.toInt
  have hn := toNat_ofInt_mod (clampInt (-32768) 32767 w.toInt)
  unfold satWord at h ⊢
  unfold sextWord sextNat
  congr 1
  split <;> omega

/-- The low 8 bits of a word clamped to int8, sign-extended, are the word. -/
theorem signExtend_satWord8 (w : Word) :
    ((satWord (-128) 127 w).setWidth 8).signExtend 32 = satWord (-128) 127 w := by
  have hr := clampInt_mem (show (-128 : Int) ≤ 127 by decide) w.toInt
  have hn := toNat_ofInt_mod (clampInt (-128) 127 w.toInt)
  unfold satWord
  rw [BitVec.signExtend, BitVec.toInt_setWidth, hn]
  congr 1
  rw [Int.bmod_def]
  split <;> omega

/-! ### Where the views lie -/

theorem isTop_of_not_inAcView {a : Nat} (h : inAcView a = false) : isTop a = false := by
  unfold isTop
  rw [h, Bool.false_and]

theorem isTop_iff (a : Nat) : isTop a = true ↔ inAcView a = true ∧ a % 4 = 3 := by
  simp [isTop]

theorem inAcView_iff (a : Nat) : inAcView a = true ↔
    coreBase ≤ a ∧ a < coreBase + 0x4000_0000 ∧ 0x3_8000 ≤ a % 0x8_0000 ∧ a % 0x8_0000 < 0x4_0000 := by
  simp [inAcView, and_assoc]

theorem not_inAcView_iff (a : Nat) : inAcView a = false ↔
    ¬(coreBase ≤ a ∧ a < coreBase + 0x4000_0000 ∧ 0x3_8000 ≤ a % 0x8_0000 ∧ a % 0x8_0000 < 0x4_0000) := by
  rw [← inAcView_iff, Bool.not_eq_true]

/-- The byte that a top byte's sign comes from lies in the same accumulator word. -/
theorem inAcView_pred_of_isTop {c : Nat} (h : isTop c = true) : inAcView (c - 1) = true := by
  rw [isTop_iff, inAcView_iff] at h
  rw [inAcView_iff]
  unfold coreBase at *
  omega

theorem pred_apart_of_not_inAcView {a n c : Nat} (h : ∀ j, j < n → inAcView (a + j) = false) (hc : isTop c = true) :
    c - 1 < a ∨ a + n ≤ c - 1 := by
  by_contra hin
  have hj := h (c - 1 - a) (by omega)
  rw [show a + (c - 1 - a) = c - 1 by omega, inAcView_pred_of_isTop hc] at hj
  cases hj

theorem pred_apart_of_word {a c : Nat} (ha : a % 4 = 0) (h : c < a ∨ a + 4 ≤ c) (hc : isTop c = true) :
    c - 1 < a ∨ a + 4 ≤ c - 1 := by
  rw [isTop_iff] at hc
  omega

theorem inAcView_nsAddr (k : Nat) {i j : Nat} (hi : i < 8192) (hj : j < 4) : inAcView (nsAddr k i + j) = false := by
  rw [not_inAcView_iff]
  unfold nsAddr coreWindow coreBase
  omega

theorem inAcView_trAddr (k : Nat) {i j : Nat} (hi : i < 8192) (hj : j < 2) : inAcView (trAddr k i + j) = false := by
  rw [not_inAcView_iff]
  unfold trAddr coreWindow coreBase
  omega

theorem inAcView_shAddr (cl i j : Nat) : inAcView (shAddr cl i + j) = false := by
  rw [not_inAcView_iff]
  unfold shAddr sharedBase coreBase
  omega

theorem acAddr_mod_four (k i : Nat) : acAddr k i % 4 = 0 := by
  unfold acAddr coreWindow coreBase
  omega

theorem isTop_acAddr (k i : Nat) {j : Nat} (hj : j < 3) : isTop (acAddr k i + j) = false := by
  have ha := acAddr_mod_four k i
  rw [← Bool.not_eq_true, isTop_iff]
  omega

theorem isTop_acAddr_three {k i : Nat} (hk : k < 1024) (hi : i < 8192) : isTop (acAddr k i + 3) = true := by
  rw [isTop_iff, inAcView_iff]
  unfold acAddr coreWindow coreBase
  omega

theorem b2n_lt_two (b : Bool) : b2n b < 2 := by
  cases b <;> decide

theorem readByte_writeBytes_half_of_apart (s : State) {a c n : Nat} (hac : ∀ j, j < 2 → inAcView (a + j) = false)
    (h : c < a ∨ a + 2 ≤ c) : (s.writeBytes a (leBytes 2 n)).readByte c = s.readByte c :=
  readByte_writeBytes_of_apart s _ (by rwa [length_leBytes])
    (by rw [length_leBytes]; exact pred_apart_of_not_inAcView hac)

/-! ### Stores by view -/

/-- The combinations of view and suffix that ST may write (R67, R113). -/
inductive StoreForm : Nat → Nat → Prop
  | nsLow : StoreForm 0 0
  | nsHigh : StoreForm 0 1
  | ns : StoreForm 0 2
  | ac : StoreForm 1 2
  | trLow : StoreForm 2 0
  | trHigh : StoreForm 2 1
  | sc : StoreForm 3 2
  | sh : StoreForm 6 2

theorem storeForm_of_viewOk : ∀ (view : Fin 7) (sfx : Fin 3), viewOk view.val sfx.val false = true → view.val ≠ 4 →
    view.val ≠ 5 → StoreForm view.val sfx.val
  | 0, 0, _, _, _ => .nsLow
  | 0, 1, _, _, _ => .nsHigh
  | 0, 2, _, _, _ => .ns
  | 1, 2, _, _, _ => .ac
  | 2, 0, _, _, _ => .trLow
  | 2, 1, _, _, _ => .trHigh
  | 3, 2, _, _, _ => .sc
  | 6, 2, _, _, _ => .sh
  | 4, _, _, h4, _ => absurd rfl h4
  | 5, _, _, _, h5 => absurd rfl h5

/-! ### What a race of shared memory and a write of memory keep -/

/-- Outside open vectors a write of shared memory leaves the bytes it carries (R223). -/
theorem racedBytes_of_closed {s : State} {a : Nat} {bs : List Byte}
    (h : ∀ j, j < bs.length → s.openVector (a + j) = false) : s.racedBytes a bs = (s, bs) := by
  have hany : ((List.range bs.length).any fun j => s.openVector (a + j)) = false := by simpa using h
  simp [State.racedBytes, hany]

/-- A race uses free values, and nothing else of the state. -/
theorem eq_of_racedBytes {s t : State} {a : Nat} {bs bs' : List Byte} (h : s.racedBytes a bs = (t, bs')) :
    t = { s with freeCtr := t.freeCtr } := by
  unfold State.racedBytes at h
  split at h <;> cases h <;> rfl

theorem readByte_of_racedBytes {s t : State} {a : Nat} {bs bs' : List Byte} (h : s.racedBytes a bs = (t, bs'))
    (c : Nat) : t.readByte c = s.readByte c := by
  rw [eq_of_racedBytes h]
  rfl

theorem core_of_racedBytes {s t : State} {a : Nat} {bs bs' : List Byte} (h : s.racedBytes a bs = (t, bs')) (k : Nat) :
    t.core k = s.core k := by
  rw [eq_of_racedBytes h]
  rfl

theorem core_writeByte (s : State) (a : Nat) (b : Byte) (k : Nat) : (s.writeByte a b).core k = s.core k := by
  unfold State.writeByte
  split <;> rfl

theorem core_writeBytes (s : State) (a : Nat) (bs : List Byte) (k : Nat) : (s.writeBytes a bs).core k = s.core k := by
  induction bs generalizing s a with
  | nil => rfl
  | cons b bs ih => rw [State.writeBytes, ih, core_writeByte]

theorem core_writeWord (s : State) (a : Nat) (w : Word) (k : Nat) : (s.writeWord a w).core k = s.core k := by
  rw [← core_writeBytes s a (leBytes 4 w.toNat) k]
  rfl

theorem core_setTraceHalf (s : State) (n i : Nat) (high : Bool) (b : Byte) (k : Nat) :
    (s.setTraceHalf n i high b).core k = s.core k := by
  rw [State.setTraceHalf, core_writeByte]

section
variable (s : State) (k i : Nat) (w : Word)

/-! ### What a store writes

Each form is read off its branch with split: to check it by rfl the kernel would run the write itself. -/

theorem viewStore_nsLow :
    s.viewStore k 0 0 i w = s.writeBytes (nsAddr k i) (leBytes 2 (satWord (-32768) 32767 w).toNat) := by
  unfold State.viewStore
  split
  case h_1 =>
    split
    case h_1 => rfl
    all_goals contradiction
  all_goals contradiction

theorem viewStore_nsHigh :
    s.viewStore k 0 1 i w = s.writeBytes (nsAddr k i + 2) (leBytes 2 (satWord (-32768) 32767 w).toNat) := by
  unfold State.viewStore
  split
  case h_1 =>
    split
    case h_2 => rfl
    all_goals contradiction
  all_goals contradiction

theorem viewStore_ns : s.viewStore k 0 2 i w = s.writeWord (nsAddr k i) w := rfl

theorem viewStore_ac (sfx : Nat) : s.viewStore k 1 sfx i w = s.writeWord (acAddr k i) w := rfl

theorem viewStore_tr (sfx : Nat) :
    s.viewStore k 2 sfx i w = s.setTraceHalf k i (sfx == 1) ((satWord (-128) 127 w).setWidth 8) := by
  unfold State.viewStore
  split
  case h_3 => rfl
  all_goals contradiction

theorem viewStore_sc (sfx : Nat) : s.viewStore k 3 sfx i w = s.setScaleReg k i (w.setWidth 6) := rfl

/-- A store to shared memory writes the bytes that its race with open vectors leaves (R223). -/
theorem viewStore_sh (sfx : Nat) {t : State} {bs : List Byte}
    (h : s.racedBytes (shAddr (k / 32) i) (leBytes 4 w.toNat) = (t, bs)) :
    s.viewStore k 6 sfx i w = t.writeWord (shAddr (k / 32) i) (BitVec.ofNat 32 (leNat bs)) := by
  have ha : viewAddr k 6 i = shAddr (k / 32) i := rfl
  unfold State.viewStore
  split
  case h_5 => rw [ha, h]
  all_goals contradiction

/-! ### What a store reads back as -/

theorem viewLoad_nsLow : s.viewLoad k 0 0 i = sextWord 16 (s.readWord (nsAddr k i)) := rfl

theorem viewLoad_nsHigh : s.viewLoad k 0 1 i = sextWord 16 (s.readWord (nsAddr k i) >>> 16) := rfl

theorem viewLoad_tr (sfx : Nat) : s.viewLoad k 2 sfx i = (s.traceHalf k i (sfx == 1)).signExtend 32 := rfl

theorem viewLoad_viewStore_nsLow (hi : i < 8192) :
    (s.viewStore k 0 0 i w).viewLoad k 0 0 i = satWord (-32768) 32767 w := by
  have hback := readBytes_writeBytes_leBytes s (nsAddr k i) 2 (satWord (-32768) 32767 w).toNat
    fun j hj => isTop_of_not_inAcView (inAcView_nsAddr k hi (by omega))
  rw [viewStore_nsLow, viewLoad_nsLow]
  refine sextWord_eq_satWord ?_
  rw [toNat_readWord_mod, hback, leNat_leBytes]
  rfl

theorem viewLoad_viewStore_nsHigh (hi : i < 8192) :
    (s.viewStore k 0 1 i w).viewLoad k 0 1 i = satWord (-32768) 32767 w := by
  have hback := readBytes_writeBytes_leBytes s (nsAddr k i + 2) 2 (satWord (-32768) 32767 w).toNat fun j hj => by
    rw [Nat.add_assoc]
    exact isTop_of_not_inAcView (inAcView_nsAddr k hi (by omega))
  rw [viewStore_nsHigh, viewLoad_nsHigh]
  refine sextWord_eq_satWord ?_
  rw [toNat_readWord_ushiftRight, hback, leNat_leBytes]
  exact Nat.mod_mod _ _

theorem viewLoad_viewStore_tr (sfx : Nat) (hi : i < 8192) :
    (s.viewStore k 2 sfx i w).viewLoad k 2 sfx i = satWord (-128) 127 w := by
  have htop := isTop_of_not_inAcView (inAcView_trAddr k hi (b2n_lt_two (sfx == 1)))
  rw [viewStore_tr, viewLoad_tr, State.traceHalf, State.setTraceHalf, readByte_writeByte_self _ _ _ htop,
    signExtend_satWord8]

/-- A half that ST has narrowed an element to reads as the element, clamped to the half's range (R68). -/
theorem viewLoad_viewStore_of_narrows {view sfx : Nat} (hf : StoreForm view sfx) (hi : i < viewSize view)
    (hn : narrows view sfx = true) : (s.viewStore k view sfx i w).viewLoad k view sfx i =
      satWord (-2 ^ (halfBits view - 1)) (2 ^ (halfBits view - 1) - 1) w := by
  cases hf with
  | nsLow => exact viewLoad_viewStore_nsLow s k i w hi
  | nsHigh => exact viewLoad_viewStore_nsHigh s k i w hi
  | trLow => exact viewLoad_viewStore_tr s k i w 0 hi
  | trHigh => exact viewLoad_viewStore_tr s k i w 1 hi
  | ns => cases hn
  | ac => cases hn
  | sc => cases hn
  | sh => cases hn

theorem readWord_viewStore_ns (hi : i < 8192) : (s.viewStore k 0 2 i w).readWord (nsAddr k i) = w := by
  rw [viewStore_ns]
  exact readWord_writeWord s _ w fun _ hj => isTop_of_not_inAcView (inAcView_nsAddr k hi hj)

theorem readWord_viewStore_ac (sfx : Nat) (hk : k < 1024) (hi : i < 8192) :
    (s.viewStore k 1 sfx i w).readWord (acAddr k i) = (w.setWidth 24).signExtend 32 := by
  rw [viewStore_ac]
  exact readWord_writeWord_top s _ w (fun _ hj => isTop_acAddr k i hj) (isTop_acAddr_three hk hi)

theorem scaleReg_viewStore_sc (sfx : Nat) : (s.viewStore k 3 sfx i w).scaleReg k i = w.setWidth 6 := by
  rw [viewStore_sc, State.setScaleReg, State.scaleReg, core_modE_self, Tab.get_put_self]

theorem readWord_viewStore_sh (sfx : Nat) (h : ∀ j, j < 4 → s.openVector (shAddr (k / 32) i + j) = false) :
    (s.viewStore k 6 sfx i w).readWord (shAddr (k / 32) i) = w := by
  have hraced : s.racedBytes (shAddr (k / 32) i) (leBytes 4 w.toNat) = (s, leBytes 4 w.toNat) :=
    racedBytes_of_closed (by simpa only [length_leBytes] using h)
  rw [viewStore_sh s k i w sfx hraced, ofNat_leNat_leBytes]
  exact readWord_writeWord s _ w fun j _ => isTop_of_not_inAcView (inAcView_shAddr _ i j)

/-! ### What a store leaves alone -/

/-- The bytes that ST of core k, of cluster cl, stores: the address of the first, and how many. -/
def storedAt (cl k view sfx i : Nat) : Nat × Nat :=
  match view, sfx with
  | 0, 0 => (nsAddr k i, 2)
  | 0, 1 => (nsAddr k i + 2, 2)
  | 0, _ => (nsAddr k i, 4)
  | 1, _ => (acAddr k i, 4)
  | 2, 1 => (trAddr k i + 1, 1)
  | 2, _ => (trAddr k i, 1)
  | 6, _ => (shAddr cl i, 4)
  | _, _ => (0, 0)

theorem readByte_setTraceHalf_of_ne {c : Nat} (high : Bool) (b : Byte) (hi : i < 8192)
    (h : c ≠ trAddr k i + b2n high) : (s.setTraceHalf k i high b).readByte c = s.readByte c := by
  have hac := inAcView_trAddr k hi (b2n_lt_two high)
  refine readByte_writeBytes_of_apart s [b] (by rw [List.length_singleton]; omega)
    (pred_apart_of_not_inAcView fun j hj => ?_)
  rwa [Nat.lt_one_iff.mp hj]

/-- No byte outside those that ST stores changes as it reads (R68). -/
theorem readByte_viewStore_of_apart {view sfx a : Nat} (hf : StoreForm view sfx) (hi : i < viewSize view)
    (h : a < (storedAt (k / 32) k view sfx i).1 ∨
      (storedAt (k / 32) k view sfx i).1 + (storedAt (k / 32) k view sfx i).2 ≤ a) :
    (s.viewStore k view sfx i w).readByte a = s.readByte a := by
  cases hf with
  | nsLow =>
    rw [viewStore_nsLow]
    exact readByte_writeBytes_half_of_apart s (fun j hj => inAcView_nsAddr k hi (by omega)) h
  | nsHigh =>
    rw [viewStore_nsHigh]
    refine readByte_writeBytes_half_of_apart s (fun j hj => ?_) h
    rw [Nat.add_assoc]
    exact inAcView_nsAddr k hi (by omega)
  | ns =>
    rw [viewStore_ns]
    exact readByte_writeWord_of_apart s w h (pred_apart_of_not_inAcView fun _ hj => inAcView_nsAddr k hi hj)
  | ac =>
    rw [viewStore_ac]
    exact readByte_writeWord_of_apart s w h (pred_apart_of_word (acAddr_mod_four k i) h)
  | trLow =>
    simp only [storedAt] at h
    rw [viewStore_tr]
    exact readByte_setTraceHalf_of_ne s k i false _ hi (by rw [b2n, if_neg Bool.false_ne_true]; omega)
  | trHigh =>
    simp only [storedAt] at h
    rw [viewStore_tr]
    exact readByte_setTraceHalf_of_ne s k i true _ hi (by rw [b2n, if_pos rfl]; omega)
  | sc =>
    rw [viewStore_sc]
    rfl
  | sh =>
    rcases hraced : s.racedBytes (shAddr (k / 32) i) (leBytes 4 w.toNat) with ⟨t, bs⟩
    rw [viewStore_sh s k i w 2 hraced, ← readByte_of_racedBytes hraced]
    exact readByte_writeWord_of_apart t _ h (pred_apart_of_not_inAcView fun j _ => inAcView_shAddr _ i j)

/-- A store changes no flag: STAT.VSAT is set beside it (R66). -/
theorem fl_viewStore {view sfx : Nat} (hf : StoreForm view sfx) :
    ((s.viewStore k view sfx i w).core k).e.fl = (s.core k).e.fl := by
  cases hf with
  | nsLow => rw [viewStore_nsLow, core_writeBytes]
  | nsHigh => rw [viewStore_nsHigh, core_writeBytes]
  | ns => rw [viewStore_ns, core_writeWord]
  | ac => rw [viewStore_ac, core_writeWord]
  | trLow => rw [viewStore_tr, core_setTraceHalf]
  | trHigh => rw [viewStore_tr, core_setTraceHalf]
  | sc => rw [viewStore_sc, State.setScaleReg, core_modE_self]
  | sh =>
    rcases hraced : s.racedBytes (shAddr (k / 32) i) (leBytes 4 w.toNat) with ⟨t, bs⟩
    rw [viewStore_sh s k i w 2 hraced, core_writeWord, core_of_racedBytes hraced]

end

/-! ### Completing a store -/

/-- Settling and advancing change the debug unit, and the loop and the registers (R87, R103, R120). -/
theorem settle_eq (e : NEngine) : e.settle = { e with dbg := e.settle.dbg } := by
  unfold NEngine.settle
  split
  · rfl
  · split <;> rfl

theorem advance_eq (e : NEngine) : e.advance = { e with loop := e.advance.loop, regs := e.advance.regs } := by
  unfold NEngine.advance
  split
  · split <;> rfl
  · rfl

theorem blk_movedOn (e : NEngine) : e.movedOn.blk = e.blk := by
  rw [NEngine.movedOn, settle_eq, advance_eq, NEngine.retire]

theorem fl_movedOn (e : NEngine) : e.movedOn.fl = e.fl := by
  rw [NEngine.movedOn, settle_eq, advance_eq, NEngine.retire]

/-- The state after a narrowing has been noted and the engine has moved on. -/
def State.afterStore (u : State) (k : Nat) (clip : Bool) : State := (u.noteClip k clip).modE k NEngine.movedOn

section
variable (u : State) (k : Nat) (clip : Bool)

theorem scaleReg_noteClip (ch : Nat) : (u.noteClip k clip).scaleReg k ch = u.scaleReg k ch := by
  cases clip with
  | false => rfl
  | true => simp [State.noteClip, State.scaleReg]

theorem vsat_noteClip : ((u.noteClip k clip).core k).e.fl.vsat = ((u.core k).e.fl.vsat || clip) := by
  cases clip <;> simp [State.noteClip]

theorem readByte_afterStore (a : Nat) : (u.afterStore k clip).readByte a = u.readByte a := by
  cases clip <;> rfl

theorem readWord_afterStore (a : Nat) : (u.afterStore k clip).readWord a = u.readWord a := by
  cases clip <;> rfl

theorem scaleReg_afterStore (ch : Nat) : (u.afterStore k clip).scaleReg k ch = u.scaleReg k ch := by
  rw [← scaleReg_noteClip u k clip, State.afterStore, State.scaleReg, core_modE_self, blk_movedOn, State.scaleReg]

theorem vsat_afterStore : ((u.afterStore k clip).core k).e.fl.vsat = ((u.core k).e.fl.vsat || clip) := by
  rw [← vsat_noteClip, State.afterStore, core_modE_self, fl_movedOn]

theorem viewLoad_afterStore (view sfx i : Nat) :
    (u.afterStore k clip).viewLoad k view sfx i = u.viewLoad k view sfx i := by
  simp only [State.viewLoad, State.traceHalf, readByte_afterStore, readWord_afterStore, scaleReg_afterStore]

end

/-- ST of an element in range to a view that a program may write, which meets no uncorrectable error, stores the
element and falls through (R68, R85, R114). -/
theorem answers_iSt {s : State} {c : CoreId} {reg ra : GReg} {view : Fin 7} {sfx : Fin 3} {off : BitVec 11} {i : Nat}
    {P : State → Prop} (hr : Ready s c (.iSt c reg ra view sfx off)) (h4 : view.val ≠ 4) (h5 : view.val ≠ 5)
    (hx : s.viewIndex c.key view.val ra off = some i) (hu : s.viewUe c.key view.val sfx.val i true = false)
    (hP : P ((s.viewStore c.key view.val sfx.val i (s.getG c.key reg)).afterStore c.key
      (storeClips view.val sfx.val (s.getG c.key reg)))) : Answers (.iSt c reg ra view sfx off) s P := by
  have hw : viewReadOnly view.val = false := by simp [viewReadOnly, h4, h5]
  have he : effISt c.key reg ra view sfx off s =
      .done ((s.viewStore c.key view.val sfx.val i (s.getG c.key reg)).noteClip c.key
        (storeClips view.val sfx.val (s.getG c.key reg))) := by
    simp [effISt, hw, hx, hu]
  have hexec : exec (.iSt c reg ra view sfx off) s =
      issued c (.iSt c reg ra view sfx off) (effISt c.key reg ra view sfx off) s := rfl
  refine ⟨_, ?_, hP⟩
  rw [hexec, issued, issue_of_ready _ hr, he]
  rfl

theorem viewIndex_lt {s : State} {k view : Nat} {ra : GReg} {off : BitVec 11} {i : Nat}
    (h : s.viewIndex k view ra off = some i) : i < viewSize view := by
  simp only [State.viewIndex] at h
  split at h
  · cases h
  · cases h
    omega

theorem key_lt (c : CoreId) : c.key < 1024 := by
  unfold CoreId.key
  omega

theorem key_div (c : CoreId) : c.key / 32 = c.cl.val := by
  unfold CoreId.key
  omega

/-- The range that a narrowing clamps to is not empty. -/
theorem neg_two_pow_le (n : Nat) : (-2 ^ n : Int) ≤ 2 ^ n - 1 := by
  have hpos : (0 : Int) < 2 ^ n := by positivity
  omega

/-- Settles O16: the state that ST leaves is the view's store with the clip noted, and each clause is a fact about that
store. -/
theorem viewStores : Obligations.ViewStores := by
  intro s c reg ra view sfx off i k w clamp bits half stored hok hr h4 h5 hx hu
  have hf := storeForm_of_viewOk view sfx hok h4 h5
  have hi := viewIndex_lt hx
  have hclamp (x : Int) : clampInt (-2 ^ (bits - 1)) (2 ^ (bits - 1) - 1) x = clamp bits x :=
    clampInt_eq_max_min (neg_two_pow_le _) x
  refine answers_iSt hr h4 h5 hx hu ⟨fun hn => ?_, fun hv hs => ?_, fun hv => ?_, fun hv => ?_, fun hv hopen => ?_,
    fun a ha => ?_, ?_⟩
  · rw [viewLoad_afterStore, viewLoad_viewStore_of_narrows s k i w hf hi hn, ← hclamp]
    rfl
  · rw [hv] at hi
    rw [readWord_afterStore, hv, hs]
    exact readWord_viewStore_ns s k i w hi
  · rw [hv] at hi
    rw [readWord_afterStore, hv]
    exact readWord_viewStore_ac s k i w sfx.val (key_lt c) hi
  · rw [scaleReg_afterStore, hv]
    exact scaleReg_viewStore_sc s k i w sfx.val
  · rw [← key_div] at hopen ⊢
    rw [readWord_afterStore, hv]
    exact readWord_viewStore_sh s k i w sfx.val hopen
  · have hst : stored = storedAt c.cl.val k view.val sfx.val i := rfl
    rw [hst, ← key_div] at ha
    rw [readByte_afterStore]
    exact readByte_viewStore_of_apart s k i w hf hi ha
  · rw [vsat_afterStore, fl_viewStore s k i w hf, storeClips, clips_eq_decide (neg_two_pow_le _), ← hclamp]
    rfl

end Sys2Proof.Machine

/-!
Emissions (R38, R50, R117): what one event put into an emit buffer leaves of the engine, and the run of a VEMIT over
the masked neurons of its block.
-/

namespace Sys2Proof.Machine

/-! ### Engines at their emit gate, and after an instruction -/

theorem emitBuf_movedOn (e : NEngine) : e.movedOn.emitBuf = e.emitBuf := by
  rw [NEngine.movedOn, settle_eq, advance_eq, NEngine.retire]

theorem cr_movedOn (e : NEngine) : e.movedOn.cr = e.cr := by
  rw [NEngine.movedOn, settle_eq, advance_eq, NEngine.retire]

/-- Reaching the gate changes the gate's flag and the cycle count of R95 of the engine. -/
theorem core_reachGate_self (s : State) (k : Nat) : ∃ (gate : Bool) (cc : BitVec 24),
    (s.reachGate k).core k = { s.core k with e := { (s.core k).e with
      fl := { (s.core k).e.fl with gate := gate }
      cr := { (s.core k).e.cr with gateCcNow := cc } } } := by
  by_cases hg : (s.core k).e.fl.gate = true
  · exact ⟨_, _, by rw [State.reachGate, if_pos hg]⟩
  · exact ⟨true, s.free.setWidth 24, by
      rw [State.reachGate, if_neg hg]
      exact core_modE_self s k fun e =>
        { e with fl := { e.fl with gate := true }, cr := { e.cr with gateCcNow := s.free.setWidth 24 } }⟩

/-! ### One event -/

/-- The event that neuron n of core k releases in a tick (R41, R172). -/
def emitEvent (k n : Nat) (p : Byte) (tag : BitVec 4) : EmitEv :=
  ⟨BitVec.ofNat 24 (k / 32 * 2 ^ 18 + k % 32 * 2 ^ 13 + n), p, tag⟩

theorem emitEvent_key (c : CoreId) (n : Nat) (p : Byte) (tag : BitVec 4) :
    emitEvent c.key n p tag = ⟨BitVec.ofNat 24 (c.cl.val * 2 ^ 18 + c.lc.val * 2 ^ 13 + n), p, tag⟩ := by
  have hlc : c.key % 32 = c.lc.val := by unfold CoreId.key; omega
  rw [emitEvent, key_div, hlc]

/-- The engine of core k after neuron n has put an event into the emit buffer. -/
def NEngine.emitted (e : NEngine) (k n : Nat) (p : Byte) : NEngine :=
  { e with
    fl := { e.fl with sent := e.fl.sent ||| (1#8192 <<< n) }
    emitBuf := e.emitBuf ++ [emitEvent k n p e.fl.tag]
    cr := { e.cr with emitCnt := cnt32 e.cr.emitCnt } }

theorem sent_emitted (e : NEngine) (k : Nat) {n j : Nat} (p : Byte) (hj : j < 8192) :
    (e.emitted k n p).fl.sent.getLsbD j = (e.fl.sent.getLsbD j || decide (j = n)) := by
  rw [NEngine.emitted, BitVec.getLsbD_or, BitVec.getLsbD_shiftLeft, BitVec.getLsbD_one, decide_eq_true hj,
    Bool.true_and]
  congr 1
  rw [Bool.eq_iff_iff]
  simp only [Bool.and_eq_true, Bool.not_eq_true', decide_eq_true_eq, decide_eq_false_iff_not]
  omega

section
variable {s : State} {k n : Nat} (p : Byte)

/-- A neuron that has not fired in the tick emits while the buffer has room (R50). -/
theorem emit_of_unsent (hn : (s.core k).e.fl.sent.getLsbD n = false) (hroom : (s.core k).e.emitBuf.length < 4) :
    s.emit k n p = some (s.modE k fun e => e.emitted k n p) := by
  have hfull : ¬ 4 ≤ (s.core k).e.emitBuf.length := by omega
  simp only [State.emit, hn, Bool.false_eq_true, if_false, if_neg hfull]
  rfl

/-- A second emission of a neuron in a tick is counted and drops (R50). -/
theorem emit_of_sent (hn : (s.core k).e.fl.sent.getLsbD n = true) :
    s.emit k n p = some (s.modE k fun e =>
      { e with fl := { e.fl with dupe := true }, cr := { e.cr with dupEmit := cnt16 e.cr.dupEmit } }) := by
  simp only [State.emit, hn, if_true]

end

/-! ### EMIT -/

theorem mayEmit_of_st {e : NEngine} (h : e.st = .tick ∨ e.st = .update) : mayEmit e = true := by
  rcases h with h | h <;> simp [mayEmit, h]

theorem setWidth_eq_ofNat_mod (w : Word) : w.setWidth 8 = BitVec.ofNat 8 (w.toNat % 256) := by
  refine BitVec.eq_of_toNat_eq ?_
  rw [BitVec.toNat_setWidth, BitVec.toNat_ofNat]
  omega

section
variable {s : State} {c : CoreId} {ra rb : GReg} (hr : Ready s c (.iEmit c ra rb))
  (hm : mayEmit (s.core c.key).e = true) (hp : (s.core c.key).e.fl.phase = true) (hn : (s.getG c.key ra).toNat < 8192)
include hr hm hp hn

/-- EMIT of a neuron in range, once the emit phase is open, goes past the gate and does what the emission does. -/
theorem answers_iEmit {t : State} {P : State → Prop}
    (he : (s.reachGate c.key).emit c.key (s.getG c.key ra).toNat ((s.getG c.key rb).setWidth 8) = some t)
    (hP : P (t.modE c.key NEngine.movedOn)) : Answers (.iEmit c ra rb) s P := by
  have hin : ¬ 8192 ≤ (s.getG c.key ra).toNat := by omega
  have heff : effIEmit c.key ra rb s = .done t := by simp [effIEmit, hm, hp, hin, he]
  have hexec : exec (.iEmit c ra rb) s = issued c (.iEmit c ra rb) (effIEmit c.key ra rb) s := rfl
  refine ⟨_, ?_, hP⟩
  rw [hexec, issued, issue_of_ready _ hr, heff]
  rfl

/-- EMIT of a neuron that has not fired puts its event into the buffer, and notes that it has fired. -/
theorem answers_iEmit_of_unsent (hsent : (s.core c.key).e.fl.sent.getLsbD (s.getG c.key ra).toNat = false)
    (hroom : (s.core c.key).e.emitBuf.length < 4) : Answers (.iEmit c ra rb) s fun t =>
      (t.core c.key).e.emitBuf = (s.core c.key).e.emitBuf ++
        [emitEvent c.key (s.getG c.key ra).toNat ((s.getG c.key rb).setWidth 8) (s.core c.key).e.fl.tag] ∧
      ∀ j, j < 8192 → (t.core c.key).e.fl.sent.getLsbD j =
        ((s.core c.key).e.fl.sent.getLsbD j || decide (j = (s.getG c.key ra).toNat)) := by
  obtain ⟨gate, cc, hgate⟩ := core_reachGate_self s c.key
  refine answers_iEmit hr hm hp hn (emit_of_unsent _ (by rwa [hgate]) (by rwa [hgate])) ⟨?_, fun j hj => ?_⟩
  · rw [core_modE_self, emitBuf_movedOn, core_modE_self, hgate]
    rfl
  · rw [core_modE_self, fl_movedOn, core_modE_self]
    refine (sent_emitted _ _ _ hj).trans ?_
    rw [hgate]

/-- EMIT of a neuron that has fired counts a duplicate, and puts no event into the buffer. -/
theorem answers_iEmit_of_sent (hsent : (s.core c.key).e.fl.sent.getLsbD (s.getG c.key ra).toNat = true) :
    Answers (.iEmit c ra rb) s fun t =>
      (t.core c.key).e.emitBuf = (s.core c.key).e.emitBuf ∧ (t.core c.key).e.fl.dupe = true ∧
      (t.core c.key).e.cr.dupEmit = cnt16 (s.core c.key).e.cr.dupEmit := by
  obtain ⟨gate, cc, hgate⟩ := core_reachGate_self s c.key
  refine answers_iEmit hr hm hp hn (emit_of_sent _ (by rwa [hgate])) ⟨?_, ?_, ?_⟩
  · rw [core_modE_self, emitBuf_movedOn, core_modE_self, hgate]
  · rw [core_modE_self, fl_movedOn, core_modE_self]
  · rw [core_modE_self, cr_movedOn, core_modE_self, hgate]

end

/-! ### VEMIT -/

/-- The elements of a list that a mask keeps. -/
def maskedElems (mask : BitVec 16) (js : List (Fin 16)) : List (Fin 16) := js.filter fun j => mask.getLsbD j.val

theorem maskedElems_cons_of_set {mask : BitVec 16} {j : Fin 16} (js : List (Fin 16)) (h : mask.getLsbD j.val = true) :
    maskedElems mask (j :: js) = j :: maskedElems mask js :=
  List.filter_cons_of_pos h

theorem maskedElems_cons_of_clear {mask : BitVec 16} {j : Fin 16} (js : List (Fin 16))
    (h : ¬ mask.getLsbD j.val = true) : maskedElems mask (j :: js) = maskedElems mask js :=
  List.filter_cons_of_neg h

/-- Over neurons that have not fired, and with room for all that the mask keeps, a VEMIT goes through: the buffer takes
their events in order. -/
theorem emitFrom_of_room (b : Nat) (mask : BitVec 16) (x : Nat → Byte) {k : Nat} (tag : BitVec 4) (js : List (Fin 16))
    (hnodup : js.Nodup) (hb : b < 512) (s : State) (htag : (s.core k).e.fl.tag = tag)
    (hsent : ∀ j ∈ maskedElems mask js, (s.core k).e.fl.sent.getLsbD (16 * b + j.val) = false)
    (hroom : (s.core k).e.emitBuf.length + (maskedElems mask js).length ≤ 4) :
    ∃ t, s.emitFrom k b mask x (js.map Fin.val) = (t, none) ∧ (t.core k).e.emitBuf = (s.core k).e.emitBuf ++
      (maskedElems mask js).map fun j => emitEvent k (16 * b + j.val) (x j.val) tag := by
  induction js generalizing s with
  | nil => exact ⟨s, rfl, by simp [maskedElems]⟩
  | cons i js ih =>
    obtain ⟨hi, hjs⟩ := List.nodup_cons.mp hnodup
    by_cases hm : mask.getLsbD i.val = true
    · rw [maskedElems_cons_of_set js hm] at hsent hroom ⊢
      rw [List.length_cons] at hroom
      have hemit := emit_of_unsent (x i.val) (hsent i List.mem_cons_self) (by omega)
      have hrest (j : Fin 16) (hj : j ∈ maskedElems mask js) :
          ((s.core k).e.emitted k (16 * b + i.val) (x i.val)).fl.sent.getLsbD (16 * b + j.val) = false := by
        have hne : j ≠ i := fun e => hi (e ▸ List.mem_of_mem_filter hj)
        have hval : 16 * b + j.val ≠ 16 * b + i.val := fun e => hne (Fin.ext (by omega))
        rw [sent_emitted _ _ _ (by omega), hsent j (List.mem_cons_of_mem _ hj), decide_eq_false hval, Bool.or_false]
      have hbuf : ((s.core k).e.emitted k (16 * b + i.val) (x i.val)).emitBuf =
          (s.core k).e.emitBuf ++ [emitEvent k (16 * b + i.val) (x i.val) tag] := by rw [← htag]; rfl
      obtain ⟨t, ht, htb⟩ := ih hjs (s.modE k fun e => e.emitted k (16 * b + i.val) (x i.val))
        (by rw [core_modE_self]; exact htag) (by rwa [core_modE_self])
        (by rw [core_modE_self, hbuf, List.length_append, List.length_singleton]; omega)
      refine ⟨t, ?_, ?_⟩
      · rw [List.map_cons, State.emitFrom, if_pos hm, hemit]
        exact ht
      · rw [htb, core_modE_self, hbuf, List.append_assoc, List.map_cons, List.singleton_append]
    · rw [maskedElems_cons_of_clear js hm] at hsent hroom ⊢
      obtain ⟨t, ht, htb⟩ := ih hjs s htag hsent hroom
      exact ⟨t, by rw [List.map_cons, State.emitFrom, if_neg hm, ht], htb⟩

/-- The payload of a VEMIT: the element clamped, in its low 8 bits. -/
theorem setWidth_satWord {lo hi : Int} (h : lo ≤ hi) (w : Word) :
    (satWord lo hi w).setWidth 8 = BitVec.ofNat 8 ((max lo (min hi w.toInt)) % 256).toNat := by
  have hn := toNat_ofInt_mod (max lo (min hi w.toInt))
  refine BitVec.eq_of_toNat_eq ?_
  rw [satWord, clampInt_eq_max_min h, BitVec.toNat_setWidth, BitVec.toNat_ofNat]
  omega

/-- The events of a VEMIT of block b, lowest neuron first. -/
def State.vemitEvents (s : State) (k b : Nat) (va : VReg) (m : MReg) (lo hi : Int) : List EmitEv :=
  (maskedElems ((s.core k).e.regs.readM m) (List.finRange 16)).map fun j =>
    emitEvent k (16 * b + j.val) (BitVec.ofNat 8 ((max lo (min hi (s.getV k va)[j.val].toInt)) % 256).toNat)
      (s.core k).e.fl.tag

section
variable {s : State} {c : CoreId} {va : VReg} {m : MReg} {lo hi : Int} {b : Fin 512} (hlohi : lo ≤ hi)
  (hm : mayEmit (s.core c.key).e = true) (hp : (s.core c.key).e.fl.phase = true)
  (hb : (s.core c.key).e.blk.cur = some b) (hat : (s.core c.key).e.emitAt = 0)
  (hsent : ∀ j ∈ maskedElems ((s.core c.key).e.regs.readM m) (List.finRange 16),
    (s.core c.key).e.fl.sent.getLsbD (16 * b.val + j.val) = false)
  (hroom : (s.core c.key).e.emitBuf.length +
    (maskedElems ((s.core c.key).e.regs.readM m) (List.finRange 16)).length ≤ 4)
include hlohi hm hp hb hat hsent hroom

/-- VEMIT with room for its masked neurons, none of which has fired, stalls at none of them. -/
theorem vemit_of_room : ∃ t, vemit c.key va m lo hi s = .done t ∧
    (t.core c.key).e.emitBuf = (s.core c.key).e.emitBuf ++ s.vemitEvents c.key b.val va m lo hi := by
  obtain ⟨gate, cc, hgate⟩ := core_reachGate_self s c.key
  have hall : (List.range 16).filter (0 ≤ ·) = (List.finRange 16).map Fin.val := by decide
  obtain ⟨t, ht, htb⟩ := emitFrom_of_room b.val ((s.core c.key).e.regs.readM m)
    (fun i => (satWord lo hi ((s.getV c.key va).toList.getD i 0)).setWidth 8) (s.core c.key).e.fl.tag (List.finRange 16)
    (List.nodup_finRange 16) b.isLt (s.reachGate c.key) (by rw [hgate]) (by rwa [hgate]) (by rwa [hgate])
  refine ⟨t, ?_, ?_⟩
  · have hmask : s.getM c.key m = (s.core c.key).e.regs.readM m := rfl
    rw [← hall, ← hmask, ← hat] at ht
    simp only [vemit, hm, hp, hb, ht, Bool.not_true, Bool.false_eq_true, if_false]
  · rw [htb, hgate, State.vemitEvents]
    congr 2
    funext j
    rw [setWidth_satWord hlohi]
    simp

/-- Such a VEMIT, signed or not, completes. -/
theorem answers_vemit {i : Instr} (hexec : exec i s = issued c i (vemit c.key va m lo hi) s) (hr : Ready s c i) :
    Answers i s fun t =>
      (t.core c.key).e.emitBuf = (s.core c.key).e.emitBuf ++ s.vemitEvents c.key b.val va m lo hi := by
  obtain ⟨t, ht, htb⟩ := vemit_of_room (va := va) hlohi hm hp hb hat hsent hroom
  refine ⟨t.modE c.key NEngine.movedOn, ?_, ?_⟩
  · rw [hexec, issued, issue_of_ready _ hr, ht]
    rfl
  · show ((t.modE c.key NEngine.movedOn).core c.key).e.emitBuf = _
    rw [core_modE_self, emitBuf_movedOn, htb]

end

/-- Settles O14: EMIT and both forms of VEMIT go past the open gate, and each masked neuron's emission is one step of
the run over the block. -/
theorem emissions : Obligations.Emissions := by
  intro s c ra rb va m b k e n event masked vemits hst hphase
  have hm := mayEmit_of_st hst
  have hvemits (i : Instr) (lo hi : Int) (hexec : exec i s = issued c i (vemit k va m lo hi) s) (hlohi : lo ≤ hi) :
      vemits i lo hi := fun hr hb hat hsent hroom => by
    have h := answers_vemit (va := va) hlohi hm hphase hb hat hsent hroom hexec hr
    simp only [State.vemitEvents, emitEvent_key] at h
    exact h
  refine ⟨fun hr hn hsent hroom => ?_, fun hr hn hsent => ?_, hvemits _ 0 255 rfl (by decide),
    hvemits _ (-128) 127 rfl (by decide)⟩
  · have h := answers_iEmit_of_unsent hr hm hphase hn hsent hroom
    rwa [emitEvent_key, setWidth_eq_ofNat_mod] at h
  · have hcnt : cnt16 e.cr.dupEmit = min 65535 (e.cr.dupEmit + 1) := by
      unfold cnt16 satAdd
      split <;> omega
    rw [← hcnt]
    exact answers_iEmit_of_sent hr hm hphase hn hsent

end Sys2Proof.Machine

/-!
Ticks (R38, R43, R69, R72, R186, R355, R411, R412): lists of cores, the edge that the Shears fires, and what starting
an UPDATE program keeps of what the edge has frozen.
-/

namespace Sys2Proof.Machine

/-! ### Lists of cores -/

/-- A change of a list of cores changes the table of cores alone. -/
theorem modCores_eq (s : State) (ks : List Nat) (f : Core → Core) :
    s.modCores ks f = { s with cores := (s.modCores ks f).cores } := by
  induction ks generalizing s with
  | nil => rfl
  | cons k ks ih =>
    rw [State.modCores, List.foldl_cons, ← State.modCores, ih]
    rfl

theorem sh_modCores (s : State) (ks : List Nat) (f : Core → Core) : (s.modCores ks f).sh = s.sh := by
  rw [modCores_eq]

theorem shear_modCores (s : State) (ks : List Nat) (f : Core → Core) (t : Tenant) :
    (s.modCores ks f).shear t = s.shear t := by
  rw [State.shear, State.shear, sh_modCores]

theorem core_modCores_of_notMem {s : State} {ks : List Nat} (f : Core → Core) {j : Nat} (h : j ∉ ks) :
    (s.modCores ks f).core j = s.core j := by
  induction ks generalizing s with
  | nil => rfl
  | cons k ks ih =>
    rw [List.mem_cons, not_or] at h
    obtain ⟨hne, hks⟩ := h
    rw [State.modCores, List.foldl_cons, ← State.modCores, ih hks, core_modCore_of_ne _ _ hne]

/-- A core of the list has been changed, from whatever earlier changes of the list left. -/
theorem core_modCores_of_mem {s : State} {ks : List Nat} (f : Core → Core) {j : Nat} (h : j ∈ ks) :
    ∃ c, (s.modCores ks f).core j = f c := by
  induction ks generalizing s with
  | nil => cases h
  | cons k ks ih =>
    rw [State.modCores, List.foldl_cons, ← State.modCores]
    by_cases hks : j ∈ ks
    · exact ih hks
    · obtain rfl := (List.mem_cons.mp h).resolve_right hks
      exact ⟨_, by rw [core_modCores_of_notMem f hks, core_modCore_self]⟩

/-- A list that names each core once changes each of its cores once. -/
theorem core_modCores_of_nodup {s : State} {ks : List Nat} (f : Core → Core) {j : Nat} (hnodup : ks.Nodup)
    (h : j ∈ ks) : (s.modCores ks f).core j = f (s.core j) := by
  induction ks generalizing s with
  | nil => cases h
  | cons k ks ih =>
    obtain ⟨hk, hnodup⟩ := List.nodup_cons.mp hnodup
    rw [State.modCores, List.foldl_cons, ← State.modCores]
    rcases List.mem_cons.mp h with rfl | hks
    · rw [core_modCores_of_notMem f hk, core_modCore_self]
    · have hne : j ≠ k := fun e => hk (e ▸ hks)
      rw [ih hnodup hks, core_modCore_of_ne _ _ hne]

/-! ### Firing an edge -/

/-- The Shears x of a tenant becomes x' as the next tick starts at a moment. -/
def Shears.NextTick (x x' : Shears) (now : Nat) : Prop :=
  x'.state = .update ∧ x'.first = false ∧ x'.fresh = false ∧ x'.edgeAt = now ∧
  x'.tick = (if x.fresh then 0 else x.tick + 1) ∧ x'.tag = (if x.fresh then 0 else x.tag + 1) ∧
  x'.period = x.staged.getD x.period ∧ x'.staged = none

/-- From s to u the next tick of tenant t has started: TICK and the tag advance by one unless the tenant is fresh from a
LOAD, the edge is on its way to each of its cores, and the other Shears are as they were (R43, R355, R411, R412). -/
def TickBegun (s u : State) (t : Tenant) : Prop :=
  (s.shear t).NextTick (u.shear t) s.now ∧ (∀ j ∈ s.coresOf t, (u.core j).e.fl.edgeSig = true) ∧
  ∀ w, w ≠ t → u.shear w = s.shear w

/-- A core with an edge on its way to it. -/
def Core.signalled (c : Core) : Core := { c with e := { c.e with fl := { c.e.fl with edgeSig := true } } }

theorem unnote_eq (s : State) (t : Tenant) :
    s.unnote t = { s with injNoted := (s.unnote t).injNoted, pinNoted := (s.unnote t).pinNoted } := by
  unfold State.unnote
  split <;> rfl

theorem sh_unnote (s : State) (t : Tenant) : (s.unnote t).sh = s.sh := by
  rw [unnote_eq]

theorem coresOf_unnote (s : State) (t w : Tenant) : (s.unnote t).coresOf w = s.coresOf w := by
  rw [unnote_eq]
  rfl

/-- Firing an edge changes the Shears of the tenant, then signals its cores. -/
theorem fireEdge_eq (s : State) (t : Tenant) (overrun : Nat) (stretched : Bool) : ∃ x u,
    s.fireEdge t 1 overrun stretched =
      (State.modCores u (u.coresOf t) Core.signalled).raiseSource 16 (some t.val) (fun _ => true) ∧
    u.coresOf t = s.coresOf t ∧ u.sh = s.sh.set t.val x ∧ (s.shear t).NextTick x s.now :=
  ⟨_, _, rfl, coresOf_unnote _ t t, sh_unnote _ t, by exact ⟨rfl, rfl, rfl, rfl, rfl, rfl, rfl, rfl⟩⟩

/-- An edge that advances TICK by one starts the next tick. -/
theorem tickBegun_fireEdge (s : State) (t : Tenant) (overrun : Nat) (stretched : Bool) :
    TickBegun s (s.fireEdge t 1 overrun stretched) t := by
  obtain ⟨x, u, heq, hcores, hsh, hnext⟩ := fireEdge_eq s t overrun stretched
  have hset : u.sh = (s.modShear t fun _ => x).sh := hsh
  have hshear (w : Tenant) : (s.fireEdge t 1 overrun stretched).shear w = (s.modShear t fun _ => x).shear w := by
    rw [heq, State.shear, State.shear, ← hset, ← sh_modCores u (u.coresOf t) Core.signalled]
    rfl
  refine ⟨?_, fun j hj => ?_, fun w hw => ?_⟩
  · rwa [hshear, shear_modShear_self]
  · rw [← hcores] at hj
    obtain ⟨c, hc⟩ := core_modCores_of_mem (s := u) Core.signalled hj
    rw [heq]
    exact (congrArg (·.e.fl.edgeSig) hc).trans rfl
  · rw [hshear, shear_modShear_of_ne _ _ hw]

theorem sh_finish (s : State) (p : Port) (status : Nat) (d : Option Word) : (s.finish p status d).sh = s.sh := by
  unfold State.finish
  split
  · rfl
  · cases d <;> rfl

theorem cores_finish (s : State) (p : Port) (status : Nat) (d : Option Word) :
    (s.finish p status d).cores = s.cores := by
  unfold State.finish
  split
  · rfl
  · cases d <;> rfl

/-- Completing START leaves the Shears and the cores alone. -/
theorem completeStart_keeps (s : State) (t : Tenant) :
    (s.completeStart t).sh = s.sh ∧ (s.completeStart t).cores = s.cores := by
  unfold State.completeStart
  split
  · exact ⟨sh_finish _ t 0 none, cores_finish _ t 0 none⟩
  · exact ⟨rfl, rfl⟩

theorem TickBegun.completeStart {s u : State} {t : Tenant} (h : TickBegun s u t) :
    TickBegun s (u.completeStart t) t := by
  obtain ⟨hsh, hcores⟩ := completeStart_keeps u t
  simp only [TickBegun, State.shear, State.core, hsh, hcores] at h ⊢
  exact h

/-! ### The moment of an edge -/

theorem advance_zero (s : State) : s.advance 0 = s := by
  simp [State.advance]

/-- A moment that has come takes no time. -/
theorem passTo_of_le {s : State} {due : Nat} (h : due ≤ s.now) : s.passTo due = s := by
  rw [State.passTo, Nat.sub_eq_zero_of_le h, State.passTime]
  split
  · exact advance_zero s
  · rfl

theorem gridK_period (a : Nat) {period : Nat} (h : 0 < period) : gridK a period (a + period) = 1 := by
  have hsum : a + period - a + period - 1 = period * 1 + (period - 1) := by omega
  rw [gridK, if_neg (by omega), hsum, Nat.mul_add_div h, Nat.div_eq_of_lt (by omega)]
  rfl

/-- With no stretch, an edge that is due now is fired now. -/
theorem edgeAtTime_now {s : State} (t : Tenant) {due : Nat} (adv overrun : Nat) (counted : Bool) (hgov : s.govF ≤ 16)
    (hdue : s.now = due) : ∃ b, s.edgeAtTime t due adv overrun counted = s.fireEdge t adv overrun b := by
  have hstretch : s.stretchDue t = 0 := by rw [State.stretchDue, if_neg (by omega)]
  exact ⟨_, by rw [State.edgeAtTime, hstretch, if_neg (Nat.not_lt_zero due), passTo_of_le hdue.ge]⟩

/-! ### An edge at a core -/

/-- What the edge of a tick has frozen and cleared in an engine is as it was (R41, R50, R57, R72). -/
structure KeepsEdge (e e' : NEngine) : Prop where
  active : e'.blk.active = e.blk.active
  input : e'.blk.input = e.blk.input
  collecting : e'.blk.collecting = e.blk.collecting
  pending : e'.blk.pending = e.blk.pending
  sent : e'.fl.sent = e.fl.sent
  gap : e'.fl.gap = e.fl.gap
  dupe : e'.fl.dupe = e.fl.dupe
  phase : e'.fl.phase = e.fl.phase
  tick : e'.fl.tick = e.fl.tick
  tag : e'.fl.tag = e.fl.tag

theorem KeepsEdge.refl (e : NEngine) : KeepsEdge e e := ⟨rfl, rfl, rfl, rfl, rfl, rfl, rfl, rfl, rfl, rfl⟩

theorem KeepsEdge.trans {a b c : NEngine} (h : KeepsEdge a b) (h' : KeepsEdge b c) : KeepsEdge a c :=
  ⟨h'.active.trans h.active, h'.input.trans h.input, h'.collecting.trans h.collecting, h'.pending.trans h.pending,
    h'.sent.trans h.sent, h'.gap.trans h.gap, h'.dupe.trans h.dupe, h'.phase.trans h.phase, h'.tick.trans h.tick,
    h'.tag.trans h.tag⟩

theorem KeepsEdge.modE {e : NEngine} {s : State} {k : Nat} {f : NEngine → NEngine} (h : KeepsEdge e (s.core k).e)
    (hf : ∀ e, KeepsEdge e (f e)) : KeepsEdge e ((s.modE k f).core k).e := by
  rw [core_modE_self]
  exact h.trans (hf _)

theorem core_spend (s : State) (k : Nat) : s.spend.core k = s.core k := rfl

theorem KeepsEdge.reachGate {e : NEngine} {s : State} {k : Nat} (h : KeepsEdge e (s.core k).e) :
    KeepsEdge e ((s.reachGate k).core k).e := by
  unfold State.reachGate
  split
  · exact h
  · rw [core_spend]
    refine h.modE fun e => ?_
    constructor <;> rfl

theorem KeepsEdge.setBlkEntry {e : NEngine} {s : State} {k : Nat} (h : KeepsEdge e (s.core k).e) (b : Nat) (w : Word) :
    KeepsEdge e ((s.setBlkEntry k b w).core k).e := by
  refine h.modE fun e => ?_
  constructor <;> rfl

/-- Ending an UPDATE program stamps a block at most, and leaves it (R69, R74, R123). -/
theorem KeepsEdge.endUpdate {e : NEngine} {s : State} {k : Nat} (h : KeepsEdge e (s.core k).e) :
    KeepsEdge e ((s.endUpdate k).core k).e := by
  unfold State.endUpdate
  refine KeepsEdge.reachGate ?_
  rw [core_spend]
  refine KeepsEdge.modE ?_ fun e => ?_
  · split
    · exact h.setBlkEntry _ _
    · exact h
  · constructor <;> rfl

theorem KeepsEdge.withDbg {e e' : NEngine} (h : KeepsEdge e e') (d : Debug) : KeepsEdge e { e' with dbg := d } :=
  h.trans (by constructor <;> rfl)

theorem keepsEdge_ite {e a b : NEngine} {p : Prop} [Decidable p] (ha : KeepsEdge e a) (hb : KeepsEdge e b) :
    KeepsEdge e (if p then a else b) := by
  split
  · exact ha
  · exact hb

/-- Starting an UPDATE program moves the cursors and the engine, and an empty one ends at once (R69). -/
theorem KeepsEdge.startUpdate {e : NEngine} {s : State} {k : Nat} (h : KeepsEdge e (s.core k).e) :
    KeepsEdge e ((s.startUpdate k).core k).e := by
  have hmay (f : NEngine → NEngine) (hf : ∀ e, KeepsEdge e (f e)) (b : Bool) :
      KeepsEdge e ((if b then (s.modE k f).endUpdate k else s.modE k f).core k).e := by
    cases b with
    | false => exact h.modE hf
    | true => exact (h.modE hf).endUpdate
  simp only [State.startUpdate]
  split
  · refine h.modE fun e => ?_
    constructor <;> rfl
  · refine hmay _ (fun e => ?_) _
    refine keepsEdge_ite (.withDbg (keepsEdge_ite ?_ (keepsEdge_ite ?_ ?_)) _) (keepsEdge_ite ?_ (keepsEdge_ite ?_ ?_))
    all_goals constructor <;> rfl

/-- With the TICK entry enabled, the UPDATE program starts there (R69). -/
theorem startUpdate_tick {s : State} {k : Nat} (h : (s.core k).e.cr.entTick.en = true) :
    ((s.startUpdate k).core k).e.st = .tick ∧ ((s.startUpdate k).core k).e.regs.pc = (s.core k).e.cr.entTick.addr := by
  have hfull : (s.core k).e.updateEmpty = false := by simp [NEngine.updateEmpty, h]
  simp only [State.startUpdate, hfull, Bool.and_false, Bool.false_eq_true, if_false, core_modE_self, h, if_true]
  split <;> exact ⟨rfl, rfl⟩

theorem canStart_atEdge (c : Core) (tick : Word) (tag : BitVec 4) :
    Core.canStart { c with e := c.e.atEdge tick tag } = c.canStart := rfl

/-- An edge that reaches a core freezes its active set and clears its tick's flags, and what follows keeps them. -/
theorem execEdgeAtCore_of_edge {s : State} {c : CoreId} {t : Tenant} (ht : s.coreTenant c.key = some t)
    (hsig : (s.core c.key).e.fl.edgeSig = true) :
    ∃ u, execEdgeAtCore c none s = .next u ∧
      KeepsEdge ((s.core c.key).e.atEdge (s.shear t).tick (s.shear t).tag) (u.core c.key).e ∧
      ((s.core c.key).canStart = true → (s.core c.key).e.cr.entTick.en = true →
        (u.core c.key).e.st = .tick ∧ (u.core c.key).e.regs.pc = (s.core c.key).e.cr.entTick.addr) := by
  have hedge := core_modE_self s c.key fun e => e.atEdge (s.shear t).tick (s.shear t).tag
  have hkeeps : KeepsEdge ((s.core c.key).e.atEdge (s.shear t).tick (s.shear t).tag)
      ((s.modE c.key fun e => e.atEdge (s.shear t).tick (s.shear t).tag).core c.key).e := by
    rw [hedge]
    exact .refl _
  simp only [execEdgeAtCore, ht, hsig, Bool.not_true, Bool.false_eq_true, if_false, hedge, canStart_atEdge]
  by_cases hstart : (s.core c.key).canStart = true
  · refine ⟨_, by rw [if_pos hstart], hkeeps.startUpdate, fun _ hen => ?_⟩
    have htick := startUpdate_tick (s := s.modE c.key fun e => e.atEdge (s.shear t).tick (s.shear t).tag) (k := c.key)
      (by rw [hedge]; exact hen)
    rw [hedge] at htick
    exact htick
  · exact ⟨_, by rw [if_neg hstart], hkeeps, fun h => absurd h hstart⟩

/-! ### Opening the emit phase -/

/-- A core whose emit phase is open. -/
def Core.opened (c : Core) : Core := { c with e := { c.e with fl := { c.e.fl with phase := true } } }

/-- With every core at its gate the Shears opens the emit phase at them, at HOST and at PORTS (R38, R214). -/
theorem execEmitPhaseOpen_of_gates {s : State} {t : Tenant} (hst : (s.shear t).state = .update)
    (hgates : s.allGates t = true) : ∃ u, execEmitPhaseOpen t s = .next u ∧
      u.shear t = { s.shear t with state := .emit, openPorts := true, openHost := true } ∧
      ∀ j ∈ s.coresOf t, (u.core j).e.fl.phase = true := by
  have hgo : ((s.shear t).state != .update || !s.allGates t) = false := by simp [hst, hgates]
  simp only [execEmitPhaseOpen, hgo, Bool.false_eq_true, if_false]
  refine ⟨_, rfl, (shear_modCores _ _ _ t).trans (shear_modShear_self s t _), fun j hj => ?_⟩
  obtain ⟨c, hc⟩ := core_modCores_of_mem (s := s.modShear t _) Core.opened hj
  exact (congrArg (·.e.fl.phase) hc).trans rfl

/-! ### The edges, and the hold -/

theorem execTickEdge_of_first {s : State} {t : Tenant} (hpstop : (s.shear t).pstop = false)
    (hstop : (s.shear t).stopping = false) (hfirst : (s.shear t).first = true) :
    execTickEdge t s = .next ((s.fireEdge t 1 0 false).completeStart t) := by
  simp [execTickEdge, hpstop, hstop, hfirst]

/-- The edge of a lossy tenant whose cores have ended in time is fired one period after the last edge (R43). -/
theorem execTickEdge_of_lossy {s : State} {t : Tenant} (hpstop : (s.shear t).pstop = false)
    (hstop : (s.shear t).stopping = false) (hfirst : (s.shear t).first = false) (hst : (s.shear t).state = .emit)
    (hhold : (s.shear t).hold = .running) (hlast : (s.shear t).lastOfEpoch = false)
    (hlossy : (s.shear t).lossless = false) (hended : s.ended t = true) (hperiod : 0 < (s.shear t).period)
    (hgov : s.govF ≤ 16) (hnow : s.now = (s.shear t).edgeAt + (s.shear t).period) :
    ∃ b, execTickEdge t s = .next (s.fireEdge t 1 0 b) := by
  have hgrid : gridK (s.shear t).edgeAt (s.shear t).period s.now = 1 := by rw [hnow, gridK_period _ hperiod]
  obtain ⟨b, hfire⟩ := edgeAtTime_now t 1 0 false hgov hnow
  exact ⟨b, by simp [execTickEdge, hpstop, hstop, hfirst, hst, hhold, hlast, hlossy, hended, hgrid, hfire]⟩

theorem execFabricHoldBegin_of_drained {s : State} {t : Tenant} (hhold : (s.shear t).hold = .requested)
    (hstop : (s.shear t).stopping = false) (hcred : s.creditOut t = false) (hst : (s.shear t).state = .emit)
    (hlast : (s.shear t).lastOfEpoch = false) (hdrained : s.drained t = true) :
    execFabricHoldBegin t s = .next (s.beginHold t) := by
  simp [execFabricHoldBegin, hhold, hstop, hcred, hst, hlast, hdrained]

/-- Settles O23: the first edge and the edge in time are one firing of the edge, and every other clause is the one
branch of its command that its conditions leave. -/
theorem ticksAdvance : Obligations.TicksAdvance := by
  intro s t c k sh e begun
  have hbegun (u : State) (h : TickBegun s u t) : begun u := by
    obtain ⟨⟨hstate, hfirst, hfresh, hat, htick, htag, hperiod, hstaged⟩, hcores, hothers⟩ := h
    exact ⟨hstate, hfirst, hfresh, hat, htick, htag, hperiod, hstaged, hcores, hothers⟩
  refine ⟨fun hpstop hstop hfirst => ?_,
    fun hpstop hstop hfirst hst hhold hlast hlossy hended hperiod hgov hnow => ?_, fun ht hsig => ?_,
    fun hst hgates => ?_, fun hhold hstop hcred hst hlast hdrained => ?_⟩
  · exact ⟨_, execTickEdge_of_first hpstop hstop hfirst, hbegun _ (tickBegun_fireEdge s t 0 false).completeStart⟩
  · obtain ⟨b, hu⟩ := execTickEdge_of_lossy hpstop hstop hfirst hst hhold hlast hlossy hended hperiod hgov hnow
    exact ⟨_, hu, hbegun _ (tickBegun_fireEdge s t 0 b)⟩
  · obtain ⟨u, hu, hkeeps, hstart⟩ := execEdgeAtCore_of_edge ht hsig
    exact ⟨u, hu, hkeeps.active, hkeeps.input, hkeeps.collecting, hkeeps.pending, hkeeps.sent, hkeeps.gap,
      hkeeps.dupe, hkeeps.phase, hkeeps.tick, hkeeps.tag, hstart⟩
  · obtain ⟨u, hu, hshear, hphase⟩ := execEmitPhaseOpen_of_gates hst hgates
    exact ⟨u, hu, by rw [hshear], by rw [hshear], by rw [hshear], hphase⟩
  · exact ⟨_, execFabricHoldBegin_of_drained hhold hstop hcred hst hlast hdrained, rfl, shear_modShear_self s t _,
      fun w hw => shear_modShear_of_ne s _ hw⟩

end Sys2Proof.Machine

/-!
Events and landing segments (R41, R57, R140 to R151, R157): what integrating keeps of the integration unit, of memory
and of the Thread's credits, and the copies that the receive unit delivers.
-/

namespace Sys2Proof.Machine

/-! ### Packets handed to the Thread -/

/-- The packets that wait in a class queue of a station's Thread (R217). -/
def State.threadQueue (s : State) (st cls : Nat) : List Pkt := Tab.get (s.station st).thread.queues [] cls

theorem threadQueue_sendPkt_self (s : State) (st : Nat) (p : Pkt) :
    (s.sendPkt st p).threadQueue st p.cls = enqueuePkt p (s.threadQueue st p.cls) := by
  simp [State.threadQueue, State.sendPkt, State.modThread, Tab.modify]

theorem threadQueue_sendPkt_of_ne (s : State) {st n cls : Nat} (p : Pkt) (h : cls ≠ p.cls) :
    (s.sendPkt st p).threadQueue n cls = s.threadQueue n cls := by
  simp only [State.threadQueue, State.sendPkt, State.modThread]
  by_cases hn : n = st
  · subst hn
    rw [station_modStation_self]
    exact Tab.get_put_of_ne _ _ _ h
  · rw [station_modStation_of_ne _ _ hn]

theorem threadQueue_modStation (s : State) (st : Nat) {f : StationSt → StationSt} (hf : ∀ x, (f x).thread = x.thread)
    (n cls : Nat) : (s.modStation st f).threadQueue n cls = s.threadQueue n cls := by
  unfold State.threadQueue
  by_cases hn : n = st
  · subst hn
    rw [station_modStation_self, hf]
  · rw [station_modStation_of_ne _ _ hn]

/-- A fault that is reported travels as a packet of class 0, or is suppressed (R502): no other class takes it. -/
theorem threadQueue_reportFault (s : State) (st origin code : Nat) (d : BitVec 40) (n : Nat) {cls : Nat} (h : cls ≠ 0) :
    (s.reportFault st origin code d).threadQueue n cls = s.threadQueue n cls := by
  simp only [State.reportFault]
  split
  · rw [threadQueue_modStation]
    exact fun _ => rfl
  · rw [threadQueue_sendPkt_of_ne _ _ h, threadQueue_modStation]
    exact fun _ => rfl

/-- Reporting a fault changes the stations alone. -/
theorem reportFault_eq (s : State) (st origin code : Nat) (d : BitVec 40) :
    s.reportFault st origin code d = { s with stations := (s.reportFault st origin code d).stations } := by
  simp only [State.reportFault]
  split <;> rfl

theorem core_reportFault (s : State) (st origin code : Nat) (d : BitVec 40) (k : Nat) :
    (s.reportFault st origin code d).core k = s.core k := by
  rw [reportFault_eq]
  rfl

theorem mem_reportFault (s : State) (st origin code : Nat) (d : BitVec 40) :
    (s.reportFault st origin code d).mem = s.mem := by
  rw [reportFault_eq]

theorem core_sendPkt (s : State) (st : Nat) (p : Pkt) (k : Nat) : (s.sendPkt st p).core k = s.core k := rfl

/-! ### What integrating keeps -/

/-- The bytes of core k's accumulators (R30). -/
def inAccumulators (k a : Nat) : Prop := acAddr k 0 ≤ a ∧ a < acAddr k 8192

/-- Integrating from s to u keeps the items that wait in core k, the counts of filter hits and of segments, the waiting
credits and the freedom from uncorrectable errors; and, where p holds, every byte but the core's accumulators. -/
structure Integrates (p : Prop) (k : Nat) (s u : State) : Prop where
  fifo : (u.core k).i.fifo = (s.core k).i.fifo
  segs : (u.core k).i.segs = (s.core k).i.segs
  filtHit : (u.core k).i.filtHit = (s.core k).i.filtHit
  segCnt : (u.core k).i.segCnt = (s.core k).i.segCnt
  credits : ∀ st, u.threadQueue st 1 = s.threadQueue st 1
  noUe : s.eccUe = [] → u.eccUe = []
  bytes : p → ∀ a, ¬ inAccumulators k a → u.readByte a = s.readByte a

variable {p : Prop} {k : Nat}

theorem Integrates.refl (s : State) : Integrates p k s s :=
  ⟨rfl, rfl, rfl, rfl, fun _ => rfl, id, fun _ _ _ => rfl⟩

theorem Integrates.trans {s t u : State} (h : Integrates p k s t) (h' : Integrates p k t u) : Integrates p k s u :=
  ⟨h'.fifo.trans h.fifo, h'.segs.trans h.segs, h'.filtHit.trans h.filtHit, h'.segCnt.trans h.segCnt,
    fun st => (h'.credits st).trans (h.credits st), fun hs => h'.noUe (h.noUe hs),
    fun hp a ha => (h'.bytes hp a ha).trans (h.bytes hp a ha)⟩

theorem Integrates.reportFault {s u : State} (h : Integrates p k s u) (st origin code : Nat) (d : BitVec 40) :
    Integrates p k s (u.reportFault st origin code d) := by
  have hq (n : Nat) := threadQueue_reportFault u st origin code d n (cls := 1) (by decide)
  refine h.trans ?_
  rw [reportFault_eq] at hq ⊢
  exact ⟨rfl, rfl, rfl, rfl, hq, id, fun _ _ _ => rfl⟩

/-- The integration unit's other counts and flags may change. -/
theorem Integrates.modI {s u : State} (h : Integrates p k s u) {f : Integ → Integ} (hf : ∀ i, (f i).fifo = i.fifo ∧
    (f i).segs = i.segs ∧ (f i).filtHit = i.filtHit ∧ (f i).segCnt = i.segCnt) : Integrates p k s (u.modI k f) := by
  obtain ⟨hfifo, hsegs, hhit, hcnt⟩ := hf (u.core k).i
  refine h.trans ⟨?_, ?_, ?_, ?_, fun _ => rfl, id, fun _ _ _ => rfl⟩
  · rwa [core_modI_self]
  · rwa [core_modI_self]
  · rwa [core_modI_self]
  · rwa [core_modI_self]

theorem Integrates.noteRowError {s u : State} (h : Integrates p k s u) (w : Nat) :
    Integrates p k s (u.noteRowError k w) := by
  refine .reportFault (h.modI fun i => ?_) _ _ _ _
  exact ⟨rfl, rfl, rfl, rfl⟩

theorem Integrates.noteCe {s u : State} (h : Integrates p k s u) (w : Nat) : Integrates p k s (u.noteCe k w) :=
  h.modI fun _ => ⟨rfl, rfl, rfl, rfl⟩

theorem Integrates.noteUe {s u : State} (h : Integrates p k s u) (kind w : Nat) :
    Integrates p k s (u.noteUe k kind w) := by
  refine .reportFault (h.modI fun i => ?_) _ _ _ _
  exact ⟨rfl, rfl, rfl, rfl⟩

/-! ### Memory -/

theorem writeByte_eq (s : State) (a : Nat) (b : Byte) : s.writeByte a b = { s with mem := (s.writeByte a b).mem } := by
  unfold State.writeByte
  split <;> rfl

theorem writeBytes_eq (s : State) (a : Nat) (bs : List Byte) :
    s.writeBytes a bs = { s with mem := (s.writeBytes a bs).mem } := by
  induction bs generalizing s a with
  | nil => rfl
  | cons b bs ih =>
    rw [State.writeBytes, ih, writeByte_eq]

/-- A write of bytes changes memory alone; where p holds it has to keep to the core's accumulators. -/
theorem Integrates.writeBytes {s u : State} (h : Integrates p k s u) (a : Nat) (bs : List Byte)
    (hp : p → ∀ c, ¬ inAccumulators k c → (u.writeBytes a bs).readByte c = u.readByte c) :
    Integrates p k s (u.writeBytes a bs) := by
  refine h.trans ⟨?_, ?_, ?_, ?_, fun st => ?credits, fun hu => ?noUe, hp⟩
  case credits =>
    rw [writeBytes_eq]
    rfl
  case noUe =>
    rw [writeBytes_eq]
    exact hu
  all_goals rw [core_writeBytes]

theorem Integrates.clearEcc {s u : State} (h : Integrates p k s u) (a n : Nat) : Integrates p k s (u.clearEcc a n) := by
  refine h.trans ⟨rfl, rfl, rfl, rfl, fun _ => rfl, fun hu => ?_, fun _ _ _ => rfl⟩
  rw [State.clearEcc, hu]
  rfl

/-- A write of accumulator n leaves every byte outside the accumulators of its core as it was (R30). -/
theorem readByte_writeBytes_of_not_inAccumulators (s : State) {n c : Nat} (w : Nat) (hn : n < 8192)
    (hc : ¬ inAccumulators k c) : (s.writeBytes (acAddr k n) (leBytes 4 w)).readByte c = s.readByte c := by
  have hapart : c < acAddr k n ∨ acAddr k n + 4 ≤ c := by
    unfold inAccumulators acAddr at *
    omega
  exact readByte_writeBytes_of_apart s _ (by rwa [length_leBytes])
    (by rw [length_leBytes]; exact pred_apart_of_word (acAddr_mod_four k n) hapart)

theorem Integrates.setAcc {s u : State} (h : Integrates p k s u) {n : Nat} (x : Int) (hn : n < 8192) :
    Integrates p k s (u.setAcc k n x) := by
  rw [State.setAcc, State.writeWord]
  exact (h.writeBytes _ _ fun _ _ hc => readByte_writeBytes_of_not_inAccumulators u _ hn hc).clearEcc _ _

theorem Integrates.modE {s u : State} (h : Integrates p k s u) (f : NEngine → NEngine) :
    Integrates p k s (u.modE k f) := by
  refine h.trans ⟨?_, ?_, ?_, ?_, fun _ => rfl, id, fun _ _ _ => rfl⟩
  all_goals rw [core_modE_self]

theorem Integrates.addContribution {s u : State} (h : Integrates p k s u) {n : Nat} (raw : Int) (hn : n < 8192) :
    Integrates p k s (u.addContribution k n raw) := by
  rw [State.addContribution]
  exact (h.setAcc _ hn).modE _

/-- A record that has been integrated counts (R157). -/
theorem Integrates.addRecord {s u : State} (h : Integrates p k s u) {n : Nat} (raw : Int) (hn : n < 8192) :
    Integrates p k s ((u.addContribution k n raw).modI k fun i => { i with recCnt := cnt32 i.recCnt }) := by
  refine (h.addContribution raw hn).modI fun i => ?_
  exact ⟨rfl, rfl, rfl, rfl⟩

/-- The update of a pre slot writes a trace half, outside the accumulators (R276). -/
theorem Integrates.bumpPre {s u : State} (h : Integrates p k s u) (hp : ¬ p) (n : Nat) (pay : Byte) (signed : Bool) :
    Integrates p k s (u.bumpPre k n pay signed) := by
  rw [State.bumpPre]
  split
  · exact h
  · exact h.writeBytes _ [_] fun h => absurd h hp

/-! ### Runs of the unit -/

theorem Integrates.meetEcc {s : State} {r : IntRun} (h : Integrates p k s r.s) (src : RowSrc) (a : Nat) :
    Integrates p k s (r.meetEcc k src a).s := by
  unfold IntRun.meetEcc
  split
  · exact h
  · split
    · exact h.noteUe _ _
    · split
      · exact h.noteCe _
      · exact h

theorem Integrates.record {s : State} {r : IntRun} (h : Integrates p k s r.s) (hd : RowHdr) (pay : Byte) (e : Int)
    (a : Nat) (rec : Nat × Int) : Integrates p k s (r.record k hd pay e a rec).s := by
  unfold IntRun.record
  split
  · exact h
  · split
    · exact h
    · split
      · exact h.noteRowError _
      · split
        · exact h.noteUe _ _
        · exact h.addRecord _ (by omega)

theorem Integrates.foldl {s : State} {f : IntRun → Nat → IntRun}
    (hf : ∀ r j, Integrates p k s r.s → Integrates p k s (f r j).s) (js : List Nat) {r : IntRun}
    (h : Integrates p k s r.s) : Integrates p k s (js.foldl f r).s := by
  induction js generalizing r with
  | nil => exact h
  | cons j js ih => exact ih (hf r j h)

theorem Integrates.word {s : State} {r : IntRun} (h : Integrates p k s r.s) (src : RowSrc) (hd : RowHdr) (pay : Byte)
    (e : Int) (a w : Nat) : Integrates p k s (r.word k src hd pay e a w).s := by
  unfold IntRun.word
  split
  · exact h
  · exact .foldl (fun r j hr => hr.record hd pay e _ _) _ (h.meetEcc src _)

theorem Integrates.spend {s u : State} (h : Integrates p k s u) : Integrates p k s u.spend :=
  h.trans ⟨rfl, rfl, rfl, rfl, fun _ => rfl, id, fun _ _ _ => rfl⟩

theorem Integrates.ite {s a b : State} {c : Prop} [Decidable c] (ha : Integrates p k s a) (hb : Integrates p k s b) :
    Integrates p k s (if c then a else b) := by
  split
  · exact ha
  · exact hb

theorem Integrates.pair {s : State} {r : IntRun} (h : Integrates p k s r.s) (src : RowSrc) (hd : RowHdr) (pay : Byte)
    (e : Int) (a w : Nat) : Integrates p k s (r.pair k src hd pay e a w).s := by
  have hwords := (h.word src hd pay e a w).word src hd pay e a (w + 1)
  simp only [IntRun.pair]
  split
  · exact h
  · dsimp only
    refine (Integrates.ite hwords.spend hwords).modI fun i => ?_
    exact ⟨rfl, rfl, rfl, rfl⟩

theorem Integrates.row {s : State} {r : IntRun} (h : Integrates p k s r.s) (src : RowSrc) (hd : RowHdr) (pay : Byte)
    (a : Nat) : Integrates p k s (r.row k src hd pay a).s :=
  .foldl (fun _ _ hr => hr.pair src hd pay _ a _) _ h

/-- A chain of rows, which updates a pre slot only where p does not hold (R139, R276). -/
theorem Integrates.chain {s : State} {r : IntRun} (h : Integrates p k s r.s) (pay : Byte) {pre : Option Nat}
    (hpre : p → pre = none) (a fuel : Nat) : Integrates p k s (r.chain k pay pre a fuel).s := by
  induction fuel generalizing r pre a with
  | zero => exact h
  | succ fuel ih =>
    have hecc := h.meetEcc .syn a
    have hgo {r3 : IntRun} (h3 : Integrates p k s r3.s) (stop b : Bool) (a' : Nat) : Integrates p k s
        (if stop then r3 else r3.chain k pay (if b then none else pre) a' fuel).s := by
      cases stop with
      | true => exact h3
      | false => exact ih h3 (fun hp => by rw [hpre hp, ite_self]) a'
    simp only [IntRun.chain]
    split
    · exact hecc
    · split
      · exact hecc.noteRowError _
      · refine hgo (.row ?_ _ _ _ _) _ _ _
        split
        · exact hecc.bumpPre (fun hp => nomatch hpre hp) _ _ _
        · exact hecc

/-! ### Runs that nothing cuts short -/

/-- No edge comes, the item has not ended, and no word holds an uncorrectable error (R41, R147). -/
structure IntRun.Unhindered (r : IntRun) : Prop where
  left : r.left = none
  goes : r.stop = false
  noUe : r.s.eccUe = []

theorem ueAt_of_noUe {s : State} (h : s.eccUe = []) (a : Nat) : s.ueAt a = false := by
  rw [State.ueAt, h]
  rfl

theorem IntRun.Unhindered.record {r : IntRun} (h : r.Unhindered) (k : Nat) (hd : RowHdr) (pay : Byte) (e : Int)
    (a : Nat) (rec : Nat × Int) : (r.record k hd pay e a rec).Unhindered := by
  have hue := ((Integrates.refl (p := False) (k := k) r.s).record hd pay e a rec).noUe h.noUe
  refine ⟨?_, ?_, hue⟩
  all_goals
    simp only [IntRun.record, h.goes, h.left, ueAt_of_noUe h.noUe, Bool.false_eq_true, if_false, reduceCtorEq]
    split <;> rfl

theorem IntRun.Unhindered.foldl {f : IntRun → Nat → IntRun} (hf : ∀ r j, r.Unhindered → (f r j).Unhindered)
    (js : List Nat) {r : IntRun} (h : r.Unhindered) : (js.foldl f r).Unhindered := by
  induction js generalizing r with
  | nil => exact h
  | cons j js ih => exact ih (hf r j h)

section
variable {r : IntRun} (h : r.Unhindered) (k slot : Nat) (hd : RowHdr) (pay : Byte)
include h

/-- The words of a landing segment meet no ECC of the synapse SRAM (R147). -/
theorem IntRun.Unhindered.word (e : Int) (a w : Nat) : (r.word k (.lb slot) hd pay e a w).Unhindered := by
  unfold IntRun.word
  split
  · exact h
  · exact .foldl (fun r j hr => hr.record k hd pay e _ _) _ h

theorem IntRun.Unhindered.pair (e : Int) (a w : Nat) : (r.pair k (.lb slot) hd pay e a w).Unhindered := by
  have hwords := (h.word k slot hd pay e a w).word k slot hd pay e a (w + 1)
  simp only [IntRun.pair, h.goes, hwords.goes, Bool.false_eq_true, if_false]
  exact ⟨hwords.left, rfl, hwords.noUe⟩

theorem IntRun.Unhindered.row (a : Nat) : (r.row k (.lb slot) hd pay a).Unhindered :=
  .foldl (fun _ _ hr => hr.pair k slot hd pay _ a _) _ h

end

/-! ### Events -/

theorem meetEcc_of_noEcc {r : IntRun} (hue : r.s.eccUe = []) (hce : r.s.eccCe = []) (src : RowSrc) (a : Nat) :
    r.meetEcc k src a = r := by
  cases src with
  | lb slot => rfl
  | syn => simp [IntRun.meetEcc, State.ceAt, ueAt_of_noUe hue, hce]

theorem filterEcc_of_noEcc {r : IntRun} (hue : r.s.eccUe = []) (hce : r.s.eccCe = []) (src : Source) :
    r.filterEcc k src = r := by
  simp only [IntRun.filterEcc]
  split
  · rfl
  · exact List.foldl_fixed' (fun w => by rw [meetEcc_of_noEcc hue hce, ite_self]) _

/-- Integrating an event counts a filter hit where the filter knows its source; where the Marver keeps no pre-synaptic
trace, it changes no byte of memory but accumulators of its core (R133, R143). -/
theorem integEvent_keeps {s : State} (ev : InEv) (hue : s.eccUe = []) (hce : s.eccCe = []) :
    let u := s.integEvent k ev none
    (u.core k).i.fifo = (s.core k).i.fifo ∧
    (u.core k).i.filtHit =
      (if (s.filterWord k ev.src).isSome then cnt32 (s.core k).i.filtHit else (s.core k).i.filtHit) ∧
    ((s.core k).mrv.preEn = false → ∀ a, ¬ inAccumulators k a → u.readByte a = s.readByte a) := by
  have hecc : IntRun.filterEcc ⟨s, none, false⟩ k ev.src = ⟨s, none, false⟩ := filterEcc_of_noEcc hue hce _
  simp only [State.integEvent, hecc, Bool.false_eq_true, if_false]
  cases s.filterWord k ev.src with
  | none => exact ⟨rfl, rfl, fun _ _ _ => rfl⟩
  | some n =>
    have hchain := (Integrates.refl (p := (s.core k).mrv.preEn = false) (k := k)
      (s.modI k fun i => { i with filtHit := cnt32 i.filtHit })).chain (r := ⟨_, none, false⟩) ev.pay
      (pre := if (s.core k).mrv.preEn then some n else none) (fun hp => by rw [hp]; rfl) (s.filterRow k n) 24576
    refine ⟨hchain.fifo.trans ?_, hchain.filtHit.trans ?_, hchain.bytes⟩
    · rw [core_modI_self]
    · rw [core_modI_self]
      rfl

/-! ### The next item (R142) -/

theorem nextItem_of_event {i : Integ} {ev : InEv} {evs : List InEv} (h : i.fifo = ev :: evs)
    (hfirst : ∀ g ∈ i.segs.head?, ev.order ≤ g.order) : i.nextItem = some false := by
  cases hs : i.segs with
  | nil => simp [Integ.nextItem, h, hs]
  | cons g gs =>
    have hle : ev.order ≤ g.order := hfirst g (by rw [hs]; rfl)
    simp [Integ.nextItem, h, hs, hle]

theorem nextItem_of_segment {i : Integ} {g : Seg} {gs : List Seg} (h : i.segs = g :: gs)
    (hfirst : ∀ ev ∈ i.fifo.head?, g.order < ev.order) : i.nextItem = some true := by
  cases hf : i.fifo with
  | nil => simp [Integ.nextItem, h, hf]
  | cons ev evs =>
    have hlt : g.order < ev.order := hfirst ev (by rw [hf]; rfl)
    simp [Integ.nextItem, h, hf, hlt]

theorem core_noteLate (s : State) (k : Nat) : (s.noteLate k).core k = { s.core k with
    i := { (s.core k).i with late := cnt16 (s.core k).i.late }
    e := { (s.core k).e with fl := { (s.core k).e.fl with gapNext := true } } } := by
  rw [State.noteLate, core_modE_self, core_modI_self]

theorem core_popIngress (s : State) (k : Nat) :
    (s.popIngress k).core k = { s.core k with i := { (s.core k).i with fifo := (s.core k).i.fifo.tail } } :=
  core_modI_self s k _

theorem mem_noteLate (s : State) (k : Nat) : (s.noteLate k).mem = s.mem := rfl

theorem mem_popIngress (s : State) (k : Nat) : (s.popIngress k).mem = s.mem := rfl

theorem readByte_popIngress (s : State) (k a : Nat) : (s.popIngress k).readByte a = s.readByte a := rfl

section
variable {s : State} {c : CoreId} {ev : InEv} {evs : List InEv} (h : (s.core c.key).i.fifo = ev :: evs)
  (hfirst : ∀ g ∈ (s.core c.key).i.segs.head?, ev.order ≤ g.order)
include h hfirst

/-- A late event is only counted (R41). -/
theorem answers_integrateEvent_of_late (htag : ev.tag ≠ (s.core c.key).e.fl.tag) :
    Answers (.integrateEvent c) s fun u => (u.core c.key).i.fifo = evs ∧
      (u.core c.key).i.late = cnt16 (s.core c.key).i.late ∧ u.mem = s.mem := by
  have hexec : execIntegrateEvent c s = .next ((s.noteLate c.key).popIngress c.key) := by
    simp [execIntegrateEvent, h, nextItem_of_event h hfirst, htag]
  refine ⟨_, hexec, ?_, ?_, ?_⟩
  · rw [core_popIngress, core_noteLate, h, List.tail_cons]
  · rw [core_popIngress, core_noteLate]
  · rw [mem_popIngress, mem_noteLate]

/-- In the emit phase the event at the head is integrated and leaves the FIFO (R143). -/
theorem answers_integrateEvent_of_due (htag : ev.tag = (s.core c.key).e.fl.tag)
    (hphase : (s.core c.key).e.fl.phase = true) (hue : s.eccUe = []) (hce : s.eccCe = []) :
    Answers (.integrateEvent c) s fun u => (u.core c.key).i.fifo = evs ∧
      (u.core c.key).i.filtHit =
        (if (s.filterWord c.key ev.src).isSome then cnt32 (s.core c.key).i.filtHit else (s.core c.key).i.filtHit) ∧
      ((s.core c.key).mrv.preEn = false → ∀ a, ¬ inAccumulators c.key a → u.readByte a = s.readByte a) := by
  have hexec : execIntegrateEvent c s = .next ((s.integEvent c.key ev none).popIngress c.key) := by
    simp [execIntegrateEvent, h, nextItem_of_event h hfirst, htag, hphase]
  obtain ⟨hfifo, hhit, hbytes⟩ := integEvent_keeps (k := c.key) ev hue hce
  refine ⟨_, hexec, ?_, ?_, fun hpre a ha => ?_⟩
  · rw [core_popIngress, hfifo, h, List.tail_cons]
  · rw [core_popIngress, hhit]
  · rw [readByte_popIngress, hbytes hpre a ha]

end

/-! ### Landing segments -/

/-- The segment's slot is freed, its credit waits behind the others or is merged into one, and the counts and memory
are as they were (R146, R217, R251). -/
theorem freeSegment_keeps (s : State) (k : Nat) (g : Seg) :
    let i := (s.core k).i
    let i' := ((s.freeSegment k g).core k).i
    (i'.segs = i.segs.tail ∧ i'.late = i.late ∧ i'.segCnt = i.segCnt ∧ i'.rowErr = i.rowErr ∧
      i'.rowErrCnt = i.rowErrCnt) ∧
    (s.freeSegment k g).threadQueue (k / 32) 1 =
      enqueuePkt (.gathCred g.src g.flow 1 false 0 0) (s.threadQueue (k / 32) 1) ∧
    (s.freeSegment k g).mem = s.mem ∧ ∀ a, (s.freeSegment k g).readByte a = s.readByte a := by
  refine ⟨?_, threadQueue_sendPkt_self _ _ _, rfl, fun _ => rfl⟩
  rw [State.freeSegment, core_sendPkt, core_modI_self]
  exact ⟨rfl, rfl, rfl, rfl, rfl⟩

theorem integSegment_of_bad {s : State} {g : Seg} (left : Option Nat)
    (hbad : (rowHdr (s.rowWord k (.lb g.slot.val) 1)).badSeg g.words (auxStored (s.segAux k g.slot.val)) = true) :
    s.integSegment k g left = s.noteRowError k (32 * g.slot.val + 1) := by
  simp only [State.integSegment, hbad, if_true]

/-- A row error is counted and flagged; the rest of the integration unit, the credits and memory are as they were. -/
theorem noteRowError_keeps (s : State) (k w : Nat) :
    ((s.noteRowError k w).core k).i = { (s.core k).i with rowErrCnt := cnt16 (s.core k).i.rowErrCnt, rowErr := true } ∧
    (∀ st, (s.noteRowError k w).threadQueue st 1 = s.threadQueue st 1) ∧ (s.noteRowError k w).mem = s.mem := by
  refine ⟨?_, fun st => ?_, ?_⟩
  · rw [State.noteRowError, core_reportFault, core_modI_self]
  · rw [State.noteRowError, threadQueue_reportFault _ _ _ _ _ _ (by decide)]
    rfl
  · rw [State.noteRowError, mem_reportFault]
    rfl

/-- A segment has been integrated to its end: it counts (R157). -/
def State.countSegment (s : State) (k : Nat) : State := s.modI k fun i => { i with segCnt := cnt32 i.segCnt }

theorem countSegment_keeps (s : State) (k : Nat) :
    ((s.countSegment k).core k).i.segs = (s.core k).i.segs ∧
    ((s.countSegment k).core k).i.segCnt = cnt32 (s.core k).i.segCnt ∧
    (∀ st, (s.countSegment k).threadQueue st 1 = s.threadQueue st 1) ∧
    ∀ a, (s.countSegment k).readByte a = s.readByte a := by
  rw [State.countSegment, core_modI_self]
  exact ⟨rfl, rfl, fun _ => rfl, fun _ => rfl⟩

/-- The run over the row of a landing segment, when no edge cuts it short (R146). -/
def State.segmentRun (s : State) (k : Nat) (g : Seg) : IntRun :=
  IntRun.row ⟨s, none, false⟩ k (.lb g.slot.val) (rowHdr (s.rowWord k (.lb g.slot.val) 1))
    (auxPay (s.segAux k g.slot.val)) 1

theorem integSegment_of_good {s : State} {g : Seg} (hue : s.eccUe = [])
    (hbad : (rowHdr (s.rowWord k (.lb g.slot.val) 1)).badSeg g.words (auxStored (s.segAux k g.slot.val)) = false) :
    s.integSegment k g none = (s.segmentRun k g).s.countSegment k := by
  have hgoes : (s.segmentRun k g).stop = false := (IntRun.Unhindered.row ⟨rfl, rfl, hue⟩ _ _ _ _ _).goes
  rw [State.segmentRun] at hgoes ⊢
  simp only [State.countSegment, State.integSegment, hbad, hgoes, Bool.false_eq_true, if_false, Option.isSome_none,
    Bool.or_self]

theorem integrates_segmentRun (s : State) (g : Seg) : Integrates True k s (s.segmentRun k g).s :=
  .row (.refl s) _ _ _ _

/-- A segment without a row error, that nothing cuts short, counts once it is integrated, and changes no byte but
accumulators of its core (R146, R157). -/
theorem integSegment_keeps_of_good {s : State} {g : Seg} (hue : s.eccUe = [])
    (hbad : (rowHdr (s.rowWord k (.lb g.slot.val) 1)).badSeg g.words (auxStored (s.segAux k g.slot.val)) = false) :
    let u := s.integSegment k g none
    (u.core k).i.segs = (s.core k).i.segs ∧ (u.core k).i.segCnt = cnt32 (s.core k).i.segCnt ∧
    (∀ st, u.threadQueue st 1 = s.threadQueue st 1) ∧
    ∀ a, ¬ inAccumulators k a → u.readByte a = s.readByte a := by
  have hrow := integrates_segmentRun (k := k) s g
  obtain ⟨hsegs, hcnt, hcredits, hbytes⟩ := countSegment_keeps (s.segmentRun k g).s k
  rw [integSegment_of_good hue hbad]
  exact ⟨hsegs.trans hrow.segs, by rw [hcnt, hrow.segCnt], fun st => (hcredits st).trans (hrow.credits st),
    fun a ha => (hbytes a).trans (hrow.bytes trivial a ha)⟩

section
variable {s : State} {c : CoreId} {g : Seg} {gs : List Seg} (h : (s.core c.key).i.segs = g :: gs)
  (hfirst : ∀ ev ∈ (s.core c.key).i.fifo.head?, g.order < ev.order)
include h hfirst

/-- A late segment is only counted, and its credit returns (R41, R146). -/
theorem answers_integrateSegment_of_late (htag : auxTag (s.segAux c.key g.slot.val) ≠ (s.core c.key).e.fl.tag) :
    Answers (.integrateSegment c) s fun u => (u.core c.key).i.segs = gs ∧
      (u.core c.key).i.late = cnt16 (s.core c.key).i.late ∧
      u.threadQueue c.cl.val 1 = enqueuePkt (.gathCred g.src g.flow 1 false 0 0) (s.threadQueue c.cl.val 1) ∧
      u.mem = s.mem := by
  have hexec : execIntegrateSegment c s = .next ((s.noteLate c.key).freeSegment c.key g) := by
    simp [execIntegrateSegment, h, nextItem_of_segment h hfirst, htag]
  obtain ⟨⟨hsegs, hlate, _, _, _⟩, hcredit, hmem, _⟩ := freeSegment_keeps (s.noteLate c.key) c.key g
  rw [core_noteLate] at hsegs hlate
  rw [key_div] at hcredit
  exact ⟨_, hexec, by rw [hsegs, h, List.tail_cons], hlate, hcredit, hmem⟩

section
variable (htag : auxTag (s.segAux c.key g.slot.val) = (s.core c.key).e.fl.tag)
  (hphase : (s.core c.key).e.fl.phase = true)
include htag hphase

theorem execIntegrateSegment_of_due :
    execIntegrateSegment c s = .next ((s.integSegment c.key g none).freeSegment c.key g) := by
  simp [execIntegrateSegment, h, nextItem_of_segment h hfirst, htag, hphase]

/-- A row error discards the segment, and is counted itself (R140, R146). -/
theorem answers_integrateSegment_of_bad
    (hbad : (rowHdr (s.rowWord c.key (.lb g.slot.val) 1)).badSeg g.words
      (auxStored (s.segAux c.key g.slot.val)) = true) :
    Answers (.integrateSegment c) s fun u => (u.core c.key).i.segs = gs ∧
      (u.core c.key).i.segCnt = (s.core c.key).i.segCnt ∧ (u.core c.key).i.rowErr = true ∧
      (u.core c.key).i.rowErrCnt = cnt16 (s.core c.key).i.rowErrCnt ∧
      u.threadQueue c.cl.val 1 = enqueuePkt (.gathCred g.src g.flow 1 false 0 0) (s.threadQueue c.cl.val 1) ∧
      u.mem = s.mem := by
  have hexec := execIntegrateSegment_of_due h hfirst htag hphase
  rw [integSegment_of_bad none hbad] at hexec
  obtain ⟨hi, hqueue, hmem⟩ := noteRowError_keeps s c.key (32 * g.slot.val + 1)
  obtain ⟨⟨hsegs, _, hcnt, herr, herrCnt⟩, hcredit, hfree, _⟩ :=
    freeSegment_keeps (s.noteRowError c.key (32 * g.slot.val + 1)) c.key g
  rw [hi] at hsegs hcnt herr herrCnt
  rw [key_div, hqueue] at hcredit
  exact ⟨_, hexec, by rw [hsegs, h, List.tail_cons], hcnt, herr, herrCnt, hcredit, hfree.trans hmem⟩

/-- A segment without a row error is integrated, and counts (R146, R157). -/
theorem answers_integrateSegment_of_good
    (hbad : (rowHdr (s.rowWord c.key (.lb g.slot.val) 1)).badSeg g.words
      (auxStored (s.segAux c.key g.slot.val)) = false)
    (hue : s.eccUe = []) : Answers (.integrateSegment c) s fun u => (u.core c.key).i.segs = gs ∧
      (u.core c.key).i.segCnt = cnt32 (s.core c.key).i.segCnt ∧
      u.threadQueue c.cl.val 1 = enqueuePkt (.gathCred g.src g.flow 1 false 0 0) (s.threadQueue c.cl.val 1) ∧
      ∀ a, ¬ inAccumulators c.key a → u.readByte a = s.readByte a := by
  obtain ⟨hsegs, hcnt, hqueue, hbytes⟩ := integSegment_keeps_of_good (k := c.key) (g := g) hue hbad
  obtain ⟨⟨htail, _, hsame, _, _⟩, hcredit, _, hfree⟩ := freeSegment_keeps (s.integSegment c.key g none) c.key g
  rw [key_div, hqueue] at hcredit
  exact ⟨_, execIntegrateSegment_of_due h hfirst htag hphase, by rw [htail, hsegs, h, List.tail_cons],
    hsame.trans hcnt, hcredit, fun a ha => (hfree a).trans (hbytes a ha)⟩

end

end

/-! ### Copies that cross into a core -/

/-- The oldest copy that crosses into core k has been taken, and a marked one has set the gap flag (R57, R149). -/
def State.crossed (s : State) (k : Nat) (ev : InEv) (rest : List InEv) : State :=
  let t := s.modI k fun i => { i with crossing := rest }
  if ev.gap then t.modE k fun e => { e with fl := { e.fl with gapNext := true } } else t

theorem core_crossed (s : State) (k : Nat) (ev : InEv) (rest : List InEv) : (s.crossed k ev rest).core k =
    { s.core k with
      i := { (s.core k).i with crossing := rest }
      e := { (s.core k).e with fl := { (s.core k).e.fl with gapNext := (s.core k).e.fl.gapNext || ev.gap } } } := by
  cases hgap : ev.gap <;> simp [State.crossed, hgap]

section
variable {s : State} {c : CoreId} {ev : InEv} {evs : List InEv} (h : (s.core c.key).i.crossing = ev :: evs)
include h

/-- A copy of the tick in progress enters the FIFO behind what waits there (R41, R149). -/
theorem answers_coreIngress_of_room (htag : ev.tag = (s.core c.key).e.fl.tag)
    (hroom : (s.core c.key).i.fifo.length < 32) : Answers (.coreIngress c) s fun u =>
      (u.core c.key).i.crossing = evs ∧
      (u.core c.key).i.fifo = (s.core c.key).i.fifo ++ [{ ev with order := (s.core c.key).i.arrived }] ∧
      (u.core c.key).i.arrived = (s.core c.key).i.arrived + 1 ∧
      (u.core c.key).e.fl.gapNext = ((s.core c.key).e.fl.gapNext || ev.gap) := by
  have hexec : execCoreIngress c s = .next ((s.crossed c.key ev evs).modI c.key fun i =>
      { i with fifo := i.fifo ++ [{ ev with order := i.arrived }], arrived := i.arrived + 1 }) := by
    have hlt : ¬ 32 ≤ (s.core c.key).i.fifo.length := by omega
    simp only [execCoreIngress, h, ne_eq, htag, not_true, hlt, if_false]
    rfl
  refine ⟨_, hexec, ?_⟩
  simp [core_crossed]

/-- A late copy is counted, and marks the gap (R41, R57). -/
theorem answers_coreIngress_of_late (htag : ev.tag ≠ (s.core c.key).e.fl.tag) :
    Answers (.coreIngress c) s fun u =>
      (u.core c.key).i.crossing = evs ∧ (u.core c.key).i.fifo = (s.core c.key).i.fifo ∧
      (u.core c.key).i.late = cnt16 (s.core c.key).i.late ∧ (u.core c.key).e.fl.gapNext = true := by
  have hexec : execCoreIngress c s = .next ((s.crossed c.key ev evs).noteLate c.key) := by
    simp only [execCoreIngress, h, ne_eq, htag, not_false_iff, if_true]
    rfl
  refine ⟨_, hexec, ?_⟩
  simp [core_noteLate, core_crossed]

/-- In lossy mode a copy that finds the FIFO full is dropped and counted, and marks the gap (R55 to R57). -/
theorem answers_coreIngress_of_full (htag : ev.tag = (s.core c.key).e.fl.tag)
    (hfull : 32 ≤ (s.core c.key).i.fifo.length) (hlossy : s.coreLossless c.key = false) :
    Answers (.coreIngress c) s fun u =>
      (u.core c.key).i.crossing = evs ∧ (u.core c.key).i.fifo = (s.core c.key).i.fifo ∧
      (u.core c.key).i.drop = cnt16 (s.core c.key).i.drop ∧ (u.core c.key).e.fl.gapNext = true := by
  have hexec : execCoreIngress c s = .next (((s.crossed c.key ev evs).modI c.key fun i =>
      { i with drop := cnt16 i.drop }).modE c.key fun e => { e with fl := { e.fl with gapNext := true } }) := by
    simp only [execCoreIngress, h, ne_eq, htag, not_true, hfull, hlossy, if_false, if_true, Bool.false_eq_true]
    rfl
  refine ⟨_, hexec, ?_⟩
  simp [core_crossed]

end

/-! ### Contributions -/

/-- A number of 24 bits is read back from an accumulator as it was written. -/
theorem toInt_setWidth_ofInt {x : Int} (h : -8388608 ≤ x ∧ x ≤ 8388607) :
    (((BitVec.ofInt 32 x).setWidth 24).signExtend 32).toInt = x := by
  have hn := toNat_ofInt_mod x
  have hd : (((BitVec.ofInt 32 x).setWidth 24).toNat : Int) = x % 2 ^ 24 := by
    rw [BitVec.toNat_setWidth]
    omega
  rw [BitVec.toInt_signExtend_of_le (by decide), BitVec.toInt_eq_toNat_cond]
  split <;> omega

theorem acc_setAcc (s : State) {k n : Nat} {x : Int} (hk : k < 1024) (hn : n < 8192) (h : -8388608 ≤ x ∧ x ≤ 8388607) :
    (s.setAcc k n x).acc k n = x := by
  have htop : isTop (acAddr k n + 3) = true := isTop_acAddr_three hk hn
  rw [State.acc, State.setAcc, readWord_writeWord_top _ _ _ (fun _ hj => isTop_acAddr k n hj) htop,
    toInt_setWidth_ofInt h]

theorem getLsbD_setBlk_self (x : BitVec 512) {b : Nat} (h : b < 512) : (setBlk x b).getLsbD b = true := by
  simp [setBlk, h]

theorem acc_modE (s : State) (k : Nat) (f : NEngine → NEngine) (j n : Nat) : (s.modE k f).acc j n = s.acc j n := rfl

/-- A contribution is added with saturation to 24 bits, and its block joins the collecting set (R48, R143). -/
theorem addContribution_adds (s : State) (c : CoreId) {n : Nat} (raw : Int) (hn : n < 8192) :
    (s.addContribution c.key n raw).acc c.key n = sat24 (s.acc c.key n + sat24 raw) ∧
    ((s.addContribution c.key n raw).core c.key).e.blk.collecting.getLsbD (n / 16) = true := by
  rw [State.addContribution]
  constructor
  · rw [acc_modE]
    exact acc_setAcc s (key_lt c) hn (clampInt_mem (by decide) _)
  · rw [core_modE_self]
    exact getLsbD_setBlk_self _ (by omega)

/-! ### Copies that the receive unit delivers -/

theorem nodup_coresIn (s : State) (cl : Nat) : (s.coresIn cl).Nodup :=
  List.nodup_range.map fun a b h => by simpa using h

theorem nodup_maskedCores (s : State) (cl g : Nat) : (s.maskedCores cl g).Nodup :=
  (nodup_coresIn s cl).filter _

/-- A core with a copy of an event on its way into it. -/
def Core.receives (ev : WireEv) (c : Core) : Core :=
  { c with i := { c.i with crossing := c.i.crossing ++ [⟨ev.src, ev.pay, ev.tag, ev.gap, 0⟩] } }

/-- The cluster after its receive unit has taken the event x from the FIFO, and before the event's credit returns (R57,
R148 to R150). -/
def State.delivered (s : State) (cl : Nat) (x : RxEv) (rest : List RxEv) : State :=
  let t := s.modCluster cl fun c => { c with rx := rest, events := cnt32 c.events }
  (if x.ev.gap then t.markGap cl else t).modCores (s.maskedCores cl x.ev.grp.toNat) (Core.receives x.ev)

/-- A change of a list of cores that leaves the integration unit of each alone. -/
theorem i_modCores {f : Core → Core} (hf : ∀ c, (f c).i = c.i) (s : State) (ks : List Nat) (j : Nat) :
    ((s.modCores ks f).core j).i = (s.core j).i := by
  induction ks generalizing s with
  | nil => rfl
  | cons k ks ih =>
    rw [State.modCores, List.foldl_cons, ← State.modCores, ih]
    by_cases hj : j = k
    · rw [hj, core_modCore_self, hf]
    · rw [core_modCore_of_ne _ _ hj]

theorem cluster_modCores (s : State) (ks : List Nat) (f : Core → Core) (n : Nat) :
    (s.modCores ks f).cluster n = s.cluster n := by
  rw [modCores_eq]
  rfl

theorem threadQueue_modCores (s : State) (ks : List Nat) (f : Core → Core) (st cls : Nat) :
    (s.modCores ks f).threadQueue st cls = s.threadQueue st cls := by
  rw [modCores_eq]
  rfl

/-- A marked event marks the gap of the cluster's cores, which is not the integration units' (R57). -/
theorem markGap_keeps (s : State) (gap : Bool) (cl : Nat) :
    (∀ n, (if gap then s.markGap cl else s).cluster n = s.cluster n) ∧
    (∀ st cls, (if gap then s.markGap cl else s).threadQueue st cls = s.threadQueue st cls) ∧
    ∀ j, ((if gap then s.markGap cl else s).core j).i = (s.core j).i := by
  cases gap with
  | false => exact ⟨fun _ => rfl, fun _ _ => rfl, fun _ => rfl⟩
  | true =>
    refine ⟨cluster_modCores s _ _, threadQueue_modCores s _ _, i_modCores (fun c => ?_) s _⟩
    rfl

/-- The event leaves the FIFO, and a copy of it is on its way into each core of its mask (R148 to R150). -/
theorem delivered_keeps (s : State) (cl : Nat) (x : RxEv) (rest : List RxEv) :
    (s.delivered cl x rest).cluster cl =
      { s.cluster cl with rx := rest, events := cnt32 (s.cluster cl).events } ∧
    (∀ j ∈ s.maskedCores cl x.ev.grp.toNat, ((s.delivered cl x rest).core j).i.crossing =
      (s.core j).i.crossing ++ [⟨x.ev.src, x.ev.pay, x.ev.tag, x.ev.gap, 0⟩]) ∧
    ∀ st cls, (s.delivered cl x rest).threadQueue st cls = s.threadQueue st cls := by
  obtain ⟨hcl, hqueue, hi⟩ :=
    markGap_keeps (s.modCluster cl fun c => { c with rx := rest, events := cnt32 c.events }) x.ev.gap cl
  refine ⟨?_, fun j hj => ?_, fun st cls => ?_⟩
  · rw [State.delivered, cluster_modCores, hcl, cluster_modCluster_self]
  · rw [State.delivered, core_modCores_of_nodup _ (nodup_maskedCores s cl _) hj, Core.receives, hi]
    rfl
  · rw [State.delivered, threadQueue_modCores, hqueue]
    rfl

theorem execRxLookup_of_accepts {s : State} {cl : Cluster} {x : RxEv} {xs : List RxEv}
    (h : (s.cluster cl.val).rx = x :: xs)
    (hacc : s.lossless x.tenant = true → s.coresAccept (s.maskedCores cl.val x.ev.grp.toNat) = true) :
    execRxLookup cl s = .next (if s.lossless x.tenant then
      (s.delivered cl.val x xs).sendPkt cl.val (.caneCred x.src x.stream cl.val 1) else s.delivered cl.val x xs) := by
  have hgo : (s.lossless x.tenant && !s.coresAccept (s.maskedCores cl.val x.ev.grp.toNat)) = false := by
    cases hl : s.lossless x.tenant with
    | false => rfl
    | true => rw [hacc hl]; rfl
  simp only [execRxLookup, h, hgo, Bool.false_eq_true, if_false]
  rfl

/-- The receive unit copies an event to every core of its mask, and in lossless mode returns its credit. -/
theorem answers_rxLookup {s : State} {cl : Cluster} {x : RxEv} {xs : List RxEv} (h : (s.cluster cl.val).rx = x :: xs)
    (hacc : s.lossless x.tenant = true → s.coresAccept (s.maskedCores cl.val x.ev.grp.toNat) = true) :
    Answers (.rxLookup cl) s fun u =>
      (u.cluster cl.val).rx = xs ∧ (u.cluster cl.val).events = cnt32 (s.cluster cl.val).events ∧
      (∀ j ∈ s.maskedCores cl.val x.ev.grp.toNat, (u.core j).i.crossing =
        (s.core j).i.crossing ++ [⟨x.ev.src, x.ev.pay, x.ev.tag, x.ev.gap, 0⟩]) ∧
      (s.lossless x.tenant = true →
        u.threadQueue cl.val 1 = enqueuePkt (.caneCred x.src x.stream cl.val 1) (s.threadQueue cl.val 1)) := by
  obtain ⟨hcl, hcopies, hqueue⟩ := delivered_keeps s cl.val x xs
  have hexec := execRxLookup_of_accepts h hacc
  by_cases hl : s.lossless x.tenant = true
  · rw [if_pos hl] at hexec
    have hsent : ((s.delivered cl.val x xs).sendPkt cl.val (.caneCred x.src x.stream cl.val 1)).cluster cl.val =
      (s.delivered cl.val x xs).cluster cl.val := rfl
    refine ⟨_, hexec, by rw [hsent, hcl], by rw [hsent, hcl], hcopies, fun _ => ?_⟩
    rw [← hqueue]
    exact threadQueue_sendPkt_self _ _ _
  · rw [if_neg hl] at hexec
    exact ⟨_, hexec, by rw [hcl], by rw [hcl], hcopies, fun hlossless => absurd hlossless hl⟩

/-- Settles O25: each clause leaves its command one branch, and what integrating keeps gives the rest. -/
theorem eventsReachAccumulators : Obligations.EventsReachAccumulators := by
  intro s c ev evs g gs x xs n raw k i fl credits clamp onlyAcc aux bad eventFirst segmentFirst returned
  have hclamp (y : Int) : sat24 y = clamp y := clampInt_eq_max_min (by decide) y
  have honly (u : State) (hu : ∀ a, ¬ inAccumulators c.key a → u.readByte a = s.readByte a) : onlyAcc u :=
    fun a ha => hu a fun ⟨hlo, hhi⟩ => ha.elim hlo.not_gt hhi.not_ge
  refine ⟨fun h => ⟨answers_coreIngress_of_room h, answers_coreIngress_of_late h, answers_coreIngress_of_full h⟩,
    fun ⟨hfifo, hfirst⟩ => ⟨fun htag => ?_, fun htag hphase hue hce => ?_⟩,
    fun ⟨hsegs, hfirst⟩ => ⟨fun htag => ?_, fun htag hphase hbad => ?_, fun htag hphase hbad hue => ?_⟩,
    fun hn => ?_, fun h hacc => answers_rxLookup h hacc⟩
  · exact answers_integrateEvent_of_late hfifo hfirst htag
  · obtain ⟨u, hexec, hevs, hhit, hbytes⟩ := answers_integrateEvent_of_due hfifo hfirst htag hphase hue hce
    exact ⟨u, hexec, hevs, hhit, fun hpre => honly u (hbytes hpre)⟩
  · exact answers_integrateSegment_of_late hsegs hfirst htag
  · exact answers_integrateSegment_of_bad hsegs hfirst htag hphase hbad
  · obtain ⟨u, hexec, hrest, hcnt, hcredit, hbytes⟩ :=
      answers_integrateSegment_of_good hsegs hfirst htag hphase hbad hue
    exact ⟨u, hexec, hrest, hcnt, hcredit, honly u hbytes⟩
  · rw [← hclamp, ← hclamp]
    exact addContribution_adds s c raw hn

end Sys2Proof.Machine

/-!
Scalar and vector registers, clamps, draws and masks (R64, R66, R81, R107 to R111): what the register writes of an
instruction leave of its engine.
-/

namespace Sys2Proof.Machine

/-! ### Writing registers -/

theorem computes_of_engineIs {s t : State} {c : CoreId} {i : Instr} {eff : State → Res} {f : Regs → Regs}
    (hx : exec i s = issued c i eff s) (he : eff s = .done t) (ht : EngineIs s t c.key (s.withRegs c.key f)) :
    Computes s c i f := fun h => answers_of_done hx h he ht

section
variable {s t : State} {k : Nat} {e : NEngine}

theorem engineIs_refl (s : State) (k : Nat) : EngineIs s s k (s.core k).e := ⟨onlyCore_refl s k, rfl⟩

theorem EngineIs.setG (h : EngineIs s t k e) (r : GReg) (w : Word) :
    EngineIs s (t.setG k r w) k { e with regs := e.regs.putG r w } := h.modE _

theorem EngineIs.setV (h : EngineIs s t k e) (r : VReg) (x : VVal) :
    EngineIs s (t.setV k r x) k { e with regs := e.regs.putV r x } := h.modE _

/-- A write of m0 is ignored (R64). -/
theorem EngineIs.setM (h : EngineIs s t k e) (r : MReg) (x : BitVec 16) :
    EngineIs s (t.setM k r x) k { e with regs := e.regs.putM r x } := by
  unfold State.setM Regs.putM
  split
  · exact h
  · exact h.modE _

theorem EngineIs.setRng (h : EngineIs s t k e) (w : Word) :
    EngineIs s (t.setRng k w) k { e with regs := { e.regs with rng := w } } := h.modE _

theorem EngineIs.noteClip (h : EngineIs s t k e) (b : Bool) :
    EngineIs s (t.noteClip k b) k { e with fl := { e.fl with vsat := e.fl.vsat || b } } := by
  cases b with
  | false => simpa [State.noteClip] using h
  | true => simpa [State.noteClip] using h.modE fun e => { e with fl := { e.fl with vsat := true } }

end

/-- A masked write of elements as the register set spells it (R109). -/
theorem vmask_vmap (m : BitVec 16) (f : Fin 16 → Word) (old : VVal) :
    vmask m (vmap f) old = Vector.ofFn fun e => if m.getLsbD e.val then f e else old[e.val] := by
  simp [vmask, vmap]

section
variable {s t : State} {k : Nat} {e : NEngine}

/-- A masked write, under a mask and over the elements that the register set holds (R109). -/
theorem EngineIs.setV_vmask (h : EngineIs s t k e) (r : VReg) (m : MReg) (f : Fin 16 → Word) :
    EngineIs s (t.setV k r (vmask (e.regs.readM m) (vmap f) e.regs.v[r.val])) k
      { e with regs := e.regs.putMasked r m f } := by
  rw [vmask_vmap]
  exact h.setV r _

end

/-! ### Clamps -/

theorem satWord_eq {lo hi : Int} (h : lo ≤ hi) (w : Word) : satWord lo hi w = BitVec.ofInt 32 (max lo (min hi w.toInt)) := by
  rw [satWord, clampInt_eq_max_min h]

theorem sat32_eq (x : Int) : sat32 x = max (-2 ^ 31) (min (2 ^ 31 - 1) x) := clampInt_eq_max_min (by decide) x

/-- The absolute value of −2^31 is clamped to 2^31 − 1 (R107). -/
theorem absWord_eq (w : Word) : absWord w = BitVec.ofInt 32 (min (2 ^ 31 - 1) |w.toInt|) := by
  rw [absWord, sat32_eq, Int.abs_eq_natAbs]
  congr 1
  omega

theorem mulsWord_eq (a b : Word) (n : Nat) :
    mulsWord a b n = BitVec.ofInt 32 (max (-2 ^ 31) (min (2 ^ 31 - 1) (a.toInt * b.toInt / 2 ^ n))) := by
  rw [mulsWord, sat32_eq]

/-! ### Draws (R81) -/

/-- The draws of a run of n are the successive states of the generator, and the last one stays (R81). -/
theorem draws_eq (x : Word) (n : Nat) :
    draws x n = ((List.range n).map fun i => xorshift^[i + 1] x, xorshift^[n] x) := by
  induction n generalizing x with
  | zero => rfl
  | succ n ih =>
    rw [draws, ih, List.range_succ_eq_map, List.map_cons, List.map_map]
    rfl

theorem draws_snd (x : Word) (n : Nat) : (draws x n).2 = xorshift^[n] x := by
  rw [draws_eq]

/-- The word drawn for element e of a vector is draw e + 1: element 0 draws first. -/
theorem drawn_draws (x : Word) (e : Fin 16) : drawn (draws x 16).1 e = xorshift^[e.val + 1] x := by
  rw [drawn, draws_eq, List.getD_eq_getElem _ _ (by simp), List.getElem_map, List.getElem_range]

/-! ### Scalar clamps and draws (O2) -/

theorem computes_scalar1 {s : State} {c : CoreId} {i : Instr} {rd ra : GReg} {f : Word → Word} {w : Word}
    (hx : exec i s = issued c i (scalar1 c.key rd ra f) s) (hw : f (s.getG c.key ra) = w) :
    Computes s c i fun r => r.putG rd w :=
  computes_of_engineIs hx rfl (hw ▸ (engineIs_refl s c.key).setG rd _)

theorem computes_scalar2 {s : State} {c : CoreId} {i : Instr} {rd ra rb : GReg} {f : Word → Word → Word} {w : Word}
    (hx : exec i s = issued c i (scalar2 c.key rd ra rb f) s) (hw : f (s.getG c.key ra) (s.getG c.key rb) = w) :
    Computes s c i fun r => r.putG rd w :=
  computes_of_engineIs hx rfl (hw ▸ (engineIs_refl s c.key).setG rd _)

/-- Settles O2: a clamp writes the clamped integer, and a draw is the next state of the generator. -/
theorem scalarSaturationAndDraws : Obligations.ScalarSaturationAndDraws := by
  intro s c rd ra rb sh a b r put clamp
  refine ⟨computes_scalar1 rfl (satWord_eq (by decide) _), computes_scalar1 rfl (satWord_eq (by decide) _),
    computes_scalar1 rfl (satWord_eq (by decide) _), computes_scalar1 rfl (absWord_eq _),
    computes_scalar2 rfl (mulsWord_eq _ _ _), ?rand, ?srs⟩
  case rand => exact computes_of_engineIs rfl rfl (((engineIs_refl s c.key).setRng r).setG rd r)
  case srs => exact computes_of_engineIs rfl rfl (((engineIs_refl s c.key).setRng r).setG rd _)

/-! ### Vector saturations and draws (O5) -/

/-- Some element under the mask is clipped. -/
theorem vany_clips (m : BitVec 16) (lo hi : Int) (a : VVal) : (vany m fun e => clips lo hi a[e.val]) =
    decide (∃ e : Fin 16, m.getLsbD e.val = true ∧ (a[e.val].toInt < lo ∨ hi < a[e.val].toInt)) := by
  rw [Bool.eq_iff_iff, decide_eq_true_iff]
  simp [vany, clips]

/-- The engine after a vector saturation of elements a into vd under mask m (R66, R110). -/
def NEngine.saturated (e : NEngine) (vd : VReg) (m : MReg) (lo hi : Int) (a : Fin 16 → Int) : NEngine :=
  let clipped : Bool := decide (∃ j : Fin 16, (e.regs.readM m).getLsbD j.val = true ∧ (a j < lo ∨ hi < a j))
  { e with
    regs := e.regs.putMasked vd m fun j => BitVec.ofInt 32 (max lo (min hi (a j)))
    fl := { e.fl with vsat := e.fl.vsat || clipped } }

/-- A vector saturation clamps the masked elements and notes whether one was clipped. -/
theorem answers_vsat {s : State} {c : CoreId} {i : Instr} {vd va : VReg} {m : MReg} {lo hi : Int}
    (hx : exec i s = issued c i (vsat c.key vd va m lo hi) s) (hlohi : lo ≤ hi) (hr : Ready s c i) :
    Answers i s fun t => EngineIs s t c.key
      ((s.core c.key).e.saturated vd m lo hi fun j => (s.getV c.key va)[j.val].toInt).movedOn := by
  refine answers_of_done hx hr rfl ?_
  simp only [NEngine.saturated, ← satWord_eq hlohi, ← vany_clips]
  exact ((engineIs_refl s c.key).setV_vmask vd m _).noteClip _

theorem effIVrand_eq (k : Nat) (vd : VReg) (m : MReg) (s : State) : effIVrand k vd m s =
    .done ((s.setRng k (xorshift^[16] (s.core k).e.regs.rng)).setV k vd
      (vmask (s.getM k m) (vmap fun e => xorshift^[e.val + 1] (s.core k).e.regs.rng) (s.getV k vd))) := by
  simp only [effIVrand, drawn_draws, draws_snd]

theorem effIVsrs_eq (k : Nat) (vd va : VReg) (m : MReg) (sh : BitVec 5) (s : State) : effIVsrs k vd va m sh s =
    .done ((s.setRng k (xorshift^[16] (s.core k).e.regs.rng)).setV k vd
      (vmask (s.getM k m) (vmap fun e =>
        sroundWith (xorshift^[e.val + 1] (s.core k).e.regs.rng) (s.getV k va)[e.val].toInt sh.toNat) (s.getV k vd))) := by
  simp only [effIVsrs, drawn_draws, draws_snd]

/-- Settles O5: a saturation notes its clips beside the masked write, and a draw of a vector takes sixteen states of
the generator. -/
theorem vectorSaturationAndDraws : Obligations.VectorSaturationAndDraws := by
  intro s c vd va m sh e0 a x clipped after does
  refine ⟨answers_vsat (lo := -128) (hi := 127) rfl (by decide), answers_vsat (lo := -32768) (hi := 32767) rfl (by decide),
    answers_vsat (lo := 0) (hi := 255) rfl (by decide), ?rand, ?srs⟩
  case rand =>
    refine computes_of_engineIs rfl (effIVrand_eq c.key vd m s) ?_
    exact ((engineIs_refl s c.key).setRng (x 16)).setV_vmask vd m fun e => x (e.val + 1)
  case srs =>
    refine computes_of_engineIs rfl (effIVsrs_eq c.key vd va m sh s) ?_
    exact ((engineIs_refl s c.key).setRng (x 16)).setV_vmask vd m _

/-! ### Compares and masks (O6) -/

theorem getLsbD_foldl_mmap (f : Fin 16 → Bool) (l : List (Fin 16)) (m : BitVec 16) (i : Fin 16) :
    (l.foldl (fun m e => if f e then m ||| (1#16 <<< e.val) else m) m).getLsbD i.val =
      (m.getLsbD i.val || (decide (i ∈ l) && f i)) := by
  induction l generalizing m with
  | nil => simp
  | cons e l ih =>
    have hbit : (m ||| 1#16 <<< e.val).getLsbD i.val = (m.getLsbD i.val || decide (i = e)) := by
      rw [BitVec.getLsbD_or, BitVec.getLsbD_shiftLeft, BitVec.getLsbD_one, decide_eq_true i.isLt, Bool.true_and]
      congr 1
      rw [Bool.eq_iff_iff, decide_eq_true_eq, Fin.ext_iff]
      simp only [Bool.and_eq_true, Bool.not_eq_true', decide_eq_true_eq, decide_eq_false_iff_not]
      omega
    rw [List.foldl_cons, ih]
    by_cases hie : i = e
    · subst hie
      by_cases hf : f i = true
      · rw [if_pos hf, hbit]
        simp [hf]
      · simp [hf]
    · have hmem : (i ∈ e :: l) = (i ∈ l) := by simp [hie]
      split
      · simp only [hbit, hmem, hie, decide_false, Bool.or_false]
      · simp only [hmem]

theorem getLsbD_mmap (f : Fin 16 → Bool) (i : Fin 16) : (mmap f).getLsbD i.val = f i := by
  rw [mmap, getLsbD_foldl_mmap, decide_eq_true (List.mem_finRange i)]
  simp

/-- The bits set in a mask, counted as the elements it holds. -/
theorem popMask_eq (m : BitVec 16) : popMask m = (Finset.univ.filter fun e : Fin 16 => m.getLsbD e.val = true).card := by
  rw [popMask, ← List.map_coe_finRange_eq_range, List.filter_map, List.length_map,
    ← List.toFinset_card_of_nodup ((List.nodup_finRange 16).filter _)]
  congr 1
  ext e
  simp

theorem computes_vcmp {s : State} {c : CoreId} {i : Instr} {md : MReg} {va vb : VReg} {f : Word → Word → Bool}
    {p : Fin 16 → Prop} (hx : exec i s = issued c i (vcmp c.key md va vb f) s)
    (hp : ∀ e : Fin 16, f (s.getV c.key va)[e.val] (s.getV c.key vb)[e.val] = true ↔ p e) :
    ∃ z : BitVec 16, (∀ e : Fin 16, z.getLsbD e.val = true ↔ p e) ∧ Computes s c i fun r => r.putM md z :=
  ⟨mmap fun e => f (s.getV c.key va)[e.val] (s.getV c.key vb)[e.val], fun e => by rw [getLsbD_mmap, hp],
    computes_of_engineIs hx rfl ((engineIs_refl s c.key).setM md _)⟩

theorem beq_iff_toInt_eq (x y : Word) : (x == y) = true ↔ x.toInt = y.toInt :=
  beq_iff_eq.trans BitVec.toInt_inj.symm

theorem bne_iff_toInt_ne (x y : Word) : (x != y) = true ↔ x.toInt ≠ y.toInt :=
  bne_iff_ne.trans BitVec.toInt_inj.not.symm

theorem computes_setM {s : State} {c : CoreId} {i : Instr} {eff : State → Res} {md : MReg} {z : BitVec 16}
    (hx : exec i s = issued c i eff s) (he : eff s = .done (s.setM c.key md z)) : Computes s c i fun r => r.putM md z :=
  computes_of_engineIs hx he ((engineIs_refl s c.key).setM md z)

/-- Settles O6: a compare writes the mask of the elements that it holds of, and every write of a mask ignores m0. -/
theorem vectorComparesAndMasks : Obligations.VectorComparesAndMasks := by
  intro s c md ma mb va vb g regs x y a b does
  refine ⟨?eq, ?ne, ?lt, ?le, ?gt, ?ge, ?and, ?or, ?xor, ?andn, ?not, ?mov, ?mfm, ?mpop⟩
  case eq => exact computes_vcmp (f := fun a b => a == b) rfl fun e => beq_iff_toInt_eq _ _
  case ne => exact computes_vcmp (f := fun a b => a != b) rfl fun e => bne_iff_toInt_ne _ _
  case lt => exact computes_vcmp (f := fun a b => decide (a.toInt < b.toInt)) rfl fun e => decide_eq_true_iff
  case le => exact computes_vcmp (f := fun a b => decide (a.toInt ≤ b.toInt)) rfl fun e => decide_eq_true_iff
  case gt => exact computes_vcmp (f := fun a b => decide (b.toInt < a.toInt)) rfl fun e => decide_eq_true_iff
  case ge => exact computes_vcmp (f := fun a b => decide (b.toInt ≤ a.toInt)) rfl fun e => decide_eq_true_iff
  case and => exact computes_setM rfl rfl
  case or => exact computes_setM rfl rfl
  case xor => exact computes_setM rfl rfl
  case andn => exact computes_setM rfl rfl
  case not => exact computes_setM rfl rfl
  case mov => exact computes_setM rfl rfl
  case mfm => exact computes_of_engineIs rfl rfl ((engineIs_refl s c.key).setG g _)
  case mpop =>
    rw [← popMask_eq]
    exact computes_of_engineIs rfl rfl ((engineIs_refl s c.key).setG g _)

end Sys2Proof.Machine

/-!
Blocks (R72 to R76, R79, R115, R121): the walk over the active and the pending set, the stamp of a block that is left,
and the instructions of the current block.
-/

namespace Sys2Proof.Machine

/-! ### Engines after an instruction -/

theorem g_movedOn (e : NEngine) : e.movedOn.regs.g = e.regs.g := by
  rw [NEngine.movedOn, settle_eq, NEngine.advance]
  split
  · split <;> rfl
  · rfl

theorem v_movedOn (e : NEngine) : e.movedOn.regs.v = e.regs.v := by
  rw [NEngine.movedOn, settle_eq, NEngine.advance]
  split
  · split <;> rfl
  · rfl

/-- A branch goes to its target, and leaves the block walk alone (R118 to R121). -/
theorem branch_keeps (e : NEngine) (t : BitVec 12) (endsLoop : Bool) :
    (e.branch t endsLoop).regs.pc = t ∧ (e.branch t endsLoop).blk = e.blk := by
  refine ⟨rfl, ?_⟩
  unfold NEngine.branch NEngine.endLoop
  split
  · split <;> rfl
  · rfl

/-- The engine after a branch, and after one that ends the active loop. -/
theorem jumped_keeps (e : NEngine) (t : BitVec 12) (endsLoop : Bool) :
    (e.retire.branch t endsLoop).settle.regs.pc = t ∧ (e.retire.branch t endsLoop).settle.blk = e.blk := by
  obtain ⟨hpc, hblk⟩ := branch_keeps e.retire t endsLoop
  rw [settle_eq]
  exact ⟨hpc, hblk⟩

/-! ### Stamps (R74) -/

/-- A block table entry with LAST_TICK replaced (R74, R75). -/
def stampedEntry (w tick : Word) : Word := BitVec.ofNat 32 (w.toNat / 2 ^ 24 * 2 ^ 24 + tick.toNat % 2 ^ 24)

theorem toNat_stampedEntry_mod (w tick : Word) : (stampedEntry w tick).toNat % 2 ^ 24 = tick.toNat % 2 ^ 24 := by
  have hw := w.isLt
  rw [stampedEntry, BitVec.toNat_ofNat]
  omega

/-- The engine with its block table entry b stamped. -/
def NEngine.stamped (e : NEngine) (b : Nat) : NEngine :=
  let entry := stampedEntry (Tab.get e.blk.table 0 b) e.fl.tick
  { e with blk := { e.blk with table := Tab.put e.blk.table 0 b entry } }

theorem engineIs_stamp (s : State) (k b : Nat) : EngineIs s (s.stamp k b) k ((s.core k).e.stamped b) :=
  engineIs_modE s k _

/-- The engine with its current block left: a block that NXTBLK.A made current is stamped (R74). -/
def NEngine.left (e : NEngine) : NEngine :=
  match e.blk.cur, e.blk.stampOnLeave with
  | some p, true => e.stamped p.val
  | _, _ => e

theorem engineIs_leaveBlock (s : State) (k : Nat) : EngineIs s (s.leaveBlock k) k (s.core k).e.left := by
  unfold State.leaveBlock NEngine.left
  cases (s.core k).e.blk.cur with
  | none => exact engineIs_refl s k
  | some p =>
    cases (s.core k).e.blk.stampOnLeave with
    | false => exact engineIs_refl s k
    | true => exact engineIs_stamp s k p.val

/-- Leaving the current block changes the block table alone. -/
theorem left_eq (e : NEngine) : e.left = { e with blk := { e.blk with table := e.left.blk.table } } := by
  unfold NEngine.left
  split <;> rfl

/-- The block that an engine leaves has TICK for its LAST_TICK, if NXTBLK.A had made it current. -/
def StampedWhenLeft (e : NEngine) (table : Tab Word) : Prop := ∀ p : Fin 512, e.blk.cur = some p →
  e.blk.stampOnLeave = true → (Tab.get table 0 p.val).toNat % 2 ^ 24 = e.fl.tick.toNat % 2 ^ 24

theorem stampedWhenLeft_left (e : NEngine) : StampedWhenLeft e e.left.blk.table := by
  intro p hcur hstamp
  have hleft : e.left = e.stamped p.val := by simp only [NEngine.left, hcur, hstamp]
  rw [hleft]
  exact (congrArg (fun w : Word => w.toNat % 2 ^ 24) (Tab.get_put_self ..)).trans (toNat_stampedEntry_mod _ _)

/-! ### The walk (R74, R121) -/

/-- Block b is the lowest of a set at or beyond a cursor. -/
theorem nextBlk_eq_some {x : BitVec 512} {cursor : Nat} {b : Fin 512} (hb : x.getLsbD b.val = true) (hle : cursor ≤ b.val)
    (hlow : ∀ j : Nat, cursor ≤ j → j < b.val → x.getLsbD j = false) : nextBlk x cursor = some b := by
  rw [nextBlk, List.find?_eq_some_iff_getElem]
  refine ⟨by simp [hb, hle], b.val, by simp, by simp, fun j hj => ?_⟩
  by_cases hcur : cursor ≤ j
  · simp [hlow j hcur hj]
  · simp [hcur]

theorem nextBlk_eq_none {x : BitVec 512} {cursor : Nat} (h : ∀ j : Nat, cursor ≤ j → x.getLsbD j = false) :
    nextBlk x cursor = none := by
  rw [nextBlk, List.find?_eq_none]
  intro i _ hi
  rw [Bool.and_eq_true, decide_eq_true_eq] at hi
  obtain ⟨hle, hset⟩ := hi
  rw [h i.val hle] at hset
  cases hset

theorem getLsbD_clrBlk (x : BitVec 512) (b j : Nat) :
    (clrBlk x b).getLsbD j = (x.getLsbD j && decide (j ≠ b)) := by
  rw [clrBlk, BitVec.getLsbD_and, BitVec.getLsbD_not, BitVec.getLsbD_shiftLeft, BitVec.getLsbD_one]
  by_cases hj : j < 512
  · congr 1
    rw [Bool.eq_iff_iff]
    simp only [hj, decide_true, Bool.true_and, Bool.not_eq_true', Bool.and_eq_false_iff, decide_eq_true_eq,
      Bool.not_eq_false', decide_eq_false_iff_not]
    omega
  · rw [BitVec.getLsbD_of_ge x j (by omega), Bool.false_and, Bool.false_and]

/-- The engine after NXTBLK has found block b: a block that it finds current again is not left (R74). -/
def NEngine.walkedTo (e : NEngine) (active : Bool) (b : Fin 512) (g : GReg) : NEngine :=
  let same := !active && e.blk.cur == some b
  let e1 := if same then e else e.left
  let blk := { e1.blk with cur := some b, stampOnLeave := active || (same && e1.blk.stampOnLeave) }
  { e1 with
    blk := if active then { blk with curA := b.val + 1 }
      else { blk with curP := b.val + 1, pending := clrBlk blk.pending b.val }
    regs := e1.regs.putG g (BitVec.ofNat 32 (16 * b.val)) }

/-- The engine after NXTBLK has found no block, before it branches. -/
def NEngine.walkedOff (e : NEngine) : NEngine :=
  { e.left with blk := { e.left.blk with cur := none, stampOnLeave := false } }

section
variable {s : State} {k : Nat} (g : GReg) (target : BitVec 12) {active : Bool} (hst : (s.core k).e.st = .update)
include hst

theorem walk_of_some {b : Fin 512} (hnext : nextBlk (if active then (s.core k).e.blk.active else (s.core k).e.blk.pending)
    (if active then (s.core k).e.blk.curA else (s.core k).e.blk.curP) = some b) :
    ∃ t, walk k g target active s = .done t ∧ EngineIs s t k ((s.core k).e.walkedTo active b g) := by
  refine ⟨_, by simp only [walk, hst, hnext, ne_eq, not_true_eq_false, if_false]; rfl, ?_⟩
  have hbase : EngineIs s (if (!active && (s.core k).e.blk.cur == some b) = true then s else s.leaveBlock k) k
      (if (!active && (s.core k).e.blk.cur == some b) = true then (s.core k).e else (s.core k).e.left) := by
    split
    · exact engineIs_refl s k
    · exact engineIs_leaveBlock s k
  exact (hbase.modE _).setG g _

theorem walk_of_none (hnext : nextBlk (if active then (s.core k).e.blk.active else (s.core k).e.blk.pending)
    (if active then (s.core k).e.blk.curA else (s.core k).e.blk.curP) = none) :
    ∃ t, walk k g target active s = .jump t target true ∧ EngineIs s t k (s.core k).e.walkedOff :=
  ⟨_, by simp only [walk, hst, hnext, ne_eq, not_true_eq_false, if_false]; rfl, (engineIs_leaveBlock s k).modE _⟩

end

/-- An instruction that is next, branches and leaves only its engine changed. -/
theorem answers_of_jump {s t : State} {c : CoreId} {i : Instr} {eff : State → Res} {e : NEngine} {target : BitVec 12}
    {endsLoop : Bool} (hx : exec i s = issued c i eff s) (h : Ready s c i) (he : eff s = .jump t target endsLoop)
    (ht : EngineIs s t c.key e) : Answers i s fun u => EngineIs s u c.key (e.retire.branch target endsLoop).settle :=
  ⟨_, by rw [hx, issued, issue_of_ready eff h, he], ht.modE _⟩

theorem Answers.imp {i : Instr} {s : State} {P Q : State → Prop} (h : Answers i s P) (hpq : ∀ t, P t → Q t) :
    Answers i s Q := by
  obtain ⟨t, hexec, hP⟩ := h
  exact ⟨t, hexec, hpq t hP⟩

theorem getG_of_walkedTo {u : State} {k : Nat} {e : NEngine} {active : Bool} {b : Fin 512} {g : GReg}
    (h : (u.core k).e = (e.walkedTo active b g).movedOn) : u.getG k g = BitVec.ofNat 32 (16 * b.val) := by
  simp only [State.getG, h, g_movedOn, NEngine.walkedTo, Regs.putG, Vector.getElem_set_self]

theorem pending_walkedTo (e : NEngine) (b : Fin 512) (g : GReg) :
    (e.walkedTo false b g).blk.pending = clrBlk e.blk.pending b.val := by
  have hleft : e.left.blk.pending = e.blk.pending := congrArg (·.blk.pending) (left_eq e)
  cases hsame : e.blk.cur == some b <;> simp [NEngine.walkedTo, hsame, hleft]

theorem table_walkedTo {e : NEngine} {b : Fin 512} (g : GReg) (h : e.blk.cur ≠ some b) :
    (e.walkedTo false b g).blk.table = e.left.blk.table := by
  simp [NEngine.walkedTo, h]

/-- Settles O9: what NXTBLK finds is the lowest block of its set at or beyond its cursor, or none, and the walk leaves
the current block in between. -/
theorem blockWalk : Obligations.BlockWalk := by
  intro s c g target b k e first absent left outside hst
  have hleft (u : State) (htab : (u.core k).e.blk.table = e.left.blk.table) : left u := by
    show StampedWhenLeft e (u.core k).e.blk.table
    rw [htab]
    exact stampedWhenLeft_left e
  have hoff (u : State) (h : EngineIs s u k (e.walkedOff.retire.branch target true).settle) :
      (u.core k).e.blk.cur = none ∧ (u.core k).e.regs.pc = target ∧ left u ∧ outside u := by
    obtain ⟨houtside, hcore⟩ := h
    obtain ⟨hpc, hblk⟩ := jumped_keeps e.walkedOff target true
    refine ⟨?_, ?_, hleft u ?_, houtside⟩
    · rw [hcore, hblk]
      rfl
    · rw [hcore, hpc]
    · rw [hcore, hblk]
      rfl
  refine ⟨fun hr ⟨hset, hle, hlow⟩ => ?foundA, fun hr ⟨hset, hle, hlow⟩ => ?foundP, fun hr habsent => ?noneA,
    fun hr habsent => ?noneP⟩
  case foundA =>
    obtain ⟨t, hwalk, ht⟩ := walk_of_some (active := true) g target hst (nextBlk_eq_some hset hle hlow)
    refine (answers_of_done rfl hr hwalk ht).imp fun u ⟨houtside, hcore⟩ => ?_
    have hblk : (u.core k).e.blk = (e.walkedTo true b g).blk := by rw [hcore]; exact blk_movedOn _
    rw [hblk]
    refine ⟨rfl, rfl, getG_of_walkedTo (congrArg Core.e hcore), ?_, hleft u ?_, houtside⟩
    · exact congrArg (·.blk.pending) (left_eq e)
    · rw [hblk]
      rfl
  case foundP =>
    obtain ⟨t, hwalk, ht⟩ := walk_of_some (active := false) g target hst (nextBlk_eq_some hset hle hlow)
    refine (answers_of_done rfl hr hwalk ht).imp fun u ⟨houtside, hcore⟩ => ?_
    have hblk : (u.core k).e.blk = (e.walkedTo false b g).blk := by rw [hcore]; exact blk_movedOn _
    rw [hblk]
    refine ⟨rfl, rfl, getG_of_walkedTo (congrArg Core.e hcore), fun j => ?_, fun hcur => hleft u ?_, houtside⟩
    · rw [pending_walkedTo, getLsbD_clrBlk]
    · rw [hblk, table_walkedTo g hcur]
  case noneA =>
    obtain ⟨t, hwalk, ht⟩ := walk_of_none (active := true) g target hst (nextBlk_eq_none habsent)
    exact (answers_of_jump rfl hr hwalk ht).imp hoff
  case noneP =>
    obtain ⟨t, hwalk, ht⟩ := walk_of_none (active := false) g target hst (nextBlk_eq_none habsent)
    exact (answers_of_jump rfl hr hwalk ht).imp hoff

end Sys2Proof.Machine

/-!
The current block (R71 to R76, R79, R115): marks, holds, stamps, decay and scaling.
-/

namespace Sys2Proof.Machine

/-! ### Block-relative instructions -/

/-- In UPDATE with a current block, a block-relative instruction does its effect on it (R71). -/
theorem blockRel_of_cur {s : State} {k : Nat} {b : Fin 512} (eff : State → Fin 512 → Res)
    (hst : (s.core k).e.st = .update) (hcur : (s.core k).e.blk.cur = some b) : blockRel k eff s = eff s b := by
  simp only [blockRel, hst, hcur, ne_eq, not_true_eq_false, if_false]

/-! ### Decay and scaling (R76, R79) -/

/-- The product with a decay factor is rounded toward zero (R76). -/
theorem decayWord_eq (w : Word) (f : Nat) : decayWord w f = BitVec.ofInt 32 ((w.toInt * f).tdiv 65536) := by
  simp only [decayWord]
  congr 1
  split
  · rename_i h
    exact (Int.tdiv_eq_ediv_of_nonneg h).symm
  · rename_i h
    rw [← Int.tdiv_eq_ediv_of_nonneg (by omega), Int.neg_tdiv, Int.neg_neg]

/-- The integer that VSCL writes: up with saturation, down with the addend r before the shift (R79). -/
def scaled (a sh : Int) (r : Nat) : Int :=
  if 0 ≤ sh then max (-2 ^ 31) (min (2 ^ 31 - 1) (a * 2 ^ sh.toNat)) else (a + r) / 2 ^ (-sh).toNat

theorem scaleWord_none (w : Word) (sh : Int) : scaleWord w sh none = BitVec.ofInt 32 (scaled w.toInt sh 0) := by
  unfold scaleWord scaled
  split
  · rw [sat32_eq]
  · simp

theorem scaleWord_some (w : Word) (sh : Int) (r : Word) :
    scaleWord w sh (some r) = BitVec.ofInt 32 (scaled w.toInt sh (r.toNat % 2 ^ (-sh).toNat)) := by
  unfold scaleWord scaled
  split
  · rw [sat32_eq]
  · rfl

section
variable {s : State} {c : CoreId} {b : Fin 512} (hst : (s.core c.key).e.st = .update)
  (hcur : (s.core c.key).e.blk.cur = some b)
include hst hcur

theorem computes_decay (vd va : VReg) (m : MReg) (ga : GReg) : Computes s c (.iDecay c vd va m ga) fun r =>
    r.putMasked vd m fun i => decayWord (s.getV c.key va)[i.val]
      (alphaPow ((s.getG c.key ga).toNat % 2 ^ 16) (s.belapsed c.key)) :=
  computes_of_engineIs rfl (blockRel_of_cur _ hst hcur) ((engineIs_refl s c.key).setV_vmask vd m _)

/-- VSCL draws sixteen times where its channel rounds stochastically, and not otherwise (R79). -/
theorem computes_vscl (vd va : VReg) (m : MReg) :
    let sh := s.scaleShift c.key (s.bchan c.key)
    let stoch := s.scaleStoch c.key (s.bchan c.key)
    let x (n : Nat) : Word := xorshift^[n] (s.core c.key).e.regs.rng
    Computes s c (.iVscl c vd va m) fun r =>
      { r with rng := if stoch then x 16 else r.rng }.putMasked vd m fun i => BitVec.ofInt 32
        (scaled (s.getV c.key va)[i.val].toInt sh (if stoch then (x (i.val + 1)).toNat % 2 ^ (-sh).toNat else 0)) := by
  intro sh stoch x
  cases hstoch : stoch with
  | false =>
    have heff : effIVscl c.key vd va m s = .done (s.setV c.key vd (vmask (s.getM c.key m)
        (vmap fun i => scaleWord (s.getV c.key va)[i.val] sh none) (s.getV c.key vd))) := by
      rw [effIVscl, blockRel_of_cur _ hst hcur]
      exact if_neg (by rw [Bool.not_eq_true]; exact hstoch)
    refine computes_of_engineIs rfl heff ?_
    simp only [scaleWord_none, Bool.false_eq_true, if_false]
    exact (engineIs_refl s c.key).setV_vmask vd m _
  | true =>
    have heff : effIVscl c.key vd va m s = .done ((s.setRng c.key (x 16)).setV c.key vd (vmask (s.getM c.key m)
        (vmap fun i => scaleWord (s.getV c.key va)[i.val] sh (some (x (i.val + 1)))) (s.getV c.key vd))) := by
      have hdrawn (i : Fin 16) : x (i.val + 1) = drawn (draws (s.core c.key).e.regs.rng 16).1 i :=
        (drawn_draws _ i).symm
      simp only [hdrawn]
      rw [effIVscl, blockRel_of_cur _ hst hcur, show x 16 = _ from (draws_snd _ 16).symm]
      exact if_pos hstoch
    refine computes_of_engineIs rfl heff ?_
    simp only [scaleWord_some, if_true]
    exact ((engineIs_refl s c.key).setRng (x 16)).setV_vmask vd m _

theorem answers_pmark (m : MReg) (hr : Ready s c (.iPmark c m)) : Answers (.iPmark c m) s fun t =>
    let e := (s.core c.key).e
    EngineIs s t c.key (NEngine.movedOn { e with blk := { e.blk with
      pending := if e.regs.readM m ≠ 0 then setBlk e.blk.pending b.val else e.blk.pending } }) := by
  have heff : effIPmark c.key m s = (if s.getM c.key m = 0 then .done s
      else .done (s.modE c.key fun e => { e with blk := { e.blk with pending := setBlk e.blk.pending b } })) :=
    blockRel_of_cur _ hst hcur
  by_cases hm : (s.core c.key).e.regs.readM m = 0
  · simp only [hm, ne_eq, not_true_eq_false, if_false]
    exact answers_of_done rfl hr (heff.trans (if_pos hm)) (engineIs_refl s c.key)
  · simp only [hm, ne_eq, not_false_eq_true, if_true]
    exact answers_of_done rfl hr (heff.trans (if_neg hm)) (engineIs_modE s c.key _)

end

/-- Settles O11: each clause is what its effect writes of the engine. -/
theorem blockInstructions : Obligations.BlockInstructions := by
  intro s c vd va m ga b k e a f sh stoch x up down any old stamped hst hcur
  refine ⟨?decay, ?vscl, answers_pmark hst hcur m, ?hold, ?bstamp⟩
  case decay =>
    have h := computes_decay hst hcur vd va m ga
    simp only [decayWord_eq] at h
    exact h
  case vscl => exact computes_vscl hst hcur vd va m
  case hold => exact fun hr => answers_of_done rfl hr (blockRel_of_cur _ hst hcur) (engineIs_modE s k _)
  case bstamp => exact fun hr => answers_of_done rfl hr (blockRel_of_cur _ hst hcur) (engineIs_stamp s k b.val)

end Sys2Proof.Machine

/-!
Accumulators (R73, R115): what reading and clearing the sixteen of a block leaves of memory and of the engine.
-/

namespace Sys2Proof.Machine

/-! ### Folds of writes -/

/-- What one step of a fold brings about, and every step for another element keeps, holds after the fold. -/
theorem foldl_of_mem {σ ι : Type} {f : σ → ι → σ} {P : σ → Prop} {i : ι} {l : List ι} (hi : i ∈ l)
    (hset : ∀ u, P (f u i)) (hkeep : ∀ u j, j ≠ i → P u → P (f u j)) (s : σ) : P (l.foldl f s) := by
  obtain ⟨before, after, rfl⟩ := List.append_of_mem hi
  rw [List.foldl_append, List.foldl_cons]
  refine List.foldlRecOn after f (hset _) fun u hu j _ => ?_
  by_cases hj : j = i
  · exact hj ▸ hset u
  · exact hkeep u j hj hu

theorem readWord_congr {s t : State} {a : Nat} (h : ∀ j, j < 4 → t.readByte (a + j) = s.readByte (a + j)) :
    t.readWord a = s.readWord a := by
  rw [State.readWord, State.readWord]
  congr 2
  exact List.map_congr_left fun j hj => h j (List.mem_range.mp hj)

/-! ### Clearing accumulators -/

theorem readByte_modE (s : State) (k : Nat) (f : NEngine → NEngine) (a : Nat) : (s.modE k f).readByte a = s.readByte a :=
  rfl

theorem readWord_modE (s : State) (k : Nat) (f : NEngine → NEngine) (a : Nat) : (s.modE k f).readWord a = s.readWord a :=
  rfl

section
variable {k b : Nat} (s : State)

theorem readByte_setAcc_of_apart {n a : Nat} (x : Int) (h : a < acAddr k n ∨ acAddr k n + 4 ≤ a) :
    (s.setAcc k n x).readByte a = s.readByte a :=
  readByte_writeWord_of_apart s _ h (pred_apart_of_word (acAddr_mod_four k n) h)

theorem core_setAcc (n j : Nat) (x : Int) : (s.setAcc k n x).core j = s.core j := core_writeWord ..

theorem readWord_setAcc_zero {n : Nat} (hk : k < 1024) (hn : n < 8192) : (s.setAcc k n 0).readWord (acAddr k n) = 0 := by
  rw [State.setAcc, readWord_writeWord_top _ _ _ (fun _ hj => isTop_acAddr k n hj) (isTop_acAddr_three hk hn)]
  decide

theorem core_clearAcc (j : Nat) : (s.clearAcc k b).core j = s.core j :=
  List.foldlRecOn (motive := fun u : State => u.core j = s.core j) (List.range 16) _ rfl
    fun u hu _ _ => (core_setAcc u _ j 0).trans hu

/-- Clearing a block's accumulators leaves every byte outside them as it was. -/
theorem readByte_clearAcc_of_apart {a : Nat} (h : a < acAddr k (16 * b) ∨ acAddr k (16 * b + 16) ≤ a) :
    (s.clearAcc k b).readByte a = s.readByte a := by
  refine List.foldlRecOn (motive := fun u : State => u.readByte a = s.readByte a) (List.range 16) _ rfl
    fun u hu e he => ?_
  have he16 := List.mem_range.mp he
  rw [readByte_setAcc_of_apart u 0 (by unfold acAddr at *; omega), hu]

theorem readWord_clearAcc (hk : k < 1024) (hb : b < 512) {i : Nat} (hi : i < 16) :
    (s.clearAcc k b).readWord (acAddr k (16 * b + i)) = 0 := by
  have hset (u : State) : (u.setAcc k (16 * b + i) 0).readWord (acAddr k (16 * b + i)) = 0 :=
    readWord_setAcc_zero u hk (by omega)
  have hkeep (u : State) (j : Nat) (hj : j ≠ i) (hu : u.readWord (acAddr k (16 * b + i)) = 0) :
      (u.setAcc k (16 * b + j) 0).readWord (acAddr k (16 * b + i)) = 0 := by
    rw [← hu]
    exact readWord_congr fun n hn => readByte_setAcc_of_apart u 0 (by unfold acAddr; omega)
  exact foldl_of_mem (f := fun u e => State.setAcc u k (16 * b + e) 0)
    (P := fun u : State => u.readWord (acAddr k (16 * b + i)) = 0) (List.mem_range.mpr hi) hset hkeep s

end

/-! ### VACC and ACLR -/

/-- The engine after its block's saturation flag has been moved to STAT.SATF (R73). -/
def NEngine.satTaken (e : NEngine) (b : Nat) : NEngine :=
  { e with fl := { e.fl with satf := e.blk.sat.getLsbD b }, blk := { e.blk with sat := clrBlk e.blk.sat b } }

theorem core_clearAcc_takeSat (s : State) (k b : Nat) :
    ((s.clearAcc k b).takeSat k b).core k = { s.core k with e := (s.core k).e.satTaken b } := by
  rw [State.takeSat, core_modE_self, core_clearAcc]
  rfl

/-- An instruction that is next and falls through. -/
theorem answers_of_done_state {s t : State} {c : CoreId} {i : Instr} {eff : State → Res} {P : State → Prop}
    (hx : exec i s = issued c i eff s) (h : Ready s c i) (he : eff s = .done t)
    (hP : P (t.modE c.key NEngine.movedOn)) : Answers i s P :=
  ⟨_, by rw [hx, issued, issue_of_ready eff h, he]; rfl, hP⟩

theorem getV_setV_self (s : State) (k : Nat) (r : VReg) (x : VVal) : (s.setV k r x).getV k r = x := by
  rw [State.getV, State.setV, core_modE_self, Vector.getElem_set_self]

theorem getV_setV_of_ne (s : State) (k : Nat) {r r' : VReg} (x : VVal) (h : r' ≠ r) :
    (s.setV k r x).getV k r' = s.getV k r' := by
  have hval : r.val ≠ r'.val := fun e => h (Fin.ext e.symm)
  simp only [State.getV, State.setV, core_modE_self, Vector.getElem_set_ne _ _ hval]

theorem accUe_eq_false {s : State} {k b : Nat} (h : ∀ i, i < 16 → s.ueAt (acAddr k (16 * b + i)) = false) :
    s.accUe k b = false := by
  simpa [State.accUe] using h

/-- The sixteen words that VACC reads. -/
def State.accWords (s : State) (k b : Nat) : VVal := vmap fun e => s.readWord (acAddr k (16 * b + e.val))

theorem getElem_accWords (s : State) (k b : Nat) (i : Fin 16) :
    (s.accWords k b)[i.val] = s.readWord (acAddr k (16 * b + i.val)) := by
  simp [State.accWords, vmap]

section
variable {s : State} {c : CoreId} {b : Fin 512} (hst : (s.core c.key).e.st = .update)
  (hcur : (s.core c.key).e.blk.cur = some b)
  (hue : ∀ i, i < 16 → s.ueAt (acAddr c.key (16 * b.val + i)) = false)
include hst hcur hue

theorem effIVacc_of_cur (vd : VReg) : effIVacc c.key vd s = .done
    (((s.setV c.key vd (s.accWords c.key b.val)).clearAcc c.key b.val).takeSat c.key b.val) := by
  rw [effIVacc, blockRel_of_cur _ hst hcur]
  exact if_neg (by rw [accUe_eq_false hue]; exact Bool.false_ne_true)

theorem effIAclr_of_cur : effIAclr c.key s = .done ((s.clearAcc c.key b.val).takeSat c.key b.val) := by
  rw [effIAclr, blockRel_of_cur _ hst hcur]
  exact if_neg (by rw [accUe_eq_false hue]; exact Bool.false_ne_true)

end

section
variable (t : State) {k : Nat} {b : Nat}

/-- The state after a block's accumulators have been cleared, its flag taken, and the engine has moved on. -/
def State.accTaken (t : State) (k b : Nat) : State := ((t.clearAcc k b).takeSat k b).modE k NEngine.movedOn

theorem core_accTaken : ((t.accTaken k b).core k).e = ((t.core k).e.satTaken b).movedOn := by
  rw [State.accTaken, core_modE_self, core_clearAcc_takeSat]

theorem readByte_accTaken (a : Nat) : (t.accTaken k b).readByte a = (t.clearAcc k b).readByte a := by
  rw [State.accTaken, readByte_modE, State.takeSat, readByte_modE]

theorem readWord_accTaken (a : Nat) : (t.accTaken k b).readWord a = (t.clearAcc k b).readWord a := by
  rw [State.accTaken, readWord_modE, State.takeSat, readWord_modE]

theorem getV_accTaken (r : VReg) : (t.accTaken k b).getV k r = t.getV k r := by
  rw [State.getV, core_accTaken, v_movedOn]
  rfl

end

/-- Settles O12: both instructions clear the accumulators and take the flag, VACC after a write of its register. -/
theorem accumulatorReads : Obligations.AccumulatorReads := by
  intro s c vd b k e ac cleared hst hcur hue
  have hcleared (t : State) (hmem : ∀ a, t.readByte a = s.readByte a) (hblk : (t.core k).e.blk = e.blk) :
      cleared (t.accTaken k b.val) := by
    refine ⟨fun i hi => ?_, fun a ha => ?_, ?_, fun j => ?_⟩
    · rw [readWord_accTaken]
      exact readWord_clearAcc t (key_lt c) b.isLt hi
    · rw [readByte_accTaken, readByte_clearAcc_of_apart t ha, hmem]
    · rw [core_accTaken, fl_movedOn, NEngine.satTaken, hblk]
    · rw [core_accTaken, blk_movedOn, ← hblk]
      exact getLsbD_clrBlk _ _ _
  have hvacc : Ready s c (.iVacc c vd) → Answers (.iVacc c vd) s fun t =>
      t = (s.setV k vd (s.accWords k b.val)).accTaken k b.val :=
    fun hr => answers_of_done_state rfl hr (effIVacc_of_cur hst hcur hue vd) rfl
  have haclr : Ready s c (.iAclr c) → Answers (.iAclr c) s fun t => t = s.accTaken k b.val :=
    fun hr => answers_of_done_state rfl hr (effIAclr_of_cur hst hcur hue) rfl
  refine ⟨fun hr => (hvacc hr).imp ?_, fun hr => (haclr hr).imp ?_⟩
  · rintro _ rfl
    have hblk : ((s.setV k vd (s.accWords k b.val)).core k).e.blk = e.blk := by rw [State.setV, core_modE_self]
    refine ⟨hcleared _ (fun _ => rfl) hblk, fun i => ?_, fun r hne => ?_⟩
    · rw [getV_accTaken, getV_setV_self, getElem_accWords]
    · rw [getV_accTaken, getV_setV_of_ne _ _ _ hne]
  · rintro _ rfl
    exact ⟨hcleared s (fun _ => rfl) rfl, getV_accTaken s⟩

end Sys2Proof.Machine

/-!
Vector loads and stores, and what every view loads (R67, R68, R112 to R114).
-/

namespace Sys2Proof.Machine

/-! ### Loads -/

theorem sextWord_sixteen (w : Word) : sextWord 16 w = (w.setWidth 16).signExtend 32 := by
  rw [BitVec.signExtend, sextWord, sextNat, BitVec.toInt_eq_toNat_cond, BitVec.toNat_setWidth]
  congr 1
  split <;> split <;> omega

theorem sextWord_sixteen_high (w : Word) : sextWord 16 (w >>> 16) = (w.extractLsb' 16 16).signExtend 32 := by
  rw [sextWord_sixteen, BitVec.setWidth_ushiftRight_eq_extractLsb]

/-- What each view and suffix loads of element j (R68). -/
def State.viewElement (s : State) (c : CoreId) (view sfx j : Nat) : Word :=
  match view, sfx with
  | 0, 0 => ((s.readWord (nsAddr c.key j)).setWidth 16).signExtend 32
  | 0, 1 => ((s.readWord (nsAddr c.key j)).extractLsb' 16 16).signExtend 32
  | 0, _ => s.readWord (nsAddr c.key j)
  | 1, _ => s.readWord (acAddr c.key j)
  | 2, 1 => (s.readByte (trAddr c.key j + 1)).signExtend 32
  | 2, _ => (s.readByte (trAddr c.key j)).signExtend 32
  | 3, _ => (s.scaleReg c.key j).zeroExtend 32
  | 4, _ => s.readWord (lbAddr c.key j)
  | 5, _ => s.readWord (synAddr c.key j)
  | _, _ => s.readWord (shAddr c.cl.val j)

theorem viewLoad_eq_viewElement (s : State) (c : CoreId) {view sfx : Nat} (j : Nat) (hview : view < 7) (hsfx : sfx < 3) :
    s.viewLoad c.key view sfx j = s.viewElement c view sfx j := by
  unfold State.viewElement
  split
  case h_1 => exact sextWord_sixteen _
  case h_2 => exact sextWord_sixteen_high _
  case h_3 h0 h1 =>
    have hsfx0 : sfx ≠ 0 := h0
    have hsfx1 : sfx ≠ 1 := h1
    obtain rfl : sfx = 2 := by omega
    rfl
  case h_4 => rfl
  case h_5 => rfl
  case h_6 hne =>
    have hlow : (sfx == 1) = false := beq_eq_false_iff_ne.mpr hne
    rw [viewLoad_tr, hlow]
    rfl
  case h_7 => rfl
  case h_8 => rfl
  case h_9 => rfl
  case h_10 h0 h1 h2 h3 h4 h5 _ _ _ =>
    obtain rfl : view = 6 := by grind
    exact congrArg (fun cl => s.readWord (shAddr cl j)) (key_div c)

theorem vany_eq_false {m : BitVec 16} {f : Fin 16 → Bool} (h : ∀ e : Fin 16, m.getLsbD e.val = true → f e = false) :
    vany m f = false := by
  rw [vany, List.any_eq_false]
  intro e _ he
  rw [Bool.and_eq_true] at he
  obtain ⟨hm, hf⟩ := he
  rw [h e hm] at hf
  cases hf

section
variable {s : State} {c : CoreId} {ra : GReg} {view : Fin 7} {sfx : Fin 3} {off : BitVec 11} {i : Nat}
  (hx : s.viewIndex c.key view.val ra off = some i)
include hx

/-- LD of an element that holds no uncorrectable error loads it (R114). -/
theorem computes_ld (reg : GReg) (hue : s.viewUe c.key view.val sfx.val i false = false)
    (hsy : view.val = 5 → s.ueAt (synAddr c.key (i - i % 2)) = false) : Computes s c (.iLd c reg ra view sfx off)
      fun r => r.putG reg (s.viewLoad c.key view.val sfx.val i) := by
  have hgo : ¬(view.val = 5 ∧ s.ueAt (viewEccAddr c.key 5 i) = true) := fun ⟨h5, h⟩ => by
    rw [viewEccAddr, if_pos rfl, hsy h5] at h
    cases h
  have heff : effILd c.key reg ra view sfx off s = .done (s.setG c.key reg (s.viewLoad c.key view.val sfx.val i)) := by
    simp only [effILd, hx, hue, if_neg hgo, Bool.false_eq_true, if_false]
  exact computes_of_engineIs rfl heff ((engineIs_refl s c.key).setG reg _)

/-- VLD loads the masked elements of the block that holds the index (R114). -/
theorem computes_vld (vd : VReg) (m : MReg) (hue : ∀ j : Fin 16, ((s.core c.key).e.regs.readM m).getLsbD j.val = true →
    s.viewUe c.key view.val sfx.val (16 * (i / 16) + j.val) false = false) :
    Computes s c (.iVld c vd ra view sfx m off) fun r =>
      r.putMasked vd m fun j => s.viewLoad c.key view.val sfx.val (16 * (i / 16) + j.val) := by
  have hany : vany (s.getM c.key m) (fun j => s.viewUe c.key view.val sfx.val (16 * (i / 16) + j.val) false) = false :=
    vany_eq_false hue
  have heff : effIVld c.key vd ra view sfx m off s = .done (s.setV c.key vd (vmask (s.getM c.key m)
      (vmap fun j => s.viewLoad c.key view.val sfx.val (16 * (i / 16) + j.val)) (s.getV c.key vd))) := by
    simp only [effIVld, hx, hany, Bool.false_eq_true, if_false]
  exact computes_of_engineIs rfl heff ((engineIs_refl s c.key).setV_vmask vd m _)

end

/-- Settles O15: a load writes what viewLoad gives, view by view. -/
theorem viewLoads : Obligations.ViewLoads := by
  intro s c reg ra vd view sfx m off i k base element hx
  have helement (j : Nat) : s.viewLoad k view.val sfx.val j = element j := viewLoad_eq_viewElement s c j view.isLt sfx.isLt
  refine ⟨fun hue hsy => ?ld, fun hue => ?vld⟩
  case ld =>
    rw [← helement]
    exact computes_ld hx reg hue hsy
  case vld =>
    simp only [← helement]
    exact computes_vld hx vd m hue

/-! ### Elements of the views that VST writes -/

/-- The views that VST may write are NS, AC and TR (R113). -/
theorem storeForm_of_viewOk_vector : ∀ (view : Fin 7) (sfx : Fin 3), viewOk view.val sfx.val true = true →
    StoreForm view.val sfx.val ∧ view.val ≤ 2 := by
  intro view sfx h
  have hscalar : viewOk view.val sfx.val false = true ∧ view.val ≤ 2 := by
    revert view sfx
    decide
  obtain ⟨hok, hle⟩ := hscalar
  exact ⟨storeForm_of_viewOk view sfx hok (by omega) (by omega), hle⟩

/-- Where element n of NS, AC or TR lies: its first byte, and how many. -/
def elementAt (k view n : Nat) : Nat × Nat :=
  match view with
  | 0 => (nsAddr k n, 4)
  | 1 => (acAddr k n, 4)
  | _ => (trAddr k n, 2)

theorem size_of_view_le_two {view : Nat} (h : view ≤ 2) : viewSize view = 8192 :=
  match view, h with
  | 0, _ => rfl
  | 1, _ => rfl
  | 2, _ => rfl

theorem traceHalf_congr {s t : State} {k n : Nat}
    (h : ∀ j, j < 2 → t.readByte (trAddr k n + j) = s.readByte (trAddr k n + j)) (high : Bool) :
    t.traceHalf k n high = s.traceHalf k n high := h _ (b2n_lt_two high)

/-- What is loaded of an element rests on its own bytes. -/
theorem viewLoad_congr {s t : State} {k view sfx n : Nat} (hf : StoreForm view sfx) (hle : view ≤ 2)
    (h : ∀ j, j < (elementAt k view n).2 → t.readByte ((elementAt k view n).1 + j) = s.readByte ((elementAt k view n).1 + j)) :
    t.viewLoad k view sfx n = s.viewLoad k view sfx n := by
  cases hf with
  | nsLow =>
    have hw : t.readWord (nsAddr k n) = s.readWord (nsAddr k n) := readWord_congr h
    rw [viewLoad_nsLow, viewLoad_nsLow, hw]
  | nsHigh =>
    have hw : t.readWord (nsAddr k n) = s.readWord (nsAddr k n) := readWord_congr h
    rw [viewLoad_nsHigh, viewLoad_nsHigh, hw]
  | ns => exact readWord_congr h
  | ac => exact readWord_congr h
  | trLow => rw [viewLoad_tr, viewLoad_tr, traceHalf_congr h]
  | trHigh => rw [viewLoad_tr, viewLoad_tr, traceHalf_congr h]
  | sc => omega
  | sh => omega

/-- The bytes that a store writes lie in their own element, apart from every other. -/
theorem elementAt_apart {cl k view sfx n n' : Nat} (hf : StoreForm view sfx) (hle : view ≤ 2) (hne : n ≠ n') {j : Nat}
    (hj : j < (elementAt k view n).2) :
    (elementAt k view n).1 + j < (storedAt cl k view sfx n').1 ∨
      (storedAt cl k view sfx n').1 + (storedAt cl k view sfx n').2 ≤ (elementAt k view n).1 + j := by
  cases hf <;> simp only [elementAt, storedAt, nsAddr, acAddr, trAddr] at hj ⊢ <;> omega

/-- The bytes that VST writes of element n of NS, AC or TR: the first one, and how many (R68). -/
def vectorCell (k view sfx n : Nat) : Nat × Nat :=
  match view, sfx with
  | 0, 0 => (nsAddr k n, 2)
  | 0, 1 => (nsAddr k n + 2, 2)
  | 0, _ => (nsAddr k n, 4)
  | 1, _ => (acAddr k n, 4)
  | _, 1 => (trAddr k n + 1, 1)
  | _, _ => (trAddr k n, 1)

theorem storedAt_eq_vectorCell {cl k view sfx n : Nat} (hf : StoreForm view sfx) (hle : view ≤ 2) :
    storedAt cl k view sfx n = vectorCell k view sfx n := by
  cases hf with
  | sc => omega
  | sh => omega
  | _ => rfl

/-- What an element of NS, AC or TR reads as after a store of w (R68). -/
def storedValue (view sfx : Nat) (w : Word) : Word :=
  if narrows view sfx then satWord (-2 ^ (halfBits view - 1)) (2 ^ (halfBits view - 1) - 1) w
  else if view = 1 then (w.setWidth 24).signExtend 32 else w

theorem viewLoad_viewStore {k view sfx n : Nat} (s : State) (w : Word) (hf : StoreForm view sfx) (hle : view ≤ 2)
    (hk : k < 1024) (hn : n < 8192) : (s.viewStore k view sfx n w).viewLoad k view sfx n = storedValue view sfx w := by
  have hsize : n < viewSize view := by rwa [size_of_view_le_two hle]
  unfold storedValue
  split
  case isTrue hnar => exact viewLoad_viewStore_of_narrows s k n w hf hsize hnar
  case isFalse hnar =>
    cases hf with
    | ns => exact readWord_viewStore_ns s k n w hn
    | ac => exact readWord_viewStore_ac s k n w 2 hk hn
    | nsLow => exact absurd rfl hnar
    | nsHigh => exact absurd rfl hnar
    | trLow => exact absurd rfl hnar
    | trHigh => exact absurd rfl hnar
    | sc => omega
    | sh => omega

/-! ### The run of a vector store -/

/-- The state after element e of x has been stored at base + e where its mask bit is set. -/
def State.storeElement (s : State) (k view sfx base : Nat) (mask : BitVec 16) (x : VVal) (e : Fin 16) : State :=
  if mask.getLsbD e.val then s.viewStore k view sfx (base + e.val) x[e.val] else s

/-- The state after the masked elements of x have been stored. -/
def State.storeAll (s : State) (k view sfx base : Nat) (mask : BitVec 16) (x : VVal) : State :=
  (List.finRange 16).foldl (fun u e => State.storeElement u k view sfx base mask x e) s

section
variable {k view sfx base : Nat} {mask : BitVec 16} (x : VVal) (s : State) (hf : StoreForm view sfx) (hle : view ≤ 2)
  (hbase : base + 16 ≤ 8192)
include hf hle hbase

/-- Each masked element reads as it was stored. -/
theorem viewLoad_storeAll (hk : k < 1024) {e : Fin 16} (he : mask.getLsbD e.val = true) :
    (s.storeAll k view sfx base mask x).viewLoad k view sfx (base + e.val) =
      storedValue view sfx x[e.val] := by
  have hset (u : State) : (u.storeElement k view sfx base mask x e).viewLoad k view sfx (base + e.val) =
      storedValue view sfx x[e.val] := by
    rw [State.storeElement, if_pos he]
    exact viewLoad_viewStore u _ hf hle hk (by omega)
  have hkeep (u : State) (j : Fin 16) (hj : j ≠ e)
      (hu : u.viewLoad k view sfx (base + e.val) = storedValue view sfx x[e.val]) :
      (u.storeElement k view sfx base mask x j).viewLoad k view sfx (base + e.val) = storedValue view sfx x[e.val] := by
    have hne : base + e.val ≠ base + j.val := fun h => hj (Fin.ext (by omega))
    rw [← hu]
    unfold State.storeElement
    split
    case isTrue =>
      exact viewLoad_congr hf hle fun n hn => readByte_viewStore_of_apart u k _ _ hf
        (by rw [size_of_view_le_two hle]; omega) (elementAt_apart hf hle hne hn)
    case isFalse => rfl
  exact foldl_of_mem (f := fun u j => State.storeElement u k view sfx base mask x j)
    (P := fun u : State => u.viewLoad k view sfx (base + e.val) = storedValue view sfx x[e.val])
    (List.mem_finRange e) hset hkeep s

/-- No byte outside the masked elements' changes. -/
theorem readByte_storeAll_of_apart {a : Nat} (ha : ∀ e : Fin 16, mask.getLsbD e.val = true →
    a < (storedAt (k / 32) k view sfx (base + e.val)).1 ∨
      (storedAt (k / 32) k view sfx (base + e.val)).1 + (storedAt (k / 32) k view sfx (base + e.val)).2 ≤ a) :
    (s.storeAll k view sfx base mask x).readByte a = s.readByte a := by
  refine List.foldlRecOn (motive := fun u : State => u.readByte a = s.readByte a) _ _ rfl fun u hu e _ => ?_
  rw [← hu, State.storeElement]
  split
  case isTrue he => exact readByte_viewStore_of_apart u k _ _ hf (by rw [size_of_view_le_two hle]; omega) (ha e he)
  case isFalse => rfl

end

/-- VST of a block whose masked elements meet no uncorrectable error stores them and falls through (R68, R85, R114). -/
theorem answers_iVst {s : State} {c : CoreId} {vs : VReg} {ra : GReg} {view : Fin 7} {sfx : Fin 3} {m : MReg}
    {off : BitVec 11} {i : Nat} (hr : Ready s c (.iVst c vs ra view sfx m off))
    (hx : s.viewIndex c.key view.val ra off = some i)
    (hue : ∀ j : Fin 16, ((s.core c.key).e.regs.readM m).getLsbD j.val = true →
      s.viewUe c.key view.val sfx.val (16 * (i / 16) + j.val) true = false) :
    ∃ clip, Answers (.iVst c vs ra view sfx m off) s fun t => t = (s.storeAll c.key view.val sfx.val (16 * (i / 16))
      (s.getM c.key m) (s.getV c.key vs)).afterStore c.key clip := by
  have hany : vany (s.getM c.key m) (fun j => s.viewUe c.key view.val sfx.val (16 * (i / 16) + j.val) true) = false :=
    vany_eq_false hue
  have heff : effIVst c.key vs ra view sfx m off s = .done ((s.storeAll c.key view.val sfx.val (16 * (i / 16))
      (s.getM c.key m) (s.getV c.key vs)).noteClip c.key
      (vany (s.getM c.key m) fun e => storeClips view.val sfx.val (s.getV c.key vs)[e.val])) := by
    simp only [effIVst, hx, hany, Bool.false_eq_true, if_false]
    rfl
  exact ⟨_, answers_of_done_state rfl hr heff rfl⟩

/-- Every store to TR narrows (R68). -/
theorem narrows_two {sfx : Nat} (hf : StoreForm 2 sfx) : narrows 2 sfx = true := by
  cases hf with
  | trLow => rfl
  | trHigh => rfl

/-- A narrowing store reads as the clamped value (R68). -/
theorem storedValue_of_narrows {view sfx : Nat} (h : narrows view sfx = true) (w : Word) : storedValue view sfx w =
    BitVec.ofInt 32 (max (-2 ^ (halfBits view - 1)) (min (2 ^ (halfBits view - 1) - 1) w.toInt)) := by
  rw [storedValue, if_pos h, satWord, clampInt_eq_max_min (neg_two_pow_le _)]

/-- Settles O17: the state that VST leaves is the run of the masked elements' stores with the clip noted. -/
theorem vectorStores : Obligations.VectorStores := by
  intro s c vs ra view sfx m off i k base x on clamp cells hok hr hx hue
  obtain ⟨hf, hle⟩ := storeForm_of_viewOk_vector view sfx hok
  have hi := viewIndex_lt hx
  rw [size_of_view_le_two hle] at hi
  have hbase : base + 16 ≤ 8192 := by omega
  obtain ⟨clip, hans⟩ := answers_iVst hr hx hue
  refine hans.imp ?_
  intro t ht
  have hload (j : Fin 16) (hj : on j) :
      t.viewLoad k view.val sfx.val (base + j.val) = storedValue view.val sfx.val (x j) := by
    rw [ht, viewLoad_afterStore]
    exact viewLoad_storeAll _ s hf hle hbase (key_lt c) hj
  refine ⟨fun j hj => ⟨fun hv hs => ?_, fun hv hs => ?_, fun hv => ?_, fun hv => ?_⟩, fun a ha => ?_⟩
  · have hnar : narrows 0 sfx.val = true := decide_eq_true hs
    have h := hload j hj
    rwa [hv, storedValue_of_narrows hnar] at h
  · have h := hload j hj
    rwa [hv, hs] at h
  · have h := hload j hj
    rwa [hv] at h
  · have hnar : narrows 2 sfx.val = true := narrows_two (hv ▸ hf)
    have h := hload j hj
    rwa [hv, storedValue_of_narrows hnar] at h
  · rw [ht, readByte_afterStore]
    refine readByte_storeAll_of_apart _ s hf hle hbase fun j hj => ?_
    have hcells : storedAt (k / 32) k view.val sfx.val (base + j.val) = cells j := storedAt_eq_vectorCell hf hle
    rw [hcells]
    exact ha j hj

end Sys2Proof.Machine

/-!
The special registers (R65).
-/

namespace Sys2Proof.Machine

/-! ### MFS -/

theorem key_mod (c : CoreId) : c.key % 32 = c.lc.val := by
  unfold CoreId.key
  omega

/-- The number of a core's tenant, 0 where its cluster has none (R91). -/
def State.tenantNumber (s : State) (c : CoreId) : Nat := match s.tenantOf c.cl.val with | some t => t.val | none => 0

/-- The ticks since the current block's stamp, modulo 2^24 (R76). -/
def State.elapsed (s : State) (k : Nat) : Nat :=
  match (s.core k).e.blk.cur with
  | none => 0
  | some b => ((s.core k).e.fl.tick.toNat + 2 ^ 24 - (s.blkEntry k b.val).toNat % 2 ^ 24) % 2 ^ 24

/-- Number n of the special registers as core c reads it, those but CYC (R65). -/
def State.special (s : State) (c : CoreId) (n : Nat) : Word :=
  let e := (s.core c.key).e
  match n with
  | 0x00 => e.fl.tick
  | 0x01 => match e.blk.cur with | some b => BitVec.ofNat 32 b.val | none => 0x200
  | 0x02 => BitVec.ofNat 32 (s.elapsed c.key)
  | 0x03 => match e.blk.cur with | some b => s.blkEntry c.key b.val >>> 24 | none => 0
  | 0x04 => s.stat c.key
  | 0x05 => BitVec.ofNat 32 (s.tenantNumber c * 2 ^ 10 + c.cl.val * 2 ^ 5 + c.lc.val)
  | 0x06 => BitVec.ofNat 32 (c.cl.val * 2 ^ 18 + c.lc.val * 2 ^ 13)
  | 0x07 => e.fl.epoch
  | 0x08 => match s.tenantOf c.cl.val with | some t => BitVec.ofNat 32 (s.shear t).eptick | none => 0
  | 0x09 => e.regs.rng
  | 0x0A => e.regs.lc
  | 0x0B => e.regs.lr
  | 0x0D => match e.st with | .update => 1 | .epoch => 2 | .message => 3 | _ => 0
  | 0x0E => BitVec.ofNat 32 e.fl.msgq.val
  | 0x0F => if e.fl.phase then 1 else 0
  | _ => 0

theorem ofNat_div_eq_ushiftRight (w : Word) : BitVec.ofNat 32 (w.toNat / 2 ^ 24) = w >>> 24 := by
  refine BitVec.eq_of_toNat_eq ?_
  rw [BitVec.toNat_ofNat, BitVec.toNat_ushiftRight, Nat.shiftRight_eq_div_pow]
  omega

theorem ofNat_b2n (b : Bool) : BitVec.ofNat 32 (b2n b) = if b then 1 else 0 := by
  cases b <;> rfl

theorem ofNat_entry (st : EState) :
    BitVec.ofNat 32 st.entry = match st with | .update => (1 : Word) | .epoch => 2 | .message => 3 | _ => 0 := by
  cases st <;> rfl

/-- BELAPSED counts modulo 2^24, whatever the bits of TICK above (R76). -/
theorem belapsed_eq_elapsed (s : State) (k : Nat) : s.belapsed k = s.elapsed k := by
  unfold State.belapsed State.elapsed
  cases (s.core k).e.blk.cur with
  | none => rfl
  | some b =>
    simp only
    omega

theorem coreTenant_key (s : State) (c : CoreId) : s.coreTenant c.key = s.tenantOf c.cl.val :=
  congrArg s.tenantOf (key_div c)

theorem mfs_bnum (s : State) (c : CoreId) : s.mfs c.key 0x01 = s.special c 0x01 := by
  simp only [State.mfs, State.special]
  cases (s.core c.key).e.blk.cur <;> rfl

theorem mfs_bchan (s : State) (c : CoreId) : s.mfs c.key 0x03 = s.special c 0x03 := by
  simp only [State.mfs, State.special, State.bchan]
  cases (s.core c.key).e.blk.cur with
  | none => rfl
  | some b => exact ofNat_div_eq_ushiftRight _

theorem mfs_coreId (s : State) (c : CoreId) : s.mfs c.key 0x05 = s.special c 0x05 := by
  simp only [State.mfs, State.special, State.coreId, State.tenantNumber, coreTenant_key, key_div, key_mod] <;> rfl

theorem mfs_eptick (s : State) (c : CoreId) : s.mfs c.key 0x08 = s.special c 0x08 := by
  simp only [State.mfs, State.special, coreTenant_key]
  cases s.tenantOf c.cl.val <;> rfl

/-- Every special register but CYC reads as R65 lists it. -/
theorem mfs_eq_special (s : State) (c : CoreId) (n : Nat) (hcyc : n ≠ 0x0C) : s.mfs c.key n = s.special c n := by
  unfold State.mfs
  split
  case h_1 => rfl
  case h_2 => exact mfs_bnum s c
  case h_3 => exact congrArg (BitVec.ofNat 32) (belapsed_eq_elapsed s c.key)
  case h_4 => exact mfs_bchan s c
  case h_5 => rfl
  case h_6 => exact mfs_coreId s c
  case h_7 => rw [key_div, key_mod]; rfl
  case h_8 => rfl
  case h_9 => exact mfs_eptick s c
  case h_10 => rfl
  case h_11 => rfl
  case h_12 => rfl
  case h_13 => exact absurd rfl hcyc
  case h_14 => exact ofNat_entry _
  case h_15 => rfl
  case h_16 => exact ofNat_b2n _
  case h_17 =>
    unfold State.special
    split
    case h_16 => rfl
    all_goals contradiction

/-! ### MTS -/

/-- The engine with the channel of a current block written from bits 7:0 of w (R75). -/
def State.channelWritten (s : State) (k : Nat) (w : Word) (cur : Option (Fin 512)) : NEngine :=
  let e := (s.core k).e
  let channel (b : Nat) : Word := BitVec.ofNat 32 (w.toNat % 256 * 2 ^ 24 + (s.blkEntry k b).toNat % 2 ^ 24)
  match cur with
  | some b => { e with blk := { e.blk with table := Tab.put e.blk.table 0 b.val (channel b.val) } }
  | none => e

theorem engineIs_setChannel (s : State) (k : Nat) (w : Word) : ∀ cur : Option (Fin 512), EngineIs s
    (match cur with
      | none => s
      | some b => s.setBlkEntry k b.val
          (BitVec.ofNat 32 (w.toNat % 256 * 2 ^ 24 + (s.blkEntry k b.val).toNat % 2 ^ 24)))
    k (s.channelWritten k w cur)
  | none => engineIs_refl s k
  | some _ => engineIs_modE s k _

/-- The engine after MTS of number n (R65). -/
def State.specialWritten (s : State) (k n : Nat) (w : Word) : NEngine :=
  let e := (s.core k).e
  match n with
  | 0x03 => s.channelWritten k w e.blk.cur
  | 0x04 => { e with fl := { e.fl with vsat := e.fl.vsat && !w.getLsbD 2 } }
  | 0x09 => { e with regs := { e.regs with rng := if w = 0 then 1 else w } }
  | 0x0A => { e with regs := { e.regs with lc := w } }
  | 0x0B => { e with regs := { e.regs with lr := w } }
  | _ => e

theorem engineIs_mts (s : State) (k n : Nat) (w : Word) : EngineIs s (s.mts k n w) k (s.specialWritten k n w) := by
  unfold State.mts
  split
  case h_1 => exact engineIs_setChannel s k w _
  case h_2 =>
    unfold State.specialWritten
    simp only
    split
    case isTrue hw =>
      rw [hw, Bool.not_true, Bool.and_false]
      exact engineIs_modE s k _
    case isFalse hw =>
      rw [Bool.eq_false_iff.mpr hw, Bool.not_false, Bool.and_true]
      exact engineIs_refl s k
  case h_3 => exact (engineIs_refl s k).setRng _
  case h_4 => exact engineIs_modE s k _
  case h_5 => exact engineIs_modE s k _
  case h_6 h3 h4 h9 hA hB =>
    have hkeep : s.specialWritten k n w = (s.core k).e := by
      unfold State.specialWritten
      split
      case h_6 => rfl
      all_goals contradiction
    exact hkeep ▸ engineIs_refl s k

/-- Settles O18: MFS and MTS number by number; CYC alone is a free value. -/
theorem specialRegisters : Obligations.SpecialRegisters := by
  intro s c rd ra n k e tenant elapsed special w channel after
  refine ⟨fun hn => ?mfs, fun hn hr => ?cyc, fun hr => ?mts⟩
  case mfs =>
    have hne : n.toNat ≠ 0x0C := fun h => hn (BitVec.eq_of_toNat_eq h)
    have hspecial : special = s.mfs k n.toNat := (mfs_eq_special s c n.toNat hne).symm
    have heff : effIMfs k rd n s = .done (s.setG k rd special) := by
      rw [effIMfs, if_neg hn, hspecial]
    exact computes_of_engineIs rfl heff ((engineIs_refl s k).setG rd _)
  case cyc =>
    have heff : effIMfs k rd n s = .done (s.setG k rd (s.mfs k n.toNat)).spend := by
      rw [effIMfs, if_pos hn]
    obtain ⟨-, hcore⟩ := ((engineIs_refl s k).setG rd (s.mfs k n.toNat)).modE NEngine.movedOn
    exact answers_of_done_state rfl hr heff ⟨s.mfs k n.toNat, congrArg Core.e hcore⟩
  case mts => exact answers_of_done rfl hr rfl (engineIs_mts s k n.toNat w)

end Sys2Proof.Machine

/-!
What an instruction of a core leaves unchanged (R64, R103, R106, R109): a relation of states that every operation of the
neuron engine keeps, and the sweep over the instructions.
-/

namespace Sys2Proof.Machine

/-! ### Operations that leave every core as it was -/

/-- From s to t no core, tenant, Shears or sync object changes, nor the output gate. -/
structure Apart (s t : State) : Prop where
  cores : t.cores = s.cores
  tenants : t.tenants = s.tenants
  sh : t.sh = s.sh
  sync : t.sync = s.sync
  gate : t.pont.gate = s.pont.gate

theorem Apart.refl (s : State) : Apart s s := ⟨rfl, rfl, rfl, rfl, rfl⟩

theorem Apart.trans {s t u : State} (h : Apart s t) (h' : Apart t u) : Apart s u :=
  ⟨h'.cores.trans h.cores, h'.tenants.trans h.tenants, h'.sh.trans h.sh, h'.sync.trans h.sync, h'.gate.trans h.gate⟩

section
variable (s : State)

theorem apart_writeByte (a : Nat) (b : Byte) : Apart s (s.writeByte a b) := by
  unfold State.writeByte
  split
  · exact .refl s
  · exact ⟨rfl, rfl, rfl, rfl, rfl⟩

theorem apart_writeBytes (a : Nat) (bs : List Byte) : Apart s (s.writeBytes a bs) := by
  induction bs generalizing s a with
  | nil => exact .refl s
  | cons b bs ih => exact (apart_writeByte s a b).trans (ih _ _)

theorem apart_writeWord (a : Nat) (w : Word) : Apart s (s.writeWord a w) :=
  (apart_writeBytes s a _).trans ⟨rfl, rfl, rfl, rfl, rfl⟩

theorem apart_racedBytes (a : Nat) (bs : List Byte) : Apart s (s.racedBytes a bs).1 := by
  unfold State.racedBytes
  split
  · exact ⟨rfl, rfl, rfl, rfl, rfl⟩
  · exact .refl s

theorem apart_spend : Apart s s.spend := ⟨rfl, rfl, rfl, rfl, rfl⟩

theorem apart_modStation (n : Nat) (f : StationSt → StationSt) : Apart s (s.modStation n f) := ⟨rfl, rfl, rfl, rfl, rfl⟩

theorem apart_modCluster (n : Nat) (f : ClusterSt → ClusterSt) : Apart s (s.modCluster n f) := ⟨rfl, rfl, rfl, rfl, rfl⟩

theorem apart_sendPkt (n : Nat) (p : Pkt) : Apart s (s.sendPkt n p) := ⟨rfl, rfl, rfl, rfl, rfl⟩

theorem apart_reportFault (st origin code : Nat) (detail : BitVec 40) : Apart s (s.reportFault st origin code detail) := by
  unfold State.reportFault
  dsimp only
  split
  · exact apart_modStation s st _
  · exact (apart_modStation s st _).trans (apart_sendPkt _ st _)

theorem apart_gatherError (st flow : Nat) : Apart s (s.gatherError st flow) :=
  (apart_modStation s st _).trans (apart_reportFault _ st st _ _)

theorem apart_gatherSubmit (st f : Nat) (p : GPkt) : Apart s (s.gatherSubmit st f p) := by
  unfold State.gatherSubmit
  split
  · exact ⟨rfl, rfl, rfl, rfl, rfl⟩
  · exact apart_gatherError s st f

theorem apart_sendDesc (k i dest : Nat) (high low : Word) : Apart s (s.sendDesc k i dest high low) := by
  unfold State.sendDesc
  dsimp only
  split
  · exact (apart_modCluster s _ _).trans (apart_gatherError _ _ _)
  · exact apart_gatherSubmit s _ _ _

theorem apart_releaseEntry (cl : Nat) (x : QEnt) : Apart s (s.releaseEntry cl x) := by
  have hcredit : Apart s (match x.origin with | some (st, i) => s.sendPkt cl (.qcred st i 1) | none => s) := by
    split
    · exact apart_sendPkt s _ _
    · exact .refl s
  unfold State.releaseEntry
  dsimp only
  split
  · exact hcredit
  · exact hcredit.trans ((apart_writeBytes _ _ _).trans (apart_modCluster _ _ _))

theorem apart_clearAcc (k b : Nat) : Apart s (s.clearAcc k b) :=
  List.foldlRecOn (motive := Apart s) _ _ (.refl s) fun t h _ _ => h.trans (apart_writeWord t _ _)

end

/-! ### What the passing of an instruction keeps of the engine -/

/-- r' holds the general, vector and mask registers of r. -/
structure Regs.SameFile (r r' : Regs) : Prop where
  g : r'.g = r.g
  v : r'.v = r.v
  m : r'.m = r.m

/-- From e to e' the registers, the block state and the entry that runs stay. -/
structure NEngine.Passes (e e' : NEngine) : Prop where
  file : e.regs.SameFile e'.regs
  blk : e'.blk = e.blk
  st : e'.st = e.st

theorem Regs.SameFile.refl (r : Regs) : r.SameFile r := ⟨rfl, rfl, rfl⟩

theorem Regs.SameFile.trans {a b c : Regs} (h : a.SameFile b) (h' : b.SameFile c) : a.SameFile c :=
  ⟨h'.g.trans h.g, h'.v.trans h.v, h'.m.trans h.m⟩

theorem NEngine.Passes.trans {a b c : NEngine} (h : a.Passes b) (h' : b.Passes c) : a.Passes c :=
  ⟨h.file.trans h'.file, h'.blk.trans h.blk, h'.st.trans h.st⟩

section
variable (e : NEngine)

theorem passes_refl : e.Passes e := ⟨.refl _, rfl, rfl⟩

theorem passes_retire : e.Passes e.retire := ⟨.refl _, rfl, rfl⟩

theorem passes_setPc (pc : BitVec 12) : e.Passes { e with regs := { e.regs with pc := pc } } := ⟨⟨rfl, rfl, rfl⟩, rfl, rfl⟩

theorem passes_endLoop : e.Passes e.endLoop := by
  unfold NEngine.endLoop
  split
  · exact ⟨⟨rfl, rfl, rfl⟩, rfl, rfl⟩
  · exact passes_refl e

theorem passes_pastEnd : e.Passes e.pastEnd := (passes_endLoop e).trans (passes_setPc _ _)

theorem passes_advance : e.Passes e.advance := by
  unfold NEngine.advance
  split
  · split
    · exact ⟨⟨rfl, rfl, rfl⟩, rfl, rfl⟩
    · exact ⟨⟨rfl, rfl, rfl⟩, rfl, rfl⟩
  · exact passes_setPc e _

theorem passes_branch (t : BitVec 12) (endsLoop : Bool) : e.Passes (e.branch t endsLoop) := by
  unfold NEngine.branch
  dsimp only
  split
  · exact (passes_endLoop e).trans (passes_setPc _ t)
  · exact passes_setPc e t

theorem passes_settle : e.Passes e.settle := by
  rw [settle_eq]
  exact ⟨.refl _, rfl, rfl⟩

theorem passes_noteStall (kind : StallKind) (arg : Word) : e.Passes (e.noteStall kind arg) := ⟨.refl _, rfl, rfl⟩

theorem passes_movedOn : e.Passes e.movedOn :=
  ((passes_retire e).trans (passes_advance _)).trans (passes_settle _)

end

/-! ### States that differ in one core alone -/

/-- From s to t nothing changes but core k's engine, with its block state and its entry kept. -/
structure Inside (k : Nat) (s t : State) : Prop where
  mem : ∀ a, t.readByte a = s.readByte a
  station : ∀ n, t.station n = s.station n
  cluster : ∀ n, t.cluster n = s.cluster n
  pending : t.pending = s.pending
  i : (t.core k).i = (s.core k).i
  q : (t.core k).q = (s.core k).q
  mrv : (t.core k).mrv = (s.core k).mrv
  blk : (t.core k).e.blk = (s.core k).e.blk
  st : (t.core k).e.st = (s.core k).e.st

/-- From s to t no other core than k changes, and no tenant, Shears, sync object or output gate; with file, core k keeps
its registers, and with inside nothing but its engine changes. -/
structure Confined (file inside : Bool) (k : Nat) (s t : State) : Prop where
  others : ∀ j, j ≠ k → t.core j = s.core j
  tenants : t.tenants = s.tenants
  sh : t.sh = s.sh
  sync : t.sync = s.sync
  gate : t.pont.gate = s.pont.gate
  regs : file = true → (s.core k).e.regs.SameFile (t.core k).e.regs
  within : inside = true → Inside k s t

section
variable {file inside : Bool} {k : Nat} {s t u : State}

theorem Confined.refl (file inside : Bool) (k : Nat) (s : State) : Confined file inside k s s :=
  ⟨fun _ _ => rfl, rfl, rfl, rfl, rfl, fun _ => .refl _,
    fun _ => ⟨fun _ => rfl, fun _ => rfl, fun _ => rfl, rfl, rfl, rfl, rfl, rfl, rfl⟩⟩

theorem Confined.apart (h : Confined file false k s t) (ha : Apart t u) : Confined file false k s u := by
  have hcore (j : Nat) : u.core j = t.core j := by rw [State.core, State.core, ha.cores]
  exact ⟨fun j hj => (hcore j).trans (h.others j hj), ha.tenants.trans h.tenants, ha.sh.trans h.sh, ha.sync.trans h.sync,
    ha.gate.trans h.gate, fun hf => (hcore k).symm ▸ h.regs hf, nofun⟩

/-- A change of core k that keeps its registers. -/
theorem Confined.modCore (h : Confined file false k s t) {f : Core → Core}
    (hf : file = true → ∀ x : Core, x.e.regs.SameFile (f x).e.regs) : Confined file false k s (t.modCore k f) :=
  ⟨fun j hj => (core_modCore_of_ne t f hj).trans (h.others j hj), h.tenants, h.sh, h.sync, h.gate,
    fun hfile => (h.regs hfile).trans (by rw [core_modCore_self]; exact hf hfile _), nofun⟩

/-- A change of core k's engine that keeps its registers. -/
theorem Confined.modE (h : Confined file false k s t) {f : NEngine → NEngine} (hf : ∀ e : NEngine, e.regs.SameFile (f e).regs) :
    Confined file false k s (t.modE k f) := h.modCore fun _ x => hf x.e

/-- A change of core k's registers. -/
theorem Confined.write (h : Confined false inside k s t) {f : NEngine → NEngine}
    (hf : ∀ e, (f e).blk = e.blk ∧ (f e).st = e.st) : Confined false inside k s (t.modE k f) := by
  refine ⟨fun j hj => (core_modE_of_ne t f hj).trans (h.others j hj), h.tenants, h.sh, h.sync, h.gate, nofun, fun hin => ?_⟩
  obtain ⟨hmem, hstation, hcluster, hpending, hi, hq, hmrv, hblk, hst⟩ := h.within hin
  obtain ⟨hfblk, hfst⟩ := hf (t.core k).e
  refine ⟨fun a => (readByte_modE t k f a).trans (hmem a), hstation, hcluster, hpending, ?_, ?_, ?_, ?_, ?_⟩ <;>
    rw [core_modE_self]
  exacts [hi, hq, hmrv, hfblk.trans hblk, hfst.trans hst]

/-- The engine passes an instruction. -/
theorem Confined.pass (h : Confined file inside k s t) {f : NEngine → NEngine} (hf : ∀ e : NEngine, e.Passes (f e)) :
    Confined file inside k s (t.modE k f) := by
  have hkeep (e : NEngine) : (f e).blk = e.blk ∧ (f e).st = e.st := ⟨(hf e).blk, (hf e).st⟩
  have hwide : Confined false inside k s t := ⟨h.others, h.tenants, h.sh, h.sync, h.gate, nofun, h.within⟩
  obtain ⟨hothers, htenants, hsh, hsync, hgate, -, hwithin⟩ := hwide.write hkeep
  refine ⟨hothers, htenants, hsh, hsync, hgate, fun hfile => (h.regs hfile).trans ?_, hwithin⟩
  rw [core_modE_self]
  exact (hf _).file

/-! ### Ends of entries and faults -/

theorem Confined.reachGate (h : Confined file false k s t) : Confined file false k s (t.reachGate k) := by
  unfold State.reachGate
  split
  · exact h
  · refine Confined.apart ?_ (apart_spend _)
    exact h.modE fun _ => .refl _

theorem Confined.stamp (h : Confined file false k s t) (b : Nat) : Confined file false k s (t.stamp k b) := by
  unfold State.stamp State.setBlkEntry
  exact h.modE fun _ => .refl _

theorem Confined.leaveBlock (h : Confined file false k s t) : Confined file false k s (t.leaveBlock k) := by
  unfold State.leaveBlock
  split
  · exact h.stamp _
  · exact h

theorem Confined.endUpdate (h : Confined file false k s t) : Confined file false k s (t.endUpdate k) := by
  refine Confined.reachGate (Confined.apart (Confined.modE h.leaveBlock ?_) (apart_spend _))
  exact fun _ => .refl _

theorem sameFile_enter (e : NEngine) (st : EState) (r : EntryReg) : e.regs.SameFile (e.enter st r).regs := ⟨rfl, rfl, rfl⟩

/-- The engine as its UPDATE program starts; e0 is the engine before (R69, R74, R87). -/
def NEngine.beginUpdate (e0 e : NEngine) : NEngine :=
  let e1 := { e with
    blk := { e.blk with curA := 0, curP := 0, cur := none, stampOnLeave := false }
    fl := { e.fl with edgeDue := false } }
  let e2 := if e1.cr.entTick.en then e1.enter .tick e1.cr.entTick
    else if e1.updateEmpty then e1
    else e1.enter .update e1.cr.entUpdate
  if e0.dbg.haltAtEdge then { e2 with dbg := { e2.dbg with halted := true, reason := 1, haltAtEdge := false } } else e2

theorem sameFile_beginUpdate (e0 e : NEngine) : e.regs.SameFile (e0.beginUpdate e).regs := by
  unfold NEngine.beginUpdate
  dsimp only
  split_ifs <;> exact ⟨rfl, rfl, rfl⟩

theorem Confined.startUpdate (h : Confined file false k s t) : Confined file false k s (t.startUpdate k) := by
  unfold State.startUpdate
  dsimp only
  split
  · exact h.modE fun _ => .refl _
  · have hbegin (e0 : NEngine) : Confined file false k s (t.modE k (NEngine.beginUpdate e0)) :=
      h.modE (sameFile_beginUpdate e0)
    split
    · exact (hbegin _).endUpdate
    · exact hbegin _

theorem Confined.afterEntry (h : Confined file false k s t) : Confined file false k s (t.afterEntry k) := by
  unfold State.afterEntry
  split
  · exact h.startUpdate
  · exact h

theorem Confined.endEntry (h : Confined file false k s t) : Confined file false k s (t.endEntry k) := by
  unfold State.endEntry
  dsimp only
  split
  · split
    · exact h.modE fun e => sameFile_enter e _ _
    · exact h.endUpdate
  · exact h.endUpdate
  · exact h.modCore fun _ _ => .refl _
  · refine Confined.afterEntry ?_
    exact h.modE fun _ => .refl _
  · exact h

theorem Confined.eccFault (h : Confined file false k s t) (st mem addr : Nat) :
    Confined file false k s (t.eccFault st mem addr) := h.apart (apart_reportFault t _ _ _ _)

theorem Confined.progFault (h : Confined file false k s t) (cause : BitVec 4) :
    Confined file false k s (t.progFault k cause) := by
  unfold State.progFault
  dsimp only
  split
  · refine Confined.eccFault (Confined.apart ?_ (apart_reportFault _ _ _ _ _)) _ _ _
    exact h.modE fun _ => .refl _
  · refine Confined.apart ?_ (apart_reportFault _ _ _ _ _)
    exact h.modE fun _ => .refl _

/-! ### Writes of the engine's registers -/

theorem Confined.setG (h : Confined false inside k s t) (r : GReg) (w : Word) : Confined false inside k s (t.setG k r w) :=
  h.write fun _ => ⟨rfl, rfl⟩

theorem Confined.setV (h : Confined false inside k s t) (r : VReg) (x : VVal) : Confined false inside k s (t.setV k r x) :=
  h.write fun _ => ⟨rfl, rfl⟩

theorem Confined.setM (h : Confined false inside k s t) (r : MReg) (x : BitVec 16) :
    Confined false inside k s (t.setM k r x) := by
  unfold State.setM
  split
  · exact h
  · exact h.write fun _ => ⟨rfl, rfl⟩

theorem Confined.setRng (h : Confined file inside k s t) (w : Word) : Confined file inside k s (t.setRng k w) :=
  h.pass fun _ => ⟨⟨rfl, rfl, rfl⟩, rfl, rfl⟩

theorem Confined.noteClip (h : Confined file inside k s t) (b : Bool) : Confined file inside k s (t.noteClip k b) := by
  unfold State.noteClip
  split
  · exact h.pass fun _ => ⟨⟨rfl, rfl, rfl⟩, rfl, rfl⟩
  · exact h

/-! ### Stores and emissions -/

theorem Confined.setTraceHalf (h : Confined file false k s t) (i : Nat) (high : Bool) (b : Byte) :
    Confined file false k s (t.setTraceHalf k i high b) := h.apart (apart_writeByte t _ _)

theorem Confined.viewStore (h : Confined file false k s t) (view sfx i : Nat) (w : Word) :
    Confined file false k s (t.viewStore k view sfx i w) := by
  unfold State.viewStore
  split
  · split
    · exact h.apart (apart_writeBytes t _ _)
    · exact h.apart (apart_writeBytes t _ _)
    · exact h.apart (apart_writeWord t _ _)
  · exact h.apart (apart_writeWord t _ _)
  · exact h.setTraceHalf _ _ _
  · exact h.modE fun _ => .refl _
  · exact (h.apart (apart_racedBytes t _ _)).apart (apart_writeWord _ _ _)

theorem Confined.emit (h : Confined file false k s t) {n : Nat} {p : Byte} (he : t.emit k n p = some u) :
    Confined file false k s u := by
  unfold State.emit at he
  dsimp only at he
  split at he
  · cases he
    exact h.modE fun _ => .refl _
  · split at he
    · cases he
    · cases he
      exact h.modE fun _ => .refl _

theorem Confined.emitFrom (h : Confined file false k s t) (b : Nat) (mask : BitVec 16) (x : Nat → Byte) (es : List Nat) :
    Confined file false k s (t.emitFrom k b mask x es).1 := by
  induction es generalizing t with
  | nil => exact h
  | cons e es ih =>
    unfold State.emitFrom
    split
    · split
      case h_1 u hu => exact ih (h.emit hu)
      case h_2 => exact h
    · exact ih h

theorem Confined.mts (h : Confined file false k s t) (n : Nat) (w : Word) : Confined file false k s (t.mts k n w) := by
  unfold State.mts
  split
  · split
    · exact h
    · exact h.modE fun _ => .refl _
  · split
    · exact h.modE fun _ => .refl _
    · exact h
  · exact h.setRng _
  · exact h.modE fun e => ⟨rfl, rfl, rfl⟩
  · exact h.modE fun e => ⟨rfl, rfl, rfl⟩
  · exact h

theorem Confined.modQ (h : Confined file false k s t) (q : Fin 4) (f : RecvQ → RecvQ) :
    Confined file false k s (t.modQ k q f) := h.modCore fun _ _ => .refl _

theorem Confined.releaseKept (h : Confined file false k s t) (q : Fin 4) : Confined file false k s (t.releaseKept k q) := by
  unfold State.releaseKept
  split
  · exact (h.apart (apart_releaseEntry t _ _)).modQ q _
  · exact h

end

end Sys2Proof.Machine

/-!
The sweep over the instructions of a core, and the settling of O22.
-/

namespace Sys2Proof.Machine

/-! ### The decoder names the core's own instructions -/

theorem coreOf_of_legalIf {b : Bool} {i j : Instr} {c : CoreId} (h : legalIf b j = some i) (hj : coreOf j = some c) :
    coreOf i = some c := by
  unfold legalIf at h
  split at h
  · cases h
    exact hj
  · cases h

section
variable {c : CoreId} {w : Word} {i : Instr}

theorem coreOf_of_decodeA (h : decodeA c w = some i) : coreOf i = some c := by
  unfold decodeA at h
  dsimp only at h
  split at h
  case h_25 => cases h
  all_goals exact coreOf_of_legalIf h rfl

theorem coreOf_of_decodeU {high : Bool} (h : decodeU c w high = some i) : coreOf i = some c :=
  coreOf_of_legalIf h (by cases high <;> rfl)

theorem coreOf_of_decodeV (h : decodeV c w = some i) : coreOf i = some c := by
  unfold decodeV at h
  dsimp only at h
  split at h
  case h_34 => cases h
  all_goals exact coreOf_of_legalIf h rfl

theorem coreOf_of_decodeK (h : decodeK c w = some i) : coreOf i = some c := by
  unfold decodeK at h
  dsimp only at h
  split at h
  case h_9 => cases h
  all_goals exact coreOf_of_legalIf h rfl

theorem coreOf_of_decodeN (h : decodeN c w = some i) : coreOf i = some c := by
  unfold decodeN at h
  dsimp only at h
  split at h
  case h_12 => cases h
  all_goals exact coreOf_of_legalIf h rfl

theorem coreOf_of_decodeL {store vector : Bool} (h : decodeL c w store vector = some i) : coreOf i = some c := by
  unfold decodeL at h
  dsimp only at h
  split at h
  · exact coreOf_of_legalIf h (by cases store <;> rfl)
  · exact coreOf_of_legalIf h (by cases store <;> rfl)

theorem coreOf_of_decodeB (h : decodeB c w = some i) : coreOf i = some c := by
  unfold decodeB at h
  dsimp only at h
  split at h
  case h_12 => cases h
  all_goals exact coreOf_of_legalIf h rfl

theorem coreOf_of_decodeJ {op : Nat} (h : decodeJ c w op = some i) : coreOf i = some c := by
  unfold decodeJ at h
  dsimp only at h
  split at h
  case h_6 => cases h
  all_goals exact coreOf_of_legalIf h rfl

theorem coreOf_of_decodeS (h : decodeS c w = some i) : coreOf i = some c := by
  unfold decodeS at h
  dsimp only at h
  split at h
  case h_14 => cases h
  all_goals exact coreOf_of_legalIf h rfl

/-- A program word spells an instruction of the core that fetched it, and no command. -/
theorem coreOf_of_decodeWord (h : decodeWord c w = some i) : coreOf i = some c := by
  unfold decodeWord at h
  dsimp only at h
  split at h
  case h_1 => exact coreOf_of_decodeA h
  case h_2 => cases h; rfl
  case h_3 => cases h; rfl
  case h_4 => cases h; rfl
  case h_5 => cases h; rfl
  case h_6 => exact coreOf_of_decodeU h
  case h_7 => exact coreOf_of_decodeU h
  case h_8 => exact coreOf_of_decodeV h
  case h_9 => exact coreOf_of_decodeK h
  case h_10 => exact coreOf_of_decodeN h
  case h_11 => exact coreOf_of_decodeL h
  case h_12 => exact coreOf_of_decodeL h
  case h_13 => exact coreOf_of_decodeL h
  case h_14 => exact coreOf_of_decodeL h
  case h_15 => exact coreOf_of_decodeB h
  case h_16 => exact coreOf_of_decodeJ h
  case h_17 => exact coreOf_of_decodeJ h
  case h_18 => exact coreOf_of_decodeJ h
  case h_19 => exact coreOf_of_decodeJ h
  case h_20 => exact coreOf_of_decodeJ h
  case h_21 => exact coreOf_of_decodeS h
  case h_22 => cases h

/-- An instruction of a core has an effect, and its command issues that effect. -/
theorem exec_of_coreOf (h : coreOf i = some c) : ∃ eff, effectOf i = some eff ∧ ∀ s, exec i s = issued c i eff s := by
  cases i <;> cases h <;> exact ⟨_, rfl, fun _ => rfl⟩

end

/-! ### What an effect comes to -/

/-- An effect changes core k alone; with file it keeps the registers of core k; with inside it completes, and changes
nothing but the engine. -/
def Res.Confined (file inside : Bool) (k : Nat) (s : State) : Res → Prop
  | .done t => Machine.Confined file inside k s t
  | .jump t _ _ => Machine.Confined file inside k s t
  | .goto t _ => Machine.Confined file inside k s t
  | .stall t _ _ => inside = false ∧ Machine.Confined file inside k s t
  | .ended t => inside = false ∧ Machine.Confined file inside k s t
  | .fault _ => inside = false

/-- The passing of an instruction keeps what its effect keeps. -/
theorem confined_apply {file inside : Bool} {k : Nat} {s : State} {r : Res} (h : r.Confined file inside k s) :
    Confined file inside k s (s.apply k r) := by
  cases r with
  | done t => exact Confined.pass h passes_movedOn
  | jump t a l => exact Confined.pass h fun e => ((passes_retire e).trans (passes_branch _ a l)).trans (passes_settle _)
  | goto t a => exact Confined.pass h fun e => ((passes_retire e).trans (passes_setPc _ a)).trans (passes_settle _)
  | stall t kind arg => exact Confined.pass h.2 fun e => passes_noteStall e kind arg
  | ended t =>
    obtain ⟨rfl, ht⟩ := h
    exact (ht.pass fun e => (passes_retire e).trans (passes_pastEnd _)).endEntry.pass passes_settle
  | fault cause =>
    obtain rfl : inside = false := h
    exact (Confined.refl file false k s).progFault cause

/-! ### The shared forms of effects -/

section
variable {file inside : Bool} (k : Nat) (s : State)

theorem confined_branchIf (cond : Bool) (target : BitVec 12) : (branchIf cond target s).Confined file inside k s := by
  cases cond <;> exact .refl file inside k s

theorem confined_loopStart (count : Word) (target : BitVec 12) : (loopStart k count target s).Confined file false k s := by
  unfold loopStart
  dsimp only
  split_ifs
  · rfl
  · rfl
  · rfl
  · refine Confined.modE (.refl file false k s) ?_
    exact fun _ => ⟨rfl, rfl, rfl⟩
  · refine Confined.modE (.refl file false k s) ?_
    exact fun _ => ⟨rfl, rfl, rfl⟩

theorem confined_walk (g : GReg) (target : BitVec 12) (active : Bool) :
    (walk k g target active s).Confined false false k s := by
  have hself := Confined.refl false false k s
  unfold walk
  dsimp only
  split
  · rfl
  · split
    · refine Confined.modE hself.leaveBlock ?_
      exact fun _ => .refl _
    · refine Confined.setG (Confined.modE ?_ ?_) _ _
      · split
        · exact hself
        · exact hself.leaveBlock
      · exact fun _ => .refl _

theorem confined_blockRel {eff : State → Fin 512 → Res} (h : ∀ b, (eff s b).Confined file false k s) :
    (blockRel k eff s).Confined file false k s := by
  unfold blockRel
  split
  · rfl
  · split
    · rfl
    · exact h _

theorem confined_vtrup (high : Bool) (va : VReg) (m : MReg) (ga gb gc : GReg) :
    (vtrup k high va m ga gb gc s).Confined file false k s := by
  unfold vtrup
  dsimp only
  split
  · rfl
  · split
    · rfl
    · refine Confined.noteClip ?_ _
      refine List.foldlRecOn (motive := Confined file false k s) _ _ ((Confined.refl file false k s).setRng _) fun t h e _ => ?_
      split
      · exact h.setTraceHalf _ _ _
      · exact h

theorem Confined.of_eq {k : Nat} {s t u : State} (htu : t = u) (h : Confined file inside k s t) :
    Confined file inside k s u := htu ▸ h

theorem confined_vemit (va : VReg) (m : MReg) (lo hi : Int) : (vemit k va m lo hi s).Confined file false k s := by
  have hgate := (Confined.refl file false k s).reachGate
  unfold vemit
  dsimp only
  split
  · rfl
  · split
    · rfl
    · split
      · exact ⟨rfl, hgate⟩
      · split
        case h_1 u heq => exact Confined.of_eq (congrArg Prod.fst heq) (hgate.emitFrom _ _ _ _)
        case h_2 u i heq =>
          refine ⟨rfl, Confined.modE (Confined.of_eq (congrArg Prod.fst heq) (hgate.emitFrom _ _ _ _)) ?_⟩
          exact fun _ => .refl _

theorem confined_ld (reg ra : GReg) (view : Fin 7) (sfx : Fin 3) (off : BitVec 11) :
    (effILd k reg ra view sfx off s).Confined false false k s := by
  have hself := Confined.refl false false k s
  unfold effILd
  split
  · rfl
  · split
    · refine ⟨rfl, ?_⟩
      split
      · exact hself
      · exact hself.eccFault _ _ _
    · split
      · rfl
      · exact hself.setG _ _

theorem confined_st (reg ra : GReg) (view : Fin 7) (sfx : Fin 3) (off : BitVec 11) :
    (effISt k reg ra view sfx off s).Confined file false k s := by
  unfold effISt
  split
  · rfl
  · split
    · rfl
    · split
      · rfl
      · exact ((Confined.refl file false k s).viewStore _ _ _ _).noteClip _

theorem confined_vld (reg : VReg) (ra : GReg) (view : Fin 7) (sfx : Fin 3) (m : MReg) (off : BitVec 11) :
    (effIVld k reg ra view sfx m off s).Confined false false k s := by
  unfold effIVld
  split
  · rfl
  · dsimp only
    split
    · rfl
    · exact (Confined.refl false false k s).setV _ _

theorem confined_vst (reg : VReg) (ra : GReg) (view : Fin 7) (sfx : Fin 3) (m : MReg) (off : BitVec 11) :
    (effIVst k reg ra view sfx m off s).Confined file false k s := by
  unfold effIVst
  split
  · rfl
  · dsimp only
    split
    · rfl
    · refine Confined.noteClip ?_ _
      refine List.foldlRecOn (motive := Confined file false k s) _ _ (.refl file false k s) fun t h e _ => ?_
      split
      · exact h.viewStore _ _ _ _
      · exact h

theorem confined_vacc (vd : VReg) : (effIVacc k vd s).Confined false false k s := by
  refine confined_blockRel k s fun b => ?_
  split
  · rfl
  · refine Confined.modE (Confined.apart ((Confined.refl false false k s).setV vd _) (apart_clearAcc _ k _)) ?_
    exact fun _ => .refl _

theorem confined_aclr : (effIAclr k s).Confined file false k s := by
  refine confined_blockRel k s fun b => ?_
  split
  · rfl
  · refine Confined.modE ((Confined.refl file false k s).apart (apart_clearAcc s k _)) ?_
    exact fun _ => .refl _

theorem confined_vscl (vd va : VReg) (m : MReg) : (effIVscl k vd va m s).Confined false false k s := by
  refine confined_blockRel k s fun b => ?_
  have hself := Confined.refl false false k s
  dsimp only
  split
  · exact (hself.setRng _).setV _ _
  · exact hself.setV _ _

theorem confined_pmark (m : MReg) : (effIPmark k m s).Confined file false k s := by
  refine confined_blockRel k s fun b => ?_
  split
  · exact .refl file false k s
  · refine Confined.modE (.refl file false k s) ?_
    exact fun _ => .refl _

theorem confined_hold (m : MReg) : (effIHold k m s).Confined file false k s := by
  refine confined_blockRel k s fun b => ?_
  refine Confined.modE (.refl file false k s) ?_
  exact fun _ => .refl _

theorem confined_emit (ra rb : GReg) : (effIEmit k ra rb s).Confined file false k s := by
  have hgate := (Confined.refl file false k s).reachGate
  unfold effIEmit
  dsimp only
  split
  · rfl
  · split
    · rfl
    · split
      · exact ⟨rfl, hgate⟩
      · split
        case h_1 t ht => exact hgate.emit ht
        case h_2 => exact ⟨rfl, hgate⟩

theorem confined_qsend (ra rb rd : GReg) : (effIQsend k ra rb rd s).Confined file false k s := by
  have hself := Confined.refl file false k s
  unfold effIQsend
  dsimp only
  split
  · rfl
  · split
    · exact ⟨rfl, hself⟩
    · split
      · exact ⟨rfl, hself⟩
      · exact (hself.apart (apart_modCluster s _ _)).apart (apart_sendDesc _ _ _ _ _ _)

theorem confined_qrecv (rd ra : GReg) (q : Fin 4) : (effIQrecv k rd ra q s).Confined false false k s := by
  have hkept := (Confined.refl false false k s).releaseKept q
  unfold effIQrecv
  dsimp only
  split
  · exact ⟨rfl, hkept⟩
  · exact ((hkept.modQ q _).setG _ _).setG _ _

theorem confined_sig (ra rb : GReg) : (effISig k ra rb s).Confined file false k s := by
  unfold effISig
  split
  · rfl
  · exact (Confined.refl file false k s).apart (apart_sendPkt s _ _)

theorem confined_waits (ra rb : GReg) : (effIWaits k ra rb s).Confined file false k s := by
  have hself := Confined.refl file false k s
  unfold effIWaits
  split
  · rfl
  · dsimp only
    split
    · exact hself
    · rfl
    · refine ⟨rfl, ?_⟩
      split
      · exact hself
      · refine Confined.modE (hself.apart (apart_sendPkt s _ _)) ?_
        exact fun _ => .refl _

theorem confined_mfs (rd : GReg) (sr : Byte) : (effIMfs k rd sr s).Confined false false k s := by
  have hset := (Confined.refl false false k s).setG rd (s.mfs k sr.toNat)
  unfold effIMfs
  dsimp only
  split
  · exact hset.apart (apart_spend _)
  · exact hset

end

/-! ### The sweep -/

/-- Every instruction of core c changes core c alone; a register instruction nothing but its engine, and one that writes
no register keeps them all. -/
theorem confined_effectOf {i : Instr} {c : CoreId} {eff : State → Res} (hc : coreOf i = some c) (he : effectOf i = some eff)
    (s : State) : (eff s).Confined (keepsRegisters i) (registerOnly i) c.key s := by
  have hself (file inside : Bool) : Confined file inside c.key s s := .refl file inside c.key s
  cases i <;> cases hc <;> cases he
  case iAdd | iSub | iAnd | iOr | iXor | iSll | iSrl | iSra | iMul | iMulhs | iMin | iMax | iSlt | iSltu | iMuls |
      iSlli | iSrli | iSrai | iSatS8 | iSatS16 | iSatU8 | iAbs | iAddi | iAndi | iOri | iXori | iLi | iLih |
      iVext | iVsum | iMfm | iMpop | iQpeek => exact (hself false _).setG _ _
  case iSrs | iRand => exact ((hself false _).setRng _).setG _ _
  case iVadd | iVsub | iVand | iVor | iVxor | iVmin | iVmax | iVsllv | iVsrav | iVmul | iVmuls | iVabs | iVsll | iVsrl |
      iVsra | iVsel | iVmov | iVbcast | iViota | iVins => exact (hself false _).setV _ _
  case iVsrs | iVrand => exact ((hself false _).setRng _).setV _ _
  case iVsatS8 | iVsatS16 | iVsatU8 => exact ((hself false _).setV _ _).noteClip _
  case iVcmpEq | iVcmpNe | iVcmpLt | iVcmpLe | iVcmpGt | iVcmpGe | iMand | iMor | iMxor | iMandn | iMnot | iMmov =>
    exact (hself false _).setM _ _
  case iBr | iBeq | iBne | iBlt | iBge | iBltu | iBgeu | iBz | iBnz | iBany | iBnone => exact confined_branchIf _ s _ _
  case iNop | iRet => exact hself _ _
  case iEnd => exact ⟨rfl, hself _ _⟩
  case iCall =>
    refine Confined.modE (hself true false) ?_
    exact fun _ => ⟨rfl, rfl, rfl⟩
  case iLoop | iLoopi => exact confined_loopStart _ s _ _
  case iNxtblkA | iNxtblkP => exact confined_walk _ s _ _ _
  case iVacc => exact confined_vacc _ s _
  case iAclr => exact confined_aclr _ s
  case iDecay => exact confined_blockRel _ s fun b => (hself false false).setV _ _
  case iVscl => exact confined_vscl _ s _ _ _
  case iPmark => exact confined_pmark _ s _
  case iHold => exact confined_hold _ s _
  case iBstamp => exact confined_blockRel _ s fun b => (hself true false).stamp _
  case iVtrupL | iVtrupH => exact confined_vtrup _ s _ _ _ _ _ _
  case iVemitU | iVemitS => exact confined_vemit _ s _ _ _ _
  case iLd => exact confined_ld _ s _ _ _ _ _
  case iSt => exact confined_st _ s _ _ _ _ _
  case iVld => exact confined_vld _ s _ _ _ _ _ _
  case iVst => exact confined_vst _ s _ _ _ _ _ _
  case iMfs => exact confined_mfs _ s _ _
  case iMts => exact (hself true false).mts _ _
  case iEmit => exact confined_emit _ s _ _
  case iQsend => exact confined_qsend _ s _ _ _
  case iQrecv => exact confined_qrecv _ s _ _ _
  case iSig => exact confined_sig _ s _ _
  case iWaits => exact confined_waits _ s _ _
  case iMod | iMskip =>
    refine Confined.modE (hself true false) ?_
    exact fun _ => .refl _

/-- Settles O22: an instruction that is next is one of the core's own, and its effect and its passing are confined. -/
theorem instructionFrames : Obligations.InstructionFrames := by
  intro s t c i hr hx k regs
  have ⟨_, _, _, hdec⟩ := hr
  have hc : coreOf i = some c := coreOf_of_decodeWord hdec
  obtain ⟨eff, he, hexec⟩ := exec_of_coreOf hc
  rw [hexec, issued, issue_of_ready eff hr] at hx
  cases hx
  obtain ⟨hothers, htenants, hsh, hsync, hgate, hfile, hinside⟩ := confined_apply (confined_effectOf hc he s)
  refine ⟨fun hin => ?_, fun hkeeps => ?_, hothers, htenants, hsh, hsync, hgate⟩
  · obtain ⟨hmem, hstation, hcluster, hpending, hi, hq, hmrv, hblk, hst⟩ := hinside hin
    exact ⟨hmem, hstation, hcluster, hpending, hi, hq, hmrv, hblk, hst⟩
  · obtain ⟨hg, hv, hm⟩ := hfile hkeeps
    exact ⟨hg, hv, hm⟩

end Sys2Proof.Machine

/-!
Commits and MESSAGE entries (R45, R69, R70, R273, R289, R413): the report of a core's commit, the edge that a commit has
held, and the snapshots that are taken while it is held.
-/

namespace Sys2Proof.Machine

/-! ### The commit start -/

/-- A core that the commit start has reached. -/
def Core.commitReached (c : Core) : Core :=
  { c with e := { c.e with fl := { c.e.fl with commitDue := true, commitDone := false } } }

/-- After the last tick of an epoch the commit start reaches every core (R413). -/
theorem answers_commitStart {s : State} {t : Tenant} (hst : (s.shear t).state = .emit) (hpstop : (s.shear t).pstop = false)
    (hstop : (s.shear t).stopping = false) (hlast : (s.shear t).lastOfEpoch = true) (hended : s.ended t = true)
    (hdrained : s.drained t = true) : Answers (.commitStart t) s fun u =>
      (u.shear t).state = .commit ∧ ∀ j ∈ s.coresOf t, (u.core j).e.fl.commitDue = true := by
  let s1 := s.modShear t fun x => { x with state := .commit }
  have hx : execCommitStart t s = .next (s1.modCores (s1.coresOf t) Core.commitReached) := by
    simp [execCommitStart, hst, hpstop, hstop, hlast, hended, hdrained, s1]
    rfl
  refine ⟨_, hx, ?_, fun j hj => ?_⟩
  · rw [shear_modCores, shear_modShear_self]
  · obtain ⟨c, hc⟩ := core_modCores_of_mem (s := s1) Core.commitReached hj
    exact (congrArg (·.e.fl.commitDue) hc).trans rfl

/-- An idle core that the commit start has reached begins its EPOCH entry, or its commit work (R69, R70, R273). -/
theorem answers_epochEntryStart {s : State} {c : CoreId} (hdue : (s.core c.key).e.fl.commitDue = true)
    (hst : (s.core c.key).e.st = .idle) (hhalt : (s.core c.key).e.dbg.halted = false) (hmay : s.mayCommit c.key = true) :
    Answers (.epochEntryStart c) s fun u =>
      (u.core c.key).e.fl.commitDue = false ∧
      ((s.core c.key).e.cr.entEpoch.en = true →
        (u.core c.key).e.st = .epoch ∧ (u.core c.key).e.regs.pc = (s.core c.key).e.cr.entEpoch.addr) ∧
      ((s.core c.key).e.cr.entEpoch.en = false → (u.core c.key).mrv.busy = true) := by
  let s1 := s.modE c.key fun e => { e with fl := { e.fl with commitDue := false } }
  cases hen : (s.core c.key).e.cr.entEpoch.en with
  | true =>
    have hx : execEpochEntryStart c s = .next (s1.modE c.key fun e => e.enter .epoch e.cr.entEpoch) := by
      simp [execEpochEntryStart, hdue, hst, hhalt, hmay, hen, s1]
    refine ⟨_, hx, ?_, fun _ => ⟨?_, ?_⟩, nofun⟩ <;> rw [core_modE_self, core_modE_self] <;> rfl
  | false =>
    have hx : execEpochEntryStart c s = .next (s1.modMrv c.key fun m => { m with busy := true }) := by
      simp [execEpochEntryStart, hdue, hst, hhalt, hmay, hen, s1]
    refine ⟨_, hx, ?_, nofun, fun _ => ?_⟩ <;> rw [State.modMrv, core_modCore_self, core_modE_self]

/-! ### The report of a commit -/

/-- The core has reported the end of its commit, and its EPOCH is n (R273). -/
structure Core.Reported (c : Core) (n : Word) : Prop where
  busy : c.mrv.busy = false
  skip : c.e.md.skip = false
  done : c.e.fl.commitDone = true
  epoch : c.e.fl.epoch = n

section
variable {s : State} {k : Nat} {n : Word}

theorem Core.Reported.modE {f : NEngine → NEngine} (h : (s.core k).Reported n)
    (hf : ∀ e : NEngine, (f e).md = e.md ∧ (f e).fl.commitDone = e.fl.commitDone ∧ (f e).fl.epoch = e.fl.epoch) :
    ((s.modE k f).core k).Reported n := by
  obtain ⟨hmd, hdone, hepoch⟩ := hf (s.core k).e
  rw [core_modE_self]
  exact ⟨h.busy, (congrArg (·.skip) hmd).trans h.skip, hdone.trans h.done, hepoch.trans h.epoch⟩

theorem Core.Reported.reachGate (h : (s.core k).Reported n) : ((s.reachGate k).core k).Reported n := by
  unfold State.reachGate
  split
  · exact h
  · rw [core_spend]
    exact Core.Reported.modE h fun _ => ⟨rfl, rfl, rfl⟩

theorem Core.Reported.endUpdate (h : (s.core k).Reported n) : ((s.endUpdate k).core k).Reported n := by
  unfold State.endUpdate
  refine Core.Reported.reachGate ?_
  rw [core_spend]
  refine Core.Reported.modE ?_ fun _ => ⟨rfl, rfl, rfl⟩
  split
  · exact Core.Reported.modE h fun _ => ⟨rfl, rfl, rfl⟩
  · exact h

theorem beginUpdate_keeps (e0 e : NEngine) : (e0.beginUpdate e).md = e.md ∧
    (e0.beginUpdate e).fl.commitDone = e.fl.commitDone ∧ (e0.beginUpdate e).fl.epoch = e.fl.epoch := by
  unfold NEngine.beginUpdate
  dsimp only
  split_ifs <;> exact ⟨rfl, rfl, rfl⟩

theorem Core.Reported.startUpdate (h : (s.core k).Reported n) : ((s.startUpdate k).core k).Reported n := by
  have hbegin (e0 : NEngine) : ((s.modE k (NEngine.beginUpdate e0)).core k).Reported n :=
    Core.Reported.modE h (beginUpdate_keeps e0)
  unfold State.startUpdate
  dsimp only
  split
  · exact Core.Reported.modE h fun _ => ⟨rfl, rfl, rfl⟩
  · split
    · exact Core.Reported.endUpdate (hbegin _)
    · exact hbegin _

theorem Core.Reported.afterEntry (h : (s.core k).Reported n) : ((s.afterEntry k).core k).Reported n := by
  unfold State.afterEntry
  split
  · exact Core.Reported.startUpdate h
  · exact h

theorem reported_reportCommit (s : State) (k : Nat) :
    ((s.reportCommit k).core k).Reported ((s.core k).e.fl.epoch + 1) := by
  unfold State.reportCommit
  refine Core.Reported.afterEntry ?_
  rw [core_modCore_self, settle_eq]
  exact ⟨rfl, rfl, rfl, rfl⟩

end

/-- The end of the commit work is reported, and EPOCH advances where the Marver has done none (R273). -/
theorem answers_commitWorkEnd {s : State} {c : CoreId} (hbusy : (s.core c.key).mrv.busy = true) :
    Answers (.commitWorkEnd c) s fun u =>
      (u.core c.key).mrv.busy = false ∧ (u.core c.key).e.md.skip = false ∧ (u.core c.key).e.fl.commitDone = true ∧
      ((s.core c.key).mrv.en = false → (u.core c.key).e.fl.epoch = (s.core c.key).e.fl.epoch + 1) := by
  let s1 := if (s.core c.key).mrv.en then s.commitWork c.key else s
  have hx : execCommitWorkEnd c s = .next (s1.reportCommit c.key) := by simp [execCommitWorkEnd, hbusy, s1]
  obtain ⟨hfree, hskip, hdone, hepoch⟩ := reported_reportCommit s1 c.key
  refine ⟨_, hx, hfree, hskip, hdone, fun hen => ?_⟩
  rw [hepoch, show s1 = s from if_neg (by simp [hen])]

/-! ### The edge that a commit has held -/

/-- From s to u the edge of tenant t has fired now, with an epoch's first tick (R45). -/
structure EdgeFired (s u : State) (t : Tenant) : Prop where
  state : (u.shear t).state = .update
  eptick : (u.shear t).eptick = 0
  edgeAt : (u.shear t).edgeAt = s.now
  lehr : u.lehr = s.lehr

theorem lehr_modCores (s : State) (ks : List Nat) (f : Core → Core) : (s.modCores ks f).lehr = s.lehr := by
  rw [modCores_eq]

theorem lehr_unnote (s : State) (t : Tenant) : (s.unnote t).lehr = s.lehr := by
  rw [unnote_eq]

/-- An edge that fires after a commit starts the tenant's epoch (R45, R413). -/
theorem edgeFired_fireEdge {s : State} {t : Tenant} (adv overrun : Nat) (stretched : Bool)
    (hdone : (s.shear t).commitDone = true) : EdgeFired s (s.fireEdge t adv overrun stretched) t := by
  obtain ⟨x, u, heq, hsh, hlehr, hstate, heptick, hedge⟩ : ∃ x u, s.fireEdge t adv overrun stretched =
      (State.modCores u (u.coresOf t) Core.signalled).raiseSource 16 (some t.val) (fun _ => true) ∧
      u.sh = s.sh.set t.val x ∧ u.lehr = s.lehr ∧ x.state = .update ∧ x.eptick = 0 ∧ x.edgeAt = s.now :=
    ⟨_, _, rfl, sh_unnote _ t, lehr_unnote _ t, rfl, by exact if_pos (by
      rw [State.shear] at hdone
      simp [hdone]), rfl⟩
  have hshear : (s.fireEdge t adv overrun stretched).shear t = x := by
    have hset : u.sh = (s.modShear t fun _ => x).sh := hsh
    rw [heq, ← shear_modShear_self s t fun _ => x, State.shear, State.shear, ← hset,
      ← sh_modCores u (u.coresOf t) Core.signalled]
    rfl
  refine ⟨by rw [hshear, hstate], by rw [hshear, heptick], by rw [hshear, hedge], ?_⟩
  rw [heq, ← hlehr]
  exact lehr_modCores u _ _

/-- With nothing else in the way the end of a commit fires the edge now (R45). -/
theorem edgeFired_afterCommit {s : State} {t : Tenant} (hstop : (s.shear t).stopping = false)
    (hhold : (s.shear t).hold = .running) (hpstop : (s.shear t).pstop = false) (hgov : s.govF ≤ 16) :
    EdgeFired s (s.afterCommit t) t := by
  have hafter : s.afterCommit t = (s.modShear t fun x => { x with commitDone := true }).heldEdge t s.now := by
    simp only [State.afterCommit, hstop, hhold, hpstop, Bool.false_eq_true, if_false]
    rfl
  obtain ⟨b, hfire⟩ := edgeAtTime_now (s := s.modShear t fun x => { x with commitDone := true }) t (due := s.now)
    ((s.modShear t fun x => { x with commitDone := true }).wholePeriods t s.now) 0 true hgov rfl
  obtain ⟨hstate, heptick, hedge, hlehr⟩ := edgeFired_fireEdge (s := s.modShear t fun x => { x with commitDone := true })
    ((s.modShear t fun x => { x with commitDone := true }).wholePeriods t s.now) 0 b
    (by rw [shear_modShear_self])
  rw [hafter, State.heldEdge, hfire]
  exact ⟨hstate, heptick, hedge, hlehr⟩

/-! ### Snapshots -/

/-- Job j is a save of tenant t in phase ph. -/
def LehrJob.waitsIn (t : Tenant) (ph : LehrPhase) (j : LehrJob) : Bool := j.who.port == t && j.phase == ph

/-- The state in which the due snapshots of a tenant are being copied (R289). -/
def State.copying (s : State) (t : Tenant) : State :=
  { s.modShear t fun x => { x with state := .snapshot } with
    lehr := { s.lehr with jobs := s.lehr.jobs.map fun j =>
      if j.who.port == t && j.phase == .snapDue then { j with phase := .copying } else j } }

/-- When every core has reported, a snapshot that is due is taken with the edge held (R289). -/
theorem answers_commitReportsIn_of_snapshot {s : State} {t : Tenant} (hst : (s.shear t).state = .commit)
    (hall : s.allReported t = true) (hstop : (s.shear t).stopping = false) (hdue : s.snapshotDue t = true) :
    Answers (.commitReportsIn t) s fun u => (u.shear t).state = .snapshot ∧ u.snapshotDue t = false := by
  have hx : execCommitReportsIn t s = .next (s.copying t) := by
    simp [execCommitReportsIn, hst, hall, hstop, hdue, State.copying]
  refine ⟨_, hx, ?_, ?_⟩
  · exact congrArg Shears.state (shear_modShear_self s t fun x => { x with state := .snapshot })
  · rw [State.snapshotDue, List.any_eq_false]
    intro j hj
    obtain ⟨x, -, rfl⟩ := List.mem_map.mp hj
    split
    · simp
    · assumption

/-- When every core has reported and no snapshot is due, the held edge fires (R45). -/
theorem answers_commitReportsIn_of_edge {s : State} {t : Tenant} (hst : (s.shear t).state = .commit)
    (hall : s.allReported t = true) (hstop : (s.shear t).stopping = false) (hdue : s.snapshotDue t = false)
    (hhold : (s.shear t).hold = .running) (hpstop : (s.shear t).pstop = false) (hgov : s.govF ≤ 16) :
    Answers (.commitReportsIn t) s fun u => EdgeFired s u t := by
  have hx : execCommitReportsIn t s = .next (s.afterCommit t) := by simp [execCommitReportsIn, hst, hall, hdue]
  exact ⟨_, hx, edgeFired_afterCommit hstop hhold hpstop hgov⟩

/-- Taking a snapshot leaves the Shears, the time and the governor alone. -/
structure KeepsEdgeDue (s u : State) : Prop where
  sh : u.sh = s.sh
  now : u.now = s.now
  govF : u.govF = s.govF

theorem KeepsEdgeDue.trans {s t u : State} (h : KeepsEdgeDue s t) (h' : KeepsEdgeDue t u) : KeepsEdgeDue s u :=
  ⟨h'.sh.trans h.sh, h'.now.trans h.now, h'.govF.trans h.govF⟩

theorem finishAsync_keeps (s : State) (a : Async) (status : Nat) (d : Option Word) :
    KeepsEdgeDue s (s.finishAsync a status d) ∧ (s.finishAsync a status d).lehr = s.lehr := by
  unfold State.finishAsync
  cases d <;> dsimp only <;> split <;> exact ⟨⟨rfl, rfl, rfl⟩, rfl⟩

theorem writeByte_keeps (s : State) (a : Nat) (b : Byte) :
    KeepsEdgeDue s (s.writeByte a b) ∧ (s.writeByte a b).lehr = s.lehr := by
  unfold State.writeByte
  split <;> exact ⟨⟨rfl, rfl, rfl⟩, rfl⟩

theorem writeBytes_keeps (s : State) (a : Nat) (bs : List Byte) :
    KeepsEdgeDue s (s.writeBytes a bs) ∧ (s.writeBytes a bs).lehr = s.lehr := by
  induction bs generalizing s a with
  | nil => exact ⟨⟨rfl, rfl, rfl⟩, rfl⟩
  | cons b bs ih =>
    obtain ⟨hkeep, hlehr⟩ := writeByte_keeps s a b
    obtain ⟨hkeeps, hlehrs⟩ := ih (s.writeByte a b) (a + 1)
    exact ⟨hkeep.trans hkeeps, hlehrs.trans hlehr⟩

theorem storeBytes_keeps (s : State) (a : Nat) (bs : List Byte) :
    KeepsEdgeDue s (s.storeBytes a bs) ∧ (s.storeBytes a bs).lehr = s.lehr := by
  have hraced : KeepsEdgeDue s (s.racedBytes a bs).1 ∧ (s.racedBytes a bs).1.lehr = s.lehr := by
    unfold State.racedBytes
    split <;> exact ⟨⟨rfl, rfl, rfl⟩, rfl⟩
  obtain ⟨hkeep, hlehr⟩ := hraced
  obtain ⟨hwrite, hlehrs⟩ := writeBytes_keeps (s.racedBytes a bs).1 a (s.racedBytes a bs).2
  obtain ⟨hsh, hnow, hgov⟩ := hkeep.trans hwrite
  exact ⟨⟨hsh, hnow, hgov⟩, hlehrs.trans hlehr⟩

theorem takeSnapshot_keeps (s : State) (j : LehrJob) : KeepsEdgeDue s (s.takeSnapshot j) := by
  unfold State.takeSnapshot
  dsimp only
  split
  · rw [State.lehrEnd]
    obtain ⟨hsh, hnow, hgov⟩ := (finishAsync_keeps (s.dropJob j) j.who _ _).1
    exact ⟨hsh, hnow, hgov⟩
  · obtain ⟨hsh, hnow, hgov⟩ := (storeBytes_keeps s j.staging (s.saveContent j.who.port j.set)).1
    exact ⟨hsh, hnow, hgov⟩

/-- Taking a snapshot takes one job out of the phase it waits in, or every job that is equal to it. -/
theorem jobs_takeSnapshot (s : State) (j : LehrJob) : (s.takeSnapshot j).lehr.jobs = s.lehr.jobs.erase j ∨
    ∃ k, k.phase = .writing ∧ (s.takeSnapshot j).lehr.jobs = s.lehr.jobs.map fun x => if x = j then k else x := by
  unfold State.takeSnapshot
  dsimp only
  split
  · refine .inl ?_
    rw [State.lehrEnd, (finishAsync_keeps _ _ _ _).2]
    rfl
  · refine .inr ⟨{ j with phase := .writing, len := (s.saveContent j.who.port j.set).length }, rfl, ?_⟩
    rw [State.advanceJob, State.modLehr]
    dsimp only
    rw [(storeBytes_keeps _ _ _).2]

section
variable {α : Type} [BEq α] [LawfulBEq α]

theorem subperm_of_notMem {a : α} {l m : List α} (ha : a ∉ l) (h : l.Subperm (a :: m)) : l.Subperm m := by
  have herase := h.erase a
  rwa [List.erase_of_not_mem ha, List.erase_cons_head] at herase

end

theorem filter_map_ite {α : Type} [DecidableEq α] {p : α → Bool} {j k : α} (hk : p k = false) (l : List α) :
    (l.map fun x => if x = j then k else x).filter p = (l.filter p).filter (· ≠ j) := by
  induction l with
  | nil => rfl
  | cons x l ih =>
    rw [List.map_cons, List.filter_cons, List.filter_cons, ih]
    by_cases hx : x = j
    · subst hx
      cases p x <;> simp [hk]
    · cases hpx : p x <;> simp [hx, hpx]

/-- A job that has been taken no longer waits: those that wait are among the others. -/
theorem waiting_takeSnapshot {s : State} {t : Tenant} {j : LehrJob} {js : List LehrJob}
    (h : (s.lehr.jobs.filter (LehrJob.waitsIn t .copying)).Subperm (j :: js)) :
    ((s.takeSnapshot j).lehr.jobs.filter (LehrJob.waitsIn t .copying)).Subperm js := by
  rcases jobs_takeSnapshot s j with hjobs | ⟨k, hk, hjobs⟩
  · rw [hjobs, ← List.erase_filter]
    have herase := h.erase j
    rwa [List.erase_cons_head] at herase
  · have hout : LehrJob.waitsIn t .copying k = false := by simp [LehrJob.waitsIn, hk]
    rw [hjobs, filter_map_ite hout]
    refine subperm_of_notMem (by simp) (.trans ?_ h)
    exact (List.filter_sublist).subperm

theorem takeSnapshots_spec (s : State) (t : Tenant) : KeepsEdgeDue s (s.takeSnapshots t .copying) ∧
    (s.takeSnapshots t .copying).lehr.jobs.any (LehrJob.waitsIn t .copying) = false := by
  have hrun (js : List LehrJob) (u : State) (h : (u.lehr.jobs.filter (LehrJob.waitsIn t .copying)).Subperm js) :
      KeepsEdgeDue u (js.foldl (fun s j => State.takeSnapshot s j) u) ∧
      ((js.foldl (fun s j => State.takeSnapshot s j) u).lehr.jobs.filter (LehrJob.waitsIn t .copying)).Subperm [] := by
    induction js generalizing u with
    | nil => exact ⟨⟨rfl, rfl, rfl⟩, h⟩
    | cons j js ih =>
      obtain ⟨hkeep, hnone⟩ := ih (u.takeSnapshot j) (waiting_takeSnapshot h)
      exact ⟨(takeSnapshot_keeps u j).trans hkeep, hnone⟩
  obtain ⟨hkeep, hnone⟩ := hrun (s.lehr.jobs.filter (LehrJob.waitsIn t .copying)) s (List.Subperm.refl _)
  refine ⟨hkeep, ?_⟩
  rw [List.subperm_nil, List.filter_eq_nil_iff] at hnone
  rw [List.any_eq_false]
  exact hnone

/-- Once the snapshots have been copied the held edge fires (R45, R289). -/
theorem answers_snapshotCopyDone {s : State} {t : Tenant} (hst : (s.shear t).state = .snapshot)
    (hstop : (s.shear t).stopping = false) (hhold : (s.shear t).hold = .running) (hpstop : (s.shear t).pstop = false)
    (hgov : s.govF ≤ 16) : Answers (.snapshotCopyDone t) s fun u =>
      (u.shear t).state = .update ∧ u.lehr.jobs.any (LehrJob.waitsIn t .copying) = false := by
  obtain ⟨⟨hsh, hnow, hgovF⟩, hnone⟩ := takeSnapshots_spec s t
  have hshear : (s.takeSnapshots t .copying).shear t = s.shear t := by rw [State.shear, State.shear, hsh]
  let s1 := (s.takeSnapshots t .copying).modShear t fun x => { x with state := .commit }
  have hx : execSnapshotCopyDone t s = .next (s1.afterCommit t) := by simp [execSnapshotCopyDone, hst, s1]
  obtain ⟨hstate, -, -, hlehr⟩ := edgeFired_afterCommit (s := s1) (t := t)
    (by rw [shear_modShear_self, hshear, hstop]) (by rw [shear_modShear_self, hshear, hhold])
    (by rw [shear_modShear_self, hshear, hpstop]) (hgovF.trans_le hgov)
  refine ⟨_, hx, hstate, ?_⟩
  rw [hlehr]
  exact hnone

/-! ### The MESSAGE entry -/

/-- The engine as its MESSAGE entry starts with queue q in MSGQ (R65, R69). -/
def NEngine.messageFrom (q : Fin 4) (e : NEngine) : NEngine :=
  let e1 := e.enter .message e.cr.entMessage
  { e1 with fl := { e1.fl with msgq := q } }

/-- The one named queue, or the named queue that a free value selects. -/
theorem execMessageEntryStart_of_mayMessage {s : State} {c : CoreId} (hmay : (s.core c.key).mayMessage = true)
    (hnamed : (s.core c.key).namedQueues ≠ []) : ∃ (q : Fin 4) (u : State),
      execMessageEntryStart c s = .next (u.modE c.key (NEngine.messageFrom q)) ∧
      u.core c.key = s.core c.key ∧ q ∈ (s.core c.key).namedQueues := by
  unfold execMessageEntryStart
  simp only [hmay, Bool.not_true, Bool.false_eq_true, if_false]
  split
  case h_1 hq => exact absurd hq hnamed
  case h_2 q hq => exact ⟨q, s, rfl, rfl, by simp [hq]⟩
  case h_3 q qs _ hq =>
    refine ⟨_, s.spend, rfl, core_spend s c.key, ?_⟩
    rw [hq]
    have hlt : s.free.toNat % (qs.length + 1) < (q :: qs).length := Nat.mod_lt _ (Nat.succ_pos _)
    rw [List.getD_eq_getElem _ _ hlt]
    exact List.getElem_mem hlt

/-- A message in a named queue starts the MESSAGE entry, with one of the named queues in MSGQ (R69, R70). -/
theorem answers_messageEntryStart {s : State} {c : CoreId} (hmay : (s.core c.key).mayMessage = true)
    (hnamed : (s.core c.key).namedQueues ≠ []) : Answers (.messageEntryStart c) s fun u =>
      (u.core c.key).e.st = .message ∧ (u.core c.key).e.regs.pc = (s.core c.key).e.cr.entMessage.addr ∧
      (u.core c.key).e.fl.msgq ∈ (s.core c.key).namedQueues := by
  obtain ⟨q, u, hx, hcore, hq⟩ := execMessageEntryStart_of_mayMessage hmay hnamed
  refine ⟨_, hx, ?_, ?_, ?_⟩ <;> rw [core_modE_self, hcore]
  · rfl
  · rfl
  · exact hq

/-- Settles O24: each clause is the one branch of its command that its conditions leave. -/
theorem commitsAndMessages : Obligations.CommitsAndMessages := by
  intro s t c k sh x e
  refine ⟨answers_commitStart, answers_epochEntryStart, answers_commitWorkEnd, fun hst hall hstop => ⟨?_, ?_⟩,
    answers_snapshotCopyDone, answers_messageEntryStart⟩
  · exact answers_commitReportsIn_of_snapshot hst hall hstop
  · intro hdue hhold hpstop hgov
    refine (answers_commitReportsIn_of_edge hst hall hstop hdue hhold hpstop hgov).imp ?_
    exact fun u h => ⟨h.state, h.eptick, h.edgeAt⟩

end Sys2Proof.Machine

/-!
The core's debug access (R86 to R88, R99, R100): a write of CORE_DBG_CTRL or CORE_DBG_DATA, and what it does to the
engine.
-/

namespace Sys2Proof.Machine

/-! ### The writes of a core's debug registers -/

theorem EngineIs.reply {s t : State} {k : Nat} {e : NEngine} (h : EngineIs s t k e) (r : Req) (ok : Bool) (w : Word) :
    EngineIs (s.reply r ok w) (t.reply r ok w) k e := by
  obtain ⟨⟨hrest, hothers⟩, hcore⟩ := h
  exact ⟨⟨congrArg (fun u : State => u.reply r ok w) hrest, hothers⟩, hcore⟩

theorem coreWrite_dbgCtrl (s : State) (c : CoreId) (v : Word) : s.coreWrite c 0x080 v = (s.dbgCtrl c v, true) := rfl

theorem coreWrite_dbgData (s : State) (c : CoreId) (v : Word) : s.coreWrite c 0x08C v =
    (if s.debugEnabled && (s.core c.key).e.dbg.halted then s.dbgSet c.key (s.core c.key).e.dbg.sel.toNat v else s, true) :=
  rfl

theorem debugEnabled_carried (s : State) (r : Req) (d : Nat) : (s.carried r d).debugEnabled = s.debugEnabled := rfl

section
variable {s : State} {r : Req} {c : CoreId} (h : Served s r) (hc : ReachesCore s c r)
include h hc

/-- A write of CORE_DBG_CTRL with no reserved bit set is carried to the core and performed (R99). -/
theorem cmdWrite_dbgCtrl {v : Word} (hv : v &&& ~~~coreMaskBits 0x080 = 0) :
    s.cmdWrite r (coreReg c 0x080) v = ((s.carried r c.cl.val).dbgCtrl c v).reply r true 0 := by
  have hg := gateOf_of_served h (coreReg c 0x080)
  rw [placeOf_coreReg r c (by decide) rfl, gateReady_core h hc] at hg
  have hl : (s.carried r c.cl.val).portLoads r = false := portLoads_of_reachesCore hc
  refine cmdWrite_of_done h hg ?_
  simp only [Place.dst, State.placeWrite, hl, State.maskedWrite, hv, if_true, coreWrite_dbgCtrl, Bool.false_eq_true,
    if_false]

/-- A command that writes an action to CORE_DBG_CTRL answers what the action leaves, with its reply. -/
theorem answers_dbgCtrl {i : Instr} {v : Word} {t : State} {P : State → Prop}
    (hx : exec i s = .next (s.cmdWrite r (coreReg c 0x080) v)) (hv : v &&& ~~~coreMaskBits 0x080 = 0)
    (ht : (s.carried r c.cl.val).dbgCtrl c v = t) (hP : P (t.reply r true 0)) : Answers i s P :=
  ⟨_, hx, by rwa [cmdWrite_dbgCtrl h hc hv, ht]⟩

/-- A write of CORE_DBG_DATA writes the selected register of a halted engine while debug is enabled (R86, R88). -/
theorem answers_dbgDataWrite {v : Word} {P : State → Prop} (hP : P ((if s.debugEnabled && (s.core c.key).e.dbg.halted then
      (s.carried r c.cl.val).dbgSet c.key (s.core c.key).e.dbg.sel.toNat v else s.carried r c.cl.val).reply r true 0)) :
    Answers (.dbgDataWrite r c v) s P :=
  ⟨_, rfl, by rwa [cmdWrite_coreReg h hc (by decide) rfl rfl (coreWrite_dbgData _ c v)]⟩

end

/-! ### The actions of CORE_DBG_CTRL -/

section
variable {s : State} {c : CoreId}

theorem dbgCtrl_of_disabled (v : Word) (hd : s.debugEnabled = false) : s.dbgCtrl c v = s := by
  simp [State.dbgCtrl, hd]

theorem dbgCtrl_halt (hd : s.debugEnabled = true) : s.dbgCtrl c 1 = s.dbgHalt c.key := by
  simp [State.dbgCtrl, hd]

theorem dbgCtrl_resume (hd : s.debugEnabled = true) : s.dbgCtrl c 2 = s.dbgResume c.key := by
  simp [State.dbgCtrl, hd]

theorem dbgCtrl_step (hd : s.debugEnabled = true) : s.dbgCtrl c 4 = s.dbgStep c := by
  simp [State.dbgCtrl, hd]

theorem dbgCtrl_haltAtEdge (hd : s.debugEnabled = true) : s.dbgCtrl c 8 = s.dbgHaltAtEdge c.key := by
  simp [State.dbgCtrl, hd]

theorem dbgHalt_now {k : Nat} (hhalt : (s.core k).e.dbg.halted = false) (hstall : (s.core k).e.stall = none)
    (hwork : (s.core k).mrv.working = false) : s.dbgHalt k =
      s.modE k fun e => { e with dbg := { e.dbg with halted := true, reason := 0, haltReq := false } } := by
  simp [State.dbgHalt, hhalt, hstall, hwork]

theorem dbgHalt_later {k : Nat} (hhalt : (s.core k).e.dbg.halted = false)
    (hwait : (s.core k).e.stall ≠ none ∨ (s.core k).mrv.working = true) :
    s.dbgHalt k = s.modE k fun e => { e with dbg := { e.dbg with haltReq := true } } := by
  have hany : ((s.core k).e.stall.isSome || (s.core k).mrv.working) = true := by
    rcases hwait with hstall | hwork
    · rw [Option.isSome_iff_ne_none.mpr hstall, Bool.true_or]
    · rw [hwork, Bool.or_true]
  simp [State.dbgHalt, hhalt, hany]

/-- RESUME of a halted engine with no UPDATE program waiting lets it go on (R87). -/
theorem dbgResume_of_halted {k : Nat} (hhalt : (s.core k).e.dbg.halted = true) (hst : (s.core k).e.st ≠ .faulted)
    (hdue : (s.core k).e.st ≠ .idle ∨ (s.core k).e.fl.edgeDue = false) : s.dbgResume k = s.modE k fun e =>
      { e with dbg := { e.dbg with halted := false, stepping := false, bpPassed := e.st.runs } } := by
  have hno : ((s.core k).e.st == .idle && (s.core k).e.fl.edgeDue && !(s.core k).mrv.busy) = false := by
    rcases hdue with hidle | hedge
    · rw [beq_eq_false_iff_ne.mpr hidle, Bool.false_and, Bool.false_and]
    · rw [hedge, Bool.and_false, Bool.false_and]
  simp [State.dbgResume, State.startDue, hhalt, hst, hno]

theorem dbgResume_ignored {k : Nat} (hno : (s.core k).e.dbg.halted = false ∨ (s.core k).e.st = .faulted) :
    s.dbgResume k = s := by
  rcases hno with hhalt | hst
  · simp [State.dbgResume, hhalt]
  · simp [State.dbgResume, hst]

theorem dbgStep_ignored (hno : (s.core c.key).e.dbg.halted = false ∨ (s.core c.key).e.st = .faulted) :
    s.dbgStep c = s := by
  rcases hno with hhalt | hst
  · simp [State.dbgStep, hhalt]
  · simp [State.dbgStep, hst]

end

/-! ### STEP -/

/-- The machine with a STEP under way at core k. -/
def State.stepping (s : State) (k : Nat) : State := s.modE k fun e => { e with dbg := { e.dbg with stepping := true } }

theorem readByte_carried (s : State) (r : Req) (d a : Nat) : (s.carried r d).readByte a = s.readByte a := rfl

theorem fetch_stepping (s : State) (r : Req) (d k : Nat) : ((s.carried r d).stepping k).fetch k = s.fetch k := by
  have hread (a : Nat) : (s.carried r d).readWord a = s.readWord a := readWord_congr fun j _ => readByte_carried s r d _
  rw [State.fetch, State.fetch, State.stepping, readWord_modE, core_modE_self, hread, core_carried]

theorem EState.runs_of_running {st : EState} (h : st = .tick ∨ st = .update ∨ st = .epoch ∨ st = .message) :
    st.runs = true ∧ st ≠ .faulted ∧ st ≠ .idle := by
  rcases h with rfl | rfl | rfl | rfl <;> exact ⟨rfl, nofun, nofun⟩

/-- One step issues the instruction at the pc. It is stated for a name f of stepOne: unfolded in place, its match would
have the kernel run the decoder. -/
theorem stepOne_eq_issue {f : State → CoreId → State} (hf : f = State.stepOne) {s : State} {c : CoreId} {i : Instr}
    {eff : State → Res} (hdec : decodeWord c (s.fetch c.key) = some i) (heff : effectOf i = some eff) :
    f s c = s.issue c i eff := by
  delta State.stepOne at hf
  rw [hf]
  simp only [hdec, heff]

theorem core_stepping (s : State) (r : Req) (d k : Nat) : (((s.carried r d).stepping k).core k).e =
    { (s.core k).e with dbg := { (s.core k).e.dbg with stepping := true } } := by
  rw [State.stepping, core_modE_self, core_carried]

/-- With the STEP under way the instruction at the pc is next, whatever breakpoint stands there (R87, R101). -/
theorem ready_stepping (s : State) (r : Req) {d : Nat} {c : CoreId} {i : Instr} (hst : (s.core c.key).e.st.runs = true)
    (hue : s.ueAt (progAddr c.key (s.core c.key).e.regs.pc.toNat) = false)
    (hdec : decodeWord c (s.fetch c.key) = some i) : Ready ((s.carried r d).stepping c.key) c i := by
  have hcore := core_stepping s r d c.key
  refine ⟨?_, ?_, ?_, ?_⟩
  · rw [hcore]
    simp [NEngine.runnable, hst]
  · rw [hcore]
    simp
  · rw [hcore]
    exact hue
  · rwa [fetch_stepping]

/-- STEP executes the instruction at the pc as its own command would with the STEP under way (R87). -/
theorem dbgStep_eq {s : State} {c : CoreId} {i : Instr} {eff : State → Res} (hhalt : (s.core c.key).e.dbg.halted = true)
    (hstep : (s.core c.key).e.dbg.stepping = false) (hst : (s.core c.key).e.st.runs = true)
    (hfault : (s.core c.key).e.st ≠ .faulted) (hidle : (s.core c.key).e.st ≠ .idle)
    (hdec : decodeWord c ((s.stepping c.key).fetch c.key) = some i) (heff : effectOf i = some eff) :
    s.dbgStep c = (s.stepping c.key).issue c i eff := by
  have hdue : s.startDue c.key = s := by simp [State.startDue, hidle]
  have hgo : (!(s.core c.key).e.dbg.halted || (s.core c.key).e.st == .faulted || (s.core c.key).e.dbg.stepping) = false := by
    simp [hhalt, hfault, hstep]
  rw [← stepOne_eq_issue rfl hdec heff]
  simp only [State.dbgStep, hgo, hdue, hst, Bool.false_eq_true, if_false, if_true, State.stepping]

/-- The engine after a STEP of NOP outside a loop (R87, R100, R122). -/
def NEngine.stepped (e : NEngine) : NEngine :=
  { e with
    stall := none
    waits := none
    emitAt := 0
    regs := { e.regs with pc := e.regs.pc + 1 }
    dbg := { e.dbg with halted := true, reason := 3, stepping := false, haltReq := false, bpPassed := false } }

theorem movedOn_stepping {e : NEngine} (hloop : e.loop.on = false) :
    ({ e with dbg := { e.dbg with stepping := true } } : NEngine).movedOn = e.stepped := by
  simp [NEngine.movedOn, NEngine.retire, NEngine.advance, NEngine.settle, NEngine.stepped, hloop]

/-! ### Debug writes -/

section
variable (s : State) (k : Nat) (w : Word)

theorem engineIs_dbgSet_g (n : GReg) : EngineIs s (s.dbgSet k n.val w) k
    { (s.core k).e with regs := (s.core k).e.regs.putG n w } := by
  have hn : n.val < 0x10 := n.isLt
  have hset : s.dbgSet k n.val w = s.setG k n w := by simp [State.dbgSet, hn]
  rw [hset]
  exact (engineIs_refl s k).setG n w

theorem vmap_update (x : VVal) (l : Fin 16) (w : Word) :
    (vmap fun e => if e.val = l.val then w else x[e.val]) = x.set l.val w := by
  ext j hj : 1
  simp only [vmap, Vector.getElem_ofFn, Vector.getElem_set, eq_comm]

theorem engineIs_dbgSet_v (n : VReg) (l : Fin 16) : EngineIs s (s.dbgSet k (0x10 + 16 * n.val + l.val) w) k
    { (s.core k).e with regs := (s.core k).e.regs.putV n (((s.core k).e.regs.v[n.val]).set l.val w) } := by
  have hlow : ¬ 0x10 + 16 * n.val + l.val < 0x10 := by omega
  have hhigh : 0x10 + 16 * n.val + l.val < 0x90 := by omega
  have hreg : (Fin.ofNat 8 ((0x10 + 16 * n.val + l.val - 0x10) / 16) : VReg) = n := Fin.ext (by
    rw [Fin.val_ofNat]
    omega)
  have helt : (0x10 + 16 * n.val + l.val) % 16 = l.val := by omega
  have hset : s.dbgSet k (0x10 + 16 * n.val + l.val) w = s.setV k n ((s.getV k n).set l.val w) := by
    simp only [State.dbgSet, if_neg hlow, if_pos hhigh, hreg, helt, vmap_update]
  rw [hset]
  exact (engineIs_refl s k).setV n _

theorem engineIs_dbgSet_m (n : MReg) : EngineIs s (s.dbgSet k (0x90 + n.val) w) k
    { (s.core k).e with regs := (s.core k).e.regs.putM n (w.setWidth 16) } := by
  have hlow : ¬ 0x90 + n.val < 0x10 := by omega
  have hvec : ¬ 0x90 + n.val < 0x90 := by omega
  have hmask : 0x90 + n.val < 0x94 := by omega
  have hset : s.dbgSet k (0x90 + n.val) w = s.setM k n (w.setWidth 16) := by
    simp only [State.dbgSet, if_neg hlow, if_neg hvec, if_pos hmask, Nat.add_sub_cancel_left, Fin.ofNat_val_eq_self]
  rw [hset]
  exact (engineIs_refl s k).setM n _

theorem engineIs_dbgSet_special {n : Nat} (hn : n < 0x10) :
    EngineIs s (s.dbgSet k (0xA0 + n) w) k (s.specialWritten k n w) := by
  have hset : s.dbgSet k (0xA0 + n) w = s.mts k n w := by
    rw [State.dbgSet, if_neg (by omega), if_neg (by omega), if_neg (by omega), if_pos (by omega), Nat.add_sub_cancel_left]
  rw [hset]
  exact engineIs_mts s k n w

theorem engineIs_dbgSet_pc : EngineIs s (s.dbgSet k 0xB0 w) k
    { (s.core k).e with regs := { (s.core k).e.regs with pc := w.setWidth 12 } } := by
  rw [State.dbgSet, if_neg (by omega), if_neg (by omega), if_neg (by omega), if_neg (by omega), if_pos rfl]
  exact engineIs_modE s k _

theorem dbgSet_of_lt {sel : Nat} (h : 0xB0 < sel) : s.dbgSet k sel w = s := by
  rw [State.dbgSet, if_neg (by omega), if_neg (by omega), if_neg (by omega), if_neg (by omega), if_neg (by omega)]

end

/-- Settles O51: every command is one write of a debug register, and its action is the branch that its conditions
leave. -/
theorem debugAccess : Obligations.DebugAccess := by
  intro s r c v i h hreach hno k s0 e d replied now ignored dbg regs running sel stepping
  have hc : ReachesCore s c r := ⟨hno, hreach⟩
  have henabled : s0.debugEnabled = s.debugEnabled := debugEnabled_carried s r c.cl.val
  have hctrl {j : Instr} {w : Word} {t : State} {P : State → Prop}
      (hx : exec j s = .next (s.cmdWrite r (coreReg c 0x080) w)) (hw : w &&& ~~~coreMaskBits 0x080 = 0)
      (ht : s0.dbgCtrl c w = t) (hP : P (t.reply r true 0)) : Answers j s P := answers_dbgCtrl h hc hx hw ht hP
  have hissue {j : Instr} {eff : State → Res} (hhalt : d.halted = true) (hstep : d.stepping = false) (hrun : running)
      (hdec : decodeWord c (s.fetch k) = some j) (heff : effectOf j = some eff) :
      s0.dbgStep c = stepping.issue c j eff := by
    obtain ⟨hruns, hfault, hidle⟩ := EState.runs_of_running hrun
    refine dbgStep_eq (s := s0) hhalt hstep hruns hfault hidle ?_ heff
    rw [fetch_stepping]
    exact hdec
  refine ⟨fun hoff a ha => ?off, fun hon => ?on⟩
  case' on =>
    rw [← henabled] at hon
    refine ⟨fun hhalt hstall hwork => ?halt, fun hhalt hwait => ?haltReq, ?atEdge,
      fun hhalt hfault hdue => ?resume, fun hnot => ⟨?resumeNot, ?stepNot⟩, fun hhalt hstep hrun hdec => ?step,
      fun hhalt hstep hrun hdec hue hloop => ?stepNop, fun hhalt => ?data, fun hhalt => ?dataNot⟩
  case off =>
    rw [← henabled] at hoff
    simp only [List.mem_cons, List.not_mem_nil, or_false] at ha
    obtain rfl | rfl | rfl | rfl | rfl := ha
    · exact hctrl rfl rfl (dbgCtrl_of_disabled _ hoff) rfl
    · exact hctrl rfl rfl (dbgCtrl_of_disabled _ hoff) rfl
    · exact hctrl rfl rfl (dbgCtrl_of_disabled _ hoff) rfl
    · exact hctrl rfl rfl (dbgCtrl_of_disabled _ hoff) rfl
    · refine answers_dbgDataWrite h hc ?_
      rw [← henabled, hoff, Bool.false_and]
      rfl
  case halt =>
    refine hctrl rfl rfl ((dbgCtrl_halt hon).trans (dbgHalt_now (s := s0) (k := k) hhalt hstall hwork)) ?_
    exact (engineIs_modE s0 k _).reply r true 0
  case haltReq =>
    refine hctrl rfl rfl ((dbgCtrl_halt hon).trans (dbgHalt_later (s := s0) (k := k) hhalt hwait)) ?_
    exact (engineIs_modE s0 k _).reply r true 0
  case atEdge =>
    refine hctrl rfl rfl (dbgCtrl_haltAtEdge hon) ?_
    exact (engineIs_modE s0 k _).reply r true 0
  case resume =>
    refine hctrl rfl rfl ((dbgCtrl_resume hon).trans (dbgResume_of_halted (s := s0) (k := k) hhalt hfault hdue)) ?_
    exact (engineIs_modE s0 k _).reply r true 0
  case resumeNot =>
    exact hctrl rfl rfl ((dbgCtrl_resume hon).trans (dbgResume_ignored (s := s0) (k := k) hnot)) rfl
  case stepNot => exact hctrl rfl rfl ((dbgCtrl_step hon).trans (dbgStep_ignored (s := s0) (c := c) hnot)) rfl
  case step =>
    obtain ⟨eff, heff, hexec⟩ := exec_of_coreOf (coreOf_of_decodeWord hdec)
    exact hctrl rfl rfl ((dbgCtrl_step hon).trans (hissue hhalt hstep hrun hdec heff)) ⟨_, hexec stepping, rfl⟩
  case stepNop =>
    have hgo : (s0.stepping k).issue c (.iNop c) (effINop k) = (s0.stepping k).modE k NEngine.movedOn :=
      issue_of_ready (effINop k) (ready_stepping s r (EState.runs_of_running hrun).1 hue hdec)
    refine hctrl rfl rfl ((dbgCtrl_step hon).trans ((hissue hhalt hstep hrun hdec rfl).trans hgo)) ?_
    have hdone : EngineIs s0 ((s0.stepping k).modE k NEngine.movedOn) k e.stepped :=
      movedOn_stepping hloop ▸ (engineIs_modE s0 k _).modE NEngine.movedOn
    exact hdone.reply r true 0
  case data =>
    have hdata {P : State → Prop} (hP : P ((s0.dbgSet k sel v).reply r true 0)) : Answers (.dbgDataWrite r c v) s P := by
      refine answers_dbgDataWrite h hc ?_
      rw [← henabled, hon, Bool.true_and, if_pos hhalt]
      exact hP
    refine ⟨fun n hsel => hdata ?_, fun n l hsel => hdata ?_, fun n hsel => hdata ?_, fun hsel => hdata ?_,
      fun hsel => hdata ?_, fun hsel => hdata ?_, fun hsel => hdata ?_⟩
    · exact hsel ▸ (engineIs_dbgSet_g s0 k v n).reply r true 0
    · exact hsel ▸ (engineIs_dbgSet_v s0 k v n l).reply r true 0
    · exact hsel ▸ (engineIs_dbgSet_m s0 k v n).reply r true 0
    · exact hsel ▸ (engineIs_dbgSet_special s0 k v (by decide : 0xA < 0x10)).reply r true 0
    · exact hsel ▸ (engineIs_dbgSet_special s0 k v (by decide : 0xB < 0x10)).reply r true 0
    · exact hsel ▸ (engineIs_dbgSet_pc s0 k v).reply r true 0
    · rw [dbgSet_of_lt s0 k v hsel]
      rfl
  case dataNot =>
    refine answers_dbgDataWrite h hc ?_
    have hno : (s.debugEnabled && (s.core c.key).e.dbg.halted) = false := by
      rw [Bool.and_eq_false_iff]
      exact .inr hhalt
    rw [hno]
    rfl

end Sys2Proof.Machine

/-!
The encodings of the Mladza instruction set (R104 to R122): the fields of a word of each format, and decoding after
encoding.
-/

namespace Sys2Proof.Machine

/-! ### The fields of a word of each format -/

/-- A field that lies inside the word, as arithmetic. -/
theorem fld_ofNat (x : Nat) {lo n : Nat} (h : lo + n ≤ 32) : fld (BitVec.ofNat 32 x) lo n = x / 2 ^ lo % 2 ^ n := by
  rw [fld, bitsOf, BitVec.toNat_ofNat, Nat.shiftRight_eq_div_pow, ← Nat.mod_mul_right_div_self, ← Nat.pow_add,
    Nat.mod_mod_of_dvd _ (Nat.pow_dvd_pow 2 h), Nat.pow_add, Nat.mod_mul_right_div_self]

/-- Format A (R107). -/
theorem fld_wordA {rd ra rb sh fn : Nat} (hrd : rd < 16) (hra : ra < 16) (hrb : rb < 16) (hsh : sh < 32)
    (hfn : fn < 64) : fld (wordA rd ra rb sh fn) 26 6 = 0x01 ∧ fld (wordA rd ra rb sh fn) 22 4 = rd ∧
      fld (wordA rd ra rb sh fn) 18 4 = ra ∧ fld (wordA rd ra rb sh fn) 14 4 = rb ∧
      fld (wordA rd ra rb sh fn) 11 3 = 0 ∧ fld (wordA rd ra rb sh fn) 6 5 = sh ∧
      fld (wordA rd ra rb sh fn) 0 6 = fn := by
  simp (disch := decide) only [wordA, fld_ofNat]
  omega

/-- Format I (R108). -/
theorem fld_wordI {op rd ra imm : Nat} (hop : op < 64) (hrd : rd < 16) (hra : ra < 16) (himm : imm < 2 ^ 18) :
    fld (wordI op rd ra imm) 26 6 = op ∧ fld (wordI op rd ra imm) 22 4 = rd ∧ fld (wordI op rd ra imm) 18 4 = ra ∧
      fld (wordI op rd ra imm) 0 18 = imm := by
  simp (disch := decide) only [wordI, fld_ofNat]
  omega

/-- Format U (R108). -/
theorem fld_wordU {op rd imm : Nat} (hop : op < 64) (hrd : rd < 16) (himm : imm < 2 ^ 16) :
    fld (wordU op rd imm) 26 6 = op ∧ fld (wordU op rd imm) 22 4 = rd ∧ fld (wordU op rd imm) 16 6 = 0 ∧
      fld (wordU op rd imm) 0 16 = imm := by
  simp (disch := decide) only [wordU, fld_ofNat]
  omega

/-- Format V (R110). -/
theorem fld_wordV {vd va vb m sh g fn : Nat} (hvd : vd < 8) (hva : va < 8) (hvb : vb < 8) (hm : m < 4) (hsh : sh < 32)
    (hg : g < 16) (hfn : fn < 64) : fld (wordV vd va vb m sh g fn) 26 6 = 0x10 ∧
      fld (wordV vd va vb m sh g fn) 23 3 = vd ∧ fld (wordV vd va vb m sh g fn) 20 3 = va ∧
      fld (wordV vd va vb m sh g fn) 17 3 = vb ∧ fld (wordV vd va vb m sh g fn) 15 2 = m ∧
      fld (wordV vd va vb m sh g fn) 10 5 = sh ∧ fld (wordV vd va vb m sh g fn) 6 4 = g ∧
      fld (wordV vd va vb m sh g fn) 0 6 = fn := by
  simp (disch := decide) only [wordV, fld_ofNat]
  omega

/-- Format K (R111). -/
theorem fld_wordK {md ma mb g fn : Nat} (hmd : md < 4) (hma : ma < 4) (hmb : mb < 4) (hg : g < 16) (hfn : fn < 64) :
    fld (wordK md ma mb g fn) 26 6 = 0x11 ∧ fld (wordK md ma mb g fn) 24 2 = md ∧ fld (wordK md ma mb g fn) 22 2 = ma ∧
      fld (wordK md ma mb g fn) 20 2 = mb ∧ fld (wordK md ma mb g fn) 16 4 = g ∧ fld (wordK md ma mb g fn) 6 10 = 0 ∧
      fld (wordK md ma mb g fn) 0 6 = fn := by
  simp (disch := decide) only [wordK, fld_ofNat]
  omega

/-- Format N (R115): gb and the low half of gc are unused in most instructions, and are judged together. -/
theorem fld_wordN {vd va m gc gb ga fn : Nat} (hvd : vd < 8) (hva : va < 8) (hm : m < 4) (hgc : gc < 16) (hgb : gb < 16)
    (hga : ga < 16) (hfn : fn < 64) : fld (wordN vd va m gc gb ga fn) 26 6 = 0x12 ∧
      fld (wordN vd va m gc gb ga fn) 23 3 = vd ∧ fld (wordN vd va m gc gb ga fn) 20 3 = va ∧
      fld (wordN vd va m gc gb ga fn) 18 2 = m ∧ fld (wordN vd va m gc gb ga fn) 14 4 = gc ∧
      fld (wordN vd va m gc gb ga fn) 10 4 = gb ∧ fld (wordN vd va m gc gb ga fn) 10 8 = gc * 16 + gb ∧
      fld (wordN vd va m gc gb ga fn) 6 4 = ga ∧ fld (wordN vd va m gc gb ga fn) 0 6 = fn := by
  simp (disch := decide) only [wordN, fld_ofNat]
  omega

/-- Format L (R112): a vector register leaves the top bit of its field unused. -/
theorem fld_wordL {op reg ra view sfx m off : Nat} (hop : op < 64) (hreg : reg < 16) (hra : ra < 16) (hview : view < 8)
    (hsfx : sfx < 4) (hm : m < 4) (hoff : off < 2 ^ 11) : fld (wordL op reg ra view sfx m off) 26 6 = op ∧
      fld (wordL op reg ra view sfx m off) 22 4 = reg ∧ fld (wordL op reg ra view sfx m off) 22 3 = reg % 8 ∧
      fld (wordL op reg ra view sfx m off) 25 1 = reg / 8 ∧ fld (wordL op reg ra view sfx m off) 18 4 = ra ∧
      fld (wordL op reg ra view sfx m off) 15 3 = view ∧ fld (wordL op reg ra view sfx m off) 13 2 = sfx ∧
      fld (wordL op reg ra view sfx m off) 11 2 = m ∧ fld (wordL op reg ra view sfx m off) 0 11 = off := by
  simp (disch := decide) only [wordL, fld_ofNat]
  omega

/-- Format B (R118): a mask register leaves the two top bits of ra's field unused. -/
theorem fld_wordB {cond ra rb t : Nat} (hcond : cond < 16) (hra : ra < 16) (hrb : rb < 16) (ht : t < 2 ^ 12) :
    fld (wordB cond ra rb t) 26 6 = 0x30 ∧ fld (wordB cond ra rb t) 22 4 = cond ∧ fld (wordB cond ra rb t) 18 4 = ra ∧
      fld (wordB cond ra rb t) 18 2 = ra % 4 ∧ fld (wordB cond ra rb t) 20 2 = ra / 4 ∧
      fld (wordB cond ra rb t) 14 4 = rb ∧ fld (wordB cond ra rb t) 12 2 = 0 ∧ fld (wordB cond ra rb t) 0 12 = t := by
  simp (disch := decide) only [wordB, fld_ofNat]
  omega

/-- Format J (R119 to R121). -/
theorem fld_wordJ {op g imm t : Nat} (hop : op < 64) (hg : g < 16) (himm : imm < 2 ^ 10) (ht : t < 2 ^ 12) :
    fld (wordJ op g imm t) 26 6 = op ∧ fld (wordJ op g imm t) 22 4 = g ∧ fld (wordJ op g imm t) 12 10 = imm ∧
      fld (wordJ op g imm t) 0 12 = t := by
  simp (disch := decide) only [wordJ, fld_ofNat]
  omega

/-- Format S (R122). -/
theorem fld_wordS {rd ra rb imm fn : Nat} (hrd : rd < 16) (hra : ra < 16) (hrb : rb < 16) (himm : imm < 2 ^ 8)
    (hfn : fn < 64) : fld (wordS rd ra rb imm fn) 26 6 = 0x38 ∧ fld (wordS rd ra rb imm fn) 22 4 = rd ∧
      fld (wordS rd ra rb imm fn) 18 4 = ra ∧ fld (wordS rd ra rb imm fn) 14 4 = rb ∧
      fld (wordS rd ra rb imm fn) 6 8 = imm ∧ fld (wordS rd ra rb imm fn) 0 6 = fn := by
  simp (disch := decide) only [wordS, fld_ofNat]
  omega

/-! ### Decoding after encoding -/

/-- Settles O58: format by format, the decoder reads back the fields that the encoder wrote, and finds the unused ones
zero. -/
theorem decodeEncode : Obligations.DecodeEncode := by
  intro i c w hwf hcore hword
  cases i with
  | iAdd | iSub | iAnd | iOr | iXor | iSll | iSrl | iSra | iMul | iMulhs | iMin | iMax | iSlt | iSltu | iSlli | iSrli
  | iSrai | iSatS8 | iSatS16 | iSatU8 | iAbs | iRand | iMuls =>
    cases hcore
    cases hword
    simp (disch := omega) [decodeWord, decodeA, fld_wordA, legalIf, fG]
  | iSrs =>
    cases hcore
    cases hword
    simpa (disch := omega) [decodeWord, decodeA, fld_wordA, legalIf, fG, Instr.wellFormed] using hwf
  | iAddi | iAndi | iOri | iXori =>
    cases hcore
    cases hword
    simp (disch := omega) [decodeWord, fld_wordI, fG]
  | iLi | iLih =>
    cases hcore
    cases hword
    simp (disch := omega) [decodeWord, decodeU, fld_wordU, legalIf, fG]
  | iVadd | iVsub | iVand | iVor | iVxor | iVmin | iVmax | iVsllv | iVsrav | iVmul | iVsel | iVmuls | iVabs | iVsatS8
  | iVsatS16 | iVsatU8 | iVmov | iVsll | iVsrl | iVsra | iVbcast | iViota | iVrand | iVsum | iVcmpEq
  | iVcmpNe | iVcmpLt | iVcmpLe | iVcmpGt | iVcmpGe =>
    cases hcore
    cases hword
    simp (disch := omega) [decodeWord, decodeV, fld_wordV, legalIf, fG, fV, fM]
  | iVext | iVins =>
    cases hcore
    cases hword
    simp (disch := omega) [decodeWord, decodeV, fld_wordV, legalIf, fG, fV, Fin.is_le]
  | iVsrs =>
    cases hcore
    cases hword
    simpa (disch := omega) [decodeWord, decodeV, fld_wordV, legalIf, fG, fV, fM, Instr.wellFormed] using hwf
  | iMand | iMor | iMxor | iMandn | iMnot | iMmov | iMfm | iMpop =>
    cases hcore
    cases hword
    simp (disch := omega) [decodeWord, decodeK, fld_wordK, legalIf, fG, fM]
  | iVacc | iAclr | iDecay | iVscl | iPmark | iHold | iBstamp | iVtrupL | iVtrupH | iVemitU | iVemitS =>
    cases hcore
    cases hword
    simp (disch := omega) [decodeWord, decodeN, fld_wordN, legalIf, fG, fV, fM]
  | iLd | iSt | iVld | iVst =>
    cases hcore
    cases hword
    simpa (disch := omega) [decodeWord, decodeL, fld_wordL, Nat.mod_eq_of_lt, legalIf, fG, fV, fM, Instr.wellFormed]
      using hwf
  | iBr | iBeq | iBne | iBlt | iBge | iBltu | iBgeu | iBz | iBnz | iBany | iBnone =>
    cases hcore
    cases hword
    simp (disch := omega) [decodeWord, decodeB, fld_wordB, Nat.mod_eq_of_lt, legalIf, fG, fM]
  | iCall | iLoop | iLoopi | iNxtblkA | iNxtblkP =>
    cases hcore
    cases hword
    simp (disch := omega) [decodeWord, decodeJ, fld_wordJ, legalIf, fG]
  | iNop | iEnd | iRet | iMskip | iMfs | iMts | iEmit | iQsend | iQpeek | iSig | iWaits | iMod =>
    cases hcore
    cases hword
    simp (disch := omega) [decodeWord, decodeS, fld_wordS, legalIf, fG]
  | iQrecv =>
    cases hcore
    cases hword
    simpa (disch := omega) [decodeWord, decodeS, fld_wordS, legalIf, fG, Instr.wellFormed] using hwf
  | _ => cases hcore

end Sys2Proof.Machine

/-!
What the scalar, immediate and vector instructions write (R107 to R110).
-/

namespace Sys2Proof.Machine

/-! ### Scalar instructions (O1) -/

theorem sminWord_eq (a b : Word) : sminWord a b = if b.toInt < a.toInt then b else a := by
  rw [sminWord, ← ite_not]
  simp only [not_le]

/-- LIH keeps the low half of its register beside the new high half (R108). -/
theorem append_setWidth_eq (half : BitVec 16) (w : Word) :
    half ++ w.setWidth 16 = half.zeroExtend 32 <<< 16 ||| (w &&& 0xFFFF) := by
  refine BitVec.eq_of_getLsbD_eq fun i hi => ?_
  have hmask : BitVec.getLsbD (0xFFFF : Word) i = decide (i < 16) := by
    rw [show (0xFFFF : Word) = BitVec.ofNat 32 (2 ^ 16 - 1) from rfl, BitVec.getLsbD_ofNat, Nat.testBit_two_pow_sub_one,
      decide_eq_true hi, Bool.true_and]
  rw [BitVec.getLsbD_append, BitVec.getLsbD_setWidth, BitVec.getLsbD_or, BitVec.getLsbD_and, hmask,
    BitVec.getLsbD_shiftLeft, BitVec.getLsbD_setWidth, decide_eq_true hi]
  by_cases h : i < 16
  · simp [h]
  · have hsub : i - 16 < 32 := by omega
    simp [h, hsub]

theorem computes_setG {s : State} {c : CoreId} {i : Instr} {eff : State → Res} {rd : GReg} {w : Word}
    (hx : exec i s = issued c i eff s) (he : eff s = .done (s.setG c.key rd w)) : Computes s c i fun r => r.putG rd w :=
  computes_of_engineIs hx he ((engineIs_refl s c.key).setG rd w)

/-- Settles O1: each instruction is a function of its operands, which its row of R107 or R108 names. -/
theorem scalarOps : Obligations.ScalarOps := by
  intro s c rd ra rb sh imm half a b put
  refine ⟨computes_scalar2 rfl rfl, computes_scalar2 rfl rfl, computes_scalar2 rfl rfl, computes_scalar2 rfl rfl,
    computes_scalar2 rfl rfl, computes_scalar2 rfl rfl, computes_scalar2 rfl rfl, computes_scalar2 rfl rfl,
    computes_scalar2 rfl rfl, computes_scalar2 rfl rfl, computes_scalar2 rfl (sminWord_eq a b),
    computes_scalar2 rfl rfl, computes_scalar2 rfl rfl, computes_scalar2 rfl rfl, computes_scalar1 rfl rfl,
    computes_scalar1 rfl rfl, computes_scalar1 rfl rfl, computes_scalar1 rfl rfl, computes_scalar1 rfl rfl,
    computes_scalar1 rfl rfl, computes_scalar1 rfl rfl, computes_setG rfl rfl, ?lih⟩
  case lih =>
    rw [← append_setWidth_eq]
    exact computes_setG rfl rfl

/-! ### Vector instructions (O3, O4) -/

/-- A masked write of elements is what a vector instruction computes (R109). -/
theorem computes_setV_vmask {s : State} {c : CoreId} {i : Instr} {eff : State → Res} {vd : VReg} {m : MReg}
    {f : Fin 16 → Word} (hx : exec i s = issued c i eff s)
    (he : eff s = .done (s.setV c.key vd (vmask (s.getM c.key m) (vmap f) (s.getV c.key vd)))) :
    Computes s c i fun r => r.putMasked vd m f :=
  computes_of_engineIs hx he ((engineIs_refl s c.key).setV_vmask vd m f)

theorem computes_vector1 {s : State} {c : CoreId} {i : Instr} {vd va : VReg} {m : MReg} {f : Word → Word}
    {x : Fin 16 → Word} (hx : exec i s = issued c i (vector1 c.key vd va m f) s)
    (hf : ∀ e : Fin 16, f (s.getV c.key va)[e.val] = x e) : Computes s c i fun r => r.putMasked vd m x :=
  funext hf ▸ computes_setV_vmask hx rfl

theorem computes_vector2 {s : State} {c : CoreId} {i : Instr} {vd va vb : VReg} {m : MReg} {f : Word → Word → Word}
    {x : Fin 16 → Word} (hx : exec i s = issued c i (vector2 c.key vd va vb m f) s)
    (hf : ∀ e : Fin 16, f (s.getV c.key va)[e.val] (s.getV c.key vb)[e.val] = x e) :
    Computes s c i fun r => r.putMasked vd m x :=
  funext hf ▸ computes_setV_vmask hx rfl

/-- VSEL takes every element from one of its operands (R110). -/
theorem computes_vsel (s : State) (c : CoreId) (vd va vb : VReg) (m : MReg) : Computes s c (.iVsel c vd va vb m)
    fun r => r.putV vd (Vector.ofFn fun e =>
      if (r.readM m).getLsbD e.val then (s.getV c.key va)[e.val] else (s.getV c.key vb)[e.val]) :=
  computes_of_engineIs rfl rfl ((engineIs_refl s c.key).setV vd _)

/-- Settles O3: each instruction is a masked write of its row of R110; VSEL alone writes every element. -/
theorem vectorElementOps : Obligations.VectorElementOps := by
  intro s c vd va vb m sh a b put
  refine ⟨computes_vector2 rfl fun _ => rfl, computes_vector2 rfl fun _ => rfl, computes_vector2 rfl fun _ => rfl,
    computes_vector2 rfl fun _ => rfl, computes_vector2 rfl fun _ => rfl, computes_vector2 rfl fun _ => sminWord_eq _ _,
    computes_vector2 rfl fun _ => rfl, ?sllv, ?srav, computes_vector2 rfl fun _ => rfl, ?muls,
    computes_vsel s c vd va vb m⟩
  case sllv => exact computes_vector2 (f := fun x y => x <<< shAmt y) rfl fun _ => rfl
  case srav => exact computes_vector2 (f := fun x y => x.sshiftRight (shAmt y)) rfl fun _ => rfl
  case muls =>
    exact computes_vector2 (f := fun x y => mulsWord x y sh.toNat) rfl fun e => mulsWord_eq (a e) (b e) sh.toNat

/-- VSUM adds up the masked elements (R110). -/
theorem vsumWord_eq (m : BitVec 16) (a : VVal) :
    vsumWord m a = (((List.finRange 16).filter fun e => m.getLsbD e.val).map fun e => a[e.val]).sum := by
  rw [vsumWord, List.sum_eq_foldl, List.foldl_map, List.foldl_filter]

theorem effIVsum_eq (k : Nat) (gd : GReg) (va : VReg) (m : MReg) (s : State) : effIVsum k gd va m s = .done (s.setG k gd
    (((List.finRange 16).filter fun e => (s.getM k m).getLsbD e.val).map fun e => (s.getV k va)[e.val]).sum) := by
  rw [effIVsum, vsumWord_eq]

/-- Settles O4: each instruction is one write, of a vector register under its mask, or of a scalar register. -/
theorem vectorUnaryOps : Obligations.VectorUnaryOps := by
  intro s c vd va gd ga m sh i a put
  refine ⟨computes_vector1 (f := absWord) rfl fun e => absWord_eq (a e),
    computes_vector1 (f := fun x => x <<< sh.toNat) rfl fun _ => rfl,
    computes_vector1 (f := fun x => x >>> sh.toNat) rfl fun _ => rfl,
    computes_vector1 (f := fun x => x.sshiftRight sh.toNat) rfl fun _ => rfl,
    computes_vector1 (f := fun x => x) rfl fun _ => rfl, computes_setV_vmask rfl rfl,
    computes_setV_vmask rfl rfl, computes_setG rfl rfl, ?ins, ?sum⟩
  case ins => exact computes_of_engineIs rfl rfl ((engineIs_refl s c.key).setV vd _)
  case sum => exact computes_of_engineIs rfl (effIVsum_eq c.key gd va m s) ((engineIs_refl s c.key).setG gd _)

end Sys2Proof.Machine

/-!
Control flow (R69, R85, R106, R118 to R123): branches, calls and hardware loops, the ends of entries, and the fault of
an illegal word.
-/

namespace Sys2Proof.Machine

/-! ### Branches (O7) -/

/-- A branch that is next goes to its target or falls through, as its condition decides (R118). -/
theorem answers_branchIf {s : State} {c : CoreId} {i : Instr} {eff : State → Res} {cond : Bool} {target : BitVec 12}
    {p : Prop} (hx : exec i s = issued c i eff s) (he : eff s = branchIf cond target s) (hp : cond = true ↔ p)
    (hr : Ready s c i) : Answers i s fun t => (p → EngineIs s t c.key ((s.core c.key).e.branched target)) ∧
      (¬p → EngineIs s t c.key (s.core c.key).e.movedOn) := by
  cases cond with
  | true =>
    refine (answers_of_jump hx hr he (engineIs_refl s c.key)).imp fun t ht => ⟨fun _ => ht, fun hno => ?_⟩
    exact absurd (hp.mp rfl) hno
  | false =>
    refine (answers_of_done hx hr he (engineIs_refl s c.key)).imp fun t ht => ⟨fun hyes => ?_, fun _ => ht⟩
    exact absurd (hp.mpr hyes) Bool.false_ne_true

/-- Settles O7: each branch is the conditional jump of its condition. -/
theorem branches : Obligations.Branches := by
  intro s c ra rb m target e a b x does
  exact ⟨answers_branchIf rfl rfl (by simp), answers_branchIf rfl rfl beq_iff_eq, answers_branchIf rfl rfl bne_iff_ne,
    answers_branchIf rfl rfl decide_eq_true_iff, answers_branchIf rfl rfl decide_eq_true_iff,
    answers_branchIf rfl rfl decide_eq_true_iff, answers_branchIf rfl rfl decide_eq_true_iff,
    answers_branchIf rfl rfl beq_iff_eq, answers_branchIf rfl rfl bne_iff_ne, answers_branchIf rfl rfl bne_iff_ne,
    answers_branchIf rfl rfl beq_iff_eq⟩

/-! ### Calls and loops (O8) -/

/-- An instruction that is next, goes on at an address and leaves only its engine changed. -/
theorem answers_of_goto {s t : State} {c : CoreId} {i : Instr} {eff : State → Res} {e : NEngine} {a : BitVec 12}
    (hx : exec i s = issued c i eff s) (h : Ready s c i) (he : eff s = .goto t a) (ht : EngineIs s t c.key e) :
    Answers i s fun u => EngineIs s u c.key
      ({ e.retire with regs := { e.retire.regs with pc := a } } : NEngine).settle :=
  ⟨_, by rw [hx, issued, issue_of_ready eff h, he], ht.modE _⟩

/-- The engine after the start of a hardware loop, or past its body where the count is 0 (R120). -/
def NEngine.looping (e : NEngine) (count : Word) (target : BitVec 12) : NEngine :=
  if count = 0 then
    ({ e.retire with
        regs := { e.regs with lc := 0, pc := target + 1 }
        loop := { e.loop with on := false } } : NEngine).settle
  else
    ({ e.retire with
        regs := { e.regs with lc := count, pc := e.regs.pc + 1 }
        loop := ⟨true, e.regs.pc + 1, target⟩ } : NEngine).settle

/-- A loop whose target lies beyond it, on a word that may end a loop, starts (R120). -/
theorem answers_loopStart {s : State} {c : CoreId} {i : Instr} {eff : State → Res} {count : Word} {target : BitVec 12}
    (hx : exec i s = issued c i eff s) (he : eff s = loopStart c.key count target s) (hr : Ready s c i)
    (hpc : (s.core c.key).e.regs.pc.toNat < target.toNat) (hue : s.ueAt (progAddr c.key target.toNat) = false)
    (hend : loopEndBad (s.readWord (progAddr c.key target.toNat)) = false) :
    Answers i s fun t => EngineIs s t c.key ((s.core c.key).e.looping count target) := by
  simp only [loopStart, not_le.mpr hpc, hue, hend, Bool.false_eq_true, if_false] at he
  unfold NEngine.looping
  split at he
  case isTrue hzero =>
    rw [if_pos hzero]
    exact answers_of_goto hx hr he (engineIs_modE s c.key _)
  case isFalse hcount =>
    rw [if_neg hcount]
    exact answers_of_goto hx hr he (engineIs_modE s c.key _)

/-- Settles O8: CALL and RET are jumps, NOP falls through, and both loops start alike. -/
theorem callsAndLoops : Obligations.CallsAndLoops := by
  intro s c g n target e body looping starts
  exact ⟨fun hr => answers_of_jump rfl hr rfl (engineIs_modE s c.key _),
    fun hr => answers_of_jump rfl hr rfl (engineIs_refl s c.key),
    fun hr => answers_of_done rfl hr rfl (engineIs_refl s c.key), answers_loopStart rfl rfl, answers_loopStart rfl rfl⟩

/-! ### Ends of entries (O10) -/

/-- The machine after END of core k has retired, before its entry ends (R123). -/
def State.pastEnd (s : State) (k : Nat) : State := s.modE k fun e => e.retire.pastEnd

/-- END ends the active loop and moves past itself. -/
theorem pastEnd_keeps (s : State) (k : Nat) : ((s.pastEnd k).core k).e.st = (s.core k).e.st ∧
    ((s.pastEnd k).core k).e.cr = (s.core k).e.cr ∧ ((s.pastEnd k).core k).e.fl = (s.core k).e.fl ∧
    ((s.pastEnd k).core k).e.loop.on = false ∧ ((s.pastEnd k).core k).mrv = (s.core k).mrv := by
  rw [State.pastEnd, core_modE_self]
  by_cases hon : (s.core k).e.loop.on = true <;> simp [NEngine.retire, NEngine.pastEnd, NEngine.endLoop, hon]

theorem gate_reachGate (s : State) (k : Nat) : ((s.reachGate k).core k).e.fl.gate = true := by
  unfold State.reachGate
  split
  · assumption
  · rw [core_spend, core_modE_self]

/-- The engine has ended its UPDATE program: idle, with no block current, and with the loop that e had (R69, R123). -/
structure NEngine.UpdateOver (e e' : NEngine) : Prop where
  st : e'.st = .idle
  ended : e'.fl.updEnded = true
  cur : e'.blk.cur = none
  loop : e'.loop = e.loop

theorem NEngine.UpdateOver.reachGate {e : NEngine} {s : State} {k : Nat} (h : e.UpdateOver (s.core k).e) :
    e.UpdateOver ((s.reachGate k).core k).e := by
  obtain ⟨gate, cc, hcore⟩ := core_reachGate_self s k
  rw [hcore]
  exact ⟨h.st, h.ended, h.cur, h.loop⟩

theorem loop_leaveBlock (s : State) (k : Nat) : ((s.leaveBlock k).core k).e.loop = (s.core k).e.loop := by
  rw [(engineIs_leaveBlock s k).2, left_eq]

theorem updateOver_endUpdate (s : State) (k : Nat) : (s.core k).e.UpdateOver ((s.endUpdate k).core k).e := by
  refine NEngine.UpdateOver.reachGate ?_
  rw [core_spend, core_modE_self]
  exact ⟨rfl, rfl, rfl, loop_leaveBlock s k⟩

theorem gate_endUpdate (s : State) (k : Nat) : ((s.endUpdate k).core k).e.fl.gate = true := gate_reachGate _ k

theorem st_beginUpdate_ne_message (e0 e : NEngine) (h : e.st = .idle) : (e0.beginUpdate e).st ≠ .message := by
  unfold NEngine.beginUpdate
  dsimp only
  split_ifs <;> simp [NEngine.enter, h]

theorem loop_beginUpdate (e0 e : NEngine) : (e0.beginUpdate e).loop = e.loop := by
  unfold NEngine.beginUpdate
  dsimp only
  split_ifs <;> rfl

theorem startUpdate_eq (s : State) (k : Nat) : s.startUpdate k =
    if (s.core k).e.dbg.haltAtEdge && (s.core k).e.updateEmpty then
      s.modE k fun e =>
        { e with
          dbg := { e.dbg with halted := true, reason := 1, haltAtEdge := false }
          fl := { e.fl with edgeDue := true } }
    else if (s.core k).e.updateEmpty then (s.modE k (NEngine.beginUpdate (s.core k).e)).endUpdate k
    else s.modE k (NEngine.beginUpdate (s.core k).e) := rfl

/-- An UPDATE program that starts in an idle engine runs its entries or ends at once (R69, R70). -/
theorem startUpdate_keeps {s : State} {k : Nat} (h : (s.core k).e.st = .idle) :
    ((s.startUpdate k).core k).e.st ≠ .message ∧ ((s.startUpdate k).core k).e.loop = (s.core k).e.loop := by
  have hbegin : ((s.modE k (NEngine.beginUpdate (s.core k).e)).core k).e = (s.core k).e.beginUpdate (s.core k).e :=
    congrArg Core.e (core_modE_self ..)
  rw [startUpdate_eq]
  split
  case isTrue =>
    rw [core_modE_self]
    exact ⟨by simp [h], rfl⟩
  case isFalse =>
    split
    case isTrue =>
      obtain ⟨hidle, -, -, hloop⟩ := updateOver_endUpdate (s.modE k (NEngine.beginUpdate (s.core k).e)) k
      rw [hidle, hloop, hbegin, loop_beginUpdate]
      exact ⟨nofun, rfl⟩
    case isFalse =>
      rw [hbegin, loop_beginUpdate]
      exact ⟨st_beginUpdate_ne_message _ _ h, rfl⟩

/-- Core k after END has ended the running entry, before a halt that was asked for is settled (R87, R123). -/
def State.endedCore (s : State) (k : Nat) : Core := ((s.pastEnd k).endEntry k).core k

/-- An END that is next ends the running entry; a halt that was asked for shows in the debug registers alone. -/
theorem answers_end {s : State} {c : CoreId} (hr : Ready s c (.iEnd c)) : ∃ d : Debug, Answers (.iEnd c) s fun t =>
    t.core c.key = { s.endedCore c.key with e := { (s.endedCore c.key).e with dbg := d } } := by
  have hexec : exec (.iEnd c) s = .next (((s.pastEnd c.key).endEntry c.key).modE c.key NEngine.settle) :=
    congrArg Host.Outcome.next (issue_of_ready (effIEnd c.key) hr)
  refine ⟨(s.endedCore c.key).e.settle.dbg, _, hexec, (core_modE_self ..).trans ?_⟩
  rw [settle_eq]
  rfl

section
variable {s : State} {k : Nat}

/-- TICK is followed by UPDATE where that entry is enabled (R69). -/
theorem endEntry_of_tick (hst : (s.core k).e.st = .tick) (hen : (s.core k).e.cr.entUpdate.en = true) :
    ((s.endEntry k).core k).e = (s.core k).e.enter .update (s.core k).e.cr.entUpdate := by
  simp only [State.endEntry, hst, hen, if_true, core_modE_self]

theorem endEntry_of_update (h : (s.core k).e.st = .update ∨
    (s.core k).e.st = .tick ∧ (s.core k).e.cr.entUpdate.en = false) : s.endEntry k = s.endUpdate k := by
  rcases h with hst | ⟨hst, hen⟩
  · simp only [State.endEntry, hst]
  · simp only [State.endEntry, hst, hen, Bool.false_eq_true, if_false]

/-- EPOCH is followed by the commit work, unless the tenant is stopping (R69). -/
theorem endEntry_of_epoch (hst : (s.core k).e.st = .epoch) : (s.endEntry k).core k = { s.core k with
    e := { (s.core k).e with st := .idle }
    mrv := { (s.core k).mrv with busy := (s.core k).mrv.busy || s.mayCommit k } } := by
  simp only [State.endEntry, hst, core_modCore_self]

/-- After MESSAGE the engine is idle, or in the UPDATE program that waits (R69, R70). -/
theorem endEntry_of_message (hst : (s.core k).e.st = .message) : ((s.endEntry k).core k).e.st ≠ .message ∧
    ((s.endEntry k).core k).e.loop = (s.core k).e.loop ∧
    ((s.core k).e.fl.edgeDue = false → ((s.endEntry k).core k).e.st = .idle) := by
  have hidle : ((s.modE k fun e => { e with st := .idle }).core k).e = { (s.core k).e with st := .idle } :=
    congrArg Core.e (core_modE_self ..)
  have hend : s.endEntry k = (s.modE k fun e => { e with st := .idle }).afterEntry k := by
    simp only [State.endEntry, hst]
  rw [hend, State.afterEntry]
  split
  case isTrue hdue =>
    obtain ⟨hmsg, hloop⟩ := startUpdate_keeps (congrArg (·.st) hidle)
    refine ⟨hmsg, hloop.trans (congrArg (·.loop) hidle), fun hno => ?_⟩
    rw [hidle] at hdue
    exact nomatch hdue.symm.trans hno
  case isFalse =>
    rw [hidle]
    exact ⟨nofun, rfl, fun _ => rfl⟩

end

/-! ### Illegal words (O10) -/

/-- The engine after a program fault (R85). -/
def NEngine.faultedBy (e : NEngine) (cause : BitVec 4) : NEngine :=
  { e with
    st := .faulted
    stall := none
    waits := none
    emitAt := 0
    dbg := { e.dbg with halted := true, reason := 4, stepping := false, haltReq := false }
    cr := { e.cr with fault := { cause := cause, entry := BitVec.ofNat 2 e.st.entry, pc := e.regs.pc } } }

theorem core_progFault (s : State) (k : Nat) (cause : BitVec 4) :
    ((s.progFault k cause).core k).e = (s.core k).e.faultedBy cause := by
  unfold State.progFault State.eccFault
  dsimp only
  split
  · rw [core_reportFault, core_reportFault, core_modE_self]
    rfl
  · rw [core_reportFault, core_modE_self]
    rfl

section
variable {s : State} {c : CoreId} (hrun : (s.core c.key).e.runnable = true)
  (hbp : ((s.core c.key).e.stall.isNone && !(s.core c.key).e.dbg.bpPassed && !(s.core c.key).e.dbg.stepping) = true →
    (s.core c.key).e.bpAt = none)
  (hue : s.ueAt (progAddr c.key (s.core c.key).e.regs.pc.toNat) = false)
  (hdec : decodeWord c (s.fetch c.key) = none)
include hrun hbp hue hdec

/-- An engine that meets an illegal word takes the program fault, whatever instruction is issued (R85, R106). -/
theorem issue_of_illegal (i : Instr) (eff : State → Res) : s.issue c i eff = s.progFault c.key 1 := by
  simp only [State.issue, hrun, ite_eq_right_iff.mpr hbp, hue, hdec, Bool.not_true, Bool.false_eq_true, if_false]

theorem answers_illegal {i : Instr} (hi : coreOf i = some c) :
    Answers i s fun t => (t.core c.key).e = (s.core c.key).e.faultedBy 1 := by
  obtain ⟨eff, -, hexec⟩ := exec_of_coreOf hi
  have hfault : s.issue c i eff = s.progFault c.key 1 := issue_of_illegal hrun hbp hue hdec i eff
  exact ⟨_, (hexec s).trans (congrArg Host.Outcome.next hfault), core_progFault s c.key 1⟩

end

/-- Settles O10: END by the entry that runs, each from the state in which the loop has ended; and the fault of a word
that decodes to nothing. -/
theorem entryEndsAndFaults : Obligations.EntryEndsAndFaults := by
  intro s c i k e
  obtain ⟨hst, hcr, hfl, hloop, hmrv⟩ := pastEnd_keeps s k
  refine ⟨fun hr => ?ends, fun hi hrun hbp hue hdec => ?illegal⟩
  case illegal =>
    refine (answers_illegal hrun hbp hue hdec hi).imp fun t ht => ?_
    have he : (t.core k).e = e.faultedBy 1 := ht
    simp only [he]
    exact ⟨rfl, rfl, rfl, rfl, rfl⟩
  case ends =>
    obtain ⟨d, hans⟩ : ∃ d : Debug, Answers (.iEnd c) s fun t =>
      t.core k = { s.endedCore k with e := { (s.endedCore k).e with dbg := d } } := answers_end hr
    refine ⟨fun htick hen => hans.imp fun t ht => ?tick, fun hupd => hans.imp fun t ht => ?update,
      fun hep hmay => hans.imp fun t ht => ?epoch, fun hep hmay => hans.imp fun t ht => ?epochStopping,
      fun hmsg hdue => hans.imp fun t ht => ?message, fun hmsg hdue => hans.imp fun t ht => ?messageDue⟩
    all_goals rw [ht, State.endedCore]
    case tick =>
      rw [endEntry_of_tick (hst.trans htick) ((congrArg (·.entUpdate.en) hcr).trans hen)]
      exact ⟨rfl, congrArg (·.entUpdate.addr) hcr, hloop⟩
    case update =>
      rw [← hst, ← hcr] at hupd
      rw [endEntry_of_update hupd]
      have hover := updateOver_endUpdate (s.pastEnd k) k
      have hgate := gate_endUpdate (s.pastEnd k) k
      generalize ((s.pastEnd k).endUpdate k).core k = x at hover hgate ⊢
      exact ⟨hover.st, hover.ended, hgate, hover.cur, (congrArg (·.on) hover.loop).trans hloop⟩
    case epoch =>
      have hbegin : (s.pastEnd k).mayCommit k = true := hmay
      rw [endEntry_of_epoch (hst.trans hep), hbegin]
      exact ⟨rfl, Bool.or_true _, hloop⟩
    case epochStopping =>
      have hbegin : (s.pastEnd k).mayCommit k = false := hmay
      rw [endEntry_of_epoch (hst.trans hep), hbegin, hmrv, Bool.or_false]
      exact ⟨rfl, rfl, hloop⟩
    case message =>
      obtain ⟨-, hkeep, hidle⟩ := endEntry_of_message (hst.trans hmsg)
      exact ⟨hidle ((congrArg (·.edgeDue) hfl).trans hdue), (congrArg (·.on) hkeep).trans hloop⟩
    case messageDue =>
      obtain ⟨hrest, hkeep, -⟩ := endEntry_of_message (hst.trans hmsg)
      exact ⟨hrest, (congrArg (·.on) hkeep).trans hloop⟩

end Sys2Proof.Machine

/-!
Trace updates (R116): the run of a block's writes of one trace half.
-/

namespace Sys2Proof.Machine

/-! ### The words that VTRUP writes -/

/-- Element j of VTRUP: its half times the power of the factor, rounded with the draw of its element, plus va (R116). -/
def State.traceSum (s : State) (k : Nat) (high : Bool) (va : VReg) (ga gb gc : GReg) (j : Fin 16) : Word :=
  let base := 16 * ((s.getG k ga).toNat / 16)
  let f : Int := alphaPow ((s.getG k gb).toNat % 2 ^ 16) ((s.getG k gc).toNat % 2 ^ 24)
  sroundWith (xorshift^[j.val + 1] (s.core k).e.regs.rng) ((s.traceHalf k (base + j.val) high).toInt * f) 16 +
    (s.getV k va)[j.val]

theorem ofInt_toInt_add (a b : Word) : BitVec.ofInt 32 (a.toInt + b.toInt) = a + b := by
  rw [BitVec.ofInt_add, BitVec.ofInt_toInt, BitVec.ofInt_toInt]

theorem satWord_setWidth {lo hi : Int} (h : lo ≤ hi) (w : Word) :
    (satWord lo hi w).setWidth 8 = BitVec.ofInt 8 (max lo (min hi w.toInt)) := by
  rw [setWidth_satWord h]
  refine BitVec.eq_of_toNat_eq ?_
  rw [BitVec.toNat_ofNat, BitVec.toNat_ofInt]
  omega

/-! ### The run of the writes -/

/-- The state after byte y j has been written to one half of each masked trace element j of the block at base. -/
def State.writeTraces (s : State) (k base : Nat) (high : Bool) (mask : BitVec 16) (y : Fin 16 → Byte) : State :=
  (List.finRange 16).foldl (fun t e => if mask.getLsbD e.val then t.setTraceHalf k (base + e.val) high (y e) else t) s

section
variable {k base : Nat} {high : Bool} {mask : BitVec 16} (y : Fin 16 → Byte) (s : State) (hbase : base + 16 ≤ 8192)
include hbase

/-- No other byte than the masked elements' halves changes. -/
theorem readByte_writeTraces_of_apart {a : Nat}
    (ha : ∀ j : Fin 16, mask.getLsbD j.val = true → a ≠ trAddr k (base + j.val) + b2n high) :
    (s.writeTraces k base high mask y).readByte a = s.readByte a := by
  refine List.foldlRecOn (motive := fun u : State => u.readByte a = s.readByte a) _ _ rfl fun u hu e _ => ?_
  rw [← hu]
  split
  case isTrue he => exact readByte_setTraceHalf_of_ne u k _ high _ (by omega) (ha e he)
  case isFalse => rfl

/-- The half of a masked element reads as written, and that of another as before. -/
theorem traceHalf_writeTraces (j : Fin 16) : (s.writeTraces k base high mask y).traceHalf k (base + j.val) high =
    if mask.getLsbD j.val then y j else s.traceHalf k (base + j.val) high := by
  have hapart (e : Fin 16) (he : e ≠ j) : trAddr k (base + j.val) + b2n high ≠ trAddr k (base + e.val) + b2n high := by
    have hne : e.val ≠ j.val := fun h => he (Fin.ext h)
    unfold trAddr
    omega
  split
  case isTrue hj =>
    refine foldl_of_mem (P := fun u : State => u.traceHalf k (base + j.val) high = y j) (List.mem_finRange j)
      (fun u => ?_) (fun u e he hu => ?_) s
    · rw [if_pos hj]
      exact readByte_writeByte_self u _ _ (isTop_of_not_inAcView (inAcView_trAddr k (by omega) (b2n_lt_two high)))
    · rw [← hu]
      split
      · exact readByte_setTraceHalf_of_ne u k _ high _ (by omega) (hapart e he)
      · rfl
  case isFalse hj =>
    exact readByte_writeTraces_of_apart y s hbase fun e he => hapart e fun h => hj (h ▸ he)

end

theorem core_writeTraces (s : State) (k base : Nat) (high : Bool) (mask : BitVec 16) (y : Fin 16 → Byte) (j : Nat) :
    (s.writeTraces k base high mask y).core j = s.core j := by
  refine List.foldlRecOn (motive := fun u : State => u.core j = s.core j) _ _ rfl fun u hu e _ => ?_
  rw [← hu]
  split
  · exact core_setTraceHalf u k _ high _ j
  · rfl

/-! ### VTRUP (O13) -/

/-- VTRUP of a block whose trace words hold no uncorrectable error (R85, R116). -/
theorem vtrup_of_noUe {s : State} {k : Nat} (high : Bool) (va : VReg) (m : MReg) {ga : GReg} (gb gc : GReg)
    (hn : (s.getG k ga).toNat < 8192)
    (hue : ∀ j, j < 8 → s.ueAt (trAddr k (16 * ((s.getG k ga).toNat / 16) + 2 * j)) = false) :
    vtrup k high va m ga gb gc s = .done (((s.setRng k (xorshift^[16] (s.core k).e.regs.rng)).writeTraces k
      (16 * ((s.getG k ga).toNat / 16)) high (s.getM k m) fun j => BitVec.ofInt 8 (max (-128) (min 127
        (s.traceSum k high va ga gb gc j).toInt))).noteClip k
      (vany (s.getM k m) fun j => clips (-128) 127 (s.traceSum k high va ga gb gc j))) := by
  have hany : ((List.range 16).any fun e =>
      s.ueAt (trAddr k (16 * ((s.getG k ga).toNat / 16) + (e - e % 2)))) = false := by
    rw [List.any_eq_false]
    intro e he
    have he16 := List.mem_range.mp he
    rw [show e - e % 2 = 2 * (e / 2) by omega, hue _ (by omega)]
    exact Bool.false_ne_true
  simp only [vtrup, State.traceSum, if_neg (not_le.mpr hn), hany, Bool.false_eq_true, if_false, draws_snd, vmap,
    Vector.getElem_ofFn, ← drawn_draws, ofInt_toInt_add, satWord_setWidth (show (-128 : Int) ≤ 127 by decide)]
  rfl

theorem rng_movedOn (e : NEngine) : e.movedOn.regs.rng = e.regs.rng := by
  rw [NEngine.movedOn, settle_eq, NEngine.advance]
  split
  · split <;> rfl
  · rfl

theorem regs_noteClip (s : State) (k : Nat) (clip : Bool) :
    ((s.noteClip k clip).core k).e.regs = (s.core k).e.regs := by
  cases clip <;> simp [State.noteClip]

/-- Settles O13: the machine that VTRUP leaves has the masked elements' halves written, and the generator sixteen draws
on. -/
theorem traceUpdates : Obligations.TraceUpdates := by
  intro s c va m ga gb gc high k e i n base f x new hr hn hue
  have hbase : base + 16 ≤ 8192 := by omega
  have heff := vtrup_of_noUe high va m gb gc hn hue
  have hans : ∃ clip, Answers i s fun t => t = ((s.setRng k (x 16)).writeTraces k base high (s.getM k m) fun j =>
      BitVec.ofInt 8 (max (-128) (min 127 (new j)))).afterStore k clip := by
    cases high <;> exact ⟨_, answers_of_done_state rfl hr heff rfl⟩
  obtain ⟨clip, hans⟩ := hans
  refine hans.imp fun t ht => ⟨fun j => ?half, fun a ha => ?bytes, ?rng⟩
  case half =>
    rw [ht, State.traceHalf, readByte_afterStore]
    exact traceHalf_writeTraces _ _ hbase j
  case bytes =>
    rw [ht, readByte_afterStore]
    exact readByte_writeTraces_of_apart _ _ hbase fun j _ => by cases high <;> exact ha j
  case rng =>
    rw [ht, State.afterStore, core_modE_self, rng_movedOn, regs_noteClip, core_writeTraces, State.setRng,
      core_modE_self]

end Sys2Proof.Machine

/-!
The modulator, the receive queues and the sync objects of a core (R124 to R127, R218, R219, R221).
-/

namespace Sys2Proof.Machine

/-! ### The modulator and QPEEK (O19) -/

/-- Settles O19: each is one write, of the modulator or of a scalar register. -/
theorem modulatorAndPeek : Obligations.ModulatorAndPeek := by
  intro s c rd ra q k e w
  refine ⟨fun hr => ?mod, fun hr => answers_of_done rfl hr rfl (engineIs_modE s c.key _),
    computes_of_engineIs rfl rfl ((engineIs_refl s c.key).setG rd _)⟩
  case mod =>
    rw [← satWord_setWidth (by decide)]
    exact answers_of_done rfl hr rfl (engineIs_modE s c.key _)

/-! ### QSEND (O20) -/

/-- The machine with one credit of window entry i of a cluster taken (R218). -/
def State.takeCredit (s : State) (cl i : Nat) : State :=
  s.modCluster cl fun c => { c with qwin := Tab.modify c.qwin {} i fun q => { q with cred := q.cred - 1 } }

theorem qwin_takeCredit (s : State) (cl i : Nat) :
    (s.takeCredit cl i).qwin cl i = { s.qwin cl i with cred := (s.qwin cl i).cred - 1 } := by
  simp [State.qwin, State.takeCredit, Tab.modify]

/-- A QDESC packet of window entry i to the queue that dest names (R219). -/
def descPkt (s : State) (k i dest : Nat) (high low : Word) (data : List Byte) : GPkt :=
  { op := 1, len := data.length, src := k / 32, addr := queueRegAddr dest, aux := high ++ low, data := data,
    tenant := (s.tenantOf (k / 32)).getD 0, flow := (s.qwin (k / 32) i).flow, note := i }

/-- A descriptor whose pushed words are in order goes to its entry's flow, if that has one destination (R208, R219). -/
theorem sendDesc_of_data {s : State} {k i : Nat} (dest : Nat) {high : Word} (low : Word) {data : List Byte}
    (hdata : (if high.msb then s.pushData (k / 32) high else some []) = some data)
    (hflow : (s.flow (k / 32) (s.qwin (k / 32) i).flow).dests.length ≤ 1) : s.sendDesc k i dest high low =
      s.queueOnFlow (k / 32) (s.qwin (k / 32) i).flow (descPkt s k i dest high low data) := by
  have hcarries : (s.flow (k / 32) (s.qwin (k / 32) i).flow).carries (descPkt s k i dest high low data) = true := by
    rw [Flow.carries, decide_eq_true hflow, Bool.or_true]
  simp only [State.sendDesc, hdata]
  exact if_pos hcarries

theorem queue_queueOnFlow (s : State) (st f : Nat) (p : GPkt) :
    ((s.queueOnFlow st f p).flow st f).queue = (s.flow st f).queue ++ [p] := by
  simp [State.flow, State.queueOnFlow, State.modGather, Tab.modify]

/-- QSEND to a queue of the tenant, with a credit in the window (R124, R218). -/
theorem effIQsend_of_credit {s : State} {k : Nat} {ra : GReg} (rb rd : GReg) {i : Nat}
    (hok : s.qdestOk k (s.getG k ra) = true)
    (hfind : s.findQWin (k / 32) ((s.getG k ra).setWidth 12) = some i) (hcred : 0 < (s.qwin (k / 32) i).cred) :
    effIQsend k ra rb rd s =
      .done ((s.takeCredit (k / 32) i).sendDesc k i (s.getG k ra).toNat (s.getG k rb) (s.getG k rd)) := by
  simp only [effIQsend, hok, hfind, if_neg (Nat.pos_iff_ne_zero.mp hcred), Bool.not_true, Bool.false_eq_true, if_false]
  rfl

/-- QSEND with a credit hands its descriptor to the flow of its window entry (R218, R219). -/
theorem answers_qsend {s : State} {c : CoreId} {ra rb rd : GReg} {i : Nat} {data : List Byte}
    (hr : Ready s c (.iQsend c ra rb rd)) (hok : s.qdestOk c.key (s.getG c.key ra) = true)
    (hfind : s.findQWin c.cl.val ((s.getG c.key ra).setWidth 12) = some i) (hcred : 0 < (s.qwin c.cl.val i).cred)
    (hflow : (s.flow c.cl.val (s.qwin c.cl.val i).flow).dests.length ≤ 1)
    (hdata : (if (s.getG c.key rb).msb then s.pushData c.cl.val (s.getG c.key rb) else some []) = some data) :
    Answers (.iQsend c ra rb rd) s fun t => (t.qwin c.cl.val i).cred = (s.qwin c.cl.val i).cred - 1 ∧
      ∃ p : GPkt, (t.flow c.cl.val (s.qwin c.cl.val i).flow).queue =
          (s.flow c.cl.val (s.qwin c.cl.val i).flow).queue ++ [p] ∧
        p.op = 1 ∧ p.addr = queueRegAddr (s.getG c.key ra).toNat ∧ p.aux = s.getG c.key rb ++ s.getG c.key rd ∧
        p.data = data ∧ p.src = c.cl.val ∧ p.flow = (s.qwin c.cl.val i).flow := by
  rw [← key_div c] at hfind hcred hflow hdata ⊢
  have hwin := qwin_takeCredit s (c.key / 32) i
  have hsend := sendDesc_of_data (s := s.takeCredit (c.key / 32) i) (i := i) (s.getG c.key ra).toNat
    (s.getG c.key rd) hdata (by rw [hwin]; exact hflow)
  have heff := effIQsend_of_credit rb rd hok hfind hcred
  rw [hsend, hwin] at heff
  refine answers_of_done_state rfl hr heff
    ⟨congrArg QWin.cred hwin, _, queue_queueOnFlow .., rfl, rfl, rfl, rfl, rfl, ?_⟩
  rw [descPkt, hwin]

/-! ### QRECV (O20) -/

theorem threadQueue_releaseEntry {s : State} {cl st j : Nat} {y : QEnt} (ho : y.origin = some (st, j)) :
    (s.releaseEntry cl y).threadQueue cl 1 = enqueuePkt (.qcred st j 1) (s.threadQueue cl 1) := by
  have hsend := threadQueue_sendPkt_self s cl (.qcred st j 1)
  unfold State.releaseEntry
  simp only [ho]
  split
  · exact hsend
  · rw [writeBytes_eq]
    exact hsend

theorem releaseKept_of_none {s : State} {k : Nat} {q : Fin 4} (h : (s.core k).q[q.val].kept = none) :
    s.releaseKept k q = s := by
  simp only [State.releaseKept, h]

/-- The credit of the entry that the QRECV before has taken returns to its sender (R221). -/
theorem threadQueue_releaseKept {s : State} {k st j : Nat} {q : Fin 4} {y : QEnt}
    (h : (s.core k).q[q.val].kept = some y) (ho : y.origin = some (st, j)) :
    (s.releaseKept k q).threadQueue (k / 32) 1 = enqueuePkt (.qcred st j 1) (s.threadQueue (k / 32) 1) := by
  simp only [State.releaseKept, h]
  exact threadQueue_releaseEntry ho

theorem q_modQ_self (s : State) (k : Nat) (q : Fin 4) (f : RecvQ → RecvQ) :
    ((s.modQ k q f).core k).q[q.val] = f (s.core k).q[q.val] := by
  rw [State.modQ, core_modCore_self, Vector.getElem_set_self]

theorem getG_setG_self (s : State) (k : Nat) (r : GReg) (w : Word) : (s.setG k r w).getG k r = w := by
  rw [State.getG, State.setG, core_modE_self, Vector.getElem_set_self]

theorem getG_setG_of_ne (s : State) (k : Nat) {r r' : GReg} (w : Word) (h : r' ≠ r) :
    (s.setG k r w).getG k r' = s.getG k r' := by
  have hval : r.val ≠ r'.val := fun e => h (Fin.ext e.symm)
  simp only [State.getG, State.setG, core_modE_self, Vector.getElem_set_ne _ _ hval]

theorem getG_movedOn (s : State) (k : Nat) (r : GReg) : (s.modE k NEngine.movedOn).getG k r = s.getG k r := by
  simp only [State.getG, core_modE_self, g_movedOn]

theorem q_modE (s : State) (k : Nat) (f : NEngine → NEngine) : ((s.modE k f).core k).q = (s.core k).q := by
  rw [core_modE_self]

/-- The machine after QRECV has taken descriptor x, with xs left in the queue, before it moves on (R125, R221). -/
def State.received (s : State) (k : Nat) (rd ra : GReg) (q : Fin 4) (x : QEnt) (xs : List QEnt) : State :=
  let popped := (s.releaseKept k q).modQ k q fun r =>
    { r with entries := xs, kept := some x, head := (r.head + 1) % 16 }
  ((popped.setG k rd (x.desc.extractLsb' 32 32)).setG k ra (x.desc.setWidth 32)).modE k NEngine.movedOn

theorem answers_qrecv {s : State} {c : CoreId} {rd ra : GReg} {q : Fin 4} {x : QEnt} {xs : List QEnt}
    (hr : Ready s c (.iQrecv c rd ra q)) (hq : (s.core c.key).q[q.val].entries = x :: xs) :
    Answers (.iQrecv c rd ra q) s fun t => t = s.received c.key rd ra q x xs :=
  answers_of_done_state rfl hr (by simp only [effIQrecv, hq]) rfl

theorem q_received (s : State) (k : Nat) (rd ra : GReg) (q : Fin 4) (x : QEnt) (xs : List QEnt) :
    ((s.received k rd ra q x xs).core k).q[q.val].entries = xs ∧
      ((s.received k rd ra q x xs).core k).q[q.val].kept = some x := by
  have hq : ((s.received k rd ra q x xs).core k).q[q.val] =
      { ((s.releaseKept k q).core k).q[q.val] with
        entries := xs, kept := some x, head := (((s.releaseKept k q).core k).q[q.val].head + 1) % 16 } := by
    simp only [State.received, State.setG, q_modE, q_modQ_self]
  rw [hq]
  exact ⟨rfl, rfl⟩

theorem stations_modCore (s : State) (k : Nat) (f : Core → Core) : (s.modCore k f).stations = s.stations := rfl

theorem threadQueue_received (s : State) (k : Nat) (rd ra : GReg) (q : Fin 4) (x : QEnt) (xs : List QEnt)
    (n cls : Nat) : (s.received k rd ra q x xs).threadQueue n cls = (s.releaseKept k q).threadQueue n cls := by
  simp only [State.threadQueue, State.station, State.received, State.setG, State.modQ, State.modE, stations_modCore]

theorem getG_received (s : State) (k : Nat) {rd ra : GReg} (q : Fin 4) (x : QEnt) (xs : List QEnt) (h : rd ≠ ra) :
    (s.received k rd ra q x xs).getG k rd = x.desc.extractLsb' 32 32 ∧
      (s.received k rd ra q x xs).getG k ra = x.desc.setWidth 32 := by
  constructor
  · rw [State.received, getG_movedOn, getG_setG_of_ne _ _ _ h, getG_setG_self]
  · rw [State.received, getG_movedOn, getG_setG_self]

/-- Settles O20: QSEND by the credit and the packet of its window entry, QRECV by the machine that it leaves. -/
theorem coreQueues : Obligations.CoreQueues := by
  intro s c ra rb rd q i data x xs k cl dest high win rq credits
  refine ⟨fun hr hok hfind hcred hflow hdata => answers_qsend hr hok hfind hcred hflow hdata, fun hr hne hq => ?recv⟩
  have hcredits (u : State) : credits u = u.threadQueue (c.key / 32) 1 := by
    rw [key_div]
    rfl
  refine (answers_qrecv hr hq).imp fun t ht => ?_
  obtain ⟨hhigh, hlow⟩ := getG_received s c.key q x xs hne
  obtain ⟨hentries, hkept⟩ := q_received s c.key rd ra q x xs
  simp only [hcredits, ht, threadQueue_received]
  refine ⟨hhigh, hlow, hentries, hkept, fun hnone => ?_, fun y st j hy ho => threadQueue_releaseKept hy ho⟩
  rw [releaseKept_of_none hnone]

/-! ### SIG and WAITS (O21) -/

/-- A request to a sync unit merges with no packet: it goes behind the others. -/
theorem enqueuePkt_sync (op obj : Nat) (val : Word) (who : Nat) (qs : List Pkt) :
    enqueuePkt (.sync op obj val who) qs = qs ++ [.sync op obj val who] := by
  induction qs with
  | nil => rfl
  | cons q qs ih =>
    have hno : q.sameCounter (.sync op obj val who) = false := by cases q <;> rfl
    rw [enqueuePkt, hno, Bool.false_and, if_neg Bool.false_ne_true, ih, List.cons_append]

theorem threadQueue_sendPkt_sync (s : State) (st op obj : Nat) (val : Word) (who : Nat) :
    (s.sendPkt st (.sync op obj val who)).threadQueue st 2 = s.threadQueue st 2 ++ [.sync op obj val who] :=
  (threadQueue_sendPkt_self s st (.sync op obj val who)).trans (enqueuePkt_sync op obj val who _)

theorem syncObj_of_lt {w : Word} (h : w.toNat < 8192) : syncObj w = some w.toNat := if_pos h

/-- An instruction that is next and waits. -/
theorem answers_of_stall {s t : State} {c : CoreId} {i : Instr} {eff : State → Res} {kind : StallKind} {arg : Word}
    {P : State → Prop} (hx : exec i s = issued c i eff s) (h : Ready s c i) (he : eff s = .stall t kind arg)
    (hP : P (t.modE c.key fun e => e.noteStall kind arg)) : Answers i s P :=
  ⟨_, by rw [hx, issued, issue_of_ready eff h, he]; rfl, hP⟩

section
variable {s : State} {k : Nat} {ra rb : GReg} (ho : (s.getG k ra).toNat < 8192)
include ho

theorem effISig_of_lt : effISig k ra rb s =
    .done (s.sendPkt (k / 32) (.sync 0 (s.getG k ra).toNat (s.getG k rb) (k % 32))) := by
  simp only [effISig, syncObj_of_lt ho]

theorem effIWaits_of_met (hmet : (s.core k).e.waits = some .met) : effIWaits k ra rb s = .done s := by
  simp only [effIWaits, syncObj_of_lt ho, hmet]

/-- A WAITS that has not asked yet asks, and notes what it has asked (R126). -/
theorem effIWaits_of_none (hnew : (s.core k).e.waits = none) : effIWaits k ra rb s =
    .stall ((s.sendPkt (k / 32) (.sync 1 (s.getG k ra).toNat (s.getG k rb) (k % 32))).modE k fun e =>
      { e with waits := some (.asked (s.getG k ra).toNat (s.getG k rb)) })
      .waits (BitVec.ofNat 32 (s.getG k ra).toNat) := by
  simp only [effIWaits, syncObj_of_lt ho, hnew, reduceCtorEq, if_false]

end

/-- Settles O21: SIG sends and falls through, WAITS that has been answered falls through, and a new one sends and
waits. -/
theorem coreSync : Obligations.CoreSync := by
  intro s c ra rb k e o syncs ho
  have hsent (op : Nat) : (s.sendPkt (c.key / 32) (.sync op o (s.getG k rb) (c.key % 32))).threadQueue c.cl.val 2 =
      syncs s ++ [.sync op o (s.getG k rb) c.lc.val] := by
    rw [key_div, key_mod]
    exact threadQueue_sendPkt_sync ..
  refine ⟨fun hr => ?sig, fun hr hmet => ?met, fun hr hnew => ?asks⟩
  case sig => exact answers_of_done_state rfl hr (effISig_of_lt ho) ⟨hsent 0, congrArg Core.e (core_modE_self ..)⟩
  case met => exact answers_of_done rfl hr (effIWaits_of_met ho hmet) (engineIs_refl s c.key)
  case asks =>
    refine answers_of_stall rfl hr (effIWaits_of_none ho hnew) ⟨hsent 1, ?_⟩
    rw [core_modE_self, core_modE_self]
    exact ⟨rfl, rfl⟩

end Sys2Proof.Machine

/-!
The Thread's credit packets, slots and stall watchdog (R181, R209, R212 to R217, R221, R225): what a station's state
holds after one of its parts has changed, and what each credit adds.
-/

namespace Sys2Proof.Machine

/-! ### Parts of a station -/

theorem cane_modCane_self (s : State) (st : Nat) (f : Cane → Cane) :
    ((s.modCane st f).station st).cane = f (s.station st).cane := by
  rw [State.modCane, station_modStation_self]

theorem gather_modGather_self (s : State) (st : Nat) (f : Gather → Gather) :
    ((s.modGather st f).station st).gather = f (s.station st).gather := by
  rw [State.modGather, station_modStation_self]

theorem thread_modThread_self (s : State) (st : Nat) (f : ThreadSt → ThreadSt) :
    ((s.modThread st f).station st).thread = f (s.station st).thread := by
  rw [State.modThread, station_modStation_self]

/-- A part that a change of a station keeps is kept at every station. -/
theorem part_modStation {α : Type} {part : StationSt → α} {f : StationSt → StationSt} (h : ∀ x, part (f x) = part x)
    (s : State) (st n : Nat) : part ((s.modStation st f).station n) = part (s.station n) := by
  by_cases hn : n = st
  · rw [hn, station_modStation_self, h]
  · rw [station_modStation_of_ne _ _ hn]

theorem cane_modThread (s : State) (st : Nat) (f : ThreadSt → ThreadSt) (n : Nat) :
    ((s.modThread st f).station n).cane = (s.station n).cane :=
  part_modStation (part := StationSt.cane) (f := fun x => { x with thread := f x.thread }) (fun _ => rfl) ..

theorem gather_modThread (s : State) (st : Nat) (f : ThreadSt → ThreadSt) (n : Nat) :
    ((s.modThread st f).station n).gather = (s.station n).gather :=
  part_modStation (part := StationSt.gather) (f := fun x => { x with thread := f x.thread }) (fun _ => rfl) ..

/-- A fault report changes a station's collector and its Thread queues alone (R502). -/
theorem part_reportFault {α : Type} {part : StationSt → α} (hfc : ∀ x c, part { x with fc := c } = part x)
    (hthread : ∀ x t, part { x with thread := t } = part x) (s : State) (st origin code : Nat) (d : BitVec 40)
    (n : Nat) : part ((s.reportFault st origin code d).station n) = part (s.station n) := by
  simp only [State.reportFault]
  split
  · exact part_modStation (fun _ => hfc _ _) ..
  · exact (part_modStation (fun _ => hthread _ _) ..).trans (part_modStation (fun _ => hfc _ _) ..)

theorem cane_reportFault (s : State) (st origin code : Nat) (d : BitVec 40) (n : Nat) :
    ((s.reportFault st origin code d).station n).cane = (s.station n).cane :=
  part_reportFault (part := StationSt.cane) (fun _ _ => rfl) (fun _ _ => rfl) ..

theorem gather_reportFault (s : State) (st origin code : Nat) (d : BitVec 40) (n : Nat) :
    ((s.reportFault st origin code d).station n).gather = (s.station n).gather :=
  part_reportFault (part := StationSt.gather) (fun _ _ => rfl) (fun _ _ => rfl) ..

theorem slotPkt_reportFault (s : State) (st origin code : Nat) (d : BitVec 40) (slot : Nat) :
    (s.reportFault st origin code d).slotPkt slot = s.slotPkt slot := by
  rw [reportFault_eq]
  rfl

theorem cluster_reportFault (s : State) (st origin code : Nat) (d : BitVec 40) (n : Nat) :
    (s.reportFault st origin code d).cluster n = s.cluster n := by
  rw [reportFault_eq]
  rfl

/-! ### Taking a credit packet -/

/-- A packet of a known class and station, with no reply and a check code that matches, is taken (R216). -/
theorem takeSlot_of_good {s : State} {slot : Nat} {p : Pkt} {m1 m2 : Bool}
    (h : s.slotPkt slot = some ⟨p, m1, m2, none, false⟩) (hp : p.bad = false) : s.takeSlot slot = (s, some p) := by
  simp [State.takeSlot, h, hp]

section
variable {dst : Nat} (hdst : dst < 40)
include hdst

theorem bad_caneCred (n i count : Nat) : (Pkt.caneCred dst n i count).bad = false := by
  exact decide_eq_false (Nat.not_lt.2 (Nat.le_of_lt_succ hdst))

theorem bad_gathCred (f count : Nat) (err : Bool) (addr note : Nat) :
    (Pkt.gathCred dst f count err addr note).bad = false := by
  exact decide_eq_false (Nat.not_lt.2 (Nat.le_of_lt_succ hdst))

theorem bad_qcred (i count : Nat) : (Pkt.qcred dst i count).bad = false := by
  exact decide_eq_false (Nat.not_lt.2 (Nat.le_of_lt_succ hdst))

end

/-- The machine after station st has taken the packet of a slot: the slot is empty and THR_RX counts it (R216, R229). -/
def State.taken (s : State) (slot st : Nat) : State := (s.freeSlot slot).noteRx st

theorem slotPkt_taken (s : State) (slot st : Nat) : (s.taken slot st).slotPkt slot = none :=
  Tab.get_put_self s.thread none none slot

theorem gather_taken (s : State) (slot st n : Nat) : ((s.taken slot st).station n).gather = (s.station n).gather :=
  gather_modThread (s.freeSlot slot) ..

/-- A credit past its window is reported, which is all that becomes of it (R181, R216). -/
theorem creditOver_keeps (s : State) (st n : Nat) (past : Bool) :
    (∀ slot, (s.creditOver st n past).slotPkt slot = s.slotPkt slot) ∧
    (∀ m, ((s.creditOver st n past).station m).cane = (s.station m).cane) ∧
    (∀ m, ((s.creditOver st n past).station m).gather = (s.station m).gather) ∧
    ∀ m, (s.creditOver st n past).cluster m = s.cluster m := by
  cases past with
  | false => exact ⟨fun _ => rfl, fun _ => rfl, fun _ => rfl, fun _ => rfl⟩
  | true => exact ⟨slotPkt_reportFault s _ _ _ _, cane_reportFault s _ _ _ _, gather_reportFault s _ _ _ _,
      cluster_reportFault s _ _ _ _⟩

/-- A counter holds what its window lets it: a byte. -/
theorem toNat_ofNat_min (window : Byte) (n : Nat) :
    (BitVec.ofNat 8 (min window.toNat n)).toNat = min window.toNat n := by
  rw [BitVec.toNat_ofNat]
  have := window.isLt
  omega

/-! ### What a credit packet adds -/

section
variable {s : State} {slot : Fin 44} {dst n i count : Nat} {m1 m2 : Bool} (hdst : dst < 40) (hcount : 0 < count)
include hdst hcount

/-- CANE_CRED for a stream of a lossless tenant (R181, R216). -/
theorem answers_caneCred (hslot : s.slotPkt slot.val = some ⟨.caneCred dst n i count, m1, m2, none, false⟩)
    (hlossless : s.lossless (s.stream dst n).tenant = true) : Answers (.caneCred slot) s fun u =>
      u.slotPkt slot.val = none ∧ (Tab.get (u.station dst).cane.cred 0 (n * 64 + i)).toNat =
        min (Tab.get (s.station dst).cane.win 0 (n * 64 + i)).toNat
          ((Tab.get (s.station dst).cane.cred 0 (n * 64 + i)).toNat + count) := by
  have hexec : execCaneCred slot s = .next (((s.taken slot.val dst).modCane dst fun c =>
      { c with cred := Tab.put c.cred 0 (n * 64 + i) (BitVec.ofNat 8
          (min (Tab.get (s.station dst).cane.win 0 (n * 64 + i)).toNat (s.caneCred dst n i + count))) }).creditOver
        dst n (decide ((Tab.get (s.station dst).cane.win 0 (n * 64 + i)).toNat < s.caneCred dst n i + count))) := by
    rw [execCaneCred, takeSlot_of_good hslot (bad_caneCred hdst n i count)]
    simp only [hcount.ne', hlossless, Bool.not_true, Bool.false_eq_true, if_false]
    rfl
  refine ⟨_, hexec, ?gone, ?counted⟩
  case gone => exact ((creditOver_keeps ..).1 _).trans (slotPkt_taken s slot.val dst)
  case counted =>
    rw [(creditOver_keeps ..).2.1, cane_modCane_self, Tab.get_put_self, toNat_ofNat_min]
    rfl

/-- QCRED (R216, R221). -/
theorem answers_qcred (hslot : s.slotPkt slot.val = some ⟨.qcred dst i count, m1, m2, none, false⟩) :
    Answers (.qcred slot) s fun u => u.slotPkt slot.val = none ∧
      (u.qwin dst i).cred = min (s.qwin dst i).window ((s.qwin dst i).cred + count) := by
  have hexec : execQcred slot s = .next (((s.taken slot.val dst).modCluster dst fun c =>
      { c with qwin := Tab.put c.qwin {} i { s.qwin dst i with
          cred := min (s.qwin dst i).window ((s.qwin dst i).cred + count) } }).creditOver dst i
        (decide ((s.qwin dst i).window < (s.qwin dst i).cred + count))) := by
    rw [execQcred, takeSlot_of_good hslot (bad_qcred hdst i count)]
    simp only [hcount.ne', if_false]
    rfl
  refine ⟨_, hexec, ?gone, ?counted⟩
  case gone => exact ((creditOver_keeps ..).1 _).trans (slotPkt_taken s slot.val dst)
  case counted => rw [State.qwin, (creditOver_keeps ..).2.2.2, cluster_modCluster_self, Tab.get_put_self]

end

/-- A flow's counter takes returned credits, as far as its window (R209). -/
theorem giveCredit_adds (s : State) (dst f from_ n : Nat) :
    (∀ slot, (s.giveCredit dst f from_ n).slotPkt slot = s.slotPkt slot) ∧
    (Tab.get ((s.giveCredit dst f from_ n).station dst).gather.cred 0 (f * 40 + from_)).toNat =
      min (Tab.get (s.station dst).gather.win 0 (f * 40 + from_)).toNat
        ((Tab.get (s.station dst).gather.cred 0 (f * 40 + from_)).toNat + n) ∧
    ((s.giveCredit dst f from_ n).station dst).gather.flows = (s.station dst).gather.flows := by
  refine ⟨fun slot => (creditOver_keeps ..).1 slot, ?cred, ?flows⟩
  all_goals rw [State.giveCredit, (creditOver_keeps ..).2.2.1, gather_modGather_self]
  case cred =>
    rw [Tab.get_put_self, toNat_ofNat_min]
    rfl

/-- The sender of credited packets forgets them, and its counters stay (R210). -/
theorem modFlow_keeps (s : State) (st n : Nat) (f : Flow → Flow) :
    (∀ slot, (s.modFlow st n f).slotPkt slot = s.slotPkt slot) ∧
    ((s.modFlow st n f).station st).gather.cred = (s.station st).gather.cred ∧
    (s.modFlow st n f).flow st n = f (s.flow st n) := by
  refine ⟨fun slot => rfl, ?cred, ?flow⟩
  case cred => rw [State.modFlow, gather_modGather_self]
  case flow => rw [State.flow, State.modFlow, gather_modGather_self, Tab.modify, Tab.get_put_self, State.flow]

section
variable {s : State} {slot : Fin 44} {dst n count addr note : Nat} {m1 m2 err : Bool} (hdst : dst < 40)
  (hcount : 0 < count) (hdma : dst ≠ stDma)
  (hslot : s.slotPkt slot.val = some ⟨.gathCred dst n count err addr note, m1, m2, none, false⟩)
include hdst hcount hdma hslot

theorem execGathCred_of_good : execGathCred slot s = .next
    (((s.taken slot.val dst).giveCredit dst n (slot.val % 40) count).modFlow dst n fun x =>
      { x with out := x.out.drop count }) := by
  rw [execGathCred, takeSlot_of_good hslot (bad_gathCred hdst n count err addr note)]
  simp only [hcount.ne', if_false, State.acknowledge, hdma]
  rfl

/-- GATH_CRED at a station other than the DMA unit's, whose credits acknowledge no burst (R209, R216). -/
theorem answers_gathCred : Answers (.gathCred slot) s fun u => u.slotPkt slot.val = none ∧
    (Tab.get (u.station dst).gather.cred 0 (n * 40 + slot.val % 40)).toNat =
      min (Tab.get (s.station dst).gather.win 0 (n * 40 + slot.val % 40)).toNat
        ((Tab.get (s.station dst).gather.cred 0 (n * 40 + slot.val % 40)).toNat + count) ∧
    (u.flow dst n).out = (s.flow dst n).out.drop count := by
  obtain ⟨hgone, hcred, hflows⟩ := giveCredit_adds (s.taken slot.val dst) dst n (slot.val % 40) count
  rw [gather_taken] at hcred hflows
  obtain ⟨hgone', hcred', hflow⟩ := modFlow_keeps ((s.taken slot.val dst).giveCredit dst n (slot.val % 40) count) dst n
    fun x => { x with out := x.out.drop count }
  refine ⟨_, execGathCred_of_good hdst hcount hdma hslot, ?gone, ?counted, ?told⟩
  case gone => rw [hgone', hgone, slotPkt_taken]
  case counted => rw [hcred', hcred]
  case told => rw [hflow, State.flow, hflows, State.flow]

end

/-! ### Thread slots -/

theorem slotPkt_fillSlot (s : State) (slot st : Nat) (p : Pkt) :
    (s.fillSlot slot st p).slotPkt slot = some { pkt := p } := Tab.get_put_self s.thread none (some { pkt := p }) slot

theorem thread_fillSlot (s : State) (slot st : Nat) (p : Pkt) : ((s.fillSlot slot st p).station st).thread =
    { (s.station st).thread with tx := cnt32 (s.station st).thread.tx } :=
  thread_modThread_self { s with thread := Tab.put s.thread none slot (some { pkt := p }) } st _

/-- The machine after a cluster has taken the oldest packet of a class, before ps, out of its queue. -/
def State.dequeued (s : State) (st c : Nat) (ps : List Pkt) : State :=
  s.modThread st fun t => { t with queues := Tab.put t.queues [] c ps,
                                   turn := Tab.put t.turn 0 c (Tab.get (s.station st).thread.turn 0 c) }

section
variable {s : State} {st : Nat} (hst : st < 32)
include hst

/-- A class of which no packet waits gives none (R217). -/
theorem placeClass_of_empty {c : Nat} (h : s.threadQueue st c = []) (slot : Nat) : s.placeClass slot st c = none := by
  rw [State.threadQueue] at h
  simp only [State.placeClass, State.nextPkt, h, if_pos hst, List.head?_nil, Option.map_none]

/-- A cluster's class gives its oldest packet (R217). -/
theorem placeClass_of_cons {c : Nat} {p : Pkt} {ps : List Pkt} (h : s.threadQueue st c = p :: ps) (slot : Nat) :
    s.placeClass slot st c = some ((s.dequeued st c ps).fillSlot slot st p) := by
  rw [State.threadQueue] at h
  simp only [State.placeClass, State.nextPkt, h, if_pos hst, List.head?_cons, Option.map_some, List.erase_cons_head]
  rfl

/-- The first class with a packet is placed: here the third (R217). -/
theorem placeStation_of_third {p : Pkt} {ps : List Pkt} (h0 : s.threadQueue st 0 = []) (h1 : s.threadQueue st 1 = [])
    (h2 : s.threadQueue st 2 = p :: ps) : s.placeStation st = (s.dequeued st 2 ps).fillSlot st st p := by
  rw [State.placeStation, placeClass_of_empty hst h0, placeClass_of_empty hst h1, placeClass_of_cons hst h2]
  rfl

end

/-- THREAD_PLACE at a cluster whose slot is empty (R215, R217). -/
theorem answers_threadPlace {s : State} {slot : Fin 44} {p : Pkt} {ps : List Pkt} (hst : slot.val < 32)
    (hslot : s.slotPkt slot.val = none) (h0 : s.threadQueue slot.val 0 = []) (h1 : s.threadQueue slot.val 1 = [])
    (h2 : s.threadQueue slot.val 2 = p :: ps) : Answers (.threadPlace slot) s fun u =>
      u.slotPkt slot.val = some { pkt := p } ∧ u.threadQueue slot.val 2 = ps ∧
      (u.station slot.val).thread.tx = cnt32 (s.station slot.val).thread.tx := by
  have hown : s.ownSlot slot.val = s := by simp only [State.ownSlot, hslot]
  have hexec : execThreadPlace slot s = .next ((s.dequeued slot.val 2 ps).fillSlot slot.val slot.val p) := by
    simp only [execThreadPlace, hown, hslot, Option.isSome_none, Bool.false_eq_true, if_false,
      if_pos (Nat.lt_trans hst (by decide : 32 < 40)), placeStation_of_third hst h0 h1 h2]
  refine ⟨_, hexec, slotPkt_fillSlot .., ?left, ?sent⟩
  case left => rw [State.threadQueue, thread_fillSlot, State.dequeued, thread_modThread_self, Tab.get_put_self]
  case sent => rw [thread_fillSlot, State.dequeued, thread_modThread_self]

/-! ### The stall watchdog -/

/-- The machine once the watchdog has marked a core's stall as reported and CL_WDOG_STAT names it (R225). -/
def State.stallNoted (s : State) (c : CoreId) (x : Stall) (insn : Nat) : State :=
  (s.modE c.key fun e => { e with stall := some { x with reported := true } }).modCluster c.cl.val fun y =>
    { y with wdFired := true, wdInsn := insn, wdCore := c.lc.val, wdArg := x.arg, wdCnt := cnt16 y.wdCnt }

/-- STALL_WATCHDOG at a core with a stall that it counts and has not reported (R225). -/
theorem answers_stallWatchdog {s : State} {c : CoreId} {x : Stall} {insn : Nat}
    (hstall : (s.core c.key).e.stall = some x) (hinsn : x.kind.insn = some insn) (hnew : x.reported = false)
    (hlimit : (s.cluster c.cl.val).wdLimit ≠ 0) : Answers (.stallWatchdog c) s fun u =>
      (u.core c.key).e.stall = some { x with reported := true } ∧ u.cluster c.cl.val =
        { s.cluster c.cl.val with wdFired := true, wdInsn := insn, wdCore := c.lc.val, wdArg := x.arg,
                                  wdCnt := cnt16 (s.cluster c.cl.val).wdCnt } := by
  have hexec : execStallWatchdog c s = .next ((s.stallNoted c x insn).reportFault c.cl.val c.cl.val 0x0C
      (BitVec.ofNat 40 (c.lc.val * 2 ^ 35 + insn * 2 ^ 32 + x.arg.toNat))) := by
    simp only [execStallWatchdog, hstall, hinsn, hnew, hlimit, decide_false, Bool.or_false, Bool.false_eq_true,
      if_false]
    rfl
  refine ⟨_, hexec, ?stall, ?noted⟩
  case stall =>
    rw [core_reportFault]
    exact congrArg (·.e.stall)
      (core_modE_self s c.key fun e => { e with stall := some { x with reported := true } })
  case noted =>
    rw [cluster_reportFault, State.stallNoted, cluster_modCluster_self]
    rfl

/-- Settles O28: each credit adds to the counter of the packet it is taken from, and what is reported past a window
keeps every counter; the third class is the first that gives a packet; the watchdog notes the stall it reports. -/
theorem creditsAndThread : Obligations.CreditsAndThread := by
  intro s slot dst n i count addr note m1 m2 err p ps c x insn gone cane gath cl
  refine ⟨fun hslot hdst hcount hl => answers_caneCred hdst hcount hslot hl,
    fun hslot hdst hcount hdma => answers_gathCred hdst hcount hdma hslot,
    fun hslot hdst hcount => answers_qcred hdst hcount hslot,
    fun hst hslot h0 h1 h2 => answers_threadPlace hst hslot h0 h1 h2, fun hstall hinsn hnew hlimit => ?watchdog⟩
  case watchdog =>
    refine (answers_stallWatchdog hstall hinsn hnew hlimit).imp fun u ⟨hu, hnoted⟩ => ?_
    rw [hnoted]
    exact ⟨hu, rfl, rfl, rfl, rfl, rfl⟩

end Sys2Proof.Machine

/-!
Fabric holds and the group window (R186, R188, R196, R200): where the registers of a station block lie, and what
CANE_THOLD and a pair of group words write.
-/

namespace Sys2Proof.Machine

/-! ### Registers of a station block -/

/-- A station block (R32). -/
theorem placeOf_stReg (r : Req) {st off : Nat} (hst : st < 40) (hoff : off < 0x10_0000) (h4 : off % 4 = 0) :
    placeOf r (stReg st off) = .station st off := by
  have hb : regBase = 0x400_0000_0000 := rfl
  have hin : regBase ≤ stReg st off ∧ stReg st off < regBase + 0x400_0000 := by unfold stReg; omega
  have hal : stReg st off % 4 = 0 := by unfold stReg; omega
  have hx : stReg st off - regBase = st * 0x10_0000 + off := by unfold stReg; omega
  have hlt : st * 0x10_0000 + off < 40 * 0x10_0000 := by omega
  have hq : (st * 0x10_0000 + off) / 0x10_0000 = st := by omega
  have hr : (st * 0x10_0000 + off) % 0x10_0000 = off := by omega
  simp only [placeOf, if_pos hin, if_pos hal, hx, placeOff, if_pos hlt, hq, hr]

/-- No port but the tenant's own is kept from a register of a station block (R310). -/
theorem gateReady_station {s : State} {r : Req} {st off : Nat} (h : Served s r)
    (hown : r = .mp ∨ s.placeTenant (.station st off) = none) : s.gateReady r (.station st off) = .ok := by
  simp only [State.gateReady, inD3_of_served h, asleep_of_served h, Bool.false_eq_true, if_false]
  obtain rfl | hnone := hown
  · rfl
  · cases r <;> simp only [hnone]

/-- A register of a station block takes the write that its station performs. -/
theorem cmdWrite_stReg {s t : State} {r : Req} {st off : Nat} {v : Word} (h : Served s r) (hst : st < 40)
    (hoff : off < 0x10_0000) (h4 : off % 4 = 0) (hown : r = .mp ∨ s.placeTenant (.station st off) = none)
    (hw : (s.carried r st).stationWrite r st off v {} = (t, true)) :
    s.cmdWrite r (stReg st off) v = t.reply r true 0 := by
  have hg := gateOf_of_served h (stReg st off)
  rw [placeOf_stReg r hst hoff h4, gateReady_station h hown] at hg
  exact cmdWrite_of_done h hg hw

theorem maskedWrite_of_allowed {mask v : Word} (h : v &&& ~~~mask = 0) (s : State) (f : State → Word → WrRes) :
    s.maskedWrite mask v f = f s v := if_pos h

theorem cane_carried (s : State) (r : Req) (d n : Nat) : ((s.carried r d).station n).cane = (s.station n).cane :=
  (cane_modThread ..).trans (cane_modThread ..)

/-! ### CANE_THOLD (R186, R188, R196) -/

theorem caneWrite_thold (s : State) (r : Req) (t : Tenant) (v : Word) :
    s.caneWrite r stHost (0x180 + 4 * t.val) v = s.tholdWrite r t v := by
  have ht := t.isLt
  have hreg : Fin.ofNat 4 ((0x180 + 4 * t.val - 0x180) / 4) = t := Fin.ext (by simp)
  simp only [State.caneWrite, if_neg (show ¬ 0x180 + 4 * t.val < 0x100 by omega),
    if_neg (show ¬ 0x180 + 4 * t.val < 0x180 by omega), if_pos (show 0x180 + 4 * t.val < 0x200 by omega),
    if_neg (show ¬ 0x190 ≤ 0x180 + 4 * t.val by omega), ne_eq, not_true_eq_false, if_false, hreg]

theorem thold_range : ∀ t : Tenant, inPages (0x180 + 4 * t.val) = false ∧ inCane (0x180 + 4 * t.val) = true ∧
    caneMask (0x180 + 4 * t.val) = 0x33 := by decide

theorem stationWrite_thold (s : State) (r : Req) (t : Tenant) {v : Word} (hv : v &&& ~~~0x33 = 0) :
    s.stationWrite r stHost (0x180 + 4 * t.val) v {} = s.tholdWrite r t v := by
  obtain ⟨hpages, hcane, hmask⟩ := thold_range t
  have hown : s.ownRangeWrite r stHost (0x180 + 4 * t.val) v {} = none := by
    simp [State.ownRangeWrite, stHost, hpages]
  simp only [State.stationWrite, hown, hcane, if_true, hmask, maskedWrite_of_allowed hv, caneWrite_thold]

/-- CANE_THOLD of a tenant that no PATCH holds does what its port or the MP asks (R196, R358). -/
theorem tholdWrite_of_owner {s : State} {r : Req} {t : Tenant} (hr : r = .mp ∨ r = .port t)
    (hp : (s.tenant t).patching = none) :
    s.tholdWrite r t 1 = (s.requestHold t, true) ∧ s.tholdWrite r t 2 = (s.releaseHold t, true) := by
  obtain rfl | rfl := hr
  · exact ⟨rfl, rfl⟩
  · simp [State.tholdWrite, hp, wrOk]

section
variable {s : State} {r : Req} {t : Tenant} (h : ServedFor s r t) (hp : (s.tenant t).patching = none)
include h hp

theorem cmdWrite_thold_req :
    s.cmdWrite r (stReg stHost (0x180 + 4 * t.val)) 1 = ((s.carried r stHost).requestHold t).reply r true 0 := by
  have ht := t.isLt
  exact cmdWrite_stReg h.1 (by decide) (by omega) (by omega) (.inr (by simp [State.placeTenant, stHost]; omega))
    ((stationWrite_thold _ r t (by decide)).trans (tholdWrite_of_owner (s := s.carried r stHost) h.2 hp).1)

theorem cmdWrite_thold_rel :
    s.cmdWrite r (stReg stHost (0x180 + 4 * t.val)) 2 = ((s.carried r stHost).releaseHold t).reply r true 0 := by
  have ht := t.isLt
  exact cmdWrite_stReg h.1 (by decide) (by omega) (by omega) (.inr (by simp [State.placeTenant, stHost]; omega))
    ((stationWrite_thold _ r t (by decide)).trans (tholdWrite_of_owner (s := s.carried r stHost) h.2 hp).2)

end

theorem shear_reply (s : State) (r : Req) (ok : Bool) (w : Word) (t : Tenant) :
    (s.reply r ok w).shear t = s.shear t := rfl

theorem shear_carried (s : State) (r : Req) (d : Nat) (t : Tenant) : (s.carried r d).shear t = s.shear t := rfl

theorem shear_requestHold {s : State} {t : Tenant} (hhold : (s.shear t).hold = .running)
    (hst : (s.tenant t).st = .running) : (s.requestHold t).shear t = { s.shear t with hold := .requested } := by
  simp [State.requestHold, hhold, hst]

/-- REL cancels a request (R188). -/
theorem shear_releaseHold_of_requested {s : State} {t : Tenant} (hhold : (s.shear t).hold = .requested) :
    (s.releaseHold t).shear t = { s.shear t with hold := .running } := by
  simp only [State.releaseHold, hhold, shear_modShear_self]

/-- REL begins the release of a hold (R188). -/
theorem shear_releaseHold_of_held {s : State} {t : Tenant} (hhold : (s.shear t).hold = .held) :
    (s.releaseHold t).shear t = { s.shear t with hold := .releasing, relAt := s.now } := by
  simp only [State.releaseHold, hhold, shear_modShear_self]
  rfl

/-! ### The group window (R200) -/

section
variable {st off : Nat} (hinj : caneInjects st = true) (hlo : 0x2_0000 ≤ off) (hhi : off < 0x4_0000)
include hlo hhi

theorem caneMask_group : caneMask off = if off % 8 = 4 then grpHiMask else 0xFFFFFFFF := by
  simp only [caneMask, if_neg (show ¬ off = 0x004 by omega), if_neg (show ¬ off = 0x010 by omega),
    if_neg (show ¬ off = 0x014 by omega), if_neg (show ¬ (0x100 ≤ off ∧ off < 0x110) by omega),
    if_neg (show ¬ (0x180 ≤ off ∧ off < 0x190) by omega), if_neg (show ¬ (0x2000 ≤ off ∧ off < 0x2800) by omega),
    if_neg (show ¬ (0x4000 ≤ off ∧ off < 0x7000) by omega), if_neg (show ¬ (0x8000 ≤ off ∧ off < 0x9000) by omega),
    if_pos (And.intro hlo hhi)]

include hinj

/-- The group window lies in no range of an injecting station's own. -/
theorem ownRangeWrite_group (s : State) (r : Req) (v : Word) : s.ownRangeWrite r st off v {} = none := by
  have hrx : inRx off = false := by simp [inRx]; omega
  have hpages : inPages off = false := by simp [inPages]; omega
  have hports : inPorts off = false := by simp [inPorts]; omega
  have htimers : inTimers off = false := by simp [inTimers]; omega
  simp only [caneInjects, Bool.or_eq_true, decide_eq_true_eq, beq_iff_eq] at hinj
  obtain (hcl | rfl) | rfl := hinj
  · simp [State.ownRangeWrite, hcl, hrx]
  · simp [State.ownRangeWrite, stHost, hpages]
  · simp [State.ownRangeWrite, stPorts, hports, htimers]

theorem stationWrite_group {v : Word} (hv : v &&& ~~~(caneMask off) = 0) (s : State) (r : Req) :
    s.stationWrite r st off v {} = s.groupWrite r st off v := by
  have hcane : inCane off = false := by simp [inCane]; omega
  have hgather : inGather off = false := by simp [inGather]; omega
  have hgroup : inGroupWindow off = true := by simp [inGroupWindow]; omega
  simp only [State.stationWrite, ownRangeWrite_group hinj hlo hhi, hcane, hgather, hgroup, Bool.false_eq_true, if_false,
    if_true, maskedWrite_of_allowed hv]

end

theorem group_carried (s : State) (r : Req) (d st g : Nat) : (s.carried r d).group st g = s.group st g := by
  rw [State.group, cane_carried, State.group]

/-- The group entry that word pair i of a station's window shows (R193). -/
def State.shownGroup (s : State) (st i : Nat) : Nat := (s.station st).cane.grpBank * 16384 + i

theorem shownGroup_carried (s : State) (r : Req) (d st i : Nat) :
    (s.carried r d).shownGroup st i = s.shownGroup st i := by rw [State.shownGroup, cane_carried, State.shownGroup]

theorem station_reply (s : State) (r : Req) (ok : Bool) (w : Word) (n : Nat) :
    (s.reply r ok w).station n = s.station n := rfl

theorem group_reply (s : State) (r : Req) (ok : Bool) (w : Word) (st g : Nat) :
    (s.reply r ok w).group st g = s.group st g := rfl

theorem stage_grpLoWrite (s : State) (r : Req) (st g : Nat) (v : Word) :
    Tab.get ((s.grpLoWrite r st g v).1.station st).cane.stage none r.key = some (g, v) := by
  rw [State.grpLoWrite, wrOk, cane_modCane_self, Tab.get_put_self]

theorem groupWrite_lo {st : Nat} (hinj : caneInjects st = true) (s : State) (r : Req) (i : Nat) (v : Word) :
    s.groupWrite r st (0x2_0000 + 8 * i) v = s.grpLoWrite r st (s.shownGroup st i) v := by
  have hi : (0x2_0000 + 8 * i - 0x2_0000) / 8 = i := by omega
  simp only [State.groupWrite, hinj, Bool.not_true, Bool.false_eq_true, if_false, hi,
    if_pos (show (0x2_0000 + 8 * i) % 8 = 0 by omega), State.shownGroup]

theorem groupWrite_hi {st : Nat} (hinj : caneInjects st = true) (s : State) (r : Req) (i : Nat) (v : Word) :
    s.groupWrite r st (0x2_0004 + 8 * i) v = s.grpHiWrite r st (s.shownGroup st i) v := by
  have hi : (0x2_0004 + 8 * i - 0x2_0000) / 8 = i := by omega
  simp only [State.groupWrite, hinj, Bool.not_true, Bool.false_eq_true, if_false, hi,
    if_neg (show ¬ (0x2_0004 + 8 * i) % 8 = 0 by omega), State.shownGroup]

section
variable {s : State} {st : Station} (h : Served s .mp) (hinj : caneInjects st.val = true) (i : Fin 16384)
include h hinj

theorem cmdWrite_groupLo (v : Word) : s.cmdWrite .mp (stReg st.val (0x2_0000 + 8 * i.val)) v =
    ((s.carried .mp st.val).grpLoWrite .mp st.val (s.shownGroup st.val i.val) v).1.reply .mp true 0 := by
  have hi := i.isLt
  have hv : v &&& ~~~(caneMask (0x2_0000 + 8 * i.val)) = 0 := by
    rw [caneMask_group (by omega) (by omega), if_neg (by omega)]
    simp
  refine cmdWrite_stReg h st.isLt (by omega) (by omega) (.inl rfl) ?_
  rw [stationWrite_group hinj (by omega) (by omega) hv, groupWrite_lo hinj, shownGroup_carried]
  rfl

theorem cmdWrite_groupHi {v : Word} (hv : v &&& ~~~grpHiMask = 0) {t : State}
    (hw : (s.carried .mp st.val).grpHiWrite .mp st.val (s.shownGroup st.val i.val) v = (t, true)) :
    s.cmdWrite .mp (stReg st.val (0x2_0004 + 8 * i.val)) v = t.reply .mp true 0 := by
  have hi := i.isLt
  have hv' : v &&& ~~~(caneMask (0x2_0004 + 8 * i.val)) = 0 := by
    rwa [caneMask_group (by omega) (by omega), if_pos (by omega)]
  refine cmdWrite_stReg h st.isLt (by omega) (by omega) (.inl rfl) ?_
  rw [stationWrite_group hinj (by omega) (by omega) hv', groupWrite_hi hinj, shownGroup_carried]
  exact hw

end

/-! ### Committing a group entry (R182, R200) -/

theorem and_of_and_not_eq_zero {w : Nat} {v mask : BitVec w} (h : v &&& ~~~mask = 0) : v &&& mask = v := by
  ext j hj
  have := congrArg (·[j]) h
  simp at this ⊢
  exact this

/-- TENANT of a group entry lies in its high word (R175). -/
theorem grpTenant_append (v lo : Word) : grpTenant (v ++ lo) = Fin.ofNat 4 (bitsOf v.toNat 29 2) := by
  have hcat : (v ++ lo).toNat = v.toNat * 2 ^ 32 + lo.toNat := by
    rw [BitVec.toNat_append, ← Nat.shiftLeft_add_eq_or_of_lt lo.isLt, Nat.shiftLeft_eq]
  have hlo := lo.isLt
  have hb : bitsOf (v ++ lo).toNat 61 2 = bitsOf v.toNat 29 2 := by
    simp only [bitsOf, hcat, Nat.shiftRight_eq_div_pow]
    omega
  exact congrArg (Fin.ofNat 4) hb

theorem msb_append_word (v lo : Word) : (v ++ lo).msb = v.msb := by
  rw [BitVec.msb_append]
  rfl

theorem grpHolder_append {v : Word} (hv : v.msb = true) (lo : Word) :
    grpHolder (v ++ lo) = some (Fin.ofNat 4 (bitsOf v.toNat 29 2)) := by
  rw [grpHolder, ← grpTenant_append v lo]
  exact if_pos ((msb_append_word v lo).trans hv)

/-- The management processor takes a free entry for a tenant whose tables are open (R182). -/
theorem mayWriteEntry_mp_free {s : State} {t : Tenant} (h : s.tablesOpen t = true) :
    s.mayWriteEntry .mp none (some t) = (true, false) := by
  rw [State.mayWriteEntry, h]

/-- The machine with a requester's staging register at a station empty (R200). -/
def State.unstaged (s : State) (r : Req) (st : Nat) : State :=
  s.modCane st fun c => { c with stage := Tab.put c.stage none r.key none }

/-- The machine with a group entry of a station written, and its ECC with it (R131, R200). -/
def State.withGroup (s : State) (st g : Nat) (e : BitVec 64) : State :=
  { s.modCane st fun c => { c with groups := Tab.put c.groups 0 g e } with
    eccUe := s.eccUe.filter (· != grpEcc st g), eccCe := s.eccCe.filter (· != grpEcc st g) }

theorem cane_withGroup (s : State) (st g : Nat) (e : BitVec 64) : ((s.withGroup st g e).station st).cane =
    { (s.station st).cane with groups := Tab.put (s.station st).cane.groups 0 g e } :=
  cane_modCane_self s st fun c => { c with groups := Tab.put c.groups 0 g e }

theorem stage_withGroup (s : State) (st g : Nat) (e : BitVec 64) :
    ((s.withGroup st g e).station st).cane.stage = (s.station st).cane.stage := by rw [cane_withGroup]

theorem group_withGroup (s : State) (st : Nat) {g : Nat} (hg : g ≠ 0) (e : BitVec 64) :
    (s.withGroup st g e).group st g = e := by
  rw [State.group, if_neg hg, cane_withGroup, Tab.get_put_self]

theorem stage_unstaged (s : State) (r : Req) (st : Nat) :
    Tab.get ((s.unstaged r st).station st).cane.stage none r.key = none := by
  rw [State.unstaged, cane_modCane_self, Tab.get_put_self]

/-- The high word writes a free entry with the low word that is staged for it, and empties the staging register
(R200). -/
theorem grpHiWrite_of_staged {s : State} {st g : Nat} {v lo : Word}
    (hstage : Tab.get (s.station st).cane.stage none Req.mp.key = some (g, lo)) (hg : g ≠ 0) (hv : v.msb = true)
    (hmask : v &&& ~~~grpHiMask = 0) (hopen : s.tablesOpen (Fin.ofNat 4 (bitsOf v.toNat 29 2)) = true)
    (hfree : (s.group st g).msb = false) :
    s.grpHiWrite .mp st g v = ((s.unstaged .mp st).withGroup st g (v ++ lo), true) := by
  have hold : grpHolder (s.group st g) = none := by simp [grpHolder, hfree]
  have hmay := mayWriteEntry_mp_free (s := s.unstaged .mp st) hopen
  rw [State.unstaged] at hmay
  simp only [State.grpHiWrite, hstage, if_true, if_neg hg, and_of_and_not_eq_zero hmask, hold, grpHolder_append hv,
    State.caneEntryWrite, hmay]
  rfl

/-- Settles O29: each register of CANE_THOLD and of the group window is followed from its address to what it writes. -/
theorem holdsAndGroups : Obligations.HoldsAndGroups := by
  intro s r t st i v lo sh cane g
  refine ⟨fun h hp => ⟨fun hhold hst => ?req, fun hhold => ?cancel, fun hhold => ?release⟩,
    fun h hinj => ⟨?lo, fun hstage hg hv hmask hopen hfree => ?hi⟩⟩
  case req =>
    refine ⟨_, congrArg Host.Outcome.next (cmdWrite_thold_req h hp), ?_, replies_reply ..⟩
    rw [shear_reply, shear_requestHold (s := s.carried r stHost) hhold hst, shear_carried]
  case cancel =>
    refine ⟨_, congrArg Host.Outcome.next (cmdWrite_thold_rel h hp), ?_, replies_reply ..⟩
    rw [shear_reply, shear_releaseHold_of_requested (s := s.carried r stHost) hhold, shear_carried]
  case release =>
    refine ⟨_, congrArg Host.Outcome.next (cmdWrite_thold_rel h hp), ?_, replies_reply ..⟩
    rw [shear_reply, shear_releaseHold_of_held (s := s.carried r stHost) hhold, shear_carried]
    rfl
  case lo =>
    refine ⟨_, congrArg Host.Outcome.next (cmdWrite_groupLo h hinj i v), ?_, replies_reply ..⟩
    rw [station_reply]
    exact stage_grpLoWrite ..
  case hi =>
    have hhi := grpHiWrite_of_staged (s := s.carried .mp st.val) (lo := lo) (by rw [cane_carried]; exact hstage) hg hv
      hmask hopen (by rw [group_carried]; exact hfree)
    refine ⟨_, congrArg Host.Outcome.next (cmdWrite_groupHi h hinj i hmask hhi), ?_, ?_, replies_reply ..⟩
    · rw [group_reply]
      exact group_withGroup _ st.val hg _
    · rw [station_reply, stage_withGroup]
      exact stage_unstaged ..

end Sys2Proof.Machine

/-!
Routers of the Cane (R162, R164, R166, R167, R184): what one flit, the only one presented, does to its router, and
what a missing beacon leaves.
-/

namespace Sys2Proof.Machine

/-! ### Router ports -/

/-- Of a pass over the router ports that only port i has a part in, that part is left. -/
theorem foldl_allDirs_of_only {σ : Type} {f : σ → Dir → σ} {i : Dir} (h : ∀ u j, j ≠ i → f u j = u) (u : σ) :
    allDirs.foldl f u = f u i := by
  cases i <;> simp [allDirs, h]

theorem find_allDirs_code (i : Dir) : (allDirs.find? fun j => j.code == i.code) = some i := by
  cases i <;> rfl

/-- LOCAL is no link. -/
theorem ne_local_of_inputExists {st : Nat} {i : Dir} (h : inputExists .cane st i = true) : i ≠ .l := by
  rintro rfl
  cases h

/-- An output toward a neighbour presents the flit there two slots later (R164, R166). -/
theorem output_of_neighbour {st n : Nat} {d : Dir} (h : neighbour st d = some n) (s : State) (fab : Fabric) (slot : Nat)
    (f : Flit) (t : Tenant) : s.output fab st d slot f t =
      s.present ⟨fab, n, oppositeOf d, (slot + 2) % 512, f.seal fab (slot == 0)⟩ := by
  cases d with
  | l => cases h
  | n => simp only [State.output, h]
  | e => simp only [State.output, h]
  | s => simp only [State.output, h]
  | w => simp only [State.output, h]

/-! ### Link errors -/

theorem getLsbD_or_bit (x : BitVec 12) {b : Nat} (h : b < 12) : (x ||| (1#12 <<< b)).getLsbD b = true := by
  simp [h]

theorem linkErr_setLinkErr (s : State) (st bit : Nat) :
    (s.setLinkErr .cane st bit).linkErr .cane st = s.linkErr .cane st ||| (1#12 <<< bit) := by
  simp only [State.linkErr, State.setLinkErr, cane_modCane_self]

theorem linkErr_reportFault (s : State) (st origin code : Nat) (d : BitVec 40) (n : Nat) :
    (s.reportFault st origin code d).linkErr .cane n = s.linkErr .cane n := by
  simp only [State.linkErr, cane_reportFault]

theorem flight_reportFault (s : State) (st origin code : Nat) (d : BitVec 40) :
    (s.reportFault st origin code d).flight = s.flight := by rw [reportFault_eq]

/-- FC_LAST names the fault that a station reported last (R502, R509). -/
theorem last_reportFault (s : State) (st origin code : Nat) (d : BitVec 40) :
    ((s.reportFault st origin code d).station st).fc.last =
      BitVec.ofNat 54 (origin * 2 ^ 48 + code * 2 ^ 40 + d.toNat) := by
  simp only [State.reportFault]
  split
  · rw [station_modStation_self]
  · rw [State.sendPkt, State.modThread, station_modStation_self, station_modStation_self]

/-- CODE of a fault that FC_LAST holds (R509). -/
theorem code_of_last (origin code : Nat) (d : BitVec 40) (h : code < 256) :
    (BitVec.ofNat 54 (origin * 2 ^ 48 + code * 2 ^ 40 + d.toNat)).toNat / 2 ^ 40 % 2 ^ 8 = code := by
  have hd := d.isLt
  rw [BitVec.toNat_ofNat]
  omega

theorem code_lt (i : Dir) (h : i ≠ .l) : i.code < 4 := by
  cases i <;> simp [Dir.code] at h ⊢

/-- BEACON_MISSING at a link input (R184). -/
theorem answers_beaconMissing {s : State} {st : Station} {i : Dir} (missing : Bool)
    (hexists : inputExists .cane st.val i = true) : Answers (.beaconMissing .cane st i missing) s fun u =>
      u.deadInput .cane st.val i = (i != .l) ∧ (u.station st.val).fc.last.toNat / 2 ^ 40 % 2 ^ 8 = 4 := by
  have hcode := code_lt i (ne_local_of_inputExists hexists)
  refine ⟨_, congrArg Host.Outcome.next (if_pos hexists), ?dead, ?told⟩
  case dead =>
    rw [State.deadInput, State.beaconFault, linkErr_reportFault, linkErr_setLinkErr]
    cases missing with
    | true => simp [getLsbD_or_bit _ (show 3 * i.code + 2 < 12 by omega)]
    | false => simp [getLsbD_or_bit _ (show 3 * i.code + 1 < 12 by omega)]
  case told =>
    rw [State.beaconFault, last_reportFault]
    exact code_of_last _ _ _ (by decide)

/-! ### One flit at a router -/

/-- Flit f at input i in a slot is all that is presented, its input is live, and output d alone takes from it. -/
structure Alone (s : State) (st slot : Nat) (i d : Dir) (f : Flit) : Prop where
  flight : s.flight = [⟨.cane, st, i, slot, f⟩]
  live : s.deadInput .cane st i = false
  valid : f.valid = true
  enabled : entEn (s.slotEntry .cane st d.code slot) = true
  input : entIn (s.slotEntry .cane st d.code slot) = i.code
  others : ∀ o, o ≠ d → entEn (s.slotEntry .cane st o.code slot) = false

/-- The machine after a router has taken the flits presented to it in a slot (R164). -/
def State.emptied (s : State) (st slot : Nat) : State :=
  { s with flight := s.flight.filter fun p => !(p.fab == .cane && p.st == st && p.slot == slot) }

section
variable {s : State} {st slot : Nat} {i d : Dir} {f : Flit} (h : Alone s st slot i d f)
include h

theorem Alone.arrived_self : s.arrived .cane st slot i = some f := by
  simp [State.arrived, h.flight]

theorem Alone.arrived_of_ne {j : Dir} (hj : j ≠ i) : s.arrived .cane st slot j = none := by
  simp [State.arrived, h.flight, hj.symm]

theorem Alone.crcFails_of_ne {j : Dir} (hj : j ≠ i) : s.crcFails .cane st slot [] j = false := by
  simp [State.crcFails, h.arrived_of_ne hj]

theorem Alone.beaconWrong_of_ne {j : Dir} (hj : j ≠ i) : s.beaconWrong .cane st slot j = false := by
  simp [State.beaconWrong, h.arrived_of_ne hj]

/-- An input with no flit presents none, or a dead one (R185). -/
theorem Alone.presented_of_ne {j : Dir} (hj : j ≠ i) (g : Flit) (hg : s.presented .cane st slot [] j = some g) :
    g.valid = false := by
  simp only [State.presented, h.crcFails_of_ne hj, h.arrived_of_ne hj, Bool.false_eq_true, if_false] at hg
  split at hg
  · cases hg
    rfl
  · cases hg

theorem Alone.checkInput_of_ne (u : State) (j : Dir) (hj : j ≠ i) : s.checkInput .cane st slot [] u j = u := by
  simp only [State.checkInput, h.crcFails_of_ne hj, h.beaconWrong_of_ne hj, Bool.false_eq_true, if_false]
  split
  · simp [h.presented_of_ne hj _ ‹_›]
  · rfl

theorem Alone.inputTaken_self : s.inputTaken .cane st slot i = true :=
  List.any_eq_true.2 ⟨d, by cases d <;> decide, by simp [h.enabled, h.input]⟩

theorem Alone.runOutput_of_ne (u : State) (o : Dir) (ho : o ≠ d) : s.runOutput .cane st slot [] u o = u := by
  simp [State.runOutput, h.others o ho]

/-- Nothing is presented to any router once this one has taken its flit. -/
theorem Alone.flight_emptied {u : State} (hu : u.flight = s.flight) : (u.emptied st slot).flight = [] := by
  simp [State.emptied, hu, h.flight]

/-- The output sends the flit that the input presents, or notes one of another tenant (R166, R167). -/
theorem Alone.runOutput_self (hcrc : s.crcFails .cane st slot [] i = false) (u : State) :
    s.runOutput .cane st slot [] u d = if f.tenant ≠ entTenant (s.slotEntry .cane st d.code slot) then
      u.noteIso .cane st f.tenant f.stream
    else u.output .cane st d slot f (entTenant (s.slotEntry .cane st d.code slot)) := by
  simp [State.runOutput, h.enabled, h.input, find_allDirs_code, State.presented, h.live, hcrc, h.arrived_self, h.valid]

/-- A flit whose check code fails is not sent (R162). -/
theorem Alone.runOutput_of_crcFails (hcrc : s.crcFails .cane st slot [] i = true) (u : State) :
    s.runOutput .cane st slot [] u d = u := by
  simp [State.runOutput, h.enabled, h.input, find_allDirs_code, State.presented, h.live, hcrc]

/-- An input that is LOCAL, or whose flit is intact and carries BEACON where it is due, has nothing noted (R162,
R184). -/
theorem Alone.checkInput_of_good (hgood : i = .l ∨ (f.intact .cane = true ∧ f.beacon = (slot == 2))) (u : State) :
    s.crcFails .cane st slot [] i = false ∧ s.checkInput .cane st slot [] u i = u := by
  have hcrc : s.crcFails .cane st slot [] i = false := by
    obtain rfl | ⟨hintact, -⟩ := hgood
    · rfl
    · simp [State.crcFails, h.arrived_self, hintact]
  have hbeacon : s.beaconWrong .cane st slot i = false := by
    obtain rfl | ⟨-, hb⟩ := hgood
    · rfl
    · simp [State.beaconWrong, h.arrived_self, hb]
  refine ⟨hcrc, ?_⟩
  simp only [State.checkInput, hcrc, hbeacon, h.inputTaken_self, Bool.not_true, Bool.and_false, Bool.false_eq_true,
    if_false]
  split <;> rfl

/-- A flit whose check code does not match fails the check of its link (R162). -/
theorem Alone.crcFails_of_bad (hexists : inputExists .cane st i = true) (hbad : f.intact .cane = false) :
    s.crcFails .cane st slot [] i = true := by
  simp [State.crcFails, h.arrived_self, hbad, hexists, ne_local_of_inputExists hexists]

/-- The machine after an input's check code has failed: noted on its link and reported (R162, R192). -/
theorem Alone.checkInput_of_crcFails (hcrc : s.crcFails .cane st slot [] i = true) (u : State) :
    s.checkInput .cane st slot [] u i =
      (u.setLinkErr .cane st (3 * i.code)).reportFault st (upstream st i) 0x03 (linkDetail .cane st i) := by
  simp [State.checkInput, hcrc, State.presented, h.live]

end

section
variable {s : State} {st : Station} {slot : Fin 512} {i d : Dir} {f : Flit} (h : Alone s st.val slot.val i d f)
include h

/-- A router that is presented one flit checks its input, and runs its output as that leaves things. -/
theorem Alone.forward_eq {c : State} (hcheck : s.checkInput .cane st.val slot.val [] s i = c)
    (hc : Alone c st.val slot.val i d f) : execCaneFlitForward .cane st slot [] s =
      .next (c.runOutput .cane st.val slot.val [] (c.emptied st.val slot.val) d) := by
  rw [← foldl_allDirs_of_only h.checkInput_of_ne] at hcheck
  rw [execCaneFlitForward, hcheck]
  exact congrArg Host.Outcome.next (foldl_allDirs_of_only hc.runOutput_of_ne _)

section
variable (hgood : i = .l ∨ (f.intact .cane = true ∧ f.beacon = (slot.val == 2)))
include hgood

/-- A good flit goes to the output that names its input, or is counted as another tenant's. -/
theorem Alone.forward_of_good : execCaneFlitForward .cane st slot [] s = .next
    (if f.tenant ≠ entTenant (s.slotEntry .cane st.val d.code slot.val) then
      (s.emptied st.val slot.val).noteIso .cane st.val f.tenant f.stream
    else (s.emptied st.val slot.val).output .cane st.val d slot.val f
      (entTenant (s.slotEntry .cane st.val d.code slot.val))) := by
  obtain ⟨hcrc, hcheck⟩ := h.checkInput_of_good hgood s
  rw [h.forward_eq hcheck h, h.runOutput_self hcrc]

theorem Alone.answers_of_neighbour {n : Nat} (ht : f.tenant = entTenant (s.slotEntry .cane st.val d.code slot.val))
    (hn : neighbour st.val d = some n) : Answers (.caneFlitForward .cane st slot []) s fun u =>
      u.flight = [⟨.cane, n, oppositeOf d, (slot.val + 2) % 512, f.seal .cane (slot.val == 0)⟩] := by
  refine ⟨_, (h.forward_of_good hgood).trans (congrArg Host.Outcome.next (if_neg (not_not.2 ht))), ?_⟩
  rw [output_of_neighbour hn, State.present, h.flight_emptied rfl]
  rfl

theorem Alone.answers_of_local (ht : f.tenant = entTenant (s.slotEntry .cane st.val d.code slot.val)) (hd : d = .l)
    (hbody : ∃ a b, f.body = .cane a b) : Answers (.caneFlitForward .cane st slot []) s fun u => u.flight = [] ∧
      (u.station st.val).cane.ejected = (s.station st.val).cane.ejected ++
        [⟨f, entTenant (s.slotEntry .cane st.val d.code slot.val)⟩] := by
  obtain ⟨a, b, hbody⟩ := hbody
  have hgo := h.forward_of_good hgood
  have hflight := h.flight_emptied rfl
  subst hd
  refine ⟨_, hgo.trans (congrArg Host.Outcome.next (if_neg (not_not.2 ht))), ?_⟩
  simp only [State.output, State.deliverLocal, hbody]
  refine ⟨hflight, ?_⟩
  rw [cane_modCane_self]
  rfl

theorem Alone.answers_of_foreign (ht : f.tenant ≠ entTenant (s.slotEntry .cane st.val d.code slot.val)) :
    Answers (.caneFlitForward .cane st slot []) s fun u => u.flight = [] ∧
      (u.station st.val).cane.iso = cnt16 (s.station st.val).cane.iso := by
  refine ⟨_, (h.forward_of_good hgood).trans (congrArg Host.Outcome.next (if_pos ht)), ?flight, ?iso⟩
  case flight => exact (flight_reportFault ..).trans (h.flight_emptied rfl)
  case iso =>
    rw [State.noteIso, cane_reportFault, cane_modCane_self]
    rfl

end

/-- What a failed check leaves of the router: its flit, its tables and its live input. -/
theorem Alone.of_crcNoted (hi : i ≠ .l) (origin code : Nat) (detail : BitVec 40) :
    Alone ((s.setLinkErr .cane st.val (3 * i.code)).reportFault st.val origin code detail) st.val slot.val i d f := by
  have hslots (k : Nat) : ((s.setLinkErr .cane st.val (3 * i.code)).reportFault st.val origin code detail).slotEntry
      .cane st.val k slot.val = s.slotEntry .cane st.val k slot.val := by
    simp only [State.slotEntry, State.slotTab, cane_reportFault, State.setLinkErr, cane_modCane_self]
  refine ⟨(flight_reportFault ..).trans h.flight, ?live, h.valid, ?_, ?_, fun o ho => ?_⟩
  case live =>
    have hlive := h.live
    have hcode := code_lt i hi
    rw [State.deadInput] at hlive ⊢
    rw [linkErr_reportFault, linkErr_setLinkErr]
    simpa using hlive
  · rw [hslots, h.enabled]
  · rw [hslots, h.input]
  · rw [hslots, h.others o ho]

theorem Alone.answers_of_bad (hexists : inputExists .cane st.val i = true) (hbad : f.intact .cane = false) :
    Answers (.caneFlitForward .cane st slot []) s fun u =>
      u.flight = [] ∧ (u.station st.val).cane.linkErr.getLsbD (3 * i.code) = true := by
  have hi := ne_local_of_inputExists hexists
  have hcode := code_lt i hi
  have hc := h.of_crcNoted hi (upstream st.val i) 0x03 (linkDetail .cane st.val i)
  refine ⟨_, (h.forward_eq (h.checkInput_of_crcFails (h.crcFails_of_bad hexists hbad) s) hc).trans
    (congrArg Host.Outcome.next (hc.runOutput_of_crcFails (hc.crcFails_of_bad hexists hbad) _)), ?flight, ?linkErr⟩
  case flight => exact hc.flight_emptied rfl
  case linkErr =>
    refine (congrArg (·.getLsbD (3 * i.code)) ((linkErr_reportFault ..).trans (linkErr_setLinkErr ..))).trans ?_
    exact getLsbD_or_bit _ (by omega)

end

/-- Settles O27: the checks of every other input and the runs of every other output change nothing, so that what is left
is the check of the flit's own input and the run of the output that names it. -/
theorem routersForward : Obligations.RoutersForward := by
  intro s st slot i d f n missing ent at_ alone one
  have hone (h : alone) : Alone s st.val slot.val i d f := by
    obtain ⟨hflight, hlive, hvalid, hen, hin, hothers⟩ := h
    exact ⟨hflight, hlive, hvalid, hen, hin, hothers⟩
  exact ⟨fun h ht hn => (hone h.1).answers_of_neighbour h.2 ht hn, fun h => (hone h.1).answers_of_local h.2,
    fun h => (hone h.1).answers_of_foreign h.2, fun h => (hone h).answers_of_bad, answers_beaconMissing missing⟩

end Sys2Proof.Machine

/-!
Stations of the Cane (R170, R172, R173, R176, R178, R179): an event's way from an emit buffer through the directory and
the group table to its stream, the flits that a stream injects, and the events that a station takes in.
-/

namespace Sys2Proof.Machine

/-! ### Streams -/

theorem cane_modStream_self (s : State) (st n : Nat) (f : Stream → Stream) : ((s.modStream st n f).station st).cane =
    { (s.station st).cane with streams := Tab.modify (s.station st).cane.streams {} n f } :=
  cane_modCane_self s st fun c => { c with streams := Tab.modify c.streams {} n f }

theorem stream_modStream_self (s : State) (st n : Nat) (f : Stream → Stream) :
    (s.modStream st n f).stream st n = f (s.stream st n) := by
  rw [State.stream, cane_modStream_self, Tab.modify, Tab.get_put_self, State.stream]

/-- A queue with room takes the copy (R178). -/
theorem queue_enqueueCopy {s : State} {st n : Nat} (h : (s.stream st n).queue.length < 32) (ev : WireEv) :
    ((s.enqueueCopy st n ev).stream st n).queue = (s.stream st n).queue ++ [ev] := by
  rw [State.enqueueCopy, stream_modStream_self, if_neg (Nat.not_le.2 h)]

theorem haveRoom_one {s : State} {st n : Nat} (h : (s.stream st n).queue.length < 32) :
    s.haveRoom st [(n, true)] = true := by
  simp [State.haveRoom, h]

theorem sendCopies_one (s : State) (st n : Nat) (ev : WireEv) :
    s.sendCopies st [(n, true)] ev = s.enqueueCopy st n ev := rfl

/-! ### The tables that a lookup reads -/

/-- Station st has the same directory, groups, streams and held events, and the same ECC errors, in u as in s. -/
structure SameTables (st : Nat) (s u : State) : Prop where
  dir : u.dir = s.dir
  eccUe : u.eccUe = s.eccUe
  eccCe : u.eccCe = s.eccCe
  groups : (u.station st).cane.groups = (s.station st).cane.groups
  svc : (u.station st).cane.svc = (s.station st).cane.svc
  streams : (u.station st).cane.streams = (s.station st).cane.streams
  hold : (u.station st).cane.hold = (s.station st).cane.hold

section
variable {st : Nat} {s u : State}

theorem SameTables.refl (s : State) : SameTables st s s := ⟨rfl, rfl, rfl, rfl, rfl, rfl, rfl⟩

theorem SameTables.modE (h : SameTables st s u) (k : Nat) (f : NEngine → NEngine) : SameTables st s (u.modE k f) :=
  ⟨h.dir, h.eccUe, h.eccCe, h.groups, h.svc, h.streams, h.hold⟩

theorem SameTables.spend (h : SameTables st s u) : SameTables st s u.spend :=
  ⟨h.dir, h.eccUe, h.eccCe, h.groups, h.svc, h.streams, h.hold⟩

/-- A change of a Cane's counters and turns keeps the tables. -/
theorem SameTables.modCane (h : SameTables st s u) {f : Cane → Cane} (hf : ∀ c, (f c).groups = c.groups ∧
    (f c).svc = c.svc ∧ (f c).streams = c.streams ∧ (f c).hold = c.hold) : SameTables st s (u.modCane st f) := by
  obtain ⟨hgroups, hsvc, hstreams, hhold⟩ := hf (u.station st).cane
  refine ⟨h.dir, h.eccUe, h.eccCe, ?_, ?_, ?_, ?_⟩ <;> rw [cane_modCane_self]
  · rw [hgroups, h.groups]
  · rw [hsvc, h.svc]
  · rw [hstreams, h.streams]
  · rw [hhold, h.hold]

variable (h : SameTables st s u)
include h

theorem SameTables.dirEntry_eq (src : Source) : u.dirEntry src = s.dirEntry src := by
  rw [State.dirEntry, h.dir, State.dirEntry]

theorem SameTables.group_eq (g : Nat) : u.group st g = s.group st g := by
  rw [State.group, h.groups, State.group]

theorem SameTables.stream_eq (n : Nat) : u.stream st n = s.stream st n := by
  rw [State.stream, h.streams, State.stream]

theorem SameTables.copiesOf_eq (t : Tenant) (e : BitVec 64) : u.copiesOf st t e = s.copiesOf st t e := by
  simp only [State.copiesOf, h.svc, h.stream_eq]

theorem SameTables.holdEmpty_eq (t : Tenant) : u.holdEmpty st t = s.holdEmpty st t := by
  rw [State.holdEmpty, h.hold, State.holdEmpty]

end

/-! ### Lookup (R173, R176) -/

/-- Step 4 of R176 with an empty hold register and one copy, whose queue has room: the copy is enqueued. -/
theorem placeEvent_of_room {s : State} {st : Nat} {t : Tenant} {e : BitVec 64} {n : Nat}
    (hcopies : s.copiesOf st t e = [(n, true)]) (hhold : s.holdEmpty st t = true)
    (hroom : (s.stream st n).queue.length < 32) (ev : WireEv) :
    s.placeEvent st t e ev = s.enqueueCopy st n ev := by
  rw [State.holdEmpty] at hhold
  simp [State.placeEvent, hcopies, hhold, haveRoom_one hroom, sendCopies_one]

/-- The machine after a station's pipeline has counted a lookup (R194). -/
def State.countLookup (s : State) (st : Nat) : State := s.modCane st fun c => { c with lookups := cnt32 c.lookups }

theorem SameTables.countLookup {st : Nat} {s u : State} (h : SameTables st s u) : SameTables st s (u.countLookup st) :=
  h.modCane fun _ => ⟨rfl, rfl, rfl, rfl⟩

/-- An event of source src and tenant t at station st goes into stream n alone, and at once: its group is the tenant's
own and calls for that one copy, whose queue has room, nothing is held back, and no ECC error is on the way. -/
structure OneCopy (s : State) (st : Nat) (t : Tenant) (src : Source) (n : Nat) : Prop where
  eccUe : s.eccUe = []
  eccCe : s.eccCe = []
  listed : s.dirEntry src ≠ 0
  valid : (s.group st (s.dirEntry src).toNat).msb = true
  tenant : grpTenant (s.group st (s.dirEntry src).toNat) = t
  copies : s.copiesOf st t (s.group st (s.dirEntry src).toNat) = [(n, true)]
  unheld : s.holdEmpty st t = true
  room : (s.stream st n).queue.length < 32

theorem OneCopy.of_sameTables {s u : State} {st n : Nat} {t : Tenant} {src : Source} (h : OneCopy s st t src n)
    (hu : SameTables st s u) : OneCopy u st t src n := by
  refine ⟨hu.eccUe.trans h.eccUe, hu.eccCe.trans h.eccCe, ?_, ?_, ?_, ?_, (hu.holdEmpty_eq t).trans h.unheld, ?_⟩ <;>
    simp only [hu.dirEntry_eq, hu.group_eq, hu.copiesOf_eq, hu.stream_eq]
  · exact h.listed
  · exact h.valid
  · exact h.tenant
  · exact h.copies
  · exact h.room

/-- The lookup of such an event is counted, and enqueues the copy (R173, R176, R178). -/
theorem OneCopy.lookup_eq {s : State} {st n : Nat} {t : Tenant} {src : Source} (h : OneCopy s st t src n) (pay : Byte)
    (tag : BitVec 4) (gap : Bool) : s.lookup st t src pay tag gap =
      (s.countLookup st).enqueueCopy st n ⟨src, pay, s.dirEntry src, tag, gap⟩ := by
  have hg0 : (s.dirEntry src).toNat ≠ 0 := fun h0 => h.listed (BitVec.eq_of_toNat_eq h0)
  have hce (a : Nat) : s.ceAt a = false := by simp [State.ceAt, h.eccCe]
  have hu : SameTables st s (s.countLookup st) := (SameTables.refl s).countLookup
  rw [← placeEvent_of_room ((hu.copiesOf_eq ..).trans h.copies) ((hu.holdEmpty_eq t).trans h.unheld)
    (by rw [hu.stream_eq]; exact h.room)]
  simp [State.lookup, ueAt_of_noUe h.eccUe, hce, hg0, h.valid, h.tenant, State.countLookup]

/-! ### Emit buffers (R172) -/

/-- The member whose turn it is comes first. -/
theorem nextInTurn_start {n start : Nat} {f : Nat → Bool} (hstart : start < n) (hf : f start = true) :
    nextInTurn n start f = some start := by
  obtain ⟨m, rfl⟩ : ∃ m, n = m + 1 := ⟨n - 1, by omega⟩
  simp [nextInTurn, List.range_succ_eq_map, Nat.mod_eq_of_lt hstart, hf]

/-- The machine after a cluster's pipeline has taken an event out of core l's emit buffer, before ws (R172). -/
def State.popEmitted (s : State) (cl l : Nat) (ws : List EmitEv) : State :=
  (s.modE (cl * 32 + l) fun e => { e with emitBuf := ws }).modCane cl fun c =>
    { c with rr := (l + 1) % s.grade.perCluster }

theorem takeEmitted_of_turn {s : State} {cl l : Nat} {w : EmitEv} {ws : List EmitEv} (hrr : (s.station cl).cane.rr = l)
    (hl : l < s.grade.perCluster) (hbuf : (s.core (cl * 32 + l)).e.emitBuf = w :: ws) (t : Tenant) :
    s.takeEmitted cl t = (s.popEmitted cl l ws).lookup cl t w.src w.pay w.tag false := by
  have hturn : nextInTurn s.grade.perCluster (s.station cl).cane.rr
      (fun l => !(s.core (cl * 32 + l)).e.emitBuf.isEmpty) = some l := by
    rw [hrr]
    exact nextInTurn_start hl (by simp [hbuf])
  simp only [State.takeEmitted, hturn, hbuf]
  rfl

/-- Counting the cycles of full emit buffers changes that count, and uses a free value (R172, R194). -/
theorem countEmitStall_keeps (s : State) (cl : Nat) : SameTables cl s (s.countEmitStall cl) ∧
    (s.countEmitStall cl).cores = s.cores ∧ (s.countEmitStall cl).grade = s.grade ∧
    ((s.countEmitStall cl).station cl).cane.rr = (s.station cl).cane.rr ∧
    ((s.countEmitStall cl).station cl).cane.lookups = (s.station cl).cane.lookups := by
  unfold State.countEmitStall
  split
  · refine ⟨(SameTables.refl s).spend.modCane fun _ => ⟨rfl, rfl, rfl, rfl⟩, rfl, rfl, ?_, ?_⟩ <;>
      rw [cane_modCane_self] <;> rfl
  · exact ⟨SameTables.refl s, rfl, rfl, rfl, rfl⟩

theorem sameTables_popEmitted {s u : State} {cl : Nat} (h : SameTables cl s u) (l : Nat) (ws : List EmitEv) :
    SameTables cl s (u.popEmitted cl l ws) := (h.modE ..).modCane fun _ => ⟨rfl, rfl, rfl, rfl⟩

/-- What is left of a cluster once the event has been taken, counted and enqueued. -/
theorem enqueued_popEmitted (s : State) (cl l n : Nat) (ws : List EmitEv) (ev : WireEv) :
    let u := ((s.popEmitted cl l ws).countLookup cl).enqueueCopy cl n ev
    (u.core (cl * 32 + l)).e.emitBuf = ws ∧ (u.station cl).cane.lookups = cnt32 (s.station cl).cane.lookups ∧
      (u.station cl).cane.rr = (l + 1) % s.grade.perCluster ∧
      (u.station cl).cane.hold = (s.station cl).cane.hold := by
  refine ⟨?buf, ?_⟩
  case buf => exact congrArg (·.e.emitBuf) (core_modE_self s (cl * 32 + l) fun e => { e with emitBuf := ws })
  rw [State.enqueueCopy, cane_modStream_self, State.countLookup, cane_modCane_self, State.popEmitted, cane_modCane_self]
  exact ⟨rfl, rfl, rfl⟩

/-- EVENT_LOOKUP at a cluster whose turn is core l's (R172). -/
theorem answers_eventLookup {s : State} {st : Station} {t : Tenant} {l n : Nat} {w : EmitEv} {ws : List EmitEv}
    (hcl : st.val < 32) (htenant : s.tenantOf st.val = some t) (hrr : (s.station st.val).cane.rr = l)
    (hl : l < s.grade.perCluster) (hbuf : (s.core (st.val * 32 + l)).e.emitBuf = w :: ws)
    (hone : OneCopy s st.val t w.src n) : Answers (.eventLookup st) s fun u =>
      (u.core (st.val * 32 + l)).e.emitBuf = ws ∧
      (u.station st.val).cane.lookups = cnt32 (s.station st.val).cane.lookups ∧
      (u.station st.val).cane.rr = (l + 1) % s.grade.perCluster ∧
      (u.stream st.val n).queue = (s.stream st.val n).queue ++ [⟨w.src, w.pay, s.dirEntry w.src, w.tag, false⟩] := by
  obtain ⟨hstall, hcores, hgrade, hrr0, hlookups⟩ := countEmitStall_keeps s st.val
  have hpop := sameTables_popEmitted hstall l ws
  have hcount := hpop.countLookup
  have hbuf0 : ((s.countEmitStall st.val).core (st.val * 32 + l)).e.emitBuf = w :: ws := by
    rw [State.core, hcores]
    exact hbuf
  obtain ⟨hbuf', hlookups', hrr', hhold'⟩ := enqueued_popEmitted (s.countEmitStall st.val) st.val l n ws
    ⟨w.src, w.pay, s.dirEntry w.src, w.tag, false⟩
  have htake : (s.countEmitStall st.val).takeEmitted st.val t =
      (((s.countEmitStall st.val).popEmitted st.val l ws).countLookup st.val).enqueueCopy st.val n
        ⟨w.src, w.pay, s.dirEntry w.src, w.tag, false⟩ := by
    rw [takeEmitted_of_turn (hrr0.trans hrr) (hgrade ▸ hl) hbuf0, (hone.of_sameTables hpop).lookup_eq, hpop.dirEntry_eq]
  have hfollow : ((s.countEmitStall st.val).takeEmitted st.val t).followHeld st.val t =
      (s.countEmitStall st.val).takeEmitted st.val t := by
    refine if_pos ?_
    rw [htake, State.holdEmpty, hhold', ← State.holdEmpty, hstall.holdEmpty_eq, hone.unheld]
  refine ⟨(s.countEmitStall st.val).takeEmitted st.val t, ?exec, ?_⟩
  case exec =>
    change execEventLookup st s = _
    simp only [execEventLookup, if_pos hcl, State.lookupCluster, htenant, hone.unheld, if_true, hfollow]
  rw [htake]
  refine ⟨hbuf', hlookups'.trans (congrArg (cnt32 ·) hlookups), hgrade ▸ hrr', ?_⟩
  rw [queue_enqueueCopy (by rw [hcount.stream_eq]; exact hone.room), hcount.stream_eq]

/-! ### Held events, injection and ejection -/

/-- The machine with the held events of a tenant at a station replaced (R178). -/
def State.withHeld (s : State) (st : Nat) (t : Tenant) (evs : List WireEv) : State :=
  s.modCane st fun c => { c with hold := Tab.put c.hold [] t.val evs }

theorem cane_withHeld (s : State) (st : Nat) (t : Tenant) (evs : List WireEv) :
    ((s.withHeld st t evs).station st).cane =
      { (s.station st).cane with hold := Tab.put (s.station st).cane.hold [] t.val evs } :=
  cane_modCane_self s st fun c => { c with hold := Tab.put c.hold [] t.val evs }

theorem stream_withHeld (s : State) (st : Nat) (t : Tenant) (evs : List WireEv) (n : Nat) :
    (s.withHeld st t evs).stream st n = s.stream st n := by rw [State.stream, cane_withHeld, State.stream]

/-- HOLD_REGISTER_ENQUEUE of an event with one copy, whose queue has room (R178). -/
theorem answers_holdRegisterEnqueue {s : State} {st : Station} {t : Tenant} {n : Nat} {ev : WireEv} {evs : List WireEv}
    (hhold : Tab.get (s.station st.val).cane.hold [] t.val = ev :: evs)
    (hcopies : s.copiesOf st.val t (s.group st.val ev.grp.toNat) = [(n, true)])
    (hroom : (s.stream st.val n).queue.length < 32) : Answers (.holdRegisterEnqueue st t) s fun u =>
      Tab.get (u.station st.val).cane.hold [] t.val = evs ∧
      (u.stream st.val n).queue = (s.stream st.val n).queue ++ [ev] := by
  refine ⟨(s.withHeld st.val t evs).enqueueCopy st.val n ev, ?exec, ?left, ?sent⟩
  case exec =>
    change execHoldRegisterEnqueue st t s = _
    simp only [execHoldRegisterEnqueue, hhold, hcopies, haveRoom_one hroom, Bool.not_true, Bool.false_eq_true,
      if_false]
    rfl
  case left => rw [State.enqueueCopy, cane_modStream_self, cane_withHeld, Tab.get_put_self]
  case sent => rw [queue_enqueueCopy (by rw [stream_withHeld]; exact hroom), stream_withHeld]

/-- A slot of a lossy tenant's stream sends two events, or the one there is (R170). -/
theorem injectCount_of_lossy {s : State} {st n : Nat} (h : s.lossless (s.stream st n).tenant = false) :
    s.injectCount st n = min 2 (s.stream st n).queue.length := by
  simp only [State.injectCount, h, Bool.false_eq_true, if_false]

/-- Two events of a queue, or the one there is, as a slot takes them: the rest, and EVENT1 (R161, R170). -/
theorem pair_of_queue (ev : WireEv) (evs : List WireEv) : min 2 (ev :: evs).length ≠ 0 ∧
    (ev :: evs).drop (min 2 (ev :: evs).length) = evs.drop 1 ∧
    (if min 2 (ev :: evs).length = 2 then (ev :: evs)[1]? else none) = evs.head? := by
  cases evs with
  | nil => simp
  | cons ev' evs => simp

/-- The machine once a stream has given its k oldest events and counted them as sent (R170). -/
def State.dequeueStream (s : State) (st n k : Nat) : State :=
  s.modStream st n fun y => { y with queue := y.queue.drop k, sent := cnt32 y.sent k }

/-- STREAM_INJECT in a slot that is enabled and free, of a lossy tenant's stream (R164, R170). -/
theorem answers_streamInject {s : State} {st : Station} {slot : Fin 512} {ev : WireEv} {evs : List WireEv} {n : Nat}
    (hn : entStream (s.slotEntry .cane st.val 5 slot.val) = n)
    (hen : entEn (s.slotEntry .cane st.val 5 slot.val) = true) (hinj : caneInjects st.val = true)
    (hstream : (s.stream st.val n).en = true) (hqueue : (s.stream st.val n).queue = ev :: evs)
    (hlossy : s.lossless (s.stream st.val n).tenant = false)
    (hfree : ∀ p ∈ s.flight, ¬(p.fab = .cane ∧ p.st = st.val ∧ p.input = .l ∧ p.slot = slot.val)) :
    Answers (.streamInject st slot) s fun u => (u.stream st.val n).queue = evs.drop 1 ∧
      u.flight = s.flight ++ [⟨.cane, st.val, .l, slot.val,
        { body := .cane (some ev) evs.head?, tenant := entTenant (s.slotEntry .cane st.val 5 slot.val), src := st.val,
          stream := n }⟩] := by
  have hbusy : (s.flight.any fun p => p.fab == .cane && p.st == st.val && p.input == .l && p.slot == slot.val) =
      false := by simpa [and_assoc] using hfree
  obtain ⟨hsome, hrest, hpair⟩ := pair_of_queue ev evs
  have hexec : execStreamInject st slot s = .next ((s.dequeueStream st.val n (min 2 (ev :: evs).length)).present
      ⟨.cane, st.val, .l, slot.val,
        { body := .cane (some ev) evs.head?, tenant := entTenant (s.slotEntry .cane st.val 5 slot.val), src := st.val,
          stream := n }⟩) := by
    simp only [execStreamInject, hn, hinj, hen, hstream, hbusy, Bool.not_true, Bool.or_self, Bool.false_eq_true,
      if_false, injectCount_of_lossy hlossy, hqueue, if_neg hsome, hlossy, hpair, List.head?_cons]
    rfl
  refine ⟨_, hexec, ?queue, ?flight⟩
  case queue =>
    refine (congrArg (·.queue) (stream_modStream_self s st.val n _)).trans ?_
    rw [hqueue, hrest]
  case flight => rfl

/-- A cluster of the event's tenant takes it into a receive FIFO that has room (R148, R179). -/
theorem rxAccept_of_room {s : State} {cl : Nat} {x : RxEv} (ht : s.tenantOf cl = some x.tenant)
    (hroom : (s.cluster cl).rx.length < 256) :
    s.rxAccept cl x = s.modCluster cl fun c => { c with rx := c.rx ++ [x] } := by
  simp only [State.rxAccept, ht, ne_eq, not_true_eq_false, if_false, if_neg (Nat.not_le.2 hroom)]

/-- The machine with the flits that OUT_L has handed to a station replaced (R179). -/
def State.withEjected (s : State) (st : Nat) (xs : List Ejected) : State :=
  s.modCane st fun c => { c with ejected := xs }

/-- CANE_EJECT at a cluster, of a flit of its tenant with one event, for which the receive FIFO has room (R148,
R179). -/
theorem answers_caneEject {s : State} {st : Station} {x : Ejected} {xs : List Ejected} {ev : WireEv} (hcl : st.val < 32)
    (hejected : (s.station st.val).cane.ejected = x :: xs) (hbody : x.flit.body = .cane (some ev) none)
    (htenant : s.tenantOf st.val = some x.tenant) (hroom : (s.cluster st.val).rx.length < 256) :
    Answers (.caneEject st) s fun u => (u.station st.val).cane.ejected = xs ∧
      (u.cluster st.val).rx = (s.cluster st.val).rx ++ [⟨ev, x.tenant, x.flit.src, x.flit.stream⟩] := by
  have haccept : (s.withEjected st.val xs).accept st.val ⟨ev, x.tenant, x.flit.src, x.flit.stream⟩ =
      (s.withEjected st.val xs).modCluster st.val fun c =>
        { c with rx := c.rx ++ [⟨ev, x.tenant, x.flit.src, x.flit.stream⟩] } :=
    (if_pos hcl).trans (rxAccept_of_room htenant hroom)
  refine ⟨(s.withEjected st.val xs).accept st.val ⟨ev, x.tenant, x.flit.src, x.flit.stream⟩, ?exec, ?_⟩
  case exec =>
    change execCaneEject st s = _
    simp only [execCaneEject, hejected, hbody]
    rfl
  rw [haccept]
  refine ⟨congrArg (·.ejected) (cane_modCane_self s st.val fun c => { c with ejected := xs }), ?_⟩
  rw [cluster_modCluster_self]
  rfl

/-- Settles O26: the member whose turn it is gives its event, whose one copy is enqueued at once or from the hold
register; a slot takes at most two events of a stream; and a cluster takes in the event of a flit. -/
theorem caneCarriesEvents : Obligations.CaneCarriesEvents := by
  intro s st t l w ws n ev evs slot x xs cl c g k queue
  refine ⟨fun hcl ht hrr hl hbuf hhold hue hce hg hvalid hgt hcopies hroom => ?lookup, answers_holdRegisterEnqueue,
    answers_streamInject, answers_caneEject⟩
  case lookup =>
    have hk : k = st.val * 32 + l := congrArg (· + l) (Nat.mul_comm 32 st.val)
    rw [hk] at hbuf ⊢
    exact answers_eventLookup hcl ht hrr hl hbuf ⟨hue, hce, hg, hvalid, hgt, hcopies, hhold, hroom⟩

end Sys2Proof.Machine

/-!
The Gather's packets at their ends (R204 to R210): what sending a flit takes, and what performing the packet of a cell,
freeing the cell and returning its credit keep.
-/

namespace Sys2Proof.Machine

/-! ### Cells (R207, R210) -/

/-- A packet of a row's own operation is the row's to perform (R205, R206). -/
theorem cellOp_of_holds {s : State} {st cell op : Nat} {p : GPkt} (h : s.cellPkt st cell = some p) (hop : p.op = op)
    (hlt : op < 5) (hrsvd : p.rsvd = false) (f : GPkt → State) : s.cellOp st cell op f = f p := by
  have hbad : p.bad = false := by
    rw [GPkt.bad, hop, hrsvd, Bool.or_false]
    exact decide_eq_false (Nat.not_le.2 hlt)
  simp only [State.cellOp, h, hbad, hop, Bool.false_eq_true, if_false, if_true]

/-- A packet that may be performed stands in its cell, and has not begun (R210). -/
theorem cell_of_cellPkt {s : State} {st cell : Nat} {p : GPkt} (h : s.cellPkt st cell = some p) :
    ∃ o, Tab.get (s.station st).gather.cells none cell = some ⟨p, o, false⟩ := by
  unfold State.cellPkt at h
  dsimp only at h
  split at h
  case h_1 => cases h
  case h_2 c hc =>
    split at h
    case isTrue => cases h
    case isFalse hno =>
      have hbusy : c.busy = false := (Bool.or_eq_false_iff.1 (Bool.not_eq_true _ ▸ hno)).2
      obtain ⟨q, o, b⟩ := c
      cases h
      exact ⟨o, hbusy ▸ hc⟩

theorem gather_freeCell (s : State) (st cell : Nat) : ((s.freeCell st cell).station st).gather =
    { (s.station st).gather with cells := Tab.put (s.station st).gather.cells none cell none } :=
  gather_modGather_self ..

theorem gather_gatherDone (s : State) (st cell : Nat) (p : GPkt) : ((s.gatherDone st cell p).station st).gather =
    { (s.station st).gather with cells := Tab.put (s.station st).gather.cells none cell none } :=
  (gather_modThread ..).trans (gather_freeCell ..)

theorem threadQueue_modGather (s : State) (st : Nat) (f : Gather → Gather) (n cls : Nat) :
    (s.modGather st f).threadQueue n cls = s.threadQueue n cls :=
  threadQueue_modStation s st (f := fun x => { x with gather := f x.gather }) (fun _ => rfl) n cls

/-- A packet that has been performed leaves its cell free, and its credit goes behind the station's others (R210). -/
theorem gatherDone_frees (s : State) (st cell : Nat) (p : GPkt) :
    Tab.get ((s.gatherDone st cell p).station st).gather.cells none cell = none ∧
    (s.gatherDone st cell p).threadQueue st 1 =
      enqueuePkt (.gathCred p.src p.flow 1 false 0 0) (s.threadQueue st 1) := by
  constructor
  · rw [gather_gatherDone, Tab.get_put_self]
  · refine (threadQueue_sendPkt_self ..).trans (congrArg _ ?_)
    exact threadQueue_modGather ..

/-! ### Credits of a flow (R209) -/

section
variable {V : Type} [DecidableEq V] (d : V) (f : Nat → V → V)

theorem get_modifyAll_of_notMem (t : Tab V) {ks : List Nat} {j : Nat} (h : j ∉ ks) :
    Tab.get (Tab.modifyAll t d ks f) d j = Tab.get t d j := by
  induction ks generalizing t with
  | nil => rfl
  | cons k ks ih =>
    obtain ⟨hk, hks⟩ := not_or.1 (List.mem_cons.not.1 h)
    exact (ih _ hks).trans (Tab.get_put_of_ne _ _ _ hk)

/-- Each key of a list without repetition is changed once. -/
theorem get_modifyAll_of_mem (t : Tab V) {ks : List Nat} (hnodup : ks.Nodup) {j : Nat} (h : j ∈ ks) :
    Tab.get (Tab.modifyAll t d ks f) d j = f j (Tab.get t d j) := by
  induction ks generalizing t with
  | nil => cases h
  | cons k ks ih =>
    obtain ⟨hk, hks⟩ := List.nodup_cons.1 hnodup
    change Tab.get (Tab.modifyAll (Tab.put t d k (f k (Tab.get t d k))) d ks f) d j = _
    rcases List.mem_cons.1 h with rfl | hj
    · rw [get_modifyAll_of_notMem d f _ hk, Tab.get_put_self]
    · have hne : j ≠ k := fun e => hk (e ▸ hj)
      rw [ih _ hks hj, Tab.get_put_of_ne _ _ _ hne]

end

theorem nodup_dests (x : Flow) : x.dests.Nodup := by
  have hmap : (((List.range 8).filter fun i => x.edge.getLsbD i).map (· + 32)).Nodup :=
    (List.nodup_range.filter _).map fun a b h => Nat.add_right_cancel h
  refine (List.nodup_range.filter _).append hmap fun a ha hb => ?_
  have hlt : a < 32 := List.mem_range.1 (List.mem_of_mem_filter ha)
  obtain ⟨b, -, rfl⟩ := List.mem_map.1 hb
  omega

theorem flow_takeCredits (s : State) (st f n : Nat) : (s.takeCredits st f).flow st n = s.flow st n := by
  rw [State.flow, State.takeCredits, gather_modGather_self]
  rfl

/-- The first flit of a packet takes one credit of each destination (R209). -/
theorem gathCredit_takeCredits {s : State} {st f d : Nat} (hcred : s.hasCredits st f = true)
    (hd : d ∈ (s.flow st f).dests) : (s.takeCredits st f).gathCredit st f d + 1 = s.gathCredit st f d := by
  have hpos : 0 < s.gathCredit st f d := of_decide_eq_true (List.all_eq_true.1 hcred d hd)
  have hkeys : ((s.flow st f).dests.map (f * 40 + ·)).Nodup :=
    (nodup_dests _).map fun a b h => Nat.add_left_cancel h
  have htaken : (s.takeCredits st f).gathCredit st f d =
      (Tab.get (s.station st).gather.cred 0 (f * 40 + d) - 1).toNat := by
    rw [State.gathCredit, State.takeCredits, gather_modGather_self,
      get_modifyAll_of_mem 0 (fun _ v => v - 1) _ hkeys (List.mem_map_of_mem hd)]
  rw [htaken]
  unfold State.gathCredit at hpos ⊢
  bv_omega

/-! ### Sending a flit (R204, R209, R210) -/

/-- The machine after a flow has sent one more flit of its head packet p; the first takes its credits. -/
def State.flitTaken (s : State) (st f : Nat) (p : GPkt) : State :=
  (if (s.flow st f).flits = 0 then s.takeCredits st f else s).modFlow st f fun x => x.sendFlit p

/-- The machine after the last flit of packet p has been sent: counted, and the READ that it answers is done. -/
def State.packetSent (s : State) (st : Nat) (p : GPkt) : State :=
  (s.modGather st fun g => { g with pktTx := cnt32 g.pktTx }).replySent st p

/-- What a flow's flit and the end of its packet leave, before the flit is at its router. -/
def State.flowSent (s : State) (st f : Nat) (p : GPkt) : State :=
  if packetFlits p.len ≤ (s.flow st f).flits + 1 then (s.flitTaken st f p).packetSent st p else s.flitTaken st f p

theorem flow_flitTaken (s : State) (st f : Nat) (p : GPkt) :
    (s.flitTaken st f p).flow st f = (s.flow st f).sendFlit p := by
  unfold State.flitTaken
  refine ((modFlow_keeps _ st f _).2.2).trans ?_
  split
  · rw [flow_takeCredits]
  · rfl

theorem cells_flitTaken (s : State) (st f : Nat) (p : GPkt) :
    ((s.flitTaken st f p).station st).gather.cells = (s.station st).gather.cells := by
  unfold State.flitTaken
  rw [State.modFlow, gather_modGather_self]
  split
  · rw [State.takeCredits, gather_modGather_self]
  · rfl

theorem flight_flitTaken (s : State) (st f : Nat) (p : GPkt) : (s.flitTaken st f p).flight = s.flight := by
  unfold State.flitTaken
  split <;> rfl

theorem gathCredit_flitTaken {s : State} {st f d : Nat} (p : GPkt)
    (hcred : (s.flow st f).flits = 0 → s.hasCredits st f = true) (hd : d ∈ (s.flow st f).dests) :
    (s.flitTaken st f p).gathCredit st f d + (if (s.flow st f).flits = 0 then 1 else 0) = s.gathCredit st f d := by
  unfold State.flitTaken
  rw [State.gathCredit, (modFlow_keeps _ st f _).2.1]
  split
  case isTrue hfirst => exact gathCredit_takeCredits (hcred hfirst) hd
  case isFalse => rfl

theorem flight_replySent (s : State) (st : Nat) (p : GPkt) : (s.replySent st p).flight = s.flight := by
  unfold State.replySent
  split
  · rfl
  · split
    · split <;> rfl
    · rfl

/-- The end of a reply frees a cell, and changes nothing else of the station's Gather (R210). -/
theorem gather_replySent (s : State) (st : Nat) (p : GPkt) : ∃ cells,
    ((s.replySent st p).station st).gather = { (s.station st).gather with cells := cells } := by
  unfold State.replySent
  split
  · exact ⟨_, rfl⟩
  · split
    · split
      · exact ⟨_, gather_gatherDone ..⟩
      · exact ⟨_, rfl⟩
    · exact ⟨_, rfl⟩

/-- The READ whose reply has been sent is done: its cell is free (R210). -/
theorem cell_replySent {s : State} {st c : Nat} {p : GPkt} {y : Cell} (hack : p.ack = some c)
    (hcell : Tab.get (s.station st).gather.cells none c = some y) (hbusy : y.busy = true) :
    Tab.get ((s.replySent st p).station st).gather.cells none c = none := by
  simp only [State.replySent, hack, hcell, hbusy, if_true]
  exact (gatherDone_frees ..).1

/-- Ending a packet leaves the flows and their credits as they are. -/
theorem packetSent_keeps (s : State) (st : Nat) (p : GPkt) : (s.packetSent st p).flight = s.flight ∧
    (∀ n, (s.packetSent st p).flow st n = s.flow st n) ∧
    ∀ f d, (s.packetSent st p).gathCredit st f d = s.gathCredit st f d := by
  obtain ⟨cells, hcells⟩ := gather_replySent (s.modGather st fun g => { g with pktTx := cnt32 g.pktTx }) st p
  rw [gather_modGather_self] at hcells
  refine ⟨flight_replySent .., fun n => ?_, fun f d => ?_⟩
  · rw [State.flow, State.packetSent, hcells, State.flow]
  · rw [State.gathCredit, State.packetSent, hcells, State.gathCredit]

theorem flowSent_keeps (s : State) (st f : Nat) (p : GPkt) : (s.flowSent st f p).flight = s.flight ∧
    (s.flowSent st f p).flow st f = (s.flow st f).sendFlit p ∧
    ∀ d, (s.flowSent st f p).gathCredit st f d = (s.flitTaken st f p).gathCredit st f d := by
  unfold State.flowSent
  split
  · obtain ⟨hflight, hflow, hcred⟩ := packetSent_keeps (s.flitTaken st f p) st p
    exact ⟨hflight.trans (flight_flitTaken ..), (hflow f).trans (flow_flitTaken ..), hcred f⟩
  · exact ⟨flight_flitTaken .., flow_flitTaken .., fun _ => rfl⟩

/-- With the last flit of a reply the READ that it answers is done (R210). -/
theorem cell_flowSent {s : State} {st f c : Nat} {p : GPkt} {y : Cell}
    (hlast : packetFlits p.len ≤ (s.flow st f).flits + 1) (hack : p.ack = some c)
    (hcell : Tab.get (s.station st).gather.cells none c = some y) (hbusy : y.busy = true) :
    Tab.get ((s.flowSent st f p).station st).gather.cells none c = none := by
  rw [State.flowSent, if_pos hlast]
  refine cell_replySent hack ?_ hbusy
  rw [gather_modGather_self]
  exact (congrArg (Tab.get · none c) (cells_flitTaken ..)).trans hcell

theorem queue_sendFlit {x : Flow} {p : GPkt} {ps : List GPkt} (h : x.queue = p :: ps) :
    (x.sendFlit p).queue = if x.flits + 1 < packetFlits p.len then p :: ps else ps := by
  unfold Flow.sendFlit
  split
  · exact h
  · exact congrArg List.tail h

/-- The next flit of packet p, of a flow that holds a slot, at its router input (R184, R204). -/
def State.nextFlit (s : State) (st f slot : Nat) (p : GPkt) : Presented :=
  let inj := s.injectionOf st f slot
  let flit : Flit := { body := .gather p (s.flow st f).flits, tenant := entTenant inj.1, src := st, stream := f }
  ⟨.gather, inj.2.1, inj.2.2, slot, flit.seal .gather (slot == 2)⟩

/-- A flow that holds a slot, with its head packet p before ps, and nothing at the router input of its flits (R204,
R208). -/
structure HoldsSlot (s : State) (st : Station) (f : Fin 64) (slot : Fin 512) (p : GPkt) (ps : List GPkt) : Prop where
  injects : gatherInjects st.val = true
  entry : entEn (s.injectionOf st.val f.val slot.val).1 = true
  stream : entStream (s.injectionOf st.val f.val slot.val).1 = f.val
  en : (s.flow st.val f.val).en = true
  queue : (s.flow st.val f.val).queue = p :: ps
  clear : ∀ y ∈ s.flight, ¬(y.fab = .gather ∧ y.st = (s.injectionOf st.val f.val slot.val).2.1 ∧
    y.input = (s.injectionOf st.val f.val slot.val).2.2 ∧ y.slot = slot.val)

section
variable {s : State} {st : Station} {f : Fin 64} {slot : Fin 512} {p : GPkt} {ps : List GPkt}
  (h : HoldsSlot s st f slot p ps)
include h

theorem HoldsSlot.not_busy : (s.flight.any fun y => y.fab == .gather &&
    y.st == (s.injectionOf st.val f.val slot.val).2.1 && y.input == (s.injectionOf st.val f.val slot.val).2.2 &&
    y.slot == slot.val) = false := by
  simpa only [List.any_eq_false, Bool.and_eq_true, beq_iff_eq, and_assoc] using h.clear

/-- A flow without a credit that it needs counts the slot (R209). -/
theorem HoldsSlot.exec_of_noCredit (hfirst : (s.flow st.val f.val).flits = 0)
    (hcred : s.hasCredits st.val f.val = false) : execGatherFlowSend st f slot s =
      .next (s.modGather st.val fun g => { g with cwait := cnt32 g.cwait }) := by
  simp only [execGatherFlowSend, h.injects, h.entry, h.stream, h.en, h.not_busy, h.queue, hfirst, hcred, ne_eq,
    not_true_eq_false, decide_false, Bool.not_true, Bool.or_false, Bool.false_eq_true, and_self, if_true, if_false]

/-- A flow that has the credits it needs sends a flit (R204, R209). -/
theorem HoldsSlot.exec_of_credits (hcred : (s.flow st.val f.val).flits = 0 → s.hasCredits st.val f.val = true) :
    execGatherFlowSend st f slot s = .next ((s.flowSent st.val f.val p).present
      (s.nextFlit st.val f.val slot.val p)) := by
  have hgo : ¬((s.flow st.val f.val).flits = 0 ∧ s.hasCredits st.val f.val = false) := fun ⟨h0, hno⟩ =>
    Bool.false_ne_true (hno.symm.trans (hcred h0))
  simp only [execGatherFlowSend, h.injects, h.entry, h.stream, h.en, h.not_busy, h.queue, hgo, ne_eq,
    not_true_eq_false, decide_false, Bool.not_true, Bool.or_false, Bool.false_eq_true, if_false, decide_eq_true_eq]
  rfl

/-- GATHER_FLOW_SEND of a flow that has the credits it needs (R204, R209, R210). -/
theorem HoldsSlot.answers_of_credits (hcred : (s.flow st.val f.val).flits = 0 → s.hasCredits st.val f.val = true) :
    Answers (.gatherFlowSend st f slot) s fun u =>
      u.flight = s.flight ++ [s.nextFlit st.val f.val slot.val p] ∧
      (u.flow st.val f.val).queue =
        (if (s.flow st.val f.val).flits + 1 < packetFlits p.len then p :: ps else ps) ∧
      (∀ c y, packetFlits p.len ≤ (s.flow st.val f.val).flits + 1 → p.ack = some c →
        Tab.get (s.station st.val).gather.cells none c = some y → y.busy = true →
        Tab.get (u.station st.val).gather.cells none c = none) ∧
      ∀ d ∈ (s.flow st.val f.val).dests, u.gathCredit st.val f.val d +
        (if (s.flow st.val f.val).flits = 0 then 1 else 0) = s.gathCredit st.val f.val d := by
  obtain ⟨hflight, hflow, hcredit⟩ := flowSent_keeps s st.val f.val p
  refine ⟨_, h.exec_of_credits hcred, ?flight, ?queue, fun c y => cell_flowSent, fun d hd => ?credit⟩
  case flight => exact congrArg (· ++ _) hflight
  case queue => exact (congrArg Flow.queue hflow).trans (queue_sendFlit h.queue)
  case credit => exact (congrArg (· + _) (hcredit d)).trans (gathCredit_flitTaken p hcred hd)

/-- GATHER_FLOW_SEND of a flow that lacks a credit for its packet (R209). -/
theorem HoldsSlot.answers_of_noCredit (hfirst : (s.flow st.val f.val).flits = 0)
    (hcred : s.hasCredits st.val f.val = false) : Answers (.gatherFlowSend st f slot) s fun u =>
      u.flight = s.flight ∧ (u.station st.val).gather.cwait = cnt32 (s.station st.val).gather.cwait ∧
      u.flow st.val f.val = s.flow st.val f.val := by
  refine ⟨_, h.exec_of_noCredit hfirst hcred, rfl, ?_, ?_⟩
  · rw [gather_modGather_self]
  · rw [State.flow, gather_modGather_self, State.flow]

end

end Sys2Proof.Machine

/-!
External accesses that packets of the Gather make (R206, R207, R236, R238): the bursts of an access of the deep tier,
what a store leaves and keeps, and what a read of registers keeps.
-/

namespace Sys2Proof.Machine

/-! ### Bursts (R236, R238) -/

/-- State t differs from s by what the bursts of an external access that completes note: counters and records of the
engines, and the EDC tries that are over. -/
structure Bursts (s t : State) : Prop where
  eq : t = { s with deep := t.deep, edc := t.edc }
  route : ∀ e : Engine, t.deep[e.val].route = s.deep[e.val].route
  tries : (∀ a, Tab.get s.edc 0 a ≤ 4) → ∀ a, Tab.get t.edc 0 a ≤ 4

section
variable {s t u : State}

theorem Bursts.refl (s : State) : Bursts s s := ⟨rfl, fun _ => rfl, id⟩

theorem Bursts.trans (h : Bursts s t) (h' : Bursts t u) : Bursts s u := by
  refine ⟨?_, fun e => (h'.route e).trans (h.route e), fun hs => h'.tries (h.tries hs)⟩
  rw [h'.eq, h.eq]

theorem bursts_modDeep (s : State) (e : Engine) {f : DeepEngine → DeepEngine} (hf : ∀ d, (f d).route = d.route) :
    Bursts s (s.modDeep e f) := by
  refine ⟨rfl, fun n => ?_, id⟩
  rw [State.modDeep, Vector.getElem_set]
  split
  case isTrue heq =>
    rw [hf]
    simp only [heq]
  case isFalse => rfl

theorem bursts_clearEdc (s : State) (a : Nat) : Bursts s (s.clearEdc a) := by
  refine ⟨rfl, fun _ => rfl, fun hs c => ?_⟩
  rw [State.clearEdc, Tab.get_put]
  split
  · exact Nat.zero_le 4
  · exact hs c

/-- What reads neither the engines nor the tries is as it was. -/
theorem Bursts.same {α : Type} (h : Bursts s t) (f : State → α)
    (hf : ∀ (u : State) d e, f { u with deep := d, edc := e } = f u) : f t = f s := by
  rw [h.eq, hf]

theorem Bursts.replyFlowOk_eq (h : Bursts s t) (st : Nat) (p : GPkt) : t.replyFlowOk st p = s.replyFlowOk st p := by
  have hflow := h.same (State.flow · st (readFlow p)) fun _ _ _ => rfl
  have h0 := h.route 0
  have h1 := h.route 1
  simp only [Fin.val_zero, Fin.val_one] at h0 h1
  simp only [State.replyFlowOk, hflow, h0, h1]

end

/-- The burst of a sector whose tries do not all fail passes; one of a read also wants no uncorrectable error (R236,
R238). -/
theorem extBurst_passes {s : State} {write : Bool} (a : Nat) (htries : ∀ c, Tab.get s.edc 0 c ≤ 4)
    (hue : write = true ∨ s.eccUe = []) : ∃ t, State.extBurst write (s, .ok) a = (t, .ok) ∧ Bursts s t := by
  have hcount : Bursts s (s.countRetries (s.deepEng a) (Tab.get s.edc 0 a)) := bursts_modDeep s _ fun _ => rfl
  have hs1 := hcount.trans (bursts_clearEdc _ a)
  have hno : ¬ 4 < Tab.get s.edc 0 a := Nat.not_lt.2 (htries a)
  simp only [State.extBurst, ne_eq, not_true_eq_false, if_false, hno]
  split
  case isTrue => exact ⟨_, rfl, hs1⟩
  case isFalse hread =>
    have hue : s.ueAt a = false := by
      rcases hue with rfl | hue
      · exact absurd (Bool.true_or _) hread
      · exact ueAt_of_noUe hue a
    rw [hue, if_neg Bool.false_ne_true]
    split
    case isTrue => exact ⟨_, rfl, hs1.trans (bursts_modDeep _ _ fun _ => rfl)⟩
    case isFalse => exact ⟨_, rfl, hs1⟩

theorem foldl_extBurst_passes {s : State} {write : Bool} (as : List Nat) (htries : ∀ c, Tab.get s.edc 0 c ≤ 4)
    (hue : write = true ∨ s.eccUe = []) :
    ∃ t, as.foldl (State.extBurst write) (s, .ok) = (t, .ok) ∧ Bursts s t := by
  induction as generalizing s with
  | nil => exact ⟨s, rfl, .refl s⟩
  | cons a as ih =>
    obtain ⟨t, ht, hst⟩ := extBurst_passes a htries hue
    obtain ⟨u, hu, htu⟩ := ih (hst.tries htries) (hue.imp_right (hst.same State.eccUe fun _ _ _ => rfl).trans)
    exact ⟨u, by rw [List.foldl_cons, ht, hu], hst.trans htu⟩

/-- The bursts of an external access pass. -/
theorem extBursts_passes {s : State} {write : Bool} (x : Tenant) (a n : Nat) (htries : ∀ c, Tab.get s.edc 0 c ≤ 4)
    (hue : write = true ∨ s.eccUe = []) : ∃ t, s.extBursts x write a n = (t, .ok) ∧ Bursts s t := by
  unfold State.extBursts
  generalize (decide (a < deepTop) && _) = served
  cases served with
  | true => exact foldl_extBurst_passes _ htries hue
  | false => exact ⟨s, rfl, .refl s⟩

/-- An access beyond the deep tier has no bursts. -/
theorem extBursts_of_not_deep {s : State} {a : Nat} (h : deepTop ≤ a) (x : Tenant) (write : Bool) (n : Nat) :
    s.extBursts x write a n = (s, .ok) := by
  rw [State.extBursts, decide_eq_false (Nat.not_lt.2 h), Bool.false_and]
  rfl

/-! ### Stores (R131, R207, R223) -/

theorem storeBytes_of_closed {s : State} {a : Nat} {bs : List Byte}
    (h : ∀ j, j < bs.length → s.openVector (a + j) = false) :
    s.storeBytes a bs = (s.writeBytes a bs).clearEcc a bs.length := by
  rw [State.storeBytes, racedBytes_of_closed h]

/-- A store changes memory and its ECC errors, and uses free values where it races (R223). -/
theorem storeBytes_eq (s : State) (a : Nat) (bs : List Byte) : s.storeBytes a bs =
    { s with mem := (s.storeBytes a bs).mem, freeCtr := (s.storeBytes a bs).freeCtr,
             eccUe := (s.storeBytes a bs).eccUe, eccCe := (s.storeBytes a bs).eccCe } := by
  rcases hraced : s.racedBytes a bs with ⟨t, bs'⟩
  simp only [State.storeBytes, hraced]
  rw [writeBytes_eq, eq_of_racedBytes hraced]
  rfl

theorem mayStore_storeBytes (s : State) (a : Nat) (bs : List Byte) (x : Tenant) (c n : Nat) :
    (s.storeBytes a bs).mayStore x c n = s.mayStore x c n := by
  rw [storeBytes_eq]
  rfl

theorem stations_storeBytes (s : State) (a : Nat) (bs : List Byte) : (s.storeBytes a bs).stations = s.stations := by
  rw [storeBytes_eq]

theorem rawByte_storeBytes_of_apart {s : State} {a c : Nat} {bs : List Byte}
    (h : ∀ j, j < bs.length → s.openVector (a + j) = false) (hc : c < a ∨ a + bs.length ≤ c) :
    (s.storeBytes a bs).rawByte c = s.rawByte c := by
  rw [storeBytes_of_closed h]
  exact rawByte_writeBytes_of_apart s bs hc

theorem rawByte_storeBytes {s : State} {a : Nat} {bs : List Byte}
    (h : ∀ j, j < bs.length → s.openVector (a + j) = false) {j : Nat} (hj : j < bs.length)
    (ht : isTop (a + j) = false) : (s.storeBytes a bs).rawByte (a + j) = bs.getD j 0 := by
  rw [storeBytes_of_closed h]
  exact (rawByte_writeBytes s a bs hj ht).trans (List.getElem_eq_getD 0)

/-! ### Core windows (R29, R30) -/

theorem perCluster_le (g : Grade) : g.perCluster ≤ 32 := by
  cases g <;> decide

theorem div_of_mem_coresIn {s : State} {cl k : Nat} (h : k ∈ s.coresIn cl) : k / 32 = cl := by
  obtain ⟨l, hl, rfl⟩ := List.mem_map.1 h
  have hlt := Nat.lt_of_lt_of_le (List.mem_range.1 hl) (perCluster_le s.grade)
  omega

/-- Every memory of a core window ends inside the window (R30). -/
theorem windowEnd_le {off e : Nat} (h : windowEnd off = some e) : e ≤ 0x8_0000 := by
  unfold windowEnd at h
  repeat' split at h
  all_goals cases h <;> decide

theorem coreWindow_bounds {k a : Nat} (hcl : k / 32 < 32) (ha : a < 0x8_0000) :
    coreBase ≤ coreWindow k + a ∧ coreWindow k + a < sharedBase ∧ (coreWindow k + a) % 0x8_0000 = a := by
  unfold coreWindow sharedBase coreBase
  omega

/-- Between the deep tier and shared memory, the end of an address's memory is that of its window offset. -/
theorem memEnd_of_window {s : State} {a e : Nat} (hlow : coreBase ≤ a) (hhigh : a < sharedBase)
    (h : s.memEnd a = some e) : ∃ x, windowEnd (a % 0x8_0000) = some x ∧ a - a % 0x8_0000 + x = e := by
  have hdeep : ¬ a < deepTop := Nat.not_lt.2 (Nat.le_trans (by decide) hlow)
  have hshared : inShared a = false := by rw [inShared, decide_eq_false (Nat.not_le.2 hhigh), Bool.false_and]
  rw [State.memEnd, if_neg hdeep, hshared, if_neg Bool.false_ne_true] at h
  split at h
  · exact Option.map_eq_some_iff.1 h
  · cases h

theorem le_memEnd_of_oneMemory {s : State} {a n : Nat} (h : s.oneMemory a n = true) :
    ∃ e, s.memEnd a = some e ∧ a + n ≤ e := by
  unfold State.oneMemory at h
  split at h
  case h_1 e he => exact ⟨e, he, of_decide_eq_true (Bool.and_eq_true_iff.1 h).2⟩
  case h_2 => cases h

/-- A range of one memory from inside a core window ends inside the window. -/
theorem le_of_oneMemory_window {s : State} {k a n : Nat} (hcl : k / 32 < 32) (ha : a < 0x8_0000)
    (h : s.oneMemory (coreWindow k + a) n = true) : a + n ≤ 0x8_0000 := by
  obtain ⟨hlow, hhigh, hoff⟩ := coreWindow_bounds hcl ha
  obtain ⟨e, he, hle⟩ := le_memEnd_of_oneMemory h
  obtain ⟨x, hx, hxe⟩ := memEnd_of_window hlow hhigh he
  have hxle := windowEnd_le hx
  rw [hoff] at hxe
  omega

/-- No byte below shared memory lies in an open vector. -/
theorem openVector_of_lt (s : State) {a : Nat} (h : a < sharedBase) : s.openVector a = false := by
  simp only [State.openVector, decide_eq_false (Nat.not_le.2 h), Bool.false_and]

/-! ### Reads of registers -/

theorem stations_coreReadLow (s : State) (c : CoreId) (off : Nat) : (s.coreReadLow c off).1.stations = s.stations := by
  unfold State.coreReadLow
  dsimp only
  split
  case h_13 => split <;> rfl
  case h_15 =>
    split
    · dsimp only
      split <;> rfl
    · rfl
  all_goals rfl

theorem stations_coreClear (s : State) (k off : Nat) : (s.coreClear k off).stations = s.stations := by
  unfold State.coreClear
  split <;> rfl

/-- Reading a core register changes no station. -/
theorem stations_coreRead (s : State) (c : CoreId) (off : Nat) : (s.coreRead c off).1.stations = s.stations := by
  unfold State.coreRead
  dsimp only
  split
  · exact stations_coreReadLow s c off
  · repeat' split
    case isFalse.isFalse.isFalse.isFalse.isFalse.isTrue => exact stations_coreClear s c.key off
    all_goals rfl

/-- What each step of a recursion keeps, given that the step before kept it, the recursion keeps. -/
theorem brecOn_keeps {M : Nat → Type} {F : (n : Nat) → Nat.below (motive := M) n → M n} {P : (n : Nat) → M n → Prop}
    (hstep : ∀ n, (∀ m, m + 1 = n → P m (Nat.brecOn m F)) → P n (F n (Nat.brecOn.go n F).2)) (n : Nat) :
    P n (Nat.brecOn n F) := by
  induction n with
  | zero => exact hstep 0 fun m hm => absurd hm (Nat.succ_ne_zero m)
  | succ n ih => exact hstep (n + 1) fun m hm => Nat.succ.inj hm ▸ ih

/-- One step of loadRegs changes no station. The step stands here by itself, with its window offset made a variable:
to check the equation of loadRegs the kernel would count that offset down in unary. -/
theorem stations_loadRegs_step (F : (n : Nat) → Nat.below (motive := fun _ => State → Nat → State × List Byte) n →
      State → Nat → State × List Byte) (n : Nat) (ih : ∀ m, m + 1 = n → ∀ s a,
      (Nat.brecOn (motive := fun _ => State → Nat → State × List Byte) m F s a).1.stations = s.stations)
    (s : State) (a : Nat) : (State.loadRegs._f n (Nat.brecOn.go n F).2 s a).1.stations = s.stations := by
  unfold State.loadRegs._f
  generalize a % 0x8_0000 - 0x4_9000 = off
  have hread := stations_coreRead s (coreAt a) off
  generalize s.coreRead (coreAt a) off = r at hread ⊢
  obtain ⟨t, w⟩ := r
  cases n with
  | zero => rfl
  | succ m => exact (ih m rfl t (a + 4)).trans hread

/-- Reading the words of a core register range changes no station. -/
theorem stations_loadRegs (s : State) (a n : Nat) : (s.loadRegs a n).1.stations = s.stations := by
  delta State.loadRegs
  exact brecOn_keeps (M := fun _ => State → Nat → State × List Byte) (P := fun _ f => ∀ s a, (f s a).1.stations =
    s.stations) (stations_loadRegs_step State.loadRegs._f) n s a

/-- An external read changes no station (R207). -/
theorem stations_extRead {s : State} {x : Tenant} {a n : Nat} {r : State × List Byte}
    (h : s.extRead x a n = some r) : r.1.stations = s.stations := by
  unfold State.extRead at h
  repeat' split at h
  case isFalse.isTrue.isTrue =>
    cases h
    rfl
  case isFalse.isFalse.isFalse.isTrue.isTrue =>
    cases h
    exact stations_loadRegs ..
  case isFalse.isFalse.isFalse.isFalse =>
    cases h
    rfl
  all_goals cases h

end Sys2Proof.Machine

/-!
WRITE, BCAST and READ at their destination (R206, R207, R210): the state that each leaves, with its cell and its credit,
and what the sending of flits comes to (R204, R209).
-/

namespace Sys2Proof.Machine

theorem threadQueue_of_stations {s u : State} (h : u.stations = s.stations) (st cls : Nat) :
    u.threadQueue st cls = s.threadQueue st cls := by
  rw [State.threadQueue, State.station, h]
  rfl

theorem station_of_stations {s u : State} (h : u.stations = s.stations) (st : Nat) : u.station st = s.station st := by
  rw [State.station, h]
  rfl

/-- The credit that a performed packet returns to its sender (R209, R210). -/
def creditOf (p : GPkt) : Pkt := .gathCred p.src p.flow 1 false 0 0

/-- The packet of a cell has been performed: the cell is free, and these credits are all that waits at its station. -/
def Performed (u : State) (st cell : Nat) (credits : List Pkt) : Prop :=
  Tab.get (u.station st).gather.cells none cell = none ∧ u.threadQueue st 1 = credits

theorem gatherDone_of_quiet {s u : State} {st : Nat} (cell : Nat) (p : GPkt) (h : u.stations = s.stations)
    (hquiet : s.threadQueue st 1 = []) : Performed (u.gatherDone st cell p) st cell [creditOf p] := by
  obtain ⟨hfree, hsent⟩ := gatherDone_frees u st cell p
  rw [threadQueue_of_stations h, hquiet] at hsent
  exact ⟨hfree, hsent⟩

theorem readByte_gatherDone (s : State) (st cell : Nat) (p : GPkt) (a : Nat) :
    (s.gatherDone st cell p).readByte a = s.readByte a := rfl

/-- Data read back from the address that they have been stored to, but for the top bytes of accumulators (R30). -/
def Stored (u : State) (a : Nat) (bs : List Byte) : Prop :=
  ∀ i, i < bs.length → isTop (a + i) = false → u.readByte (a + i) = bs.getD i 0

/-! ### WRITE -/

theorem gatherStore_of_mayStore {s : State} {st : Nat} {p : GPkt} (hlen : 0 < p.len)
    (hdma : ¬(st = stDma ∧ funnelBase ≤ p.addr)) (hst : s.stationOf p.addr = st)
    (hmay : s.mayStore p.tenant p.addr p.data.length = true) :
    s.gatherStore st p = some (s.storeBytes p.addr p.data) := by
  simp only [State.gatherStore, hlen.ne', hdma, hst, ne_eq, not_true_eq_false, if_false, State.extWrite, hmay, if_true]

section
variable {s : State} {st : Station} {cell : Fin 64} {p : GPkt} (hcell : s.cellPkt st.val cell.val = some p)
  (hrsvd : p.rsvd = false) (hquiet : s.threadQueue st.val 1 = [])
include hcell hrsvd

/-- A WRITE whose bursts pass is performed (R207, R236). -/
theorem execGatherWrite_of_passes (hop : p.op = 0) {t u v : State} (hs : s.gatherStore st.val p = some v)
    (hbursts : s.extBursts p.tenant true p.addr p.data.length = (t, .ok)) (ht : t.gatherStore st.val p = some u) :
    execGatherWrite st cell s = .next (u.gatherDone st.val cell.val p) := by
  rw [execGatherWrite, cellOp_of_holds hcell hop (by decide) hrsvd, hs, hbursts]
  simp only [Option.isNone_some, Bool.false_eq_true, if_false, ht, State.performed]

include hquiet

/-- GATHER_WRITE outside open vectors (R206, R207, R210). -/
theorem answers_gatherWrite (hop : p.op = 0) (hlen : 0 < p.len) (hst : s.stationOf p.addr = st.val)
    (hdma : ¬(st.val = stDma ∧ funnelBase ≤ p.addr)) (hmay : s.mayStore p.tenant p.addr p.data.length = true)
    (htries : ∀ a, Tab.get s.edc 0 a ≤ 4) (hclosed : ∀ i, i < p.data.length → s.openVector (p.addr + i) = false) :
    Answers (.gatherWrite st cell) s fun u =>
      Performed u st.val cell.val [creditOf p] ∧ Stored u p.addr p.data ∧
      ∀ a, a < p.addr ∨ p.addr + p.data.length ≤ a → isTop a = false → u.readByte a = s.readByte a := by
  obtain ⟨t, hbursts, hst'⟩ := extBursts_passes (write := true) p.tenant p.addr p.data.length htries (.inl rfl)
  have hclosed' : ∀ i, i < p.data.length → t.openVector (p.addr + i) = false := fun i hi =>
    (hst'.same (State.openVector · (p.addr + i)) fun _ _ _ => rfl).trans (hclosed i hi)
  have hstore := gatherStore_of_mayStore hlen hdma ((hst'.same (State.stationOf · p.addr) fun _ _ _ => rfl).trans hst)
    ((hst'.same (State.mayStore · p.tenant p.addr p.data.length) fun _ _ _ => rfl).trans hmay)
  refine ⟨_, execGatherWrite_of_passes hcell hrsvd hop (gatherStore_of_mayStore hlen hdma hst hmay) hbursts hstore,
    gatherDone_of_quiet _ p ((stations_storeBytes ..).trans (hst'.same State.stations fun _ _ _ => rfl)) hquiet,
    fun i hi ht => ?stored, fun a ha ht => ?kept⟩
  case stored => rw [readByte_gatherDone, readByte_of_not_top _ ht, rawByte_storeBytes hclosed' hi ht]
  case kept =>
    rw [readByte_gatherDone, readByte_of_not_top _ ht, rawByte_storeBytes_of_apart hclosed' ha,
      ← readByte_of_not_top _ ht, hst'.same (State.readByte · a) fun _ _ _ => rfl]

end

/-! ### BCAST (R206, R208) -/

theorem oneMemory_of_mayStore {s : State} {x : Tenant} {a n : Nat} (h : s.mayStore x a n = true) :
    s.oneMemory a n = true := by
  unfold State.mayStore at h
  exact (Bool.and_eq_true_iff.1 h).1

/-- Ranges at one offset of the windows of two cores lie apart. -/
theorem windows_apart {k j a n i : Nat} (hcl : k / 32 = j / 32) (hne : k ≠ j) (hi : a + i < 0x8_0000)
    (hn : a + n ≤ 0x8_0000) :
    coreWindow k + a + i < coreWindow j + a ∨ coreWindow j + a + n ≤ coreWindow k + a + i := by
  unfold coreWindow
  rw [hcl]
  omega

/-- A list of cores' windows is written core by core: each holds the data, and no other byte changes. -/
theorem foldl_extWrite_stores {s : State} {cl a : Nat} {x : Tenant} {bs : List Byte} {ks : List Nat} (hcl : cl < 32)
    (ha : a < 0x8_0000) (hks : ∀ k ∈ ks, k / 32 = cl) (hnodup : ks.Nodup)
    (hmay : ∀ k ∈ ks, s.mayStore x (coreWindow k + a) bs.length = true) :
    ∃ u, ks.foldl (fun o k => o.bind fun t => t.extWrite x (coreWindow k + a) bs) (some s) = some u ∧
      u.stations = s.stations ∧
      (∀ k ∈ ks, ∀ i, i < bs.length → isTop (coreWindow k + a + i) = false →
        u.rawByte (coreWindow k + a + i) = bs.getD i 0) ∧
      ∀ c, (∀ k ∈ ks, c < coreWindow k + a ∨ coreWindow k + a + bs.length ≤ c) → u.rawByte c = s.rawByte c := by
  induction ks generalizing s with
  | nil => exact ⟨s, rfl, rfl, fun _ hk => absurd hk List.not_mem_nil, fun _ _ => rfl⟩
  | cons k ks ih =>
    obtain ⟨hk, hks'⟩ := List.forall_mem_cons.1 hks
    obtain ⟨hmayk, hmays⟩ := List.forall_mem_cons.1 hmay
    obtain ⟨hnot, hnodup'⟩ := List.nodup_cons.1 hnodup
    have hend := le_of_oneMemory_window (hk ▸ hcl) ha (oneMemory_of_mayStore hmayk)
    have hclosed : ∀ j, j < bs.length → s.openVector (coreWindow k + a + j) = false := fun j hj => by
      rw [Nat.add_assoc]
      exact openVector_of_lt s (coreWindow_bounds (hk ▸ hcl) (by omega)).2.1
    obtain ⟨u, hu, hstations, hstored, hkept⟩ := ih (s := s.storeBytes (coreWindow k + a) bs) hks' hnodup' fun j hj =>
      (mayStore_storeBytes ..).trans (hmays j hj)
    have hwrite : s.extWrite x (coreWindow k + a) bs = some (s.storeBytes (coreWindow k + a) bs) := by
      rw [State.extWrite, if_pos hmayk]
    refine ⟨u, by rw [List.foldl_cons, Option.bind_some, hwrite, hu], hstations.trans (stations_storeBytes ..),
      List.forall_mem_cons.2 ⟨fun i hi ht => ?head, hstored⟩, fun c hc => ?kept⟩
    case head =>
      rw [hkept _ fun j hj => windows_apart (hk.trans (hks' j hj).symm) (fun e => hnot (e ▸ hj)) (by omega) hend]
      exact rawByte_storeBytes hclosed hi ht
    case kept =>
      obtain ⟨hck, hcks⟩ := List.forall_mem_cons.1 hc
      rw [hkept c hcks, rawByte_storeBytes_of_apart hclosed hck]

theorem lt_of_bcastRangeOk {p : GPkt} (h : bcastRangeOk p = true) : p.addr < 2 ^ 19 := by
  unfold bcastRangeOk at h
  exact of_decide_eq_true (Bool.and_eq_true_iff.1 (Bool.and_eq_true_iff.1 h).1).2

/-- BCAST at a cluster whose named cores all take the data (R206, R207). -/
theorem answers_bcast {s : State} {st : Station} {cell : Fin 64} {p : GPkt}
    (hcell : s.cellPkt st.val cell.val = some p) (hop : p.op = 4) (hrsvd : p.rsvd = false)
    (hquiet : s.threadQueue st.val 1 = []) (hst : st.val < 32) (hrange : bcastRangeOk p = true)
    (hmay : ∀ k ∈ s.bcastCores st.val p, s.mayStore p.tenant (coreWindow k + p.addr) p.data.length = true) :
    Answers (.bcast st cell) s fun u =>
      Performed u st.val cell.val [creditOf p] ∧
      ∀ k ∈ s.bcastCores st.val p, Stored u (coreWindow k + p.addr) p.data := by
  have hnodup : (s.bcastCores st.val p).Nodup := (nodup_coresIn s st.val).filter _
  have hks : ∀ k ∈ s.bcastCores st.val p, k / 32 = st.val := fun k hk =>
    div_of_mem_coresIn (List.mem_of_mem_filter hk)
  obtain ⟨u, hu, hstations, hstored, -⟩ := foldl_extWrite_stores hst (lt_of_bcastRangeOk hrange) hks hnodup hmay
  have hno : ¬(32 ≤ st.val ∨ bcastRangeOk p = false) :=
    not_or.2 ⟨Nat.not_le.2 hst, fun h => Bool.false_ne_true (h.symm.trans hrange)⟩
  have hexec : execBcast st cell s = .next (u.gatherDone st.val cell.val p) := by
    rw [execBcast, cellOp_of_holds hcell hop (by decide) hrsvd, State.gatherBcast, if_neg hno, hu, State.performed]
  refine ⟨_, hexec, gatherDone_of_quiet _ p hstations hquiet, fun k hk i hi ht => ?_⟩
  rw [readByte_gatherDone, readByte_of_not_top _ ht, hstored k hk i hi ht]

/-! ### READ (R206, R207, R210) -/

theorem extRead_of_deep {s : State} {a : Nat} (h : a < deepTop) (x : Tenant) (n : Nat) : s.extRead x a n =
    if s.oneMemory a n && s.deepReadable x a n then some (s, s.readBytes a n) else none := by
  unfold State.extRead
  rw [if_pos h]
  cases s.oneMemory a n <;> rfl

/-- The bursts of a read leave the answer to it as it is. -/
theorem extRead_of_bursts {s t : State} {x : Tenant} {a n : Nat} {r : State × List Byte}
    (hbursts : s.extBursts x false a n = (t, .ok)) (hst : Bursts s t) (h : s.extRead x a n = some r) :
    ∃ v, t.extRead x a n = some (v, r.2) ∧ v.stations = r.1.stations ∧ (a < deepTop → r.2 = s.readBytes a n) := by
  by_cases ha : a < deepTop
  · rw [extRead_of_deep ha] at h
    rw [extRead_of_deep ha, hst.same (State.oneMemory · a n) fun _ _ _ => rfl,
      hst.same (State.deepReadable · x a n) fun _ _ _ => rfl, hst.same (State.readBytes · a n) fun _ _ _ => rfl]
    split at h
    case isTrue hok =>
      cases h
      exact ⟨t, if_pos hok, hst.same State.stations fun _ _ _ => rfl, fun _ => rfl⟩
    case isFalse => cases h
  · rw [extBursts_of_not_deep (Nat.not_lt.1 ha)] at hbursts
    cases hbursts
    exact ⟨r.1, h, rfl, fun hlt => absurd hlt ha⟩

/-- The reply to a READ in a cell: its data as a WRITE on the reply flow, which answers the cell (R210). -/
def replyPkt (st cell : Nat) (p : GPkt) (bs : List Byte) : GPkt :=
  { op := 0, len := bs.length, src := st, addr := readAddr p, aux := 0, data := bs, tenant := p.tenant,
    flow := readFlow p, ack := some cell }

theorem gatherLoad_of_extRead {s : State} {st : Nat} (cell : Nat) {p : GPkt} {r : State × List Byte} (hlen : 0 < p.len)
    (hst : s.stationOf p.addr = st) (hflow : s.replyFlowOk st p = true) (hrange : s.replyRangeOk p = true)
    (hread : s.extRead p.tenant p.addr p.len = some r) : s.gatherLoad st cell p =
      some (r.1.queueOnFlow st (readFlow p) (replyPkt st cell p r.2)) := by
  have hgo : ¬(p.len = 0 ∨ s.stationOf p.addr ≠ st ∨ s.replyFlowOk st p = false ∨ s.replyRangeOk p = false) := by
    rw [hst, hflow, hrange]
    simp [hlen.ne']
  rw [State.gatherLoad, if_neg hgo, hread]
  rfl

/-- A READ whose bursts pass is performed, and keeps its cell until its reply has been sent (R210). -/
theorem execGatherRead_of_passes {s : State} {st : Station} {cell : Fin 64} {p : GPkt}
    (hcell : s.cellPkt st.val cell.val = some p) (hop : p.op = 3) (hrsvd : p.rsvd = false) {t u v : State}
    (hs : s.gatherLoad st.val cell.val p = some v) (hbursts : s.extBursts p.tenant false p.addr p.len = (t, .ok))
    (ht : t.gatherLoad st.val cell.val p = some u) :
    execGatherRead st cell s = .next (u.keepCell st.val cell.val) := by
  rw [execGatherRead, cellOp_of_holds hcell hop (by decide) hrsvd, hs, hbursts]
  simp only [Option.isNone_some, Bool.false_eq_true, if_false, ht]

/-- A packet that keeps its cell stands in it, begun (R210). -/
theorem cell_keepCell {s : State} {st cell o : Nat} {p : GPkt}
    (h : Tab.get (s.station st).gather.cells none cell = some ⟨p, o, false⟩) :
    Tab.get ((s.keepCell st cell).station st).gather.cells none cell = some ⟨p, o, true⟩ := by
  rw [State.keepCell, gather_modGather_self, Tab.modify, Tab.get_put_self, h]
  rfl

theorem flow_keepCell (s : State) (st cell f : Nat) : (s.keepCell st cell).flow st f = s.flow st f := by
  rw [State.flow, State.keepCell, gather_modGather_self]
  rfl

theorem threadQueue_keepCell (s : State) (st cell n cls : Nat) :
    (s.keepCell st cell).threadQueue n cls = s.threadQueue n cls := threadQueue_modGather ..

theorem cells_queueOnFlow (s : State) (st f : Nat) (p : GPkt) :
    ((s.queueOnFlow st f p).station st).gather.cells = (s.station st).gather.cells := by
  rw [State.queueOnFlow, gather_modGather_self]

/-- GATHER_READ of data without an uncorrectable error (R206, R207, R210, R236, R238). -/
theorem answers_gatherRead {s : State} {st : Station} {cell : Fin 64} {p : GPkt} {r : State × List Byte}
    (hcell : s.cellPkt st.val cell.val = some p) (hop : p.op = 3) (hrsvd : p.rsvd = false) (hlen : 0 < p.len)
    (hst : s.stationOf p.addr = st.val) (hflow : s.replyFlowOk st.val p = true) (hrange : s.replyRangeOk p = true)
    (hread : s.extRead p.tenant p.addr p.len = some r) (hquiet : r.1.threadQueue st.val 1 = [])
    (htries : ∀ a, Tab.get s.edc 0 a ≤ 4) (hue : s.eccUe = []) : Answers (.gatherRead st cell) s fun u =>
      u.threadQueue st.val 1 = [] ∧
      (∃ o, Tab.get (u.station st.val).gather.cells none cell.val = some ⟨p, o, true⟩) ∧
      (p.addr < deepTop → r.2 = s.readBytes p.addr p.len) ∧
      (u.flow st.val (readFlow p)).queue =
        (r.1.flow st.val (readFlow p)).queue ++ [replyPkt st.val cell.val p r.2] := by
  obtain ⟨t, hbursts, hb⟩ := extBursts_passes (write := false) p.tenant p.addr p.len htries (.inr hue)
  obtain ⟨v, hv, hstations, hdeep⟩ := extRead_of_bursts hbursts hb hread
  obtain ⟨o, ho⟩ := cell_of_cellPkt hcell
  have hload := gatherLoad_of_extRead cell.val hlen ((hb.same (State.stationOf · p.addr) fun _ _ _ => rfl).trans hst)
    ((hb.replyFlowOk_eq ..).trans hflow) ((hb.same (State.replyRangeOk · p) fun _ _ _ => rfl).trans hrange) hv
  refine ⟨_, execGatherRead_of_passes hcell hop hrsvd (gatherLoad_of_extRead cell.val hlen hst hflow hrange hread)
    hbursts hload, ?quiet, ⟨o, cell_keepCell ?cell⟩, hdeep, ?queue⟩
  case quiet =>
    rw [threadQueue_keepCell]
    exact (threadQueue_modGather ..).trans ((threadQueue_of_stations hstations ..).trans hquiet)
  case cell => rw [cells_queueOnFlow, station_of_stations (hstations.trans (stations_extRead hread)), ho]
  case queue =>
    rw [flow_keepCell, queue_queueOnFlow, State.flow, station_of_stations hstations]
    rfl

/-- Settles O32: a flit takes its credits once for each destination; the bursts of an access leave memory and the
stations as they are; and the windows that a BCAST writes lie apart. -/
theorem gatherCarriesData : Obligations.GatherCarriesData := by
  intro s st f slot cell p ps c y x g fl inj flit sends holds quiet done sign stored
  refine ⟨fun ⟨h1, h2, h3, h4, h5, h6⟩ hcred => ?sends, fun ⟨h1, h2, h3, h4, h5, h6⟩ hfirst hcred => ?counts,
    fun ⟨hcell, hop, hrsvd, hlen⟩ hq hst hdma hmay htries hclosed =>
      answers_gatherWrite hcell hrsvd hq hop hlen hst hdma hmay htries hclosed,
    fun ⟨hcell, hop, hrsvd, hlen⟩ hq hst hrange hmay => answers_bcast hcell hop hrsvd hq hst hrange hmay,
    fun ⟨hcell, hop, hrsvd, hlen⟩ hst hflow hrange hread hq htries hue =>
      answers_gatherRead hcell hop hrsvd hlen hst hflow hrange hread hq htries hue⟩
  case sends =>
    refine (HoldsSlot.answers_of_credits ⟨h1, h2, h3, h4, h5, h6⟩ hcred).imp
      fun u ⟨hflight, hqueue, hdone, hcredit⟩ => ⟨hflight, hqueue, hdone c y, hcredit⟩
  case counts => exact HoldsSlot.answers_of_noCredit ⟨h1, h2, h3, h4, h5, h6⟩ hfirst hcred

end Sys2Proof.Machine

/-!
Descriptors, contributions and segments at their cluster (R219, R220, R222, R223, R250, R251).
-/

namespace Sys2Proof.Machine

/-! ### What a change of the stations alone keeps -/

section
variable (s : State) (x : Tab StationSt)

theorem core_withStations (k : Nat) : ({ s with stations := x } : State).core k = s.core k := rfl

theorem comb_withStations (cl j : Nat) : ({ s with stations := x } : State).comb cl j = s.comb cl j := rfl

theorem readWord_withStations (a : Nat) : ({ s with stations := x } : State).readWord a = s.readWord a := rfl

end

section
variable (s : State) (st : Nat)

theorem sendPkt_eq (x : Pkt) : s.sendPkt st x = { s with stations := (s.sendPkt st x).stations } := rfl

theorem comb_sendPkt (x : Pkt) (cl j : Nat) : (s.sendPkt st x).comb cl j = s.comb cl j := by
  rw [sendPkt_eq, comb_withStations]

theorem readWord_sendPkt (x : Pkt) (a : Nat) : (s.sendPkt st x).readWord a = s.readWord a := by
  rw [sendPkt_eq, readWord_withStations]

variable (cell : Nat) (p : GPkt)

theorem gatherDone_eq : s.gatherDone st cell p = { s with stations := (s.gatherDone st cell p).stations } := rfl

theorem core_gatherDone (k : Nat) : (s.gatherDone st cell p).core k = s.core k := by
  rw [gatherDone_eq, core_withStations]

theorem comb_gatherDone (cl j : Nat) : (s.gatherDone st cell p).comb cl j = s.comb cl j := by
  rw [gatherDone_eq, comb_withStations]

theorem readWord_gatherDone (a : Nat) : (s.gatherDone st cell p).readWord a = s.readWord a := by
  rw [gatherDone_eq, readWord_withStations]

end

/-! ### QDESC (R206, R219) -/

/-- The queue whose register an address is. -/
def State.queueOf (s : State) (a : Nat) : RecvQ := (s.core (queueAt a).1).q[(queueAt a).2.val]

section
variable {s : State} {st : Station} {cell : Fin 64} {p : GPkt}

/-- A descriptor in a cell of a cluster, for a queue that it may go to, while the Thread has no credits of the cluster
waiting (R206, R219). -/
structure DescWaits (s : State) (st : Station) (cell : Fin 64) (p : GPkt) : Prop where
  cell : s.cellPkt st.val cell.val = some p
  op : p.op = 1
  rsvd : p.rsvd = false
  queueOk : s.queueOk st.val p = true
  words : p.len % 4 = 0
  len : p.len ≤ 256
  quiet : s.threadQueue st.val 1 = []

variable (h : DescWaits s st cell p)
include h

theorem DescWaits.exec_of_lands {u : State} (hu : s.landQdesc st.val p = .lands u) :
    execQdesc st cell s = .next (u.gatherDone st.val cell.val p) := by
  rw [execQdesc, cellOp_of_holds h.cell h.op (by decide) h.rsvd, hu]

theorem DescWaits.not_refused : ¬(!s.queueOk st.val p || p.len % 4 ≠ 0 || decide (256 < p.len)) = true := by
  simp [h.queueOk, h.words, h.len]

/-- A descriptor without data lands in its queue, and one with data where no combining queue is bound to it (R222). -/
theorem DescWaits.lands_message (hmsg : p.aux.msb = false ∨ s.combOf (queueAt p.addr).1 (queueAt p.addr).2 = none) :
    s.landQdesc st.val p = s.landMessage (queueAt p.addr).1 (queueAt p.addr).2 p := by
  rcases hkq : queueAt p.addr with ⟨k, q⟩
  rw [hkq] at hmsg
  simp only [State.landQdesc, hkq, if_neg h.not_refused]
  rcases hmsg with hmsg | hmsg
  · rw [hmsg]
  · rw [hmsg]
    cases p.aux.msb <;> rfl

theorem DescWaits.lands_contribution {j : Nat} (hmsb : p.aux.msb = true)
    (hcomb : s.combOf (queueAt p.addr).1 (queueAt p.addr).2 = some j) :
    s.landQdesc st.val p = s.contribute st.val j p := by
  rcases hkq : queueAt p.addr with ⟨k, q⟩
  rw [hkq] at hcomb
  simp only [State.landQdesc, hkq, if_neg h.not_refused, hmsb, hcomb]

end

/-! ### Messages (R219, R220) -/

theorem entries_landDesc (s : State) (k : Nat) (q : Fin 4) (x : QEnt) :
    ((s.landDesc k q x).core k).q[q.val].entries = (s.core k).q[q.val].entries ++ [x] := by
  rw [State.landDesc, q_modQ_self]

theorem stations_landDesc (s : State) (k : Nat) (q : Fin 4) (x : QEnt) : (s.landDesc k q x).stations = s.stations := rfl

theorem readByte_landDesc (s : State) (k : Nat) (q : Fin 4) (x : QEnt) (a : Nat) :
    (s.landDesc k q x).readByte a = s.readByte a := rfl

theorem stations_writeBytes (s : State) (a : Nat) (bs : List Byte) : (s.writeBytes a bs).stations = s.stations := by
  rw [writeBytes_eq]

/-- The word offset of a queue's next area entry (R220). -/
def RecvQ.area (x : RecvQ) : Nat := x.areaBase.toNat + 64 * ((x.head + x.entries.length) % 16)

/-- A descriptor that has been given the place of its data (R220). -/
def areaDesc (aux : BitVec 64) (base : Nat) : BitVec 64 :=
  (aux &&& 0xFFFC0000FFFFFFFF#64) ||| (BitVec.ofNat 64 base <<< 32)

theorem landMessage_of_plain {s : State} {k : Nat} {q : Fin 4} {p : GPkt} (hmsb : p.aux.msb = false)
    (hroom : (s.core k).q[q.val].room = true) :
    s.landMessage k q p = .lands (s.landDesc k q ⟨p.aux, some (p.src, p.note), none⟩) := by
  simp only [State.landMessage, hmsb, hroom, Bool.false_and, Bool.not_true, Bool.false_eq_true, if_false]

theorem landMessage_of_area {s : State} {k : Nat} {q : Fin 4} {p : GPkt} (hmsb : p.aux.msb = true)
    (hroom : (s.core k).q[q.val].room = true) (hen : (s.core k).q[q.val].areaEn = true)
    (hfits : (s.core k).q[q.val].area + max 1 (p.data.length / 4) ≤ 2 ^ 18) :
    s.landMessage k q p = .lands ((s.writeBytes (shAddr (k / 32) (s.core k).q[q.val].area) p.data).landDesc k q
      ⟨areaDesc p.aux (s.core k).q[q.val].area, some (p.src, p.note), none⟩) := by
  have hno : decide (2 ^ 18 < (s.core k).q[q.val].area + max 1 (p.data.length / 4)) = false :=
    decide_eq_false (Nat.not_lt.2 hfits)
  unfold RecvQ.area at hno ⊢
  simp only [State.landMessage, hmsb, hroom, hen, hno, Bool.not_true, Bool.or_false, Bool.and_false, Bool.false_eq_true,
    if_false, if_true]
  rfl

/-- Bit i of a field of a double word. -/
theorem testBit_bitsOf (x : BitVec 64) (p w i : Nat) :
    (bitsOf x.toNat p w).testBit i = (decide (i < w) && x.getLsbD (p + i)) := by
  rw [bitsOf, Nat.testBit_mod_two_pow, Nat.testBit_shiftRight, BitVec.testBit_toNat]

theorem getLsbD_areaDesc (aux : BitVec 64) (base i : Nat) : (areaDesc aux base).getLsbD i =
    (aux.getLsbD i && (0xFFFC0000FFFFFFFF#64).getLsbD i || decide (i < 64) && !decide (i < 32) &&
      (decide (i - 32 < 64) && base.testBit (i - 32))) := by
  rw [areaDesc, BitVec.getLsbD_or, BitVec.getLsbD_and, BitVec.getLsbD_shiftLeft,
    BitVec.getLsbD_ofNat (n := 64) (x := base)]

/-- The place of the data lies between the two parts of the descriptor that the sender gave (R220). -/
theorem bitsOf_areaDesc (aux : BitVec 64) {base : Nat} (h : base < 2 ^ 18) :
    bitsOf (areaDesc aux base).toNat 32 18 = base % 2 ^ 18 ∧
    bitsOf (areaDesc aux base).toNat 0 32 = bitsOf aux.toNat 0 32 ∧
    bitsOf (areaDesc aux base).toNat 50 14 = bitsOf aux.toNat 50 14 := by
  have hlow : ∀ i, i < 32 → (0xFFFC0000FFFFFFFF#64).getLsbD (0 + i) = true := by decide
  have hmid : ∀ i, i < 18 → (0xFFFC0000FFFFFFFF#64).getLsbD (32 + i) = false := by decide
  have hhigh : ∀ i, i < 14 → (0xFFFC0000FFFFFFFF#64).getLsbD (50 + i) = true := by decide
  refine ⟨Nat.eq_of_testBit_eq fun i => ?_, Nat.eq_of_testBit_eq fun i => ?_, Nat.eq_of_testBit_eq fun i => ?_⟩
  · rw [testBit_bitsOf, getLsbD_areaDesc, Nat.testBit_mod_two_pow]
    by_cases hi : i < 18
    · simp only [hi, hmid i hi, show 32 + i < 64 by omega, show ¬ 32 + i < 32 by omega, show i < 64 by omega,
        Nat.add_sub_cancel_left, decide_true, decide_false, Bool.and_false, Bool.false_or, Bool.true_and,
        Bool.not_false]
    · simp only [hi, decide_false, Bool.false_and]
  · rw [testBit_bitsOf, testBit_bitsOf, getLsbD_areaDesc]
    by_cases hi : i < 32
    · simp only [hi, hlow i hi, show 0 + i < 32 by omega, decide_true, Bool.and_true, Bool.not_true, Bool.and_false,
        Bool.false_and, Bool.or_false]
    · simp only [hi, decide_false, Bool.false_and]
  · rw [testBit_bitsOf, testBit_bitsOf, getLsbD_areaDesc]
    by_cases hi : i < 14
    · have hbase : base.testBit (50 + i - 32) = false :=
        Nat.testBit_lt_two_pow (Nat.lt_of_lt_of_le h (Nat.pow_le_pow_right (by decide) (by omega)))
      simp only [hhigh i hi, hbase, Bool.and_true, Bool.and_false, Bool.or_false]
    · simp only [hi, decide_false, Bool.false_and]

section
variable {s : State} {st : Station} {cell : Fin 64} {p : GPkt} (h : DescWaits s st cell p)
  (hroom : (s.queueOf p.addr).room = true)
include h hroom

/-- QDESC of a descriptor without data (R219). -/
theorem DescWaits.answers_of_plain (hmsb : p.aux.msb = false) : Answers (.qdesc st cell) s fun u =>
    Performed u st.val cell.val [creditOf p] ∧
    (u.queueOf p.addr).entries = (s.queueOf p.addr).entries ++ [⟨p.aux, some (p.src, p.note), none⟩] := by
  refine ⟨_, h.exec_of_lands ((h.lands_message (.inl hmsb)).trans (landMessage_of_plain hmsb hroom)),
    gatherDone_of_quiet _ p (stations_landDesc ..) h.quiet, ?_⟩
  rw [State.queueOf, core_gatherDone, entries_landDesc, State.queueOf]

/-- QDESC of a descriptor with data for its queue's area (R219, R220). -/
theorem DescWaits.answers_of_area (hmsb : p.aux.msb = true)
    (hcomb : s.combOf (queueAt p.addr).1 (queueAt p.addr).2 = none) (hen : (s.queueOf p.addr).areaEn = true)
    (hfits : (s.queueOf p.addr).area + max 1 (p.data.length / 4) ≤ 2 ^ 18) :
    Answers (.qdesc st cell) s fun u =>
      Performed u st.val cell.val [creditOf p] ∧
      (∀ i, i < p.data.length →
        u.readByte (shAddr ((queueAt p.addr).1 / 32) (s.queueOf p.addr).area + i) = p.data.getD i 0) ∧
      (u.queueOf p.addr).entries =
        (s.queueOf p.addr).entries ++ [⟨areaDesc p.aux (s.queueOf p.addr).area, some (p.src, p.note), none⟩] := by
  refine ⟨_, h.exec_of_lands ((h.lands_message (.inr hcomb)).trans (landMessage_of_area hmsb hroom hen hfits)),
    gatherDone_of_quiet _ p ((stations_landDesc ..).trans (stations_writeBytes ..)) h.quiet, fun i hi => ?data, ?entry⟩
  case data =>
    rw [State.queueOf, readByte_gatherDone, readByte_landDesc,
      readByte_writeBytes s _ p.data hi (isTop_of_not_inAcView (inAcView_shAddr _ _ i)), List.getElem_eq_getD 0]
  case entry => rw [State.queueOf, core_gatherDone, entries_landDesc, core_writeBytes, State.queueOf]

end

/-! ### Contributions (R222, R223) -/

theorem writeWord_eq (s : State) (a : Nat) (w : Word) : s.writeWord a w =
    { s with mem := (s.writeWord a w).mem, eccUe := (s.writeWord a w).eccUe, eccCe := (s.writeWord a w).eccCe } := by
  rw [State.writeWord, State.clearEcc, writeBytes_eq]

theorem readWord_writeWord_of_apart (s : State) {a c : Nat} (w : Word) (h : c + 4 ≤ a ∨ a + 4 ≤ c)
    (hac : ∀ j, inAcView (c + j) = false) : (s.writeWord a w).readWord c = s.readWord c := by
  have hbyte (j : Nat) (hj : j < 4) : (s.writeWord a w).readByte (c + j) = s.readByte (c + j) := by
    have htop := isTop_of_not_inAcView (hac j)
    exact readByte_writeWord_of_apart s w (by omega) fun ht => absurd (htop.symm.trans ht) Bool.false_ne_true
  refine congrArg (fun bs => BitVec.ofNat 32 (leNat bs)) (List.map_congr_left fun j hj => ?_)
  exact hbyte j (List.mem_range.1 hj)

/-- Word i of the data of a contribution (R222). -/
def dataWord (data : List Byte) (i : Nat) : Word := BitVec.ofNat 32 (leNat ((data.drop (4 * i)).take 4))

/-- The sum of an element of a vector and a word of a contribution to it (R222). -/
def State.combSum (s : State) (cl j e : Nat) (data : List Byte) (i : Nat) : Int :=
  (s.readWord (shAddr cl (combBase j + e + i))).toInt + (dataWord data i).toInt

/-- Adding word i of a contribution (R222). -/
def State.combAddWord (s : State) (cl j e : Nat) (data : List Byte) (i : Nat) : State :=
  (s.writeWord (shAddr cl (combBase j + e + i)) (BitVec.ofInt 32 (sat32 (s.combSum cl j e data i)))).modCluster cl
    fun c => { c with comb := Tab.modify c.comb {} j fun y =>
      { y with sat := y.sat || decide (sat32 (s.combSum cl j e data i) ≠ s.combSum cl j e data i) } }

theorem combAdd_eq (s : State) (cl j e : Nat) (data : List Byte) : s.combAdd cl j e data =
    (List.range (data.length / 4)).foldl (fun t i => t.combAddWord cl j e data i) s := rfl

theorem comb_modCluster (s : State) (cl j : Nat) (f : Combine → Combine) :
    (s.modCluster cl fun c => { c with comb := Tab.modify c.comb {} j f }).comb cl j = f (s.comb cl j) := by
  rw [State.comb, cluster_modCluster_self, Tab.modify, Tab.get_put_self]
  rfl

theorem comb_writeWord (s : State) (a : Nat) (w : Word) (cl j : Nat) : (s.writeWord a w).comb cl j = s.comb cl j := by
  rw [writeWord_eq]
  rfl

theorem stations_writeWord (s : State) (a : Nat) (w : Word) : (s.writeWord a w).stations = s.stations := by
  rw [writeWord_eq]

theorem readWord_modCluster (s : State) (cl : Nat) (f : ClusterSt → ClusterSt) (a : Nat) :
    (s.modCluster cl f).readWord a = s.readWord a := rfl

theorem stations_modCluster (s : State) (cl : Nat) (f : ClusterSt → ClusterSt) :
    (s.modCluster cl f).stations = s.stations := rfl

theorem comb_combAddWord (s : State) (cl j e : Nat) (data : List Byte) (i : Nat) :
    ∃ sat, (s.combAddWord cl j e data i).comb cl j = { s.comb cl j with sat := sat } := by
  rw [State.combAddWord, comb_modCluster, comb_writeWord]
  exact ⟨_, rfl⟩

theorem stations_combAddWord (s : State) (cl j e : Nat) (data : List Byte) (i : Nat) :
    (s.combAddWord cl j e data i).stations = s.stations := by
  rw [State.combAddWord, stations_modCluster, stations_writeWord]

theorem readWord_combAddWord_self (s : State) (cl j e : Nat) (data : List Byte) (i : Nat) :
    (s.combAddWord cl j e data i).readWord (shAddr cl (combBase j + e + i)) =
      BitVec.ofInt 32 (sat32 (s.combSum cl j e data i)) := by
  rw [State.combAddWord, readWord_modCluster,
    readWord_writeWord _ _ _ fun n _ => isTop_of_not_inAcView (inAcView_shAddr _ _ n)]

theorem readWord_combAddWord_of_ne (s : State) (cl j e : Nat) (data : List Byte) {i n : Nat} (h : n ≠ i) :
    (s.combAddWord cl j e data i).readWord (shAddr cl (combBase j + e + n)) =
      s.readWord (shAddr cl (combBase j + e + n)) := by
  rw [State.combAddWord, readWord_modCluster]
  refine readWord_writeWord_of_apart s _ ?_ (inAcView_shAddr cl _)
  unfold shAddr
  omega

/-- The first n words of a contribution have been added: each has met the element that stood there before (R222). -/
theorem foldl_combAddWord_adds (s : State) (cl j e : Nat) (data : List Byte) (n : Nat) :
    let u := (List.range n).foldl (fun t i => t.combAddWord cl j e data i) s
    u.stations = s.stations ∧ (∃ sat, u.comb cl j = { s.comb cl j with sat := sat }) ∧
    (∀ i, i < n → u.readWord (shAddr cl (combBase j + e + i)) = BitVec.ofInt 32 (sat32 (s.combSum cl j e data i))) ∧
    ∀ i, n ≤ i → u.readWord (shAddr cl (combBase j + e + i)) = s.readWord (shAddr cl (combBase j + e + i)) := by
  induction n with
  | zero => exact ⟨rfl, ⟨_, rfl⟩, fun i hi => absurd hi (Nat.not_lt_zero i), fun _ _ => rfl⟩
  | succ n ih =>
    obtain ⟨hstations, ⟨sat, hsat⟩, hadded, hkept⟩ := ih
    rw [List.range_succ, List.foldl_append, List.foldl_cons, List.foldl_nil]
    generalize (List.range n).foldl (fun t i => t.combAddWord cl j e data i) s = t at *
    obtain ⟨sat', hsat'⟩ := comb_combAddWord t cl j e data n
    refine ⟨(stations_combAddWord ..).trans hstations, ⟨sat', by rw [hsat', hsat]⟩, fun i hi => ?added,
      fun i hi => ?kept⟩
    case added =>
      rcases Nat.lt_succ_iff_lt_or_eq.1 hi with hlt | rfl
      · rw [readWord_combAddWord_of_ne t cl j e data hlt.ne, hadded i hlt]
      · rw [readWord_combAddWord_self, State.combSum, hkept i (Nat.le_refl i), State.combSum]
    case kept => rw [readWord_combAddWord_of_ne t cl j e data (by omega), hkept i (by omega)]

/-- The machine after a contribution has been added and counted, before its queue is done (R222). -/
def State.combCounted (s : State) (cl j : Nat) (p : GPkt) : State :=
  (s.combAdd cl j (p.aux.toNat % 256) p.data).modCluster cl fun c =>
    { c with comb := Tab.modify c.comb {} j fun y => { y with received := y.received + 1 } }

/-- A combining queue is done once COUNT contributions have come (R223). -/
theorem combLand_keeps (s : State) (cl j : Nat) : (s.combLand cl j).stations = s.stations ∧
    (∀ a, (s.combLand cl j).readWord a = s.readWord a) ∧
    (s.combLand cl j).comb cl j =
      { s.comb cl j with done := (s.comb cl j).done || decide ((s.comb cl j).count ≤ (s.comb cl j).received) } := by
  unfold State.combLand
  dsimp only
  split
  case isTrue hlt =>
    refine ⟨rfl, fun _ => rfl, ?_⟩
    rw [decide_eq_false (Nat.not_le.2 hlt), Bool.or_false]
  case isFalse hge =>
    refine ⟨rfl, fun _ => rfl, ?_⟩
    rw [comb_modCluster, decide_eq_true (Nat.not_lt.1 hge), Bool.or_true]
    rfl

/-- A contribution to a vector that its consumer does not hold is added, and its sender's credit returns (R221,
R222). -/
theorem contribute_of_room {s : State} {cl j : Nat} {p : GPkt} (hdone : (s.comb cl j).done = false)
    (hfits : p.aux.toNat % 256 + p.data.length / 4 ≤ (s.comb cl j).elems) : s.contribute cl j p =
      .lands (((s.combCounted cl j p).combLand cl j).sendPkt cl (.qcred p.src p.note 1)) := by
  simp only [State.contribute, hdone, Nat.not_lt.2 hfits, Bool.false_eq_true, if_false]
  rfl

/-- What a contribution to a queue that is not done comes to (R222, R223). -/
theorem contribution_adds {s : State} {cl j : Nat} (p : GPkt) (hdone : (s.comb cl j).done = false) :
    let u := (s.combCounted cl j p).combLand cl j
    u.stations = s.stations ∧ (u.comb cl j).received = (s.comb cl j).received + 1 ∧
    (u.comb cl j).done = decide ((s.comb cl j).count ≤ (s.comb cl j).received + 1) ∧
    ∀ i, i < p.data.length / 4 → u.readWord (shAddr cl (combBase j + p.aux.toNat % 256 + i)) =
      BitVec.ofInt 32 (sat32 (s.combSum cl j (p.aux.toNat % 256) p.data i)) := by
  obtain ⟨hstations, ⟨sat, hsat⟩, hadded, -⟩ :=
    foldl_combAddWord_adds s cl j (p.aux.toNat % 256) p.data (p.data.length / 4)
  rw [← combAdd_eq] at hstations hsat hadded
  have hcounted : (s.combCounted cl j p).comb cl j =
      { s.comb cl j with sat := sat, received := (s.comb cl j).received + 1 } := by
    rw [State.combCounted, comb_modCluster, hsat]
  obtain ⟨hland, hwords, hcombined⟩ := combLand_keeps (s.combCounted cl j p) cl j
  rw [hcounted, hdone, Bool.false_or] at hcombined
  refine ⟨?stations, congrArg Combine.received hcombined, congrArg Combine.done hcombined, fun i hi => ?word⟩
  case stations => rw [hland, State.combCounted, stations_modCluster, hstations]
  case word => rw [hwords, State.combCounted, readWord_modCluster, hadded i hi]

/-- A packet whose performance gives a credit of a queue window back sends its own credit behind it (R210, R221). -/
theorem gatherDone_of_qcred {s u : State} {st : Nat} (cell : Nat) (p : GPkt) (h : u.stations = s.stations)
    (hquiet : s.threadQueue st 1 = []) (n i count : Nat) :
    Performed ((u.sendPkt st (.qcred n i count)).gatherDone st cell p) st cell [.qcred n i count, creditOf p] := by
  have hqcred : (u.sendPkt st (.qcred n i count)).threadQueue st 1 = [.qcred n i count] := by
    refine (threadQueue_sendPkt_self ..).trans ?_
    rw [threadQueue_of_stations h]
    exact congrArg (enqueuePkt _) hquiet
  obtain ⟨hfree, hsent⟩ := gatherDone_frees (u.sendPkt st (.qcred n i count)) st cell p
  rw [hqcred] at hsent
  exact ⟨hfree, hsent⟩

/-- QDESC of a contribution to a combining queue (R222, R223). -/
theorem DescWaits.answers_of_contribution {s : State} {st : Station} {cell : Fin 64} {p : GPkt} {j : Nat}
    (h : DescWaits s st cell p) (hmsb : p.aux.msb = true)
    (hcomb : s.combOf (queueAt p.addr).1 (queueAt p.addr).2 = some j) (hdone : (s.comb st.val j).done = false)
    (hfits : p.aux.toNat % 256 + p.data.length / 4 ≤ (s.comb st.val j).elems) : Answers (.qdesc st cell) s fun u =>
      Performed u st.val cell.val [.qcred p.src p.note 1, creditOf p] ∧
      (u.comb st.val j).received = (s.comb st.val j).received + 1 ∧
      (u.comb st.val j).done = decide ((s.comb st.val j).count ≤ (s.comb st.val j).received + 1) ∧
      ∀ i, i < p.data.length / 4 → u.readWord (shAddr st.val (combBase j + p.aux.toNat % 256 + i)) =
        BitVec.ofInt 32 (sat32 (s.combSum st.val j (p.aux.toNat % 256) p.data i)) := by
  obtain ⟨hstations, hreceived, hcomplete, hwords⟩ := contribution_adds p hdone
  refine ⟨_, h.exec_of_lands ((h.lands_contribution hmsb hcomb).trans (contribute_of_room hdone hfits)),
    gatherDone_of_qcred _ p hstations h.quiet .., ?_⟩
  simp only [comb_gatherDone, readWord_gatherDone, comb_sendPkt, readWord_sendPkt]
  exact ⟨hreceived, hcomplete, hwords⟩

/-! ### SEGMENT (R250, R251) -/

/-- The bytes of a landing slot: AUX, the header formed from it, if any, and the data (R251). -/
def landedRow (p : GPkt) : List Byte :=
  leBytes 8 p.aux.toNat ++ (if segHdr p then leBytes 8 (formedHeader p.aux).toNat else []) ++ p.data

theorem len_of_segmentOk {s : State} {st : Nat} {p : GPkt} (h : s.segmentOk st p = true) : p.len ≤ 240 := by
  simp only [State.segmentOk, Bool.and_eq_true, decide_eq_true_eq] at h
  exact h.1.1.1.1.1.1.1.2

theorem length_landedRow_le {p : GPkt} (h : p.data.length ≤ 240) : (landedRow p).length ≤ 256 := by
  unfold landedRow
  split <;> simp only [List.length_append, length_leBytes, List.length_nil] <;> omega

/-- The landing buffer is no accumulator view (R30). -/
theorem inAcView_lbAddr (k : Nat) {slot i : Nat} (hslot : slot < 16) (hi : i < 256) :
    inAcView (lbAddr k (64 * slot) + i) = false := by
  rw [not_inAcView_iff]
  unfold lbAddr coreWindow coreBase
  omega

theorem readByte_markGap (s : State) (gap : Bool) (cl a : Nat) :
    (if gap then s.markGap cl else s).readByte a = s.readByte a := by
  cases gap with
  | false => rfl
  | true =>
    rw [if_pos rfl, State.markGap, modCores_eq]
    rfl

/-- The machine with the bytes of a segment in its slot, and the gap flags set that it asks for (R57, R251). -/
def State.rowLanded (s : State) (k slot : Nat) (p : GPkt) : State :=
  let t := s.writeBytes (lbAddr k (64 * slot)) (landedRow p)
  if p.aux.getLsbD 59 then t.markGap (k / 32) else t

theorem i_rowLanded (s : State) (k slot : Nat) (p : GPkt) (j : Nat) :
    ((s.rowLanded k slot p).core j).i = (s.core j).i := by
  refine ((markGap_keeps _ _ _).2.2 j).trans ?_
  rw [core_writeBytes]

/-- A segment that has landed is its core's last, and its slot holds its bytes (R250, R251). -/
theorem landSegment_lands (s : State) (k : Nat) (e : Engine) {slot : Nat} (p : GPkt) (hslot : slot < 16)
    (hlen : (landedRow p).length ≤ 256) :
    ((s.landSegment k e slot p).core k).i.segs =
      (s.core k).i.segs ++ [⟨Fin.ofNat 16 slot, segWords p, p.src, p.flow, (s.core k).i.arrived⟩] ∧
    ∀ i, i < (landedRow p).length →
      (s.landSegment k e slot p).readByte (lbAddr k (64 * slot) + i) = (landedRow p).getD i 0 := by
  have hland : s.landSegment k e slot p = (s.rowLanded k slot p).modI k fun i =>
      { i with segs := i.segs ++ [⟨Fin.ofNat 16 slot, segWords p, p.src, p.flow, i.arrived⟩]
               arrived := i.arrived + 1
               nextSlot := i.nextSlot.set e.val ((i.nextSlot[e.val] + 1) %
                 max 1 (s.lbPart (k / 32) e).2) } := by
    rw [State.rowLanded, landedRow, List.append_assoc]
    rfl
  rw [hland]
  refine ⟨?segs, fun i hi => ?row⟩
  case segs => rw [core_modI_self, i_rowLanded]
  case row =>
    have htop : isTop (lbAddr k (64 * slot) + i) = false :=
      isTop_of_not_inAcView (inAcView_lbAddr k hslot (Nat.lt_of_lt_of_le hi hlen))
    exact (readByte_markGap ..).trans ((readByte_writeBytes s _ _ hi htop).trans (List.getElem_eq_getD 0))

/-- SEGMENT_LAND in a free slot of the engine's part (R250, R251). -/
theorem answers_segmentLand {s : State} {st : Station} {cell : Fin 64} {p : GPkt} {slot : Nat}
    (hcell : s.cellPkt st.val cell.val = some p) (hop : p.op = 2) (hrsvd : p.rsvd = false)
    (hok : s.segmentOk st.val p = true) (hdata : p.data.length = p.len)
    (hnext : s.nextLbSlot (coreAt p.addr).key (if p.src = stMemW then 0 else 1) = some slot) (hslot : slot < 16) :
    Answers (.segmentLand st cell) s fun u =>
      Tab.get (u.station st.val).gather.cells none cell.val = none ∧
      (u.core (coreAt p.addr).key).i.segs = (s.core (coreAt p.addr).key).i.segs ++
        [⟨Fin.ofNat 16 slot, segWords p, p.src, p.flow, (s.core (coreAt p.addr).key).i.arrived⟩] ∧
      ∀ i, i < (landedRow p).length →
        u.readByte (lbAddr (coreAt p.addr).key (64 * slot) + i) = (landedRow p).getD i 0 := by
  have hexec : execSegmentLand st cell s = .next ((s.landSegment (coreAt p.addr).key
      (if p.src = stMemW then 0 else 1) slot p).freeCell st.val cell.val) := by
    rw [execSegmentLand, cellOp_of_holds hcell hop (by decide) hrsvd, hok]
    simp only [Bool.not_true, Bool.false_eq_true, if_false, hnext]
  have hlen := length_landedRow_le (p := p) (hdata.trans_le (len_of_segmentOk hok))
  obtain ⟨hsegs, hrow⟩ := landSegment_lands s (coreAt p.addr).key (if p.src = stMemW then 0 else 1) p hslot hlen
  refine ⟨_, hexec, ?_, hsegs, hrow⟩
  rw [gather_freeCell, Tab.get_put_self]

/-- Settles O33: a descriptor goes behind its queue's last entry, the words of a contribution are added one by one to
elements that stand apart, and a segment's bytes lie outside the views whose top bytes read as signs. -/
theorem gatherDelivers : Obligations.GatherDelivers := by
  intro s st cell p j slot kq k q old new area holds fits quiet freed sent back x vec lc e row
  have hwaits (hheld : holds 1) (hfits : fits) (hq : quiet) : DescWaits s st cell p := by
    obtain ⟨hcell, hop, hrsvd⟩ := hheld
    obtain ⟨hok, hwords, hlen⟩ := hfits
    exact ⟨hcell, hop, hrsvd, hok, hwords, hlen, hq⟩
  refine ⟨fun hheld hfits hq hmsb hroom => ?plain, fun hheld hfits hq hmsb hcomb hen hroom harea => ?area,
    fun hheld hfits hq hmsb hcomb hdone helems => ?contribution,
    fun ⟨hcell, hop, hrsvd⟩ hok hdata hnext hslot => answers_segmentLand hcell hop hrsvd hok hdata hnext hslot⟩
  case plain =>
    exact ((hwaits hheld hfits hq).answers_of_plain hroom hmsb).imp fun u ⟨⟨hfree, hsent⟩, hentries⟩ =>
      ⟨hfree, hsent, hentries⟩
  case area =>
    obtain ⟨hplace, hlow, hhigh⟩ := bitsOf_areaDesc p.aux (base := area) (by omega)
    exact ((hwaits hheld hfits hq).answers_of_area hroom hmsb hcomb hen harea).imp
      fun u ⟨⟨hfree, hsent⟩, hbytes, hentries⟩ => ⟨hfree, hsent, hbytes, _, hentries, hplace, hlow, hhigh⟩
  case contribution =>
    exact ((hwaits hheld hfits hq).answers_of_contribution hmsb hcomb hdone helems).imp
      fun u ⟨⟨hfree, hsent⟩, hreceived, hdone', hwords⟩ => ⟨hfree, hsent, hreceived, hdone', hwords⟩

end Sys2Proof.Machine

/-!
The Crucible row engines (R236, R238, R239, R245, R250, R253, R254): what serving the head of a partition, a sector that
returns, and a segment that is sent leave of an engine.
-/

namespace Sys2Proof.Machine

/-! ### Engines -/

@[simp] theorem deep_modDeep_self (s : State) (e : Engine) (f : DeepEngine → DeepEngine) :
    (s.modDeep e f).deep[e.val] = f s.deep[e.val] := by simp [State.modDeep]

@[simp] theorem deep_clearEdc (s : State) (a : Nat) : (s.clearEdc a).deep = s.deep := rfl

@[simp] theorem deep_queueOnFlow (s : State) (st f : Nat) (p : GPkt) : (s.queueOnFlow st f p).deep = s.deep := rfl

theorem flow_modDeep (s : State) (e : Engine) (f : DeepEngine → DeepEngine) (st n : Nat) :
    (s.modDeep e f).flow st n = s.flow st n := rfl

/-! ### Service of an event (R245, R254) -/

section
variable {s : State} {e : Engine} {t : Tenant} {x : RxEv} {xs : List RxEv}

/-- The engine takes the head of the partition whose turn it is, if that can be served (R245). -/
theorem engineEventService_of_turn {u : State} (hturn : s.deep[e.val].turn = t.val)
    (hhead : Tab.get s.deep[e.val].ingress [] t.val = x :: xs) (hserve : s.serveHead e t x = some u) :
    execEngineEventService e s = .next u := by
  have hfirst : (Fin.ofNat 4 (s.deep[e.val].turn + 0) : Tenant) = t := Fin.ext (by simp [hturn])
  have hrange : List.range 4 = 0 :: [1, 2, 3] := rfl
  simp only [execEngineEventService, hrange, List.findSome?_cons, hfirst, hhead, hserve]

/-- The head of a partition leaves it (R245). -/
theorem ingress_popPartition (hl : s.lossless t = false) (hhead : Tab.get s.deep[e.val].ingress [] t.val = x :: xs) :
    Tab.get (s.popPartition e t x).deep[e.val].ingress [] t.val = xs := by
  simp [State.popPartition, hl, Tab.modify, hhead]

theorem window_popPartition (hl : s.lossless t = false) :
    (s.popPartition e t x).deep[e.val].window = s.deep[e.val].window := by
  simp [State.popPartition, hl]

theorem mayAllocate_popPartition (hl : s.lossless t = false) (u : Tenant) (len : Nat) :
    (s.popPartition e t x).deep[e.val].mayAllocate u len = s.deep[e.val].mayAllocate u len := by
  simp only [State.popPartition, hl, Bool.false_eq_true, if_false, deep_modDeep_self]
  rfl

/-- The machine with a window entry opened for a row and an event of it (R254). -/
def State.rowOpened (s : State) (e : Engine) (t : Tenant) (ev : DeepEv) (a len : Nat) : State :=
  s.modDeep e fun d => { d with window := d.window ++ [⟨d.freeId, a, len, t, [ev], [], false⟩] }

theorem ingress_rowOpened (s : State) (e : Engine) (t : Tenant) (ev : DeepEv) (a len : Nat) :
    (s.rowOpened e t ev a len).deep[e.val].ingress = s.deep[e.val].ingress := by rw [State.rowOpened, deep_modDeep_self]

theorem window_rowOpened (hwin : s.deep[e.val].window = []) (ev : DeepEv) (a len : Nat) :
    (s.rowOpened e t ev a len).deep[e.val].window = [⟨s.deep[e.val].freeId, a, len, t, [ev], [], false⟩] := by
  rw [State.rowOpened, deep_modDeep_self, hwin, List.nil_append]

/-- With no row pending, an event opens a window entry for its row (R254, R255). -/
theorem attach_of_empty {ev : DeepEv} {a len : Nat} (hwin : s.deep[e.val].window = [])
    (hmay : s.deep[e.val].mayAllocate t len = true) :
    s.attach e t ev a len = some (s.rowOpened e t ev a len) := by
  simp only [State.attach, hwin, List.find?_nil, hmay, Bool.not_true, Bool.false_eq_true, if_false]
  rfl

/-- An event whose row is valid, the tenant's, of its source, readable and this engine's is attached to the row (R245,
R246, R248). -/
theorem serveHead_of_readable {m : BitVec 16} {row : RowEnt} (hmap : Tab.get s.deep[e.val].map 0 x.ev.grp.toNat = m)
    (hrow : Tab.get s.deep[e.val].rows {} (m.toNat % 4096) = row) (hm : m.msb = true) (hvalid : row.valid = true)
    (howner : row.tenant = t) (hlo : row.srcFirst ≤ x.ev.src.toNat)
    (hhi : x.ev.src.toNat ≤ row.srcFirst + row.srcSpan)
    (hread : s.deepReadable t (row.rowAddr x.ev.src.toNat) row.rowLen = true)
    (hfirst : s.deepEngineOf (row.rowAddr x.ev.src.toNat) = e.val)
    (hlast : s.deepEngineOf (row.rowAddr x.ev.src.toNat + row.rowLen - 1) = e.val) :
    s.serveHead e t x = (s.popPartition e t x).attach e t ⟨m.toNat % 4096, x.ev.pay, x.ev.tag, x.ev.gap, t, 0⟩
      (row.rowAddr x.ev.src.toNat) row.rowLen := by
  have hsrc : ¬(x.ev.src.toNat < row.srcFirst ∨ row.srcFirst + row.srcSpan < x.ev.src.toNat) := by omega
  simp only [State.serveHead, hmap, hrow, hm, hvalid, howner, if_neg hsrc, hread, hfirst, hlast, Bool.not_true,
    Bool.or_self, Bool.false_eq_true, ne_eq, not_true_eq_false, decide_false, if_false]

end

/-! ### Sectors (R236, R238) -/

section
variable {s : State} {e : Engine} {w : WinEntry}

theorem find?_window (hwin : s.deep[e.val].window = [w]) :
    (s.deep[e.val].window.find? fun v => v.id == w.id) = some w := by simp [hwin]

/-- The machine after the burst of a sector of which some tries have failed: the sector and its retries are counted. -/
def State.sectorCounted (s : State) (e : Engine) (a failed : Nat) : State :=
  ((s.modDeep e fun d => { d with sectors := cnt32 d.sectors }).countRetries e failed).clearEdc a

theorem window_sectorCounted (s : State) (e : Engine) (a failed : Nat) :
    (s.sectorCounted e a failed).deep[e.val].window = s.deep[e.val].window := by
  simp [State.sectorCounted, State.countRetries]

theorem sectors_sectorCounted (s : State) (e : Engine) (a failed : Nat) :
    (s.sectorCounted e a failed).deep[e.val].sectors = cnt32 s.deep[e.val].sectors := by
  simp [State.sectorCounted, State.countRetries]

theorem bursts_sectorCounted (s : State) (e : Engine) (a failed : Nat) : Bursts s (s.sectorCounted e a failed) := by
  have hsector : Bursts s (s.modDeep e fun d => { d with sectors := cnt32 d.sectors }) :=
    bursts_modDeep s e fun _ => rfl
  have hretries (t : State) : Bursts t (t.countRetries e failed) := bursts_modDeep t e fun _ => rfl
  exact (hsector.trans (hretries _)).trans (bursts_clearEdc _ a)

theorem bursts_deepCe (s : State) (e : Engine) (a : Nat) : Bursts s (s.deepCe e a) := bursts_modDeep s e fun _ => rfl

theorem window_deepCe (s : State) (e : Engine) (a : Nat) :
    (s.deepCe e a).deep[e.val].window = s.deep[e.val].window := by simp [State.deepCe]

theorem sectors_deepCe (s : State) (e : Engine) (a : Nat) :
    (s.deepCe e a).deep[e.val].sectors = s.deep[e.val].sectors := by simp [State.deepCe]

/-- A sector that returns without error, after at most four repeats, is staged (R236, R238). -/
theorem answers_sectorReadDone {o : SectorOutcome} (hwin : s.deep[e.val].window = [w]) (hhung : w.hung = false)
    (hall : w.allRead = false) (hedc : o.edcFail = false) (htries : o.retries ≤ 4)
    (hstored : Tab.get s.edc 0 (w.addr + w.data.length) ≤ 4)
    (hue : s.memEcc = true → o.uncorrectable = false ∧ s.ueAt (w.addr + w.data.length) = false) :
    Answers (.sectorReadDone e w.id o) s fun u =>
      u.deep[e.val].window = [{ w with data := w.data ++ s.readBytes (w.addr + w.data.length) 32 }] ∧
      u.deep[e.val].sectors = cnt32 s.deep[e.val].sectors ∧ ∀ b, u.readByte b = s.readByte b := by
  let a := w.addr + w.data.length
  let s1 := s.sectorCounted e a (max o.retries (Tab.get s.edc 0 a))
  let s2 := if s.memEcc && (o.corrected || s.ceAt a) then s1.deepCe e a else s1
  let w' := w.stageSector (s.readBytes a 32)
  have hfew : ¬ 4 < max o.retries (Tab.get s.edc 0 a) := Nat.not_lt.2 (Nat.max_le.2 ⟨htries, hstored⟩)
  have herr : (s.memEcc && (o.uncorrectable || s.ueAt a)) = false := by
    cases hm : s.memEcc
    · rfl
    · obtain ⟨ho, ha⟩ := hue hm
      rw [ho, ha]; rfl
  have hexec : exec (.sectorReadDone e w.id o) s = .next (s2.modDeep e fun d => { d with
      rowsRead := if w'.allRead then cnt32 d.rowsRead else d.rowsRead
      window := d.window.map fun v => if v.id = w.id then w' else v }) := by
    change execSectorReadDone e w.id o s = _
    simp only [execSectorReadDone, find?_window hwin, hhung, hall, hedc, Bool.or_self, Bool.false_eq_true, if_false]
    rw [if_neg hfew, if_neg (by rw [herr]; exact Bool.false_ne_true)]
    rfl
  have hs2 : Bursts s s2 ∧ s2.deep[e.val].window = [w] ∧ s2.deep[e.val].sectors = cnt32 s.deep[e.val].sectors := by
    have hs1 := bursts_sectorCounted s e a (max o.retries (Tab.get s.edc 0 a))
    have hw1 := (window_sectorCounted s e a (max o.retries (Tab.get s.edc 0 a))).trans hwin
    have hn1 := sectors_sectorCounted s e a (max o.retries (Tab.get s.edc 0 a))
    simp only [s2]
    split
    case isTrue => exact ⟨hs1.trans (bursts_deepCe ..), (window_deepCe ..).trans hw1, (sectors_deepCe ..).trans hn1⟩
    case isFalse => exact ⟨hs1, hw1, hn1⟩
  obtain ⟨hburst, hwin2, hsec2⟩ := hs2
  refine ⟨_, hexec, ?_, ?_, fun b => ?_⟩
  · rw [deep_modDeep_self, hwin2]
    simp [w', WinEntry.stageSector, a]
  · rw [deep_modDeep_self, hsec2]
  · exact (hburst.trans (bursts_modDeep _ e fun _ => rfl)).same (State.readByte · b) fun _ _ _ => rfl

end

/-! ### Segments (R249, R250, R253) -/

/-- The packet of the segment that an event sends next, on row-port flow n (R250). -/
def segmentPkt (e : Engine) (r : RowEnt) (ev : DeepEv) (data : List Byte) (n : Nat) : GPkt :=
  let bytes := segmentData r data ev.sent
  { op := 2, len := bytes.length, src := engStation e,
    addr := coreWindow ((r.c0 + ev.sent / r.nk) * 32 + (r.k0 + ev.sent % r.nk)) + 0x4_8000,
    aux := segmentAux r ev, data := bytes, tenant := ev.tenant, flow := n }

/-- A segment goes to the flow of its cluster whose turn it is, and is counted (R250, R253). -/
theorem handSegment_of_flow {s : State} {e : Engine} {r : RowEnt} {ev : DeepEv} {n : Nat} (data : List Byte)
    (hflow : pickFlow (s.rowFlows e ev.tenant (r.c0 + ev.sent / r.nk))
      (Tab.get s.deep[e.val].flowTurn 64 (ev.tenant.val * 32 + (r.c0 + ev.sent / r.nk))) = some n) :
    (s.handSegment e r ev data ev.sent).deep[e.val].segs = cnt32 s.deep[e.val].segs ∧
    ((s.handSegment e r ev data ev.sent).flow (engStation e) n).queue =
      (s.flow (engStation e) n).queue ++ [segmentPkt e r ev data n] := by
  have hhand : s.handSegment e r ev data ev.sent = (s.modDeep e fun d => { d with
      segs := cnt32 d.segs
      flowTurn := Tab.put d.flowTurn 64 (ev.tenant.val * 32 + (r.c0 + ev.sent / r.nk)) n }).queueOnFlow
      (engStation e) n (segmentPkt e r ev data n) := by
    simp only [State.handSegment, hflow]
    rfl
  rw [hhand]
  exact ⟨by rw [deep_queueOnFlow, deep_modDeep_self], by rw [queue_queueOnFlow, flow_modDeep]⟩

/-- SEGMENT_SEND of the one pending row hands its next segment to the Gather (R250, R253). -/
theorem answers_segmentSend {s : State} {e : Engine} {w : WinEntry} {j n : Nat} {r : RowEnt} {ev : DeepEv}
    (hwin : s.deep[e.val].window = [w]) (hnext : s.nextSegment e w = some (j, r, ev))
    (hflow : pickFlow (s.rowFlows e ev.tenant (r.c0 + ev.sent / r.nk))
      (Tab.get s.deep[e.val].flowTurn 64 (ev.tenant.val * 32 + (r.c0 + ev.sent / r.nk))) = some n) :
    Answers (.segmentSend e w.id) s fun u => u.deep[e.val].segs = cnt32 s.deep[e.val].segs ∧
      (u.flow (engStation e) n).queue = (s.flow (engStation e) n).queue ++ [segmentPkt e r ev w.data n] := by
  obtain ⟨hsegs, hqueue⟩ := handSegment_of_flow w.data hflow
  let w' := { w with events := w.events.set j { ev with sent := ev.sent + 1 } }
  have hexec : exec (.segmentSend e w.id) s = .next ((s.handSegment e r ev w.data ev.sent).modDeep e fun d => { d with
      window := if s.entryDone e w' && !w.hung then d.window.filter fun v => v.id != w.id
        else d.window.map fun v => if v.id = w.id then w' else v }) := by
    change execSegmentSend e w.id s = _
    simp only [execSegmentSend, find?_window hwin, hnext]
    rfl
  exact ⟨_, hexec, by rw [deep_modDeep_self]; exact hsegs, hqueue⟩

/-! ### Refresh (R239, R267) -/

/-- A refresh notes the temperature that each channel's device reports (R267). -/
theorem answers_gddr6Refresh {s : State} {e : Engine} {temps : List Byte} (i : Fin 8)
    (href : s.deep[e.val].selfRef = false) (hlen : temps.length = 8) :
    Answers (.gddr6Refresh e temps) s fun u => (u.deep[e.val].chan[i.val]).temp = temps.getD i.val 0 := by
  have hexec : exec (.gddr6Refresh e temps) s = .next (s.modDeep e fun d => { d with
      chan := Vector.ofFn fun i => { d.chan[i.val] with temp := temps.getD i.val d.chan[i.val].temp } }) :=
    if_neg (by simp [href])
  refine ⟨_, hexec, ?_⟩
  have hi : i.val < temps.length := by omega
  simp [hi]

/-- Settles O30: the head that is served pops its partition and opens a window entry, a sector without error passes the
two checks of its burst, and a segment goes to the flow that its cluster's turn picks. -/
theorem crucibleReadsRows : Obligations.CrucibleReadsRows := by
  intro s e t x xs w o j n r ev temps i d d' st m row a key
  refine ⟨fun hturn hhead hl hm hvalid howner hlo hhi hread hfirst hlast hwin hmay => ?service,
    fun hwin hhung hall hedc htries hstored hue => answers_sectorReadDone hwin hhung hall hedc htries hstored hue,
    fun hwin hnext hflow => ?segment, fun href hlen => answers_gddr6Refresh i href hlen⟩
  case service =>
    have hattach := attach_of_empty (s := s.popPartition e t x)
      (ev := ⟨m.toNat % 4096, x.ev.pay, x.ev.tag, x.ev.gap, t, 0⟩) (a := a)
      ((window_popPartition hl).trans hwin) ((mayAllocate_popPartition hl t row.rowLen).trans hmay)
    have hserve := (serveHead_of_readable rfl rfl hm hvalid howner hlo hhi hread hfirst hlast).trans hattach
    refine ⟨_, engineEventService_of_turn hturn hhead hserve, ?_, _,
      window_rowOpened ((window_popPartition hl).trans hwin) ..⟩
    exact (congrArg (Tab.get · [] t.val) (ingress_rowOpened ..)).trans (ingress_popPartition hl hhead)
  case segment =>
    exact (answers_segmentSend hwin hnext hflow).imp fun u ⟨hsegs, hqueue⟩ =>
      ⟨hsegs, _, hqueue, rfl, rfl, rfl, rfl⟩

end Sys2Proof.Machine

/-!
Registers of MEM-W and MEM-E (R234, R241, R247, R259 to R270): where they lie, and what a write of MEM_CFG, MEM_TREG,
the row table and the group map leaves.
-/

namespace Sys2Proof.Machine

/-! ### Where the registers of an engine lie (R259) -/

theorem engStation_lt (e : Engine) : engStation e < 40 := by unfold engStation; omega

/-- Nobody owns the station of an engine: each of its registers judges its writer itself. -/
theorem placeTenant_engStation (s : State) (e : Engine) (off : Nat) :
    s.placeTenant (.station (engStation e) off) = none := by
  have hcl : ¬ engStation e < 32 := by unfold engStation; omega
  have hhost : engStation e ≠ stHost := by unfold engStation stHost; omega
  simp [State.placeTenant, hcl, hhost]

theorem ownRangeWrite_engine (s : State) (r : Req) (e : Engine) (off : Nat) (v : Word) :
    s.ownRangeWrite r (engStation e) off v {} = if inDeep off then
      some (s.maskedWrite (deepMask32 off) v fun s v => s.deepWrite r e off v) else none := by
  match e with
  | 0 => rfl
  | 1 => rfl

section
variable {s : State} {r : Req} {e : Engine} {off : Nat} {v : Word}

/-- A write within the bits of an engine's register is the engine's. -/
theorem stationWrite_engine (hin : inDeep off = true) (hv : v &&& ~~~deepMask32 off = 0) :
    s.stationWrite r (engStation e) off v {} = s.deepWrite r e off v := by
  simp only [State.stationWrite, ownRangeWrite_engine, hin, if_true, maskedWrite_of_allowed hv]

/-- A write of an engine's register that is performed leaves what the engine's write leaves, and its reply. -/
theorem cmdWrite_engine {t : State} (h : Served s r) (hoff : off < 0x10_0000) (h4 : off % 4 = 0)
    (hin : inDeep off = true) (hv : v &&& ~~~deepMask32 off = 0)
    (hw : (s.carried r (engStation e)).deepWrite r e off v = (t, true)) :
    s.cmdWrite r (stReg (engStation e) off) v = t.reply r true 0 :=
  cmdWrite_stReg h (engStation_lt e) hoff h4 (.inr (placeTenant_engStation s e off))
    ((stationWrite_engine hin hv).trans hw)

/-- A host's write of an engine's register that the engine refuses is recorded at its port, and answered so (R307). -/
theorem cmdWrite_engine_of_refused {t : State} {p : Port} (h : Served s (.port p)) (hoff : off < 0x10_0000)
    (h4 : off % 4 = 0) (hin : inDeep off = true) (hv : v &&& ~~~deepMask32 off = 0)
    (hw : (s.carried (.port p) (engStation e)).deepWrite (.port p) e off v = (t, false)) :
    s.cmdWrite (.port p) (stReg (engStation e) off) v =
      (t.writeRefused p (stReg (engStation e) off) .ok).reply (.port p) false 0 := by
  have hg := gateOf_of_served h (stReg (engStation e) off)
  rw [placeOf_stReg _ (engStation_lt e) hoff h4,
    gateReady_station h (.inr (placeTenant_engStation s e off))] at hg
  have hwrite : s.regWrite (.port p) (stReg (engStation e) off) v = (t, false) := by
    simp only [State.regWrite, hg, linkSeen_of_served h, viaThread_of_served h]
    exact (stationWrite_engine hin hv).trans hw
  rw [cmdWrite_port_of_refused (answering_of_served h) hwrite, hg]

end

@[simp] theorem deep_reply (s : State) (r : Req) (ok : Bool) (w : Word) : (s.reply r ok w).deep = s.deep := rfl

@[simp] theorem deep_carried (s : State) (r : Req) (d : Nat) : (s.carried r d).deep = s.deep := rfl

theorem inDeep_of_tables {off : Nat} (hlo : 0x4_0000 ≤ off) (hhi : off < 0x8_0000) : inDeep off = true := by
  simp [inDeep, hlo, hhi]

/-! ### MEM_CFG (R234, R238) -/

theorem deepMask32_memCfg : ~~~deepMask32 0x1_4004 = 0xFFFFFF0F := by decide

theorem deepWrite_memCfg (s : State) (r : Req) (v : Word) : s.deepWrite r 0 0x1_4004 v = s.memCfgSet r v := rfl

/-- With every tenant stopped, the MP changes the rate and ECC (R234, R238). -/
theorem memCfgSet_of_stopped {s : State} (h : s.allStopped = true) (v : Word) :
    s.memCfgSet .mp v = ({ s with
      memRate := bitsOf v.toNat 6 2, memDbi := v.getLsbD 5, memEcc := v.getLsbD 4,
      deepGen := if v.getLsbD 4 = s.memEcc then s.deepGen else nextGen s.deepGen }, true) := by
  simp [State.memCfgSet, h, wrOk]

/-- A host's write of MEM_CFG is refused (R234). -/
theorem memCfgSet_of_port (s : State) (p : Port) (v : Word) : s.memCfgSet (.port p) v = (s, false) := by
  simp [State.memCfgSet, wrNo]

theorem memRate_writeRefused (s : State) (p : Port) (a : Nat) : (s.writeRefused p a .ok).memRate = s.memRate := rfl

theorem memEcc_writeRefused (s : State) (p : Port) (a : Nat) : (s.writeRefused p a .ok).memEcc = s.memEcc := rfl

@[simp] theorem memRate_reply (s : State) (r : Req) (ok : Bool) (w : Word) : (s.reply r ok w).memRate = s.memRate := rfl

@[simp] theorem memEcc_reply (s : State) (r : Req) (ok : Bool) (w : Word) : (s.reply r ok w).memEcc = s.memEcc := rfl

@[simp] theorem memRate_carried (s : State) (r : Req) (d : Nat) : (s.carried r d).memRate = s.memRate := rfl

@[simp] theorem memEcc_carried (s : State) (r : Req) (d : Nat) : (s.carried r d).memEcc = s.memEcc := rfl

/-- MEM_CFG_WRITE by the MP, with every tenant stopped (R234, R238). -/
theorem answers_memCfgWrite {s : State} {v : Word} (h : Served s .mp) (hv : v &&& 0xFFFFFF0F = 0)
    (hstop : s.allStopped = true) : Answers (.memCfgWrite .mp v) s fun u =>
      u.memRate = bitsOf v.toNat 6 2 ∧ u.memDbi = v.getLsbD 5 ∧ u.memEcc = v.getLsbD 4 ∧ Replied u .mp 0 := by
  have hset := (deepWrite_memCfg ..).trans (memCfgSet_of_stopped (s := s.carried .mp stMemW) hstop v)
  have hcmd := cmdWrite_engine (e := 0) h (by decide) (by decide) (by decide) (deepMask32_memCfg ▸ hv) hset
  exact ⟨_, congrArg Host.Outcome.next hcmd, rfl, rfl, rfl, replies_reply ..⟩

/-- MEM_CFG_WRITE by a host port is refused (R234). -/
theorem answers_memCfgWrite_of_port {s : State} {p : Port} {v : Word} (h : Served s (.port p))
    (hv : v &&& 0xFFFFFF0F = 0) : Answers (.memCfgWrite (.port p) v) s fun u =>
      u.memRate = s.memRate ∧ u.memEcc = s.memEcc ∧ Rejected u (.port p) := by
  have hset := (deepWrite_memCfg ..).trans (memCfgSet_of_port (s.carried (.port p) stMemW) p v)
  have hcmd := cmdWrite_engine_of_refused (e := 0) h (by decide) (by decide) (by decide) (deepMask32_memCfg ▸ hv) hset
  refine ⟨_, congrArg Host.Outcome.next hcmd, ?_, ?_, rejected_reply ..⟩
  · rw [memRate_reply, memRate_writeRefused, memRate_carried]
  · rw [memEcc_reply, memEcc_writeRefused, memEcc_carried]

/-! ### MEM_TREG (R241) -/

theorem treg_range : ∀ t : Tenant, inDeep (0x1_4200 + 4 * t.val) = true ∧
    ~~~deepMask32 (0x1_4200 + 4 * t.val) = 0x7E00FE00 := by decide

theorem deepWrite_memTreg (s : State) (r : Req) (t : Tenant) (v : Word) :
    s.deepWrite r 0 (0x1_4200 + 4 * t.val) v = s.memTregSet r t v := by
  match t with
  | 0 => rfl
  | 1 => rfl
  | 2 => rfl
  | 3 => rfl

/-- The MP gives a stopped tenant a region that meets no other tenant's and ends in the memory (R241). -/
theorem memTregSet_of_free {s : State} {t : Tenant} {v : Word} (hstop : s.isStopped t = true)
    (hmeet : ∀ u, u ≠ t → regionsMeet v (s.tregOf u) = false)
    (hfit : regionEn v = true → (regionLimit v + 1) * 2 ^ 26 ≤ s.deepCap) :
    s.memTregSet .mp t v = ({ s with treg := Tab.put s.treg 0 t.val v }, true) := by
  have hoverlaps : ((List.finRange 4).any fun u => u != t && regionsMeet v (s.tregOf u)) = false := by
    simp only [List.any_eq_false, Bool.and_eq_true, bne_iff_ne, not_and, Bool.not_eq_true]
    exact fun u _ hu => hmeet u hu
  have hbeyond : (regionEn v && decide (s.deepCap < (regionLimit v + 1) * 2 ^ 26)) = false := by
    simpa only [Bool.and_eq_false_imp, decide_eq_false_iff_not, Nat.not_lt] using hfit
  simp only [State.memTregSet, hoverlaps, hbeyond, hstop]
  rfl

/-- MEM_TREG_WRITE by the MP of a region that R241 allows. -/
theorem answers_memTregWrite {s : State} {t : Tenant} {v : Word} (h : Served s .mp) (hv : v &&& 0x7E00FE00 = 0)
    (hstop : s.isStopped t = true) (hmeet : ∀ u, u ≠ t → regionsMeet v (s.tregOf u) = false)
    (hfit : regionEn v = true → (regionLimit v + 1) * 2 ^ 26 ≤ s.deepCap) :
    Answers (.memTregWrite .mp t v) s fun u =>
      u.tregOf t = v ∧ (∀ q, q ≠ t → u.tregOf q = s.tregOf q) ∧ Replied u .mp 0 := by
  obtain ⟨hin, hmask⟩ := treg_range t
  have ht := t.isLt
  have hset := (deepWrite_memTreg _ .mp t v).trans (memTregSet_of_free (s := s.carried .mp stMemW) hstop hmeet hfit)
  have hcmd := cmdWrite_engine (e := 0) h (by omega) (by omega) hin (hmask ▸ hv) hset
  refine ⟨_, congrArg Host.Outcome.next hcmd, Tab.get_put_self .., fun q hq => ?_, replies_reply ..⟩
  exact Tab.get_put_of_ne _ _ _ fun heq => hq (Fin.ext heq)

/-! ### The row table (R247, R269) -/

/-- The offset of word w of row-table entry i (R259, R269). -/
def rowOffset (i w : Nat) : Nat := 0x4_0000 + 32 * i + 4 * w

/-- The bits of word w of a row-table entry that are not reserved (R269). -/
theorem deepMask32_commit {i : Nat} (hi : i < 4096) : deepMask32 (rowOffset i 0) = 0xFFFFFFFF := by
  unfold deepMask32 rowOffset
  iterate 7 rw [if_neg (by omega)]
  rw [if_pos (by omega)]
  simp only [show (0x4_0000 + 32 * i + 4 * 0) % 32 / 4 = 0 by omega]

theorem deepWrite_rowTable {i w : Nat} (hi : i < 4096) (hw : w < 8) (s : State) (r : Req) (e : Engine) (v : Word) :
    s.deepWrite r e (rowOffset i w) v =
      if w = 0 then s.rowCommit r e i v else if w ≤ 5 then s.rowStage r e i w v else wrOk s := by
  unfold State.deepWrite rowOffset
  iterate 7 rw [if_neg (by omega)]
  rw [if_pos (by omega)]
  simp only [show (0x4_0000 + 32 * i + 4 * w - 0x4_0000) / 32 = i by omega,
    show (0x4_0000 + 32 * i + 4 * w) % 32 / 4 = w by omega]

/-- A requester's write of a word of the row table that is performed. -/
theorem cmdWrite_rowTable {s t : State} {r : Req} {e : Engine} {i w : Nat} {v : Word} (h : Served s r) (hi : i < 4096)
    (hw : w < 8) (hv : v &&& ~~~deepMask32 (rowOffset i w) = 0)
    (ht : (s.carried r (engStation e)).deepWrite r e (rowOffset i w) v = (t, true)) :
    s.cmdWrite r (stReg (engStation e) (rowOffset i w)) v = t.reply r true 0 :=
  cmdWrite_engine h (by unfold rowOffset; omega) (by unfold rowOffset; omega)
    (inDeep_of_tables (by unfold rowOffset; omega) (by unfold rowOffset; omega)) hv ht

/-- A word above the first is staged for its writer (R269). -/
theorem stage_rowStage (s : State) (r : Req) (e : Engine) (i w : Nat) (v : Word) :
    Tab.get (s.rowStage r e i w v).1.deep[e.val].stage none (r.key * 8 + w) = some (i, v) := by
  rw [State.rowStage, wrOk, deep_modDeep_self, Tab.get_put_self]

/-- The machine with a requester's staging registers at an engine empty (R269). -/
def State.rowUnstaged (s : State) (r : Req) (e : Engine) : State :=
  s.modDeep e fun d =>
    { d with stage := Tab.modifyAll d.stage none ((List.range 8).map (r.key * 8 + ·)) fun _ _ => none }

theorem stage_rowUnstaged (s : State) (r : Req) (e : Engine) {n : Nat} (hn : n < 8) :
    Tab.get (s.rowUnstaged r e).deep[e.val].stage none (r.key * 8 + n) = none := by
  rw [State.rowUnstaged, deep_modDeep_self]
  have hkeys : ((List.range 8).map (r.key * 8 + ·)).Nodup := List.nodup_range.map fun a b h => Nat.add_left_cancel h
  exact get_modifyAll_of_mem (V := Option (Nat × Word)) none (fun _ _ => none) _ hkeys
    (List.mem_map_of_mem (List.mem_range.2 hn))

/-- The machine with a row-table entry written. -/
def State.withRow (s : State) (e : Engine) (i : Nat) (x : RowEnt) : State :=
  s.modDeep e fun d => { d with rows := Tab.put d.rows {} i x }

theorem row_withRow (s : State) (e : Engine) (i : Nat) (x : RowEnt) :
    Tab.get (s.withRow e i x).deep[e.val].rows {} i = x := by
  rw [State.withRow, deep_modDeep_self, Tab.get_put_self]

theorem stage_withRow (s : State) (e : Engine) (i : Nat) (x : RowEnt) :
    (s.withRow e i x).deep[e.val].stage = s.deep[e.val].stage := by rw [State.withRow, deep_modDeep_self]

/-- The first word commits a free entry with the five words that are staged for it, for a tenant whose tables are open
(R182, R247, R269). -/
theorem rowCommit_of_staged {s : State} {e : Engine} {i : Nat} {v : Word} {x : Nat → Word}
    (hstage : ∀ n, 1 ≤ n → n ≤ 5 → Tab.get s.deep[e.val].stage none (Req.mp.key * 8 + n) = some (i, x n))
    (hv : v.msb = true) (hok : RowEnt.refused ⟨v, x 1, x 2, x 3, x 4, x 5⟩ s.grade.perCluster = false)
    (hopen : s.tablesOpen (RowEnt.tenant ⟨v, x 1, x 2, x 3, x 4, x 5⟩) = true)
    (hfree : (Tab.get s.deep[e.val].rows {} i).valid = false) :
    s.rowCommit .mp e i v = ((s.rowUnstaged .mp e).withRow e i ⟨v, x 1, x 2, x 3, x 4, x 5⟩, true) := by
  have hold : (Tab.get s.deep[e.val].rows {} i).holder = none := by
    rw [RowEnt.holder, hfree]
    rfl
  have hnew : RowEnt.holder ⟨v, x 1, x 2, x 3, x 4, x 5⟩ = some (RowEnt.tenant ⟨v, x 1, x 2, x 3, x 4, x 5⟩) :=
    if_pos hv
  have hmay := mayWriteEntry_mp_free (s := s.rowUnstaged .mp e) hopen
  rw [State.rowUnstaged] at hmay
  simp only [State.rowCommit, hstage 1 (by decide) (by decide), hstage 2 (by decide) (by decide),
    hstage 3 (by decide) (by decide), hstage 4 (by decide) (by decide), hstage 5 (by decide) (by decide), if_true, hok,
    Bool.and_false, Bool.false_eq_true, if_false, hold, hnew, State.gatherEntryWrite, hmay]
  rfl

/-- ROW_TABLE_STAGE of a word above the first (R269). -/
theorem answers_rowTableStage {s : State} {r : Req} {e : Engine} {i : Fin 4096} {w : Fin 8} {v : Word} (h : Served s r)
    (hw1 : 1 ≤ w.val) (hw5 : w.val ≤ 5) (hv : v &&& ~~~deepMask32 (rowOffset i.val w.val) = 0) :
    Answers (.rowTableStage r e i w v) s fun u =>
      Tab.get u.deep[e.val].stage none (r.key * 8 + w.val) = some (i.val, v) ∧ Replied u r 0 := by
  have hw0 : ¬ w.val = 0 := by omega
  have hwrite := deepWrite_rowTable i.isLt w.isLt (s.carried r (engStation e)) r e v
  rw [if_neg hw0, if_pos hw5] at hwrite
  have hcmd := cmdWrite_rowTable h i.isLt w.isLt hv hwrite
  refine ⟨_, (if_neg hw0).trans (congrArg Host.Outcome.next hcmd), ?_, replies_reply ..⟩
  exact stage_rowStage (s.carried r (engStation e)) r e i.val w.val v

/-- ROW_TABLE_COMMIT of an entry whose words are staged (R182, R247, R269). -/
theorem answers_rowTableCommit {s : State} {e : Engine} {i : Fin 4096} {v : Word} {x : Nat → Word} (h : Served s .mp)
    (hstage : ∀ n, 1 ≤ n → n ≤ 5 → Tab.get s.deep[e.val].stage none (Req.mp.key * 8 + n) = some (i.val, x n))
    (hv : v.msb = true) (hok : RowEnt.refused ⟨v, x 1, x 2, x 3, x 4, x 5⟩ s.grade.perCluster = false)
    (hopen : s.tablesOpen (RowEnt.tenant ⟨v, x 1, x 2, x 3, x 4, x 5⟩) = true)
    (hfree : (Tab.get s.deep[e.val].rows {} i.val).valid = false) : Answers (.rowTableCommit .mp e i v) s fun u =>
      Tab.get u.deep[e.val].rows {} i.val = ⟨v, x 1, x 2, x 3, x 4, x 5⟩ ∧
      (∀ n, n < 8 → Tab.get u.deep[e.val].stage none (Req.mp.key * 8 + n) = none) ∧ Replied u .mp 0 := by
  let s0 := s.carried .mp (engStation e)
  have hcommit : s0.deepWrite .mp e (rowOffset i.val 0) v = _ :=
    ((deepWrite_rowTable i.isLt (by decide) s0 .mp e v).trans (if_pos rfl)).trans
      (rowCommit_of_staged (s := s0) hstage hv hok hopen hfree)
  have hcmd := cmdWrite_rowTable h i.isLt (by decide) (by rw [deepMask32_commit i.isLt]; simp) hcommit
  refine ⟨_, congrArg Host.Outcome.next hcmd, row_withRow (s0.rowUnstaged .mp e) e i.val _, fun n hn => ?_,
    replies_reply ..⟩
  rw [deep_reply, stage_withRow]
  exact stage_rowUnstaged s0 .mp e hn

/-! ### The group map (R270) -/

section
variable {j : Nat} (hj : j < 32768)
include hj

theorem deepMask32_groupMap : ~~~deepMask32 (0x6_0000 + 4 * j) = 0x70007000 := by
  unfold deepMask32
  iterate 8 rw [if_neg (by omega)]
  rw [if_pos (by omega)]
  decide

theorem deepWrite_groupMap (s : State) (r : Req) (e : Engine) (v : Word) :
    s.deepWrite r e (0x6_0000 + 4 * j) v = s.mapSet r e j v := by
  unfold State.deepWrite
  iterate 8 rw [if_neg (by omega)]
  rw [if_pos (by omega), show (0x6_0000 + 4 * j - 0x6_0000) / 4 = j by omega]

end

/-- The MP may rewrite an entry of a tenant whose tables are open (R182). -/
theorem mayWriteEntry_mp_same {s : State} {t : Tenant} (h : s.tablesOpen t = true) :
    s.mayWriteEntry .mp (some t) (some t) = (true, false) := by
  simp [State.mayWriteEntry, h]

/-- The machine with two entries of the group map written. -/
def State.withMap (s : State) (e : Engine) (j : Nat) (lo hi : BitVec 16) : State :=
  s.modDeep e fun d => { d with map := Tab.put (Tab.put d.map 0 (2 * j) lo) 0 (2 * j + 1) hi }

theorem map_withMap (s : State) (e : Engine) (j : Nat) (lo hi : BitVec 16) :
    Tab.get (s.withMap e j lo hi).deep[e.val].map 0 (2 * j) = lo ∧
    Tab.get (s.withMap e j lo hi).deep[e.val].map 0 (2 * j + 1) = hi := by
  rw [State.withMap, deep_modDeep_self]
  exact ⟨by rw [Tab.get_put_of_ne _ _ _ (by omega), Tab.get_put_self], Tab.get_put_self ..⟩

/-- The values that a group map word finds and brings: those whose tenants R182 asks about (R270). -/
def State.mapValues (s : State) (e : Engine) (j : Nat) (v : Word) : List (BitVec 16) :=
  [Tab.get s.deep[e.val].map 0 (2 * j), Tab.get s.deep[e.val].map 0 (2 * j + 1), v.extractLsb' 0 16,
    v.extractLsb' 16 16]

/-- A group map word sets two entries where the tables of every tenant that an old or a new value names are open
(R182, R270). -/
theorem mapSet_of_open {s : State} {e : Engine} {j : Nat} {v : Word}
    (hopen : ∀ m ∈ s.mapValues e j v, ∀ q, s.mapHolder e m = some q → s.tablesOpen q = true) :
    s.mapSet .mp e j v = (s.withMap e j (v.extractLsb' 0 16) (v.extractLsb' 16 16), true) := by
  have hnone : ((s.mapValues e j v).map (s.mapHolder e)).find?
      (fun t => t.isSome && !(s.mayWriteEntry .mp t t).1) = none := by
    refine List.find?_eq_none.2 fun t ht => ?_
    obtain ⟨m, hm, rfl⟩ := List.mem_map.1 ht
    cases hholder : s.mapHolder e m with
    | none => exact Bool.false_ne_true
    | some q => simp [mayWriteEntry_mp_same (hopen m hm q hholder)]
  rw [State.mapValues] at hnone
  simp only [State.mapSet, hnone]
  rfl

/-- GROUP_MAP_WRITE by the MP (R182, R270). -/
theorem answers_groupMapWrite {s : State} {e : Engine} {j : Fin 32768} {v : Word} (h : Served s .mp)
    (hv : v &&& 0x70007000 = 0)
    (hopen : ∀ m ∈ s.mapValues e j.val v, ∀ q, s.mapHolder e m = some q → s.tablesOpen q = true) :
    Answers (.groupMapWrite .mp e j v) s fun u =>
      Tab.get u.deep[e.val].map 0 (2 * j.val) = v.extractLsb' 0 16 ∧
      Tab.get u.deep[e.val].map 0 (2 * j.val + 1) = v.extractLsb' 16 16 ∧ Replied u .mp 0 := by
  have hj := j.isLt
  let s0 := s.carried .mp (engStation e)
  have hset := (deepWrite_groupMap hj s0 .mp e v).trans (mapSet_of_open (s := s0) hopen)
  have hcmd := cmdWrite_engine h (by omega) (by omega) (inDeep_of_tables (by omega) (by omega))
    (by rw [deepMask32_groupMap hj]; exact hv) hset
  obtain ⟨hlo, hhi⟩ := map_withMap s0 e j.val (v.extractLsb' 0 16) (v.extractLsb' 16 16)
  exact ⟨_, congrArg Host.Outcome.next hcmd, hlo, hhi, replies_reply ..⟩

/-- Settles O31: each write is followed from its address to its register, and past the conditions that the register sets
its writer. -/
theorem deepTierTables : Obligations.DeepTierTables := by
  intro s r t p e i w j v x d d' old new stage
  exact ⟨answers_memCfgWrite, answers_memCfgWrite_of_port, answers_memTregWrite, answers_rowTableStage,
    answers_rowTableCommit, answers_groupMapWrite⟩

end Sys2Proof.Machine

/-!
SIGSYNC behind a doorbell (R315, R330, R334): a command acts after the doorbells that its port has sent before it.
-/

namespace Sys2Proof.Machine

/-- The current command of a port, where it is this row's and sets no reserved bit, is carried out (R314, R315). -/
theorem command_of_taken {s : State} {p : Port} {c : Cmd} {op : Nat} {masks : List Nat} (h : Taken s p c op masks)
    (f : Cmd → State) : s.command p op masks f = f c := by
  obtain ⟨hcur, hop, hlegal⟩ := h
  simp [State.command, hcur, hop, hlegal]

theorem exec_sigsync_of_taken {s : State} {p : Port} {c : Cmd} (h : Taken s p c 0x0D [2 ^ 13 - 1, 2 ^ 32 - 1]) :
    exec (.sigsync p) s = .next (s.sigsync p c) := congrArg Host.Outcome.next (command_of_taken h _)

/-- SIGSYNC of 0 to sync object 0. -/
def sigsyncZero : Cmd := ⟨[0x0D, 0, 0, 0, 0, 0, 0, 0], 0⟩

/-- A ready device whose port 0 has SIGSYNC of 0 to its own sync object 0 as its next command. -/
def sigsyncNext : State :=
  { State.reset with
    boot := { ready := true }
    ports := State.reset.ports.set 0
      { linkUp := true, cmdEn := true, fetched := [sigsyncZero], cmdTail := 1 } }

/-- The same device after the host has written 1 to the ADD doorbell of object 0, which still waits at HOST. -/
def doorbellAhead : State := sigsyncNext.doorbellWrite 0 0 0 [1, 0, 0, 0]

/-- The host's write of the doorbell is a step that leads there (R312, R333). -/
theorem exec_addDoorbellWrite_sigsyncNext :
    exec (.addDoorbellWrite 0 0 [1, 0, 0, 0]) sigsyncNext = .next doorbellAhead := by
  change execAddDoorbellWrite 0 0 [1, 0, 0, 0] sigsyncNext = _
  rw [execAddDoorbellWrite, if_pos (by decide)]
  exact congrArg Host.Outcome.next (by decide +kernel)

theorem taken_doorbellAhead : Taken doorbellAhead 0 sigsyncZero 0x0D [2 ^ 13 - 1, 2 ^ 32 - 1] := by
  unfold Taken
  decide +kernel

/-- The doorbell has acted before SIGSYNC adds 0 (R334). -/
theorem cnt_sigsync_doorbellAhead : ((doorbellAhead.sigsync 0 sigsyncZero).syncAt 0).cnt = 1 := by decide +kernel

/-- Refutes O38: SIGSYNC acts behind the doorbells that its port has sent (R334), so that with one ahead that adds 1 to
object 0, SIGSYNC of 0 leaves the counter at 1, where the statement claims the 0 from before the doorbell. Taken does
not ask that the port's doorbells have acted. -/
theorem not_commandsComplete : ¬ Obligations.CommandsComplete := by
  intro h
  obtain ⟨-, hsigsync, -⟩ := h doorbellAhead 0 sigsyncZero []
  obtain ⟨u, hexec, hclaim⟩ := hsigsync taken_doorbellAhead
  obtain rfl := Host.Outcome.next.inj ((exec_sigsync_of_taken taken_doorbellAhead).symm.trans hexec)
  have hmine : doorbellAhead.syncOwnerOf (sigsyncZero.field 1 0 13) = some 0 := by decide
  rw [if_pos hmine] at hclaim
  obtain ⟨hcnt, -⟩ := hclaim
  exact absurd (hcnt.symm.trans cnt_sigsync_doorbellAhead) (by decide +kernel)

end Sys2Proof.Machine

/-!
SAVE, RESTORE and RELEASE (R287, R289, R291): what a command's acceptance and its completion leave alone, the save sets,
and the content of a save.
-/

namespace Sys2Proof.Machine

/-! ### Completions of asynchronous commands (R316, R317) -/

/-- A command that completes later changes the ports alone. -/
theorem finishAsync_eq (s : State) (a : Async) (status : Nat) (d : Word) :
    ∃ ps, s.finishAsync a status (some d) = { s with ports := ps } := by
  unfold State.finishAsync
  dsimp only [State.detail]
  split
  · exact ⟨s.ports, rfl⟩
  · exact ⟨_, rfl⟩

/-- A job that ends without a fault completes with status 0 and DETAIL 0 (R294). -/
theorem lehrEnd_zero (s : State) (j : LehrJob) : s.lehrEnd j 0 = s.finishAsync j.who 0 (some 0) := by
  rw [State.lehrEnd, if_pos (Or.inl rfl)]
  rfl

theorem lehrEnd_eq (s : State) (j : LehrJob) (result : Nat) : ∃ ps, s.lehrEnd j result = { s with ports := ps } :=
  finishAsync_eq s j.who _ _

theorem finishAsync_async (s : State) (c : Cmd) (p : Port) (status : Nat) (d : Word) :
    s.finishAsync (c.async p) status (some d) = s.completion p c.opcode status d c.tag c.counter c.irq := rfl

theorem recs_completion (s : State) (p : Port) (op status : Nat) (d : Word) (tag : Nat) (counter : Word) (irq : Bool) :
    ((s.completion p op status d tag counter irq).port p).recs =
      (s.port p).recs ++ [.completion op status d tag counter irq] := by
  rw [State.completion, port_modPort_self]

/-- From s to u the completion of an accepted command, with status 0 and a DETAIL, is added to the records of its port,
unless an FLR has caught the command (R306). -/
def AsyncDone (s u : State) (a : Async) (d : Word) : Prop :=
  a.silent = false → ∃ l, (u.port a.port).recs =
    (s.port a.port).recs ++ l ++ [.completion a.opcode 0 d a.tag a.counter a.irq]

theorem asyncDone_finishAsync {s u : State} (a : Async) (d : Word) (hports : u.ports = s.ports) :
    AsyncDone s (u.finishAsync a 0 (some d)) a d := by
  intro hsilent
  have hx : u.finishAsync a 0 (some d) = u.completion a.port a.opcode 0 d a.tag a.counter a.irq := by
    simp [State.finishAsync, State.detail, hsilent]
  refine ⟨[], ?_⟩
  rw [hx, recs_completion, List.append_nil, State.port, State.port, hports]

/-- A command that is accepted and completes at once leaves the ring with its completion (R313, R317). -/
theorem completed_of_accepted {s u : State} {p : Port} (c : Cmd) (status : Nat) (d : Word)
    (hports : u.ports = (s.acceptCmd p).ports) :
    Completed s (u.finishAsync (c.async p) status (some d)) p c status d := by
  have hport : u.port p = (s.acceptCmd p).port p := by rw [State.port, State.port, hports]
  rw [Completed, finishAsync_async, State.completion, port_modPort_self]
  dsimp only
  rw [hport, State.acceptCmd, port_modPort_self]
  exact ⟨rfl, rfl, [], by rw [List.append_nil]⟩

/-! ### Save sets (R287) -/

theorem lehrSet_eq (s : State) {n : Nat} (h : n < 16) : s.lehrSet n = s.lehr.sets[n] := by
  rw [State.lehrSet, List.getD_eq_getElem _ _ (by simpa using h), Vector.getElem_toList]

theorem lehrSet_modSet (s : State) (n : Nat) (f : LehrSet → LehrSet) {i : Nat} (h : i < 16) :
    (s.modSet n f).lehrSet i = if i = n then f (s.lehrSet i) else s.lehrSet i := by
  rw [lehrSet_eq _ h, lehrSet_eq _ h]
  simp [State.modSet, State.modLehr]

theorem lehrSet_modSet_self (s : State) {n : Nat} (f : LehrSet → LehrSet) (h : n < 16) :
    (s.modSet n f).lehrSet n = f (s.lehrSet n) := by
  rw [lehrSet_modSet s n f h, if_pos rfl]

/-- Changing a set changes the sets alone. -/
theorem modSet_eq (s : State) (n : Nat) (f : LehrSet → LehrSet) :
    ∃ sets, s.modSet n f = { s with lehr := { s.lehr with sets := sets } } := ⟨_, rfl⟩

theorem foreignSet_eq_false {s : State} {j : LehrJob}
    (h : (s.lehrSet j.set).owner = none ∨ (s.lehrSet j.set).owner = some j.who.port) : s.foreignSet j = false := by
  unfold State.foreignSet
  rcases h with h | h <;> simp [h]

/-! ### The content of a save (R288) -/

section
variable (s : State) (ps : Vector PortSt 4) (l : Lehr)

/-- The state with other ports and another Lehr store. -/
def State.withLehr : State := { s with ports := ps, lehr := l }

theorem chainRows_withLehr (k a fuel : Nat) : (s.withLehr ps l).chainRows k a fuel = s.chainRows k a fuel := by
  induction fuel generalizing a with
  | zero => rfl
  | succ fuel ih =>
    have hword : (s.withLehr ps l).rowWord k .syn a = s.rowWord k .syn a := rfl
    rw [State.chainRows, State.chainRows, hword, ih]

theorem plasticRows_withLehr (k : Nat) : (s.withLehr ps l).plasticRows k = s.plasticRows k := by
  rw [State.plasticRows, State.plasticRows]
  simp only [chainRows_withLehr]
  rfl

/-- The rows of a tenant lie in the memories of its cores. -/
theorem tenantRows_withLehr (t : Tenant) : (s.withLehr ps l).tenantRows t = s.tenantRows t := by
  rw [State.tenantRows, State.tenantRows]
  simp only [plasticRows_withLehr]
  rfl

theorem saveContent_withLehr (t : Tenant) (n : Nat) : (s.withLehr ps l).saveContent t n = s.saveContent t n := by
  rw [State.saveContent, State.saveContent, tenantRows_withLehr]
  rfl

end

theorem length_rowBytes (s : State) (r : Nat × Nat × Nat) : (s.rowBytes r).length = 8 * (2 + r.2.2) := by
  simp only [State.rowBytes, List.length_append, length_leBytes, State.readBytes, List.length_map, List.length_range]
  omega

theorem length_saveContent {s : State} {t : Tenant} (h : (s.tenant t).parison.length = 32) (n : Nat) :
    (s.saveContent t n).length = contentLen (s.tenantRows t) := by
  simp only [State.saveContent, contentLen, List.length_append, h, List.length_map, List.length_range,
    List.length_flatMap, length_rowBytes]

/-! ### Staging areas (R289) -/

/-- A staging area that is in order lies in the deep tier. -/
theorem le_deepTop_of_stagingOk {s : State} {j : LehrJob} {len : Nat} (h : s.stagingOk j len = true) :
    j.staging + len ≤ deepTop := by
  have hfits : j.staging + len ≤ s.deepCap := by
    simp only [State.stagingOk, State.deepWritable, State.deepFits, Bool.and_eq_true, decide_eq_true_eq] at h
    obtain ⟨-, ⟨-, hfits⟩, -⟩ := h
    exact hfits
  have hcap : s.deepCap ≤ deepTop := by
    unfold State.deepCap deepTop
    cases s.grade <;> cases s.memEcc <;> decide
  exact hfits.trans hcap

theorem isTop_of_lt {a : Nat} (h : a < coreBase) : isTop a = false := by
  simp [isTop, inAcView, Nat.not_le.2 h]

theorem jobs_addJob (s : State) (j : LehrJob) : (s.addJob j).lehr.jobs = s.lehr.jobs ++ [j] := rfl

theorem jobs_advanceJob (s : State) (j k : LehrJob) :
    (s.advanceJob j k).lehr.jobs = s.lehr.jobs.map fun x => if x = j then k else x := rfl

theorem readByte_advanceJob (s : State) (j k : LehrJob) (a : Nat) :
    (s.advanceJob j k).readByte a = s.readByte a := rfl

/-- What is stored in the deep tier reads back. -/
theorem readByte_storeBytes_of_deep (s : State) {a : Nat} {bs : List Byte} (h : a + bs.length ≤ deepTop) {i : Nat}
    (hi : i < bs.length) : (s.storeBytes a bs).readByte (a + i) = bs.getD i 0 := by
  have hlow {j : Nat} (hj : j < bs.length) : a + j < coreBase :=
    (Nat.lt_of_lt_of_le (Nat.add_lt_add_left hj a) h).trans (by decide)
  have htop := isTop_of_lt (hlow hi)
  rw [readByte_of_not_top _ htop]
  exact rawByte_storeBytes (fun j hj => openVector_of_lt s ((hlow hj).trans (by decide))) hi htop

/-! ### Jobs begin (R289, R291) -/

/-- The job of a SAVE, RESTORE or RELEASE as it is accepted. -/
def Cmd.lehrJob (c : Cmd) (p : Port) (ph : LehrPhase) (len : Nat) : LehrJob :=
  ⟨c.async p, c.field 1 0 4, (c.word 2).toNat, ph, len⟩

theorem opcode_lehrJob {s : State} {p : Port} {c : Cmd} {op : Nat} {masks : List Nat} (h : Taken s p c op masks)
    (ph : LehrPhase) (len : Nat) : (c.lehrJob p ph len).who.opcode = op := by
  obtain ⟨-, hop, -⟩ := h
  exact hop

theorem queueJob_of_ready {s : State} {p : Port} {c : Cmd} (h : s.lehr.ready = true) :
    s.queueJob p c = (s.acceptCmd p).startJob (c.lehrJob p .waiting 0) := by
  have hready : (s.acceptCmd p).lehr.ready = true := h
  rw [State.queueJob, if_pos hready]
  rfl

theorem startJob_save {s : State} {j : LehrJob} (h : j.who.opcode = 0x07) : s.startJob j = s.startSave j := by
  rw [State.startJob, h]
  rfl

theorem startJob_restore {s : State} {j : LehrJob} (h : j.who.opcode = 0x08) : s.startJob j = s.startRestore j := by
  rw [State.startJob, h]
  rfl

theorem startJob_release {s : State} {j : LehrJob} (h : j.who.opcode = 0x09) : s.startJob j = s.doRelease j := by
  rw [State.startJob, h]
  rfl

theorem field_lt_16 (c : Cmd) : c.field 1 0 4 < 16 := Nat.mod_lt _ (by decide)

section
variable {s : State} {p : Port} {c : Cmd}

/-- A SAVE is neither of another tenant's set, nor of a Running tenant without epochs, nor refused (R287 to R289). -/
structure SaveFits (s : State) (p : Port) (c : Cmd) : Prop where
  owner : (s.lehrSet (c.field 1 0 4)).owner = none ∨ (s.lehrSet (c.field 1 0 4)).owner = some p
  epochs : (s.tenant p).st = .running → (s.shear p).epochLen ≠ 0
  parison : (s.tenant p).parison.length = 32
  staging : s.stagingOk (c.lehrJob p .waiting 0) (contentLen (s.tenantRows p)) = true
  blocks : saveBlocks (contentLen (s.tenantRows p)) ≤ 192

theorem startSave_of_fits (h : SaveFits s p c) : (s.acceptCmd p).startSave (c.lehrJob p .waiting 0) =
    if s.isStopped p then ((s.acceptCmd p).addJob (c.lehrJob p .snapDue 0)).takeSnapshot (c.lehrJob p .snapDue 0)
    else (s.acceptCmd p).addJob (c.lehrJob p .snapDue 0) := by
  obtain ⟨howner, hepochs, -, hstaging, hblocks⟩ := h
  have hforeign : (s.acceptCmd p).foreignSet (c.lehrJob p .waiting 0) = false := foreignSet_eq_false howner
  have hrows : (s.acceptCmd p).tenantRows p = s.tenantRows p := tenantRows_withLehr s _ _ p
  have hrefused : (s.acceptCmd p).saveRefused (c.lehrJob p .waiting 0) (contentLen (s.tenantRows p)) = none := by
    have hst : (s.acceptCmd p).stagingOk (c.lehrJob p .waiting 0) (contentLen (s.tenantRows p)) = true := hstaging
    simp [State.saveRefused, hst, hblocks]
  have hrun : ¬ (((s.acceptCmd p).tenant p).st = .running ∧ ((s.acceptCmd p).shear p).epochLen = 0) :=
    fun hr => hepochs hr.1 hr.2
  have hport : (c.lehrJob p .waiting 0).who.port = p := rfl
  rw [State.startSave]
  dsimp only
  rw [hforeign, if_neg Bool.false_ne_true, hport, if_neg hrun, hrows, hrefused]
  rfl

/-- The snapshot of a SAVE that fits is stored in the staging area, and the save can be written (R289). -/
theorem takeSnapshot_of_fits (h : SaveFits s p c) :
    ((s.acceptCmd p).addJob (c.lehrJob p .snapDue 0)).takeSnapshot (c.lehrJob p .snapDue 0) =
      ((((s.acceptCmd p).addJob (c.lehrJob p .snapDue 0)).storeBytes (c.word 2).toNat
        (s.saveContent p (c.field 1 0 4))).advanceJob (c.lehrJob p .snapDue 0)
          (c.lehrJob p .writing (s.saveContent p (c.field 1 0 4)).length)) := by
  obtain ⟨-, -, hparison, hstaging, hblocks⟩ := h
  have hcontent : ((s.acceptCmd p).addJob (c.lehrJob p .snapDue 0)).saveContent p (c.field 1 0 4) =
      s.saveContent p (c.field 1 0 4) := saveContent_withLehr s _ _ p _
  have hlen := length_saveContent hparison (c.field 1 0 4)
  have hrefused : ((s.acceptCmd p).addJob (c.lehrJob p .snapDue 0)).saveRefused (c.lehrJob p .snapDue 0)
      (s.saveContent p (c.field 1 0 4)).length = none := by
    have hst : ((s.acceptCmd p).addJob (c.lehrJob p .snapDue 0)).stagingOk (c.lehrJob p .snapDue 0)
        (contentLen (s.tenantRows p)) = true := hstaging
    simp [State.saveRefused, hlen, hst, hblocks]
  have hwho : (c.lehrJob p .snapDue 0).who.port = p ∧ (c.lehrJob p .snapDue 0).set = c.field 1 0 4 := ⟨rfl, rfl⟩
  rw [State.takeSnapshot, hwho.1, hwho.2, hcontent, hrefused]
  rfl

end

section
variable {s : State} {p : Port} {c : Cmd}

theorem execSave_of_taken (h : Taken s p c 0x07 [0xF, 2 ^ 64 - 1]) (hnap : s.inNap = false)
    (hready : s.lehr.ready = true) :
    exec (.save p) s = .next ((s.acceptCmd p).startSave (c.lehrJob p .waiting 0)) := by
  have hop := opcode_lehrJob h .waiting 0
  change execSave p s = _
  refine (congrArg Host.Outcome.next (command_of_taken h _)).trans ?_
  rw [hnap, if_neg Bool.false_ne_true, queueJob_of_ready hready, startJob_save hop]

/-- A SAVE of a stopped tenant takes its snapshot at once (R289). -/
theorem answers_save_of_stopped (h : Taken s p c 0x07 [0xF, 2 ^ 64 - 1]) (hnap : s.inNap = false)
    (hready : s.lehr.ready = true) (hfits : SaveFits s p c) (hstop : s.isStopped p = true) :
    Answers (.save p) s fun u =>
      u.lehr.jobs.getLast? = some (c.lehrJob p .writing (s.saveContent p (c.field 1 0 4)).length) ∧
      ∀ i, i < (s.saveContent p (c.field 1 0 4)).length →
        u.readByte ((c.word 2).toNat + i) = (s.saveContent p (c.field 1 0 4)).getD i 0 := by
  have hx := execSave_of_taken h hnap hready
  rw [startSave_of_fits hfits, if_pos hstop, takeSnapshot_of_fits hfits] at hx
  refine ⟨_, hx, ?_, fun i hi => ?_⟩
  · rw [jobs_advanceJob, (storeBytes_keeps _ _ _).2, jobs_addJob, List.getLast?_map, List.getLast?_concat,
      Option.map_some, if_pos rfl]
  · rw [readByte_advanceJob]
    refine readByte_storeBytes_of_deep _ ?_ hi
    rw [length_saveContent hfits.parison]
    exact le_deepTop_of_stagingOk hfits.staging

/-- A SAVE of a running tenant waits for the next commit (R289). -/
theorem answers_save_of_running (h : Taken s p c 0x07 [0xF, 2 ^ 64 - 1]) (hnap : s.inNap = false)
    (hready : s.lehr.ready = true) (hfits : SaveFits s p c) (hrun : (s.tenant p).st = .running) :
    Answers (.save p) s fun u => u.lehr.jobs = s.lehr.jobs ++ [c.lehrJob p .snapDue 0] ∧ u.mem = s.mem := by
  have hstop : s.isStopped p = false := by simp [State.isStopped, hrun]
  have hx := execSave_of_taken h hnap hready
  rw [startSave_of_fits hfits, hstop, if_neg Bool.false_ne_true] at hx
  exact ⟨_, hx, rfl, rfl⟩

/-- A RESTORE of a stopped tenant is queued to be read (R291). -/
theorem answers_restore (h : Taken s p c 0x08 [0xF]) (hnap : s.inNap = false) (hfault : s.pont.faulted = false)
    (hready : s.lehr.ready = true)
    (howner : (s.lehrSet (c.field 1 0 4)).owner = none ∨ (s.lehrSet (c.field 1 0 4)).owner = some p)
    (hsome : (s.lehrSet (c.field 1 0 4)).newest.isSome = true) (hstop : s.isStopped p = true) :
    Answers (.restore p) s fun u => u.lehr.jobs = s.lehr.jobs ++ [c.lehrJob p .reading 0] := by
  have hop := opcode_lehrJob h .waiting 0
  have hforeign : (s.acceptCmd p).foreignSet (c.lehrJob p .waiting 0) = false := foreignSet_eq_false howner
  have hnone : ((s.acceptCmd p).lehrSet (c.lehrJob p .waiting 0).set).newest.isNone = false :=
    (Option.isNone_eq_false_iff).2 hsome
  have hstopped : (s.acceptCmd p).isStopped (c.lehrJob p .waiting 0).who.port = true := hstop
  have hx : exec (.restore p) s = .next ((s.acceptCmd p).addJob (c.lehrJob p .reading 0)) := by
    refine (congrArg Host.Outcome.next (command_of_taken h _)).trans ?_
    rw [hnap, hfault, Bool.or_self, if_neg Bool.false_ne_true, queueJob_of_ready hready, startJob_restore hop,
      State.startRestore, hforeign, if_neg Bool.false_ne_true, hnone, if_neg Bool.false_ne_true, hstopped,
      Bool.not_true, if_neg Bool.false_ne_true]
    rfl
  exact ⟨_, hx, rfl⟩

/-- RELEASE frees its set and voids its commit records (R287). -/
theorem answers_release (h : Taken s p c 0x09 [0xF]) (hready : s.lehr.ready = true)
    (howner : (s.lehrSet (c.field 1 0 4)).owner = none ∨ (s.lehrSet (c.field 1 0 4)).owner = some p)
    (hsome : (s.lehrSet (c.field 1 0 4)).newest.isSome = true) :
    Answers (.release p) s fun u => u.lehrSet (c.field 1 0 4) = {} ∧
      (∀ r ∈ u.lehr.journal, r.set ≠ c.field 1 0 4) ∧ Completed s u p c 0 0 := by
  have hop := opcode_lehrJob h .waiting 0
  have hforeign : (s.acceptCmd p).foreignSet (c.lehrJob p .waiting 0) = false := foreignSet_eq_false howner
  have hnone : ((s.acceptCmd p).lehrSet (c.lehrJob p .waiting 0).set).newest.isNone = false :=
    (Option.isNone_eq_false_iff).2 hsome
  have hx : exec (.release p) s = .next ((((s.acceptCmd p).modSet (c.field 1 0 4) fun _ => {}).modLehr
      (·.dropRecords (c.field 1 0 4))).finishAsync (c.async p) 0 (some 0)) := by
    refine (congrArg Host.Outcome.next (command_of_taken h _)).trans ?_
    rw [queueJob_of_ready hready, startJob_release hop, State.doRelease, hforeign, if_neg Bool.false_ne_true, hnone,
      if_neg Bool.false_ne_true, lehrEnd_zero]
    rfl
  have hfreed := lehrSet_modSet_self (s.acceptCmd p) (fun _ => {}) (field_lt_16 c)
  obtain ⟨sets, hsets⟩ := modSet_eq (s.acceptCmd p) (c.field 1 0 4) fun _ => {}
  rw [hsets] at hx hfreed
  let freed : State := { s.acceptCmd p with lehr := { (s.acceptCmd p).lehr with sets := sets } }
  obtain ⟨ps, hps⟩ := finishAsync_eq (freed.modLehr (·.dropRecords (c.field 1 0 4))) (c.async p) 0 0
  refine ⟨_, hx, ?_, fun r hr => ?_, completed_of_accepted c 0 0 rfl⟩
  · rw [hps]
    exact hfreed
  · rw [hps] at hr
    simpa using (List.mem_filter.mp hr).2

end

end Sys2Proof.Machine

/-!
The background work of the Lehr store: writing a save with its commit record, freeing the save before, writing a
restored save back, and the end of the journal scan (R290 to R293).
-/

namespace Sys2Proof.Machine

/-! ### The journal (R286, R290) -/

/-- Records alone are written, and blocks erased: the sets, the jobs and the readiness stay. -/
structure Lehr.JournalOnly (l m : Lehr) : Prop where
  sets : m.sets = l.sets
  jobs : m.jobs = l.jobs

theorem Lehr.journalOnly_append (l : Lehr) (r : CommitRec) : l.JournalOnly (l.append r) := ⟨rfl, rfl⟩

theorem Lehr.JournalOnly.trans {l m n : Lehr} (h : l.JournalOnly m) (h' : m.JournalOnly n) : l.JournalOnly n :=
  ⟨h'.sets.trans h.sets, h'.jobs.trans h.jobs⟩

theorem Lehr.journalOnly_turn (l : Lehr) : l.JournalOnly l.turn := by
  unfold Lehr.turn
  split
  · exact ⟨rfl, rfl⟩
  · exact List.foldlRecOn (motive := l.JournalOnly) _ _ ⟨rfl, rfl⟩ fun m h r _ => h.trans (m.journalOnly_append r)

theorem Lehr.journalOnly_addRecord (l : Lehr) (r : CommitRec) : l.JournalOnly (l.addRecord r) :=
  l.journalOnly_turn.trans (l.turn.journalOnly_append r)

/-- A save whose record has been written stands in the journal. -/
theorem Lehr.recorded_addRecord (l : Lehr) (v : LehrSave) (n : Nat) :
    (l.addRecord (v.record n)).recorded n v = true := by
  have hok (slot : Nat) : CommitRec.ok { v.record n with slot := slot } = true := by
    simp [CommitRec.ok, CommitRec.crcOf, LehrSave.record]
  refine List.any_eq_true.2 ⟨{ v.record n with slot := l.turn.jnext }, ?_, ?_⟩
  · rw [Lehr.addRecord, Lehr.append]
    exact List.mem_append_right _ (List.mem_singleton_self _)
  · rw [hok]
    simp [LehrSave.record]

/-! ### The blocks of a save (R290, R293) -/

theorem Lehr.length_place (l : Lehr) (b : Nat) (bs : List Nat) : (l.place b bs).length = bs.length + 1 := by
  induction bs with
  | nil => rfl
  | cons x xs ih =>
    rw [Lehr.place]
    split
    · rfl
    · rw [List.length_cons, ih, List.length_cons]

theorem Lehr.length_freeSorted (l : Lehr) : l.freeSorted.length = l.free.length := by
  have hrun (bs acc : List Nat) : (bs.foldl (fun r b => l.place b r) acc).length = acc.length + bs.length := by
    induction bs generalizing acc with
    | nil => rfl
    | cons b bs ih => rw [List.foldl_cons, ih, l.length_place, List.length_cons, Nat.add_right_comm, Nat.add_assoc]
  rw [Lehr.freeSorted, hrun, List.length_nil, Nat.zero_add]

/-- Where no block fails, a save takes the first of the candidates, and writing wears them (R293). -/
theorem writeBlocks_of_good (s : State) (bs : List Nat) (n : Nat) :
    ∃ w, s.writeBlocks [] bs n = ({ s with lehr := { s.lehr with wear := w } }, bs.take n) := by
  induction bs generalizing s n with
  | nil => exact ⟨s.lehr.wear, by rw [State.writeBlocks, List.take_nil]⟩
  | cons b bs ih =>
    cases n with
    | zero => exact ⟨s.lehr.wear, by rw [State.writeBlocks, if_pos rfl, List.take_zero]⟩
    | succ n =>
      obtain ⟨w, hw⟩ := ih (s.modLehr fun l => { l with wear := Tab.modify l.wear 0 b (· + 1) }) n
      refine ⟨w, ?_⟩
      rw [State.writeBlocks, if_neg (Nat.succ_ne_zero n)]
      simp only [List.contains_nil, Bool.false_eq_true, if_false, Nat.add_sub_cancel, hw, List.take_succ_cons]
      rfl

/-! ### A save is written (R290) -/

section
variable (s : State) (ctr : Nat) (w : Tab Nat) (j : LehrJob) (blocks : List Nat)

/-- The state after the blocks of a save, and some of the system area, have been erased (R293). -/
def State.worn : State := { s with freeCtr := ctr, lehr := { s.lehr with wear := w } }

theorem lehrSet_commitSave (h : j.set < 16) : ((s.worn ctr w).commitSave j blocks).lehrSet j.set =
    ⟨some j.who.port, some ((s.worn ctr w).newSave j blocks), (s.lehrSet j.set).newest⟩ := by
  let v := (s.worn ctr w).newSave j blocks
  have hsets : ((s.worn ctr w).modLehr (·.addRecord (v.record j.set))).lehrSet j.set = s.lehrSet j.set :=
    congrArg (fun sets => sets.toList.getD j.set {}) (Lehr.journalOnly_addRecord (s.worn ctr w).lehr _).sets
  rw [State.commitSave, lehrSet_modSet_self _ _ h, hsets]

theorem jobs_commitSave : (s.commitSave j blocks).lehr.jobs = s.lehr.jobs := by
  let v := s.newSave j blocks
  obtain ⟨sets, hsets⟩ := modSet_eq (s.modLehr (·.addRecord (v.record j.set))) j.set fun x =>
    { owner := some j.who.port, newest := some v, older := x.newest }
  rw [State.commitSave, hsets]
  exact (Lehr.journalOnly_addRecord s.lehr (v.record j.set)).jobs

theorem recorded_commitSave : (s.commitSave j blocks).lehr.recorded j.set (s.newSave j blocks) = true := by
  let v := s.newSave j blocks
  obtain ⟨sets, hsets⟩ := modSet_eq (s.modLehr (·.addRecord (v.record j.set))) j.set fun x =>
    { owner := some j.who.port, newest := some v, older := x.newest }
  rw [State.commitSave, hsets]
  exact Lehr.recorded_addRecord s.lehr v j.set

end

/-- The newest save of a job's set is the one with these blocks and with the content of its staging area, numbered after
the save before, which is held; its commit record stands (R287, R290). -/
def SaveCommitted (s u : State) (j : LehrJob) : Prop :=
  ∃ v : LehrSave, u.lehrSet j.set = ⟨some j.who.port, some v, (s.lehrSet j.set).newest⟩ ∧
    v.blocks.length = saveBlocks j.len ∧ v.content = s.readBytes j.staging j.len ∧
    v.seq = (s.lehrSet j.set).nextSeq ∧
    u.lehr.recorded j.set v = true

/-- SaveCommitted speaks of the sets and the journal alone. -/
theorem SaveCommitted.congr {s t u : State} {j : LehrJob} (h : SaveCommitted s t j) (hsets : u.lehr.sets = t.lehr.sets)
    (hjournal : u.lehr.journal = t.lehr.journal) : SaveCommitted s u j := by
  obtain ⟨v, hset, hlen, hcontent, hseq, hrec⟩ := h
  refine ⟨v, ?_, hlen, hcontent, hseq, ?_⟩
  · rw [← hset, State.lehrSet, State.lehrSet, hsets]
  · rw [← hrec, Lehr.recorded, Lehr.recorded, hjournal]

theorem saveCommitted_commitSave {s : State} {j : LehrJob} (ctr : Nat) (w : Tab Nat) {blocks : List Nat}
    (hset : j.set < 16) (hlen : blocks.length = saveBlocks j.len) :
    SaveCommitted s ((s.worn ctr w).commitSave j blocks) j :=
  ⟨_, lehrSet_commitSave s ctr w j blocks hset, hlen, rfl, rfl, recorded_commitSave _ j blocks⟩

/-- The oldest background write ends with its commit record; the save before is freed next, and without one the SAVE
completes (R287, R290). -/
theorem answers_lehrSaveDone_of_writing {s : State} {j : LehrJob}
    (hfree : s.lehr.jobs.find? (fun y => y.phase == .freeing) = none)
    (hwrite : s.lehr.jobs.find? (fun y => y.phase == .writing) = some j) (hset : j.set < 16)
    (howner : (s.lehrSet j.set).owner = none ∨ (s.lehrSet j.set).owner = some j.who.port)
    (hroom : saveBlocks j.len ≤ s.lehr.free.length) :
    Answers (.lehrSaveDone []) s fun u => SaveCommitted s u j ∧
      if (s.lehrSet j.set).newest.isSome then { j with phase := .freeing } ∈ u.lehr.jobs
      else u.lehr.jobs = s.lehr.jobs.erase j ∧ AsyncDone s u j.who 0 := by
  obtain ⟨w, hw⟩ := writeBlocks_of_good s.wearSystem s.lehr.freeSorted (saveBlocks j.len)
  let blocks := s.lehr.freeSorted.take (saveBlocks j.len)
  have hlen : blocks.length = saveBlocks j.len := by
    rw [List.length_take, s.lehr.length_freeSorted, Nat.min_eq_left hroom]
  let t := (s.worn (s.freeCtr + 1) w).commitSave j blocks
  have hx : exec (.lehrSaveDone []) s = .next (if (s.lehrSet j.set).newest.isSome
      then t.advanceJob j { j with phase := .freeing } else (t.dropJob j).lehrEnd j 0) := by
    change execLehrSaveDone [] s = _
    rw [execLehrSaveDone, hfree, hwrite]
    dsimp only
    rw [foreignSet_eq_false howner, if_neg Bool.false_ne_true, if_neg (Nat.not_lt.2 hroom), hw]
    dsimp only
    rw [if_neg (Nat.not_lt.2 hlen.ge)]
    split <;> rfl
  have hcommitted : SaveCommitted s t j := saveCommitted_commitSave _ w hset hlen
  have hjobs : t.lehr.jobs = s.lehr.jobs := jobs_commitSave _ j blocks
  by_cases hnew : (s.lehrSet j.set).newest.isSome = true
  · rw [if_pos hnew] at hx
    refine ⟨_, hx, hcommitted.congr rfl rfl, ?_⟩
    rw [if_pos hnew, jobs_advanceJob, hjobs]
    exact List.mem_map.2 ⟨j, List.mem_of_find?_eq_some hwrite, if_pos rfl⟩
  · rw [if_neg hnew, lehrEnd_zero] at hx
    obtain ⟨ps, hps⟩ := finishAsync_eq (t.dropJob j) j.who 0 0
    refine ⟨_, hx, ?_, ?_⟩
    · rw [hps]
      exact hcommitted.congr rfl rfl
    · rw [if_neg hnew]
      refine ⟨?_, asyncDone_finishAsync j.who 0 rfl⟩
      rw [hps, ← hjobs]
      rfl

/-- The save before is freed, and the SAVE completes (R290). -/
theorem answers_lehrSaveDone_of_freeing {s : State} {j : LehrJob}
    (hfree : s.lehr.jobs.find? (fun y => y.phase == .freeing) = some j) (hset : j.set < 16) :
    Answers (.lehrSaveDone []) s fun u => u.lehrSet j.set = { s.lehrSet j.set with older := none } ∧
      u.lehr.jobs = s.lehr.jobs.erase j ∧ AsyncDone s u j.who 0 := by
  have hx : exec (.lehrSaveDone []) s =
      .next (((s.modSet j.set fun x => { x with older := none }).dropJob j).finishAsync j.who 0 (some 0)) := by
    change execLehrSaveDone [] s = _
    rw [execLehrSaveDone, hfree, ← lehrEnd_zero]
  have hfreed := lehrSet_modSet_self s (fun x => { x with older := none }) hset
  obtain ⟨sets, hsets⟩ := modSet_eq s j.set fun x => { x with older := none }
  rw [hsets] at hx hfreed
  obtain ⟨ps, hps⟩ := finishAsync_eq ({ s with lehr := { s.lehr with sets := sets } }.dropJob j) j.who 0 0
  refine ⟨_, hx, ?_, ?_, asyncDone_finishAsync j.who 0 rfl⟩
  · rw [hps]
    exact hfreed
  · rw [hps]
    rfl

/-! ### Rows are written back (R291) -/

/-- A saved row lies in the synapse memory of a core that exists. -/
def SavedRow.InCore (r : SavedRow) : Prop := r.k / 32 < 32 ∧ 8 * r.a + r.bytes.length ≤ 0x3_0000

/-- Two rows lie apart. -/
def SavedRow.Apart (r q : SavedRow) : Prop :=
  r.k ≠ q.k ∨ 8 * r.a + r.bytes.length ≤ 8 * q.a ∨ 8 * q.a + q.bytes.length ≤ 8 * r.a

theorem inCore_of_rowFits {s : State} {t : Tenant} {r : SavedRow} (h : s.rowFits t r = true) : r.InCore := by
  simp only [State.rowFits, State.coreExists, Bool.and_eq_true, decide_eq_true_eq, beq_iff_eq] at h
  obtain ⟨⟨⟨⟨-, hcl, -⟩, -⟩, hlen⟩, hend⟩ := h
  exact ⟨hcl, by omega⟩

theorem synAddr_row (k a : Nat) : synAddr k (2 * a) = coreWindow k + 8 * a := by
  rw [synAddr]
  omega

/-- A byte of a row's memory is in no accumulator, and below shared memory. -/
theorem isTop_synapse {k a : Nat} (hcl : k / 32 < 32) (ha : a < 0x3_0000) : isTop (coreWindow k + a) = false := by
  obtain ⟨-, -, hoff⟩ := coreWindow_bounds hcl (show a < 0x8_0000 by omega)
  have hview : ¬ 0x3_8000 ≤ (coreWindow k + a) % 0x8_0000 := by omega
  simp [isTop, inAcView, decide_eq_false hview]

/-- Write a saved row back. -/
def State.storeRow (s : State) (r : SavedRow) : State := s.storeBytes (synAddr r.k (2 * r.a)) r.bytes

theorem closed_row (s : State) {r : SavedRow} (h : r.InCore) (i : Nat) (hi : i < r.bytes.length) :
    s.openVector (synAddr r.k (2 * r.a) + i) = false := by
  obtain ⟨hcl, hend⟩ := h
  rw [synAddr_row, Nat.add_assoc]
  exact openVector_of_lt s (coreWindow_bounds hcl (by omega)).2.1

theorem isTop_row {r : SavedRow} (h : r.InCore) {i : Nat} (hi : i < r.bytes.length) :
    isTop (synAddr r.k (2 * r.a) + i) = false := by
  obtain ⟨hcl, hend⟩ := h
  rw [synAddr_row, Nat.add_assoc]
  exact isTop_synapse hcl (by omega)

/-- A row that is written reads back. -/
theorem readByte_storeRow (s : State) {r : SavedRow} (h : r.InCore) {i : Nat} (hi : i < r.bytes.length) :
    (s.storeRow r).readByte (synAddr r.k (2 * r.a) + i) = r.bytes.getD i 0 := by
  rw [readByte_of_not_top _ (isTop_row h hi)]
  exact rawByte_storeBytes (closed_row s h) hi (isTop_row h hi)

/-- A row that lies apart stays as it was. -/
theorem readByte_storeRow_of_apart (s : State) {r q : SavedRow} (hr : r.InCore) (hq : q.InCore) (h : r.Apart q)
    {i : Nat} (hi : i < r.bytes.length) :
    (s.storeRow q).readByte (synAddr r.k (2 * r.a) + i) = s.readByte (synAddr r.k (2 * r.a) + i) := by
  have htop := isTop_row hr hi
  rw [readByte_of_not_top _ htop, readByte_of_not_top _ htop]
  refine rawByte_storeBytes_of_apart (closed_row s hq) ?_
  obtain ⟨hrcl, hrend⟩ := hr
  obtain ⟨hqcl, hqend⟩ := hq
  simp only [SavedRow.Apart] at h
  rw [synAddr_row, synAddr_row]
  unfold coreWindow
  omega

/-- Once all rows are written, a row that overlaps no other one reads back. -/
theorem readByte_storeRows {rows : List SavedRow} (hin : ∀ q ∈ rows, q.InCore) {r : SavedRow} (hr : r ∈ rows)
    (hapart : ∀ q ∈ rows, r = q ∨ r.Apart q) {i : Nat} (hi : i < r.bytes.length) (s : State) :
    (rows.foldl State.storeRow s).readByte (synAddr r.k (2 * r.a) + i) = r.bytes.getD i 0 := by
  induction rows generalizing s with
  | nil => exact absurd hr List.not_mem_nil
  | cons q rows ih =>
    obtain ⟨hq, hin'⟩ := List.forall_mem_cons.1 hin
    obtain ⟨-, hapart'⟩ := List.forall_mem_cons.1 hapart
    rw [List.foldl_cons]
    by_cases hmem : r ∈ rows
    · exact ih hin' hmem hapart' _
    · obtain rfl := (List.mem_cons.1 hr).resolve_right hmem
      refine List.foldlRecOn (motive := fun u : State => u.readByte (synAddr r.k (2 * r.a) + i) = r.bytes.getD i 0) rows
        _ (readByte_storeRow s hq hi) fun u hu p hp => ?_
      have hne : r ≠ p := fun heq => hmem (heq ▸ hp)
      rw [readByte_storeRow_of_apart u hq (hin' p hp) ((hapart' p hp).resolve_left hne) hi, hu]

/-- Clearing pre slots writes traces alone: a row's memory stays (R30, R291). -/
theorem readByte_clearPre (s : State) (k : Nat) {j a : Nat} (hcl : j / 32 < 32) (ha : a < 0x3_0000) :
    (s.clearPre k).readByte (coreWindow j + a) = s.readByte (coreWindow j + a) := by
  unfold State.clearPre
  dsimp only
  split
  · rfl
  · refine List.foldlRecOn (motive := fun u : State => u.readByte (coreWindow j + a) = s.readByte (coreWindow j + a))
      _ _ rfl fun u hu n hn => ?_
    have hn' : n < 8192 := (List.mem_range.1 hn).trans_le (Nat.min_le_left _ _)
    have hne : coreWindow j + a ≠ trAddr k n + b2n (s.core k).mrv.preHalf := by
      have hbit : b2n (s.core k).mrv.preHalf ≤ 1 := by cases (s.core k).mrv.preHalf <;> decide
      unfold trAddr coreWindow coreBase
      omega
    have htop := isTop_synapse hcl ha
    rw [← hu, State.setTraceHalf, readByte_of_not_top _ htop, readByte_of_not_top _ htop,
      rawByte_writeByte_of_ne u 0 hne]

/-- From s to u neither the Lehr store nor a port changes. -/
structure KeepsLehr (s u : State) : Prop where
  lehr : u.lehr = s.lehr
  ports : u.ports = s.ports

theorem KeepsLehr.trans {s t u : State} (h : KeepsLehr s t) (h' : KeepsLehr t u) : KeepsLehr s u :=
  ⟨h'.lehr.trans h.lehr, h'.ports.trans h.ports⟩

theorem keepsLehr_storeRow (s : State) (r : SavedRow) : KeepsLehr s (s.storeRow r) := by
  rw [State.storeRow, storeBytes_eq]
  exact ⟨rfl, rfl⟩

theorem keepsLehr_clearPre (s : State) (k : Nat) : KeepsLehr s (s.clearPre k) := by
  unfold State.clearPre
  dsimp only
  split
  · exact ⟨rfl, rfl⟩
  · refine List.foldlRecOn (motive := KeepsLehr s) _ _ ⟨rfl, rfl⟩ fun u hu n _ => hu.trans ?_
    unfold State.setTraceHalf State.writeByte
    split <;> exact ⟨rfl, rfl⟩

/-- The rows of a save are written back, and the pre slots of the tenant's cores cleared (R291). -/
def State.restoreRows (s : State) (t : Tenant) (rows : List SavedRow) : State :=
  (s.coresOf t).foldl State.clearPre (rows.foldl State.storeRow s)

theorem keepsLehr_restoreRows (s : State) (t : Tenant) (rows : List SavedRow) : KeepsLehr s (s.restoreRows t rows) :=
  List.foldlRecOn (motive := KeepsLehr s) _ _
    (List.foldlRecOn (motive := KeepsLehr s) _ _ ⟨rfl, rfl⟩ fun u hu r _ => hu.trans (keepsLehr_storeRow u r))
    fun u hu k _ => hu.trans (keepsLehr_clearPre u k)

theorem readByte_restoreRows (s : State) (t : Tenant) {rows : List SavedRow} (hin : ∀ q ∈ rows, q.InCore) {r : SavedRow}
    (hr : r ∈ rows) (hapart : ∀ q ∈ rows, r = q ∨ r.Apart q) {i : Nat} (hi : i < r.bytes.length) :
    (s.restoreRows t rows).readByte (synAddr r.k (2 * r.a) + i) = r.bytes.getD i 0 := by
  obtain ⟨hcl, hend⟩ := hin r hr
  refine List.foldlRecOn (motive := fun u : State => u.readByte (synAddr r.k (2 * r.a) + i) = r.bytes.getD i 0) _ _
    (readByte_storeRows hin hr hapart hi s) fun u hu k _ => ?_
  rw [synAddr_row, Nat.add_assoc] at hu ⊢
  rw [readByte_clearPre u k hcl (by omega), hu]

/-- A RESTORE writes the rows of a save with a commit record back, and completes (R291). -/
theorem answers_lehrRestoreDone {s : State} {p : Port} {j : LehrJob} {v : LehrSave} {rows : List SavedRow}
    (olderOk : Bool) (hread : s.lehr.jobs.find? (fun y => y.who.port == p && y.phase == .reading) = some j)
    (howner : (s.lehrSet j.set).owner = none ∨ (s.lehrSet j.set).owner = some p)
    (hnewest : (s.lehrSet j.set).newest = some v) (hrec : s.lehr.recorded j.set v = true) (hstop : s.isStopped p = true)
    (hparison : v.content.take 32 = (s.tenant p).parison)
    (hrows : savedRows (v.content.drop 64) v.content.length = some rows) (hfits : rows.all (s.rowFits p) = true) :
    Answers (.lehrRestoreDone p true olderOk) s fun u =>
      (∀ r ∈ rows, (∀ q ∈ rows, r = q ∨ r.Apart q) →
        ∀ i, i < r.bytes.length → u.readByte (synAddr r.k (2 * r.a) + i) = r.bytes.getD i 0) ∧
      u.lehr.jobs = s.lehr.jobs.erase j ∧ AsyncDone s u j.who 0 := by
  have hport : j.who.port = p := by
    have hsome := List.find?_some hread
    simp only [Bool.and_eq_true, beq_iff_eq] at hsome
    exact hsome.1
  have hvalid : s.validSave j.set (s.lehrSet j.set).newest = some v := by simp [State.validSave, hnewest, hrec]
  let t := (s.dropJob j).restoreRows p rows
  have hrestore : (s.dropJob j).restoreFrom j v 0 = t.finishAsync j.who 0 (some 0) := by
    have hparison' : v.content.take 32 = ((s.dropJob j).tenant p).parison := hparison
    have hfits' : rows.all ((s.dropJob j).rowFits p) = true := hfits
    rw [State.restoreFrom, hport, if_neg (not_not_intro hparison'), hrows]
    dsimp only
    rw [hfits', Bool.not_true, if_neg Bool.false_ne_true, lehrEnd_zero]
    rfl
  have hx : exec (.lehrRestoreDone p true olderOk) s = .next (t.finishAsync j.who 0 (some 0)) := by
    change execLehrRestoreDone p true olderOk s = _
    rw [execLehrRestoreDone, hread]
    dsimp only
    rw [foreignSet_eq_false (hport ▸ howner), if_neg Bool.false_ne_true, hstop, Bool.not_true,
      if_neg Bool.false_ne_true, hvalid]
    exact congrArg Host.Outcome.next hrestore
  obtain ⟨hlehr, hports⟩ := keepsLehr_restoreRows (s.dropJob j) p rows
  obtain ⟨ps, hps⟩ := finishAsync_eq t j.who 0 0
  have hin : ∀ q ∈ rows, q.InCore := fun q hq => inCore_of_rowFits (List.all_eq_true.1 hfits q hq)
  refine ⟨_, hx, fun r hr hapart i hi => ?_, ?_, asyncDone_finishAsync _ _ hports⟩
  · rw [hps]
    exact readByte_restoreRows _ p hin hr hapart hi
  · rw [hps]
    exact congrArg Lehr.jobs hlehr

/-! ### The end of the journal scan (R292) -/

/-- The store is ready, no command waits for it, and no older save is held. -/
structure ScanEnded (s : State) : Prop where
  ready : s.lehr.ready = true
  jobs : ∀ y ∈ s.lehr.jobs, y.phase ≠ .waiting
  older : ∀ i, i < 16 → (s.lehrSet i).older = none

/-- ScanEnded speaks of the Lehr store alone, and of its jobs only that none waits. -/
theorem ScanEnded.congr {s u : State} (h : ScanEnded s) (hready : u.lehr.ready = s.lehr.ready)
    (hsets : u.lehr.sets = s.lehr.sets) (hjobs : ∀ y ∈ u.lehr.jobs, y.phase ≠ .waiting) : ScanEnded u := by
  obtain ⟨hr, -, hold⟩ := h
  refine ⟨hready.trans hr, hjobs, fun i hi => ?_⟩
  rw [State.lehrSet, hsets]
  exact hold i hi

theorem ScanEnded.lehrEnd {s : State} (h : ScanEnded s) (j : LehrJob) (result : Nat) :
    ScanEnded (s.lehrEnd j result) := by
  obtain ⟨ps, hps⟩ := lehrEnd_eq s j result
  rw [hps]
  exact h.congr rfl rfl h.jobs

theorem ScanEnded.addJob {s : State} (h : ScanEnded s) {j : LehrJob} (hj : j.phase ≠ .waiting) :
    ScanEnded (s.addJob j) := by
  refine h.congr rfl rfl fun y hy => ?_
  rcases List.mem_append.1 hy with hy | hy
  · exact h.jobs y hy
  · rwa [List.mem_singleton.1 hy]

theorem lehr_takeSnapshot (s : State) (j : LehrJob) :
    (s.takeSnapshot j).lehr.ready = s.lehr.ready ∧ (s.takeSnapshot j).lehr.sets = s.lehr.sets := by
  unfold State.takeSnapshot
  dsimp only
  split
  · obtain ⟨ps, hps⟩ := lehrEnd_eq (s.dropJob j) j ‹_›
    rw [hps]
    exact ⟨rfl, rfl⟩
  · rw [State.advanceJob, State.modLehr, (storeBytes_keeps _ _ _).2]
    exact ⟨rfl, rfl⟩

theorem ScanEnded.takeSnapshot {s : State} (h : ScanEnded s) (j : LehrJob) : ScanEnded (s.takeSnapshot j) := by
  obtain ⟨hready, hsets⟩ := lehr_takeSnapshot s j
  refine h.congr hready hsets fun y hy => ?_
  rcases jobs_takeSnapshot s j with hjobs | ⟨k, hk, hjobs⟩
  · rw [hjobs] at hy
    exact h.jobs y (List.mem_of_mem_erase hy)
  · rw [hjobs] at hy
    obtain ⟨x, hx, rfl⟩ := List.mem_map.1 hy
    split
    · simp [hk]
    · exact h.jobs x hx

theorem ScanEnded.startSave {s : State} (h : ScanEnded s) (j : LehrJob) : ScanEnded (s.startSave j) := by
  have hdue : ScanEnded (s.addJob { j with phase := .snapDue }) := h.addJob LehrPhase.noConfusion
  unfold State.startSave
  dsimp only
  split
  · exact h.lehrEnd j 1
  split
  · exact h.lehrEnd j 6
  split
  · exact h.lehrEnd j _
  split
  · exact hdue.takeSnapshot _
  · exact hdue

theorem ScanEnded.startRestore {s : State} (h : ScanEnded s) (j : LehrJob) : ScanEnded (s.startRestore j) := by
  unfold State.startRestore
  split
  · exact h.lehrEnd j 1
  split
  · exact h.lehrEnd j 8
  split
  · exact h.lehrEnd j 6
  · exact h.addJob LehrPhase.noConfusion

theorem ScanEnded.doRelease {s : State} (h : ScanEnded s) (j : LehrJob) : ScanEnded (s.doRelease j) := by
  have hfreed : ScanEnded ((s.modSet j.set fun _ => {}).modLehr (·.dropRecords j.set)) := by
    have hset := fun i hi => lehrSet_modSet s j.set (fun _ => {}) (i := i) hi
    obtain ⟨sets, hsets⟩ := modSet_eq s j.set fun _ => {}
    rw [hsets] at hset ⊢
    refine ⟨h.ready, h.jobs, fun i hi => (congrArg LehrSet.older (hset i hi)).trans ?_⟩
    split
    · rfl
    · exact h.older i hi
  unfold State.doRelease
  split
  · exact h.lehrEnd j 1
  split
  · exact h.lehrEnd j 8
  · exact hfreed.lehrEnd j 0

theorem ScanEnded.startJob {s : State} (h : ScanEnded s) (j : LehrJob) : ScanEnded (s.startJob j) := by
  unfold State.startJob
  split
  · exact h.startSave j
  · exact h.startRestore j
  · exact h.doRelease j

theorem older_freeOlder (l : Lehr) {i : Nat} (h : i < 16) : (l.freeOlder.sets[i]).older = none := by
  simp [Lehr.freeOlder]

/-- The scan ends: the store is ready, and the commands that waited for it begin (R292). -/
theorem answers_lehrJournalScanEnd {s : State} (hboot : s.boot.ready = true) (hready : s.lehr.ready = false) :
    Answers .lehrJournalScanEnd s ScanEnded := by
  let t := s.modLehr fun l => { l.freeOlder with ready := true, jobs := l.jobs.filter fun j => j.phase != .waiting }
  have hx : exec .lehrJournalScanEnd s =
      .next ((s.lehr.jobs.filter fun j => j.phase == .waiting).foldl (fun s j => s.startJob j) t) := by
    change execLehrJournalScanEnd s = _
    rw [execLehrJournalScanEnd, hboot, hready]
    rfl
  have hscan : ScanEnded t := by
    refine ⟨rfl, fun y hy => ?_, fun i hi => ?_⟩
    · simpa using (List.mem_filter.1 hy).2
    · rw [lehrSet_eq t hi]
      exact older_freeOlder s.lehr hi
  exact ⟨_, hx, List.foldlRecOn (motive := ScanEnded) _ _ hscan fun u hu j _ => hu.startJob j⟩

end Sys2Proof.Machine

/-!
TEST and the in-field test (R470 to R472): the commands, what the end of a test leaves in memory and in the tenant's
cores, and one step of a schedule.
-/

namespace Sys2Proof.Machine

/-! ### The TEST command (R470) -/

/-- A TEST command of an action, at a device that is not Faulted, is carried out. -/
theorem test_of_taken {s : State} {p : Port} {c : Cmd} {action : Nat} (h : Taken s p c 0x0E [0xFFFF000F])
    (haction : c.field 1 0 2 = action) (hfault : s.pont.faulted = false) (f : Cmd → State) :
    s.test p action f = f c := by
  rw [State.test, command_of_taken h, if_neg (not_not_intro haction), hfault, if_neg Bool.false_ne_true]

section
variable {s : State} {p : Port} {c : Cmd}

theorem answers_testReport (h : Taken s p c 0x0E [0xFFFF000F]) (haction : c.field 1 0 2 = 0)
    (hfault : s.pont.faulted = false) :
    Answers (.testReport p) s fun u =>
      Completed s u p c 0 ((testDetail (s.schedOf p).tested (s.schedOf p).added).getD 0) :=
  ⟨_, congrArg Host.Outcome.next (test_of_taken h haction hfault _), completed_of_accepted c 0 _ rfl⟩

theorem answers_testSchedule (h : Taken s p c 0x0E [0xFFFF000F]) (haction : c.field 1 0 2 = 1)
    (hfault : s.pont.faulted = false) :
    Answers (.testSchedule p) s fun u =>
      (u.schedOf p).interval = c.field 1 16 16 ∧ (u.schedOf p).hold = (c.word 1).getLsbD 3 ∧
      (u.schedOf p).rotate = (c.word 1).getLsbD 2 ∧ Completed s u p c 0 0 := by
  let x : TestSched := { s.schedOf p with
    interval := c.field 1 16 16, hold := (c.word 1).getLsbD 3, rotate := (c.word 1).getLsbD 2, since := s.now }
  let t := (s.acceptCmd p).modSched p fun _ => x
  have hx : exec (.testSchedule p) s = .next (t.finishAsync (c.async p) 0 (some 0)) :=
    congrArg Host.Outcome.next (test_of_taken h haction hfault _)
  obtain ⟨ps, hps⟩ := finishAsync_eq t (c.async p) 0 0
  have hsched : (t.finishAsync (c.async p) 0 (some 0)).schedOf p = x := by
    rw [hps]
    exact Tab.get_put_self _ _ _ _
  refine ⟨_, hx, ?_, ?_, ?_, completed_of_accepted c 0 0 rfl⟩ <;> rw [hsched]

theorem answers_testPreservingPass (h : Taken s p c 0x0E [0xFFFF000F]) (haction : c.field 1 0 2 = 2)
    (hfault : s.pont.faulted = false) (hnap : s.inNap = false) :
    Answers (.testPreservingPass p) s fun u => u.tests = s.tests ++ [⟨c.async p, p, false, (c.word 1).getLsbD 3⟩] := by
  have hx : exec (.testPreservingPass p) s = .next (s.queueTest p c false) := by
    refine (congrArg Host.Outcome.next (test_of_taken h haction hfault _)).trans ?_
    rw [hnap, if_neg Bool.false_ne_true]
  exact ⟨_, hx, rfl⟩

theorem answers_testDestructive (h : Taken s p c 0x0E [0xFFFF000F]) (haction : c.field 1 0 2 = 3)
    (hfault : s.pont.faulted = false) (hnap : s.inNap = false) (hstop : s.isStopped p = true) :
    Answers (.testDestructive p) s fun u => u.tests = s.tests ++ [⟨c.async p, p, true, (c.word 1).getLsbD 3⟩] := by
  have hx : exec (.testDestructive p) s = .next (s.queueTest p c true) := by
    refine (congrArg Host.Outcome.next (test_of_taken h haction hfault _)).trans ?_
    rw [hnap, hstop, Bool.not_true, Bool.or_self, if_neg Bool.false_ne_true]
  exact ⟨_, hx, rfl⟩

end

/-! ### Culleting and slicing (R465, R472) -/

/-- A defect joins the cullet list, and the boot block counts it; the schedules stay. -/
theorem cullCore_eq (s : State) (cl phys : Nat) :
    ∃ list b, s.cullCore cl phys = { s with cullet := list, boot := b } ∧ b.sched = s.boot.sched := by
  have hadd : ∃ list b, s.addCullet 3 3 (cl * 36 + phys) = { s with cullet := list, boot := b } ∧
      b.sched = s.boot.sched := by
    unfold State.addCullet
    split
    · exact ⟨_, _, rfl, rfl⟩
    split <;> exact ⟨_, _, rfl, rfl⟩
  obtain ⟨list, b, hadd, hsched⟩ := hadd
  rw [State.cullCore, hadd]
  exact ⟨_, _, rfl, hsched⟩

/-- The engine of a core that an in-field test has found defective. -/
def NEngine.staled (e : NEngine) : NEngine := { e with cr := { e.cr with stale := true } }

/-- A slice that finds a defect makes its core stale, and changes the cullet list and the boot block besides. -/
theorem sliceCore_true (s : State) (k : Nat) :
    ∃ list b, s.sliceCore k true = { s with cullet := list, boot := b }.modE k NEngine.staled ∧
      b.sched = s.boot.sched := by
  obtain ⟨list, b, hcull, hsched⟩ := cullCore_eq s (k / 32) (s.physCore (k / 32) (k % 32))
  refine ⟨list, { b with staleCnt := cnt8 b.staleCnt, rotateDue := b.rotateDue ++ [k] }, ?_, hsched⟩
  rw [State.sliceCore, Bool.not_true, if_neg Bool.false_ne_true, hcull]
  rfl

theorem stale_sliceCore_self (s : State) (k : Nat) (defect : Bool) :
    ((s.sliceCore k defect).core k).e.cr.stale = (defect || (s.core k).e.cr.stale) := by
  cases defect with
  | false => rfl
  | true =>
    obtain ⟨list, b, hx, -⟩ := sliceCore_true s k
    rw [hx, core_modE_self]
    rfl

theorem stale_sliceCore_mono {s : State} {i : Nat} (k : Nat) (h : (s.core i).e.cr.stale = true) :
    ((s.sliceCore k true).core i).e.cr.stale = true := by
  by_cases hi : i = k
  · rw [hi, stale_sliceCore_self, Bool.true_or]
  · obtain ⟨list, b, hx, -⟩ := sliceCore_true s k
    rw [hx, core_modE_of_ne _ _ hi]
    exact h

theorem tests_sliceCore (s : State) (k : Nat) : (s.sliceCore k true).tests = s.tests := by
  obtain ⟨list, b, hx, -⟩ := sliceCore_true s k
  rw [hx]
  rfl

theorem sched_sliceCore (s : State) (k : Nat) (defect : Bool) : (s.sliceCore k defect).boot.sched = s.boot.sched := by
  cases defect with
  | false => rfl
  | true =>
    obtain ⟨list, b, hx, hsched⟩ := sliceCore_true s k
    rw [hx]
    exact hsched

theorem now_sliceCore (s : State) (k : Nat) (defect : Bool) : (s.sliceCore k defect).now = s.now := by
  cases defect with
  | false => rfl
  | true =>
    obtain ⟨list, b, hx, -⟩ := sliceCore_true s k
    rw [hx]
    rfl

/-! ### The hold that a test has asked for (R471) -/

theorem releaseHold_eq (s : State) (t : Tenant) :
    ∃ sh st, s.releaseHold t = { s with sh := sh, stations := st } := by
  unfold State.releaseHold
  split <;> exact ⟨_, _, rfl⟩

/-- Giving up the hold changes the Shears, the credits, and in the schedules only whether a hold is asked for. -/
theorem dropHold_eq (s : State) (t : Tenant) : ∃ sh st sched,
    s.dropHold t = { s with sh := sh, stations := st, boot := { s.boot with sched := sched } } ∧
    (Tab.get sched {} t.val).tested = (s.schedOf t).tested := by
  unfold State.dropHold
  split
  · obtain ⟨sh, st, hrel⟩ := releaseHold_eq s t
    rw [hrel]
    refine ⟨sh, st, _, rfl, ?_⟩
    rw [State.schedOf, Tab.modify, Tab.get_put_self]
  · exact ⟨_, _, _, rfl, rfl⟩

/-! ### A destructive test (R462, R470) -/

/-- The stored byte of an address is zero, and its memory is not undefined. -/
def Zeroed (a : Nat) (s : State) : Prop := Tab.get s.mem 0 a = 0 ∧ Tab.get s.coreGen 0 (genOf a) % 2 = 0

/-- A byte of a core's synapse memory that is zeroed reads as 0. -/
theorem Zeroed.readByte {s : State} {k a : Nat} (h : Zeroed (coreWindow k + a) s) (hcl : k / 32 < 32)
    (ha : a < 0x3_0000) : s.readByte (coreWindow k + a) = 0 := by
  obtain ⟨hmem, hgen⟩ := h
  obtain ⟨hlow, -, -⟩ := coreWindow_bounds hcl (show a < 0x8_0000 by omega)
  have hdeep : ¬ coreWindow k + a < deepTop := Nat.not_lt.2 (Nat.le_trans (by decide) hlow)
  rw [readByte_of_not_top _ (isTop_synapse hcl ha), State.rawByte, State.maskAt, if_neg hdeep, genMask,
    if_pos hgen, hmem]
  rfl

theorem genOf_coreWindow {k a : Nat} (hcl : k / 32 < 32) (ha : a < 0x8_0000) : genOf (coreWindow k + a) = k := by
  obtain ⟨-, hhigh, -⟩ := coreWindow_bounds hcl ha
  rw [genOf, if_pos hhigh, coreWindow]
  omega

theorem get_filter_of_keeps {V : Type} (t : Tab V) (d : V) {keeps : Nat → Bool} {a : Nat} (h : keeps a = true) :
    Tab.get (t.filter fun e => keeps e.1) d a = Tab.get t d a := by
  induction t with
  | nil => rfl
  | cons e t ih =>
    obtain ⟨i, v⟩ := e
    by_cases hi : i = a
    · subst hi
      rw [List.filter_cons_of_pos (by simpa using h)]
      rw [Tab.get, Tab.get, if_pos rfl, if_pos rfl]
    · by_cases hk : keeps i = true
      · rw [List.filter_cons_of_pos (by simpa using hk)]
        simp [Tab.get, hi, ih]
      · rw [List.filter_cons_of_neg (by simpa using hk)]
        simp [Tab.get, hi, ih]

theorem get_filter_of_drops {V : Type} (t : Tab V) (d : V) {keeps : Nat → Bool} {a : Nat} (h : keeps a = false) :
    Tab.get (t.filter fun e => keeps e.1) d a = d := by
  induction t with
  | nil => rfl
  | cons e t ih =>
    obtain ⟨i, v⟩ := e
    by_cases hk : keeps i = true
    · have hi : i ≠ a := fun heq => by simp [heq, h] at hk
      rw [List.filter_cons_of_pos (by simpa using hk)]
      simp [Tab.get, hi, ih]
    · rw [List.filter_cons_of_neg (by simpa using hk), ih]

/-- What a march of a part leaves alone: the deep tier, and the other parts. -/
def marchKeeps (part a : Nat) : Bool := decide (a < deepTop) || genOf a != part

/-- A march zeroes its part (R462). -/
theorem zeroed_zeroPart_self (s : State) {a : Nat} (ha : ¬ a < deepTop) : Zeroed a (s.zeroPart (genOf a)) := by
  constructor
  · exact get_filter_of_drops s.mem 0 (keeps := marchKeeps (genOf a)) (by simp [marchKeeps, ha])
  · have hgen : Tab.get (s.zeroPart (genOf a)).coreGen 0 (genOf a) =
        Tab.get s.coreGen 0 (genOf a) + Tab.get s.coreGen 0 (genOf a) % 2 := Tab.get_put_self _ _ _ _
    omega

/-- A march of another part leaves a zeroed byte alone. -/
theorem Zeroed.zeroPart {s : State} {a : Nat} (h : Zeroed a s) (ha : ¬ a < deepTop) (part : Nat) :
    Zeroed a (s.zeroPart part) := by
  by_cases hpart : part = genOf a
  · exact hpart ▸ zeroed_zeroPart_self s ha
  · obtain ⟨hmem, hgen⟩ := h
    constructor
    · exact (get_filter_of_keeps s.mem 0 (keeps := marchKeeps part) (by simp [marchKeeps, Ne.symm hpart])).trans hmem
    · have hget : Tab.get (s.zeroPart part).coreGen 0 (genOf a) = Tab.get s.coreGen 0 (genOf a) :=
        Tab.get_put_of_ne _ _ _ (Ne.symm hpart)
      rw [hget]
      exact hgen

/-- From s to u neither a memory nor the queue of tests changes. -/
structure KeepsMem (s u : State) : Prop where
  mem : u.mem = s.mem
  coreGen : u.coreGen = s.coreGen
  tests : u.tests = s.tests

theorem KeepsMem.trans {s t u : State} (h : KeepsMem s t) (h' : KeepsMem t u) : KeepsMem s u :=
  ⟨h'.mem.trans h.mem, h'.coreGen.trans h.coreGen, h'.tests.trans h.tests⟩

theorem KeepsMem.zeroed {s u : State} (h : KeepsMem s u) {a : Nat} (hz : Zeroed a s) : Zeroed a u := by
  rwa [Zeroed, h.mem, h.coreGen]

theorem keepsMem_cullCore (s : State) (cl phys : Nat) : KeepsMem s (s.cullCore cl phys) := by
  obtain ⟨list, b, hcull, -⟩ := cullCore_eq s cl phys
  rw [hcull]
  exact ⟨rfl, rfl, rfl⟩

theorem keepsMem_moveCore (s : State) (k : Nat) : KeepsMem s (s.moveCore k).1 := by
  unfold State.moveCore
  split <;> exact ⟨rfl, rfl, rfl⟩

theorem keepsMem_reportFault (s : State) (st origin code : Nat) (d : BitVec 40) :
    KeepsMem s (s.reportFault st origin code d) := by
  unfold State.reportFault
  dsimp only
  split <;> exact ⟨rfl, rfl, rfl⟩

/-- Of a core's memories a destructive test of it changes what the march does. -/
theorem keepsMem_destroyCore (s : State) (ds : List Nat) (k : Nat) : KeepsMem (s.zeroPart k) (s.destroyCore ds k) := by
  rw [State.destroyCore]
  dsimp only
  split
  · exact ⟨rfl, rfl, rfl⟩
  · have hcull := keepsMem_cullCore (s.zeroPart k) (k / 32) (s.physCore (k / 32) (k % 32))
    have hmove := hcull.trans (keepsMem_moveCore _ k)
    split
    · rename_i hx
      rwa [hx] at hmove
    · exact hcull.trans (keepsMem_reportFault _ _ _ _ _)

theorem Zeroed.destroyCore {s : State} {a : Nat} (h : Zeroed a s) (ha : ¬ a < deepTop) (ds : List Nat) (k : Nat) :
    Zeroed a (s.destroyCore ds k) := (keepsMem_destroyCore s ds k).zeroed (h.zeroPart ha k)

theorem zeroed_destroyCore_self (s : State) {a : Nat} (ha : ¬ a < deepTop) (ds : List Nat) :
    Zeroed a (s.destroyCore ds (genOf a)) := (keepsMem_destroyCore s ds _).zeroed (zeroed_zeroPart_self s ha)

theorem Zeroed.destroyCluster {s : State} {a : Nat} (h : Zeroed a s) (ha : ¬ a < deepTop) (c : Nat) :
    Zeroed a (s.destroyCluster c) := h.zeroPart ha (1024 + c)

/-- The memories of a tenant's cores and clusters are destroyed (R462, R470). -/
def State.destroyed (s : State) (t : Tenant) (ds : List Nat) : State :=
  (s.clustersOf t).foldl State.destroyCluster ((s.coresOf t).foldl (fun s k => s.destroyCore ds k) s)

theorem tests_destroyed (s : State) (t : Tenant) (ds : List Nat) : (s.destroyed t ds).tests = s.tests :=
  List.foldlRecOn (motive := fun u : State => u.tests = s.tests) _ _
    (List.foldlRecOn (motive := fun u : State => u.tests = s.tests) _ _ rfl fun u hu k _ =>
      (keepsMem_destroyCore u ds k).tests.trans hu)
    fun _ hu _ _ => hu

/-- Every byte of the synapse memory of a destroyed core is zero. -/
theorem zeroed_destroyed (s : State) {t : Tenant} (ds : List Nat) {k a : Nat} (hk : k ∈ s.coresOf t) (hcl : k / 32 < 32)
    (ha : a < 0x3_0000) : Zeroed (coreWindow k + a) (s.destroyed t ds) := by
  have hgen : genOf (coreWindow k + a) = k := genOf_coreWindow hcl (show a < 0x8_0000 by omega)
  have hdeep : ¬ coreWindow k + a < deepTop :=
    Nat.not_lt.2 (Nat.le_trans (by decide) (coreWindow_bounds hcl (show a < 0x8_0000 by omega)).1)
  refine List.foldlRecOn (motive := Zeroed (coreWindow k + a)) _ _ ?_ fun u hu c _ => hu.destroyCluster hdeep c
  refine foldl_of_mem hk (fun u => ?_) (fun u j _ hu => hu.destroyCore hdeep ds j) s
  have hself := zeroed_destroyCore_self u hdeep ds
  rwa [hgen] at hself

theorem div_lt_of_mem_coresOf {s : State} {t : Tenant} {k : Nat} (h : k ∈ s.coresOf t) : k / 32 < 32 := by
  obtain ⟨cl, hcl, hk⟩ := List.mem_flatMap.1 h
  rw [div_of_mem_coresIn hk]
  exact List.mem_range.1 (List.mem_filter.1 hcl).1

/-! ### The end of a test (R470) -/

/-- DETAIL of a TEST completion (R470). -/
def testWord (tested added : Nat) : Word :=
  BitVec.ofNat 32 (min 65535 tested * 2 ^ 16 + min 255 added * 256 + b2n (decide (0 < added)))

theorem testDetail_eq (tested added : Nat) : testDetail tested added = some (testWord tested added) := rfl

theorem testWord_zero (tested : Nat) : testWord tested 0 = BitVec.ofNat 32 (min 65535 tested * 2 ^ 16) := by
  simp [testWord, b2n]

/-- The state after the cores of a test have been tested. -/
def State.testedCores (s : State) (j : TestJob) (ds : List Nat) : State :=
  if j.destructive then (s.destroyed j.tenant ds).unload j.tenant else ds.foldl (fun s k => s.sliceCore k true) s

/-- A test has left the queue; the Shears, the stations and the boot block are other ones. -/
def State.withoutTest (s : State) (j : TestJob) (sh : Vector Shears 4) (st : Tab StationSt) (b : Boot) : State :=
  { s with sh := sh, stations := st, boot := b, tests := s.tests.erase j }

theorem tests_withoutTest (s : State) (j : TestJob) (sh : Vector Shears 4) (st : Tab StationSt) (b : Boot)
    (ps : Vector PortSt 4) : ({ s.withoutTest j sh st b with ports := ps } : State).tests = s.tests.erase j := rfl

/-- Once its cores have been tested, the end of a test changes the Shears, the credits and the boot block, takes the
test from the queue, and completes with the number of cores tested. -/
theorem endTest_eq (s : State) (j : TestJob) (ds : List Nat) : ∃ sh st b, s.endTest j ds =
    ((s.testedCores j ds).withoutTest j sh st b).finishAsync j.who 0
      (some (testWord (s.coresOf j.tenant).length ((s.testedCores j ds).boot.newEntries - s.boot.newEntries))) := by
  let s1 := s.testedCores j ds
  let s2 := s1.modBoot fun b => { b with tested := Tab.modifyAll b.tested 0 (s.coresOf j.tenant) fun _ _ => s.now }
  obtain ⟨sh, st, sched, hdrop, -⟩ := dropHold_eq s2 j.tenant
  have hx : s.endTest j ds =
      ({ s2.dropHold j.tenant with tests := (s2.dropHold j.tenant).tests.erase j } : State).finishAsync j.who 0
      (testDetail (s.coresOf j.tenant).length (s1.boot.newEntries - s.boot.newEntries)) := rfl
  rw [hx, hdrop, testDetail_eq]
  exact ⟨sh, st, _, rfl⟩

section
variable {s : State} {t : Tenant} {x : TestJob}

theorem tenant_of_find (h : s.tests.find? (fun y => y.tenant == t) = some x) : x.tenant = t :=
  beq_iff_eq.1 (List.find?_some (p := fun y : TestJob => y.tenant == t) h)

theorem st_unload (s : State) (t : Tenant) : ((s.unload t).tenant t).st = .unloaded := by
  rw [State.unload, tenant_modTenant_self]

/-- A preserving pass ends: its defective cores are stale (R470, R471). -/
theorem answers_testCompletion_of_preserving (ds : List CoreId)
    (hfind : s.tests.find? (fun y => y.tenant == t) = some x) (hkind : x.destructive = false)
    (htest : s.testable t = true) :
    Answers (.testCompletion t ds) s fun u =>
      u.tests = s.tests.erase x ∧ (∀ i ∈ s.defectsOf t ds, (u.core i).e.cr.stale = true) ∧
      (ds = [] → AsyncDone s u x.who (BitVec.ofNat 32 (min 65535 (s.coresOf t).length * 2 ^ 16))) := by
  have hx : exec (.testCompletion t ds) s = .next (s.endTest x (s.defectsOf t ds)) := by
    change execTestCompletion t ds s = _
    rw [execTestCompletion, hfind]
    dsimp only
    rw [hkind, if_neg Bool.false_ne_true, htest, if_pos rfl]
  have htested : s.testedCores x (s.defectsOf t ds) = (s.defectsOf t ds).foldl (fun s k => s.sliceCore k true) s := by
    rw [State.testedCores, hkind, if_neg Bool.false_ne_true]
  have htests : (s.testedCores x (s.defectsOf t ds)).tests = s.tests := by
    rw [htested]
    exact List.foldlRecOn (motive := fun u : State => u.tests = s.tests) _ _ rfl 
      fun u hu k _ => (tests_sliceCore u k).trans hu
  have hstale (i : Nat) (hi : i ∈ s.defectsOf t ds) :
      ((s.testedCores x (s.defectsOf t ds)).core i).e.cr.stale = true := by
    rw [htested]
    exact foldl_of_mem (f := fun s k => State.sliceCore s k true) (P := fun u => (u.core i).e.cr.stale = true) hi
      (fun u => (stale_sliceCore_self u i true).trans (Bool.true_or _)) (fun u k _ hu => stale_sliceCore_mono k hu) s
  obtain ⟨sh, st, b, hend⟩ := endTest_eq s x (s.defectsOf t ds)
  rw [hend] at hx
  obtain ⟨ps, hps⟩ := finishAsync_eq ((s.testedCores x (s.defectsOf t ds)).withoutTest x sh st b) x.who 0
    (testWord (s.coresOf x.tenant).length ((s.testedCores x (s.defectsOf t ds)).boot.newEntries - s.boot.newEntries))
  refine ⟨_, hx, ?_, fun i hi => ?_, fun hds => ?_⟩
  · rw [hps, tests_withoutTest, htests]
  · rw [hps]
    exact hstale i hi
  · subst hds
    have hnone : s.testedCores x (s.defectsOf t []) = s := by
      have hdefects : s.defectsOf t [] = [] := List.filter_eq_nil_iff.2 fun _ _ => Bool.false_ne_true
      rw [htested, hdefects, List.foldl_nil]
    rw [hnone, Nat.sub_self, testWord_zero, tenant_of_find hfind]
    exact asyncDone_finishAsync x.who _ rfl

/-- A destructive test ends: the tenant is Unloaded, and its synapse memories are zero (R462, R470). -/
theorem answers_testCompletion_of_destructive (ds : List CoreId)
    (hfind : s.tests.find? (fun y => y.tenant == t) = some x) (hkind : x.destructive = true)
    (hstop : s.isStopped t = true) :
    Answers (.testCompletion t ds) s fun u => u.tests = s.tests.erase x ∧ (u.tenant t).st = .unloaded ∧
      ∀ i ∈ s.coresOf t, ∀ a, a < 0x3_0000 → u.readByte (coreWindow i + a) = 0 := by
  have hx : exec (.testCompletion t ds) s = .next (s.endTest x (s.defectsOf t ds)) := by
    change execTestCompletion t ds s = _
    rw [execTestCompletion, hfind]
    dsimp only
    rw [hkind, if_pos rfl, hstop, if_pos rfl]
  have htested : s.testedCores x (s.defectsOf t ds) = (s.destroyed t (s.defectsOf t ds)).unload t := by
    rw [State.testedCores, hkind, if_pos rfl, tenant_of_find hfind]
  obtain ⟨sh, st, b, hend⟩ := endTest_eq s x (s.defectsOf t ds)
  obtain ⟨ps, hps⟩ := finishAsync_eq ((s.testedCores x (s.defectsOf t ds)).withoutTest x sh st b) x.who 0
    (testWord (s.coresOf x.tenant).length ((s.testedCores x (s.defectsOf t ds)).boot.newEntries - s.boot.newEntries))
  rw [hend, hps, htested] at hx
  refine ⟨_, hx, ?_, st_unload (s.destroyed t (s.defectsOf t ds)) t, fun i hi a ha => ?_⟩
  · rw [tests_withoutTest]
    exact congrArg (List.erase · x) (tests_destroyed s t _)
  · have hcl := div_lt_of_mem_coresOf hi
    obtain ⟨hmem, hgen⟩ := zeroed_destroyed s (s.defectsOf t ds) hi hcl ha
    exact Zeroed.readByte ⟨hmem, hgen⟩ hcl ha

end

/-! ### One step of a schedule (R471, R472) -/

/-- While no timer runs, the passing of time changes the time and the Pontil's watchdogs alone. -/
theorem passTo_of_quiet {s : State} (h : s.timersQuiet = true) (due : Nat) :
    ∃ now pont, s.passTo due = { s with now := now, pont := pont } := by
  rw [State.passTo, State.passTime, if_pos h]
  exact ⟨_, _, rfl⟩

section
variable {s : State} {t : Tenant} {k : Nat}

/-- A step on a core that is not rotated tests it by a slice, and notes it as the last. -/
theorem stepCore_of_slice (crcOk defect : Bool) (hrotate : (s.schedOf t).rotate = false) :
    ((s.stepCore t k crcOk defect).schedOf t).tested = (s.schedOf t).tested + 1 ∧
    ((s.stepCore t k crcOk defect).schedOf t).since = (s.stepCore t k crcOk defect).now ∧
    Tab.get (s.stepCore t k crcOk defect).boot.tested 0 k = (s.stepCore t k crcOk defect).now ∧
    ((s.stepCore t k crcOk defect).core k).e.cr.stale = (defect || (s.core k).e.cr.stale) := by
  let s1 := s.sliceCore k defect
  let s2 := s1.modBoot fun b => { b with tested := Tab.put b.tested 0 k s.now }
  obtain ⟨sh, st, sched, hdrop, htested⟩ := dropHold_eq s2 t
  have hx : s.stepCore t k crcOk defect = (s2.dropHold t).modSched t fun x => { x with
      since := s.now, tested := x.tested + 1, added := x.added + (s1.boot.newEntries - s.boot.newEntries) } := by
    rw [State.stepCore, hrotate, Bool.false_and, if_neg Bool.false_ne_true]
  have hnow : s1.now = s.now := now_sliceCore s k defect
  have hsched : (s2.schedOf t).tested = (s.schedOf t).tested :=
    congrArg (fun x => (Tab.get x {} t.val).tested) (sched_sliceCore s k defect)
  rw [hx, hdrop]
  refine ⟨?_, ?_, ?_, stale_sliceCore_self s k defect⟩
  · rw [← hsched, ← htested]
    exact congrArg TestSched.tested (Tab.get_put_self _ _ _ _)
  · exact (congrArg TestSched.since (Tab.get_put_self _ _ _ _)).trans hnow.symm
  · exact (Tab.get_put_self _ _ _ _).trans hnow.symm

/-- A step of a stopped tenant's schedule tests the core that has gone longest without (R471, R472). -/
theorem answers_inFieldStep (crcOk defect : Bool) (hboot : s.boot.ready = true) (hinterval : (s.schedOf t).interval ≠ 0)
    (hnap : s.inNap = false) (hquiet : s.timersQuiet = true) (hstop : s.isStopped t = true)
    (hcore : s.longestUntested t = some k) (hidle : s.engineIdle k = true) (hrotate : (s.schedOf t).rotate = false) :
    Answers (.inFieldStep t crcOk defect) s fun u =>
      (u.schedOf t).tested = (s.schedOf t).tested + 1 ∧ (u.schedOf t).since = u.now ∧
      Tab.get u.boot.tested 0 k = u.now ∧ (u.core k).e.cr.stale = (defect || (s.core k).e.cr.stale) := by
  obtain ⟨now, pont, hpass⟩ := passTo_of_quiet hquiet ((s.schedOf t).since + (s.schedOf t).interval * 250000000)
  let s1 : State := { s with now := now, pont := pont }
  have htest : s1.testable t = true := by
    have hstop1 : s1.isStopped t = true := hstop
    rw [State.testable, hstop1, Bool.true_or]
  have hcore1 : s1.longestUntested t = some k := hcore
  have hidle1 : s1.engineIdle k = true := hidle
  have hx : exec (.inFieldStep t crcOk defect) s = .next (s1.stepCore t k crcOk defect) := by
    change execInFieldStep t crcOk defect s = _
    rw [execInFieldStep]
    dsimp only
    rw [if_neg (by simp [hboot, hinterval, hnap]), hpass, htest, Bool.not_true, if_neg Bool.false_ne_true, hstop,
      Bool.not_true, Bool.false_and, if_neg Bool.false_ne_true, hcore1]
    dsimp only
    rw [hidle1, if_pos rfl]
  exact ⟨_, hx, stepCore_of_slice (s := s1) crcOk defect hrotate⟩

end

end Sys2Proof.Machine

/-!
Saves, restores and in-field tests, assembled (O40).
-/

namespace Sys2Proof.Machine

/-- Settles O40: one lemma per command and event, assembled. -/
theorem lehrAndTests : Obligations.LehrAndTests := by
  unfold Obligations.LehrAndTests
  intro s p t c j v rows x k ds olderOk crcOk defect set job mine is known len n newest saves ends apart test
  have hfits (hs : saves) (hepochs : (s.tenant p).st = .running → (s.shear p).epochLen ≠ 0) : SaveFits s p c := by
    obtain ⟨-, -, ⟨-, hmine⟩, hparison, hstaging, hblocks⟩ := hs
    exact ⟨hmine, hepochs, hparison, hstaging, hblocks⟩
  refine ⟨fun hs hstop => ?_, fun hs hrun hepochs => ?_, fun h hnap hfault ⟨hready, hmine⟩ hsome hstop => ?_,
    fun h ⟨hready, hmine⟩ hsome => ?_, fun hfree hwrite hset hmine hroom => ?_, fun hfree hset => ?_,
    fun hread hmine hnewest hrec hstop hparison hrows hall => ?_, fun hboot hready => ?_,
    fun ⟨h, haction, hfault⟩ => ?_, fun ⟨h, haction, hfault⟩ => ?_, fun ⟨h, haction, hfault⟩ hnap => ?_,
    fun ⟨h, haction, hfault⟩ hnap hstop => ?_, fun hfind hkind htest => ?_, fun hfind hkind hstop => ?_,
    fun hboot hinterval hnap hquiet hstop hcore hidle hrotate => ?_⟩
  · have hrun : (s.tenant p).st = .running → (s.shear p).epochLen ≠ 0 := fun hr => by
      simp [State.isStopped, hr] at hstop
    obtain ⟨htaken, hnap, ⟨hready, -⟩, -⟩ := id hs
    exact answers_save_of_stopped htaken hnap hready (hfits hs hrun) hstop
  · obtain ⟨htaken, hnap, ⟨hready, -⟩, -⟩ := id hs
    exact answers_save_of_running htaken hnap hready (hfits hs fun _ => hepochs) hrun
  · exact answers_restore h hnap hfault hready hmine hsome hstop
  · exact answers_release h hready hmine hsome
  · exact answers_lehrSaveDone_of_writing hfree hwrite hset hmine hroom
  · exact answers_lehrSaveDone_of_freeing hfree hset
  · exact answers_lehrRestoreDone olderOk hread hmine hnewest hrec hstop hparison hrows hall
  · obtain ⟨u, hx, hready', hjobs, holder⟩ := answers_lehrJournalScanEnd hboot hready
    exact ⟨u, hx, hready', hjobs, holder⟩
  · exact answers_testReport h haction hfault
  · exact answers_testSchedule h haction hfault
  · exact answers_testPreservingPass h haction hfault hnap
  · exact answers_testDestructive h haction hfault hnap hstop
  · exact answers_testCompletion_of_preserving ds hfind hkind htest
  · exact answers_testCompletion_of_destructive ds hfind hkind hstop
  · exact answers_inFieldStep crcOk defect hboot hinterval hnap hquiet hstop hcore hidle hrotate

end Sys2Proof.Machine

/-!
The port page (R309, R336, R337): where its registers lie, and what a write that is performed or refused leaves.
-/

namespace Sys2Proof.Machine

theorem placeOf_pageReg (p : Port) {off : Nat} (h : off < 0x1000) (h4 : off % 4 = 0) :
    placeOf (.port p) (pageReg off) = .page p off := by
  have hb : regBase = 0x400_0000_0000 := rfl
  have hin : regBase ≤ pageReg off ∧ pageReg off < regBase + 0x400_0000 := by unfold pageReg; omega
  have hal : pageReg off % 4 = 0 := by unfold pageReg; omega
  have hx : pageReg off - regBase = 0x320_0000 + off := by unfold pageReg; omega
  have hst : ¬ 0x320_0000 + off < 40 * 0x10_0000 := by omega
  have hpont : ¬ (0x300_0000 ≤ 0x320_0000 + off ∧ 0x320_0000 + off < 0x300_1000) := by omega
  have haon : ¬ (0x310_0000 ≤ 0x320_0000 + off ∧ 0x320_0000 + off < 0x310_1000) := by omega
  have hpage : 0x320_0000 ≤ 0x320_0000 + off ∧ 0x320_0000 + off < 0x320_1000 := by omega
  simp only [placeOf, if_pos hin, if_pos hal, hx, placeOff, if_neg hst, if_neg hpont, if_neg haon, if_pos hpage,
    Nat.add_sub_cancel_left]

theorem placeWrite_page {p : Port} {off : Nat} {v : Word} (hv : v &&& ~~~pageMask off = 0) (s : State) (r : Req) :
    s.placeWrite r (.page p off) v {} = s.pageWrite p off v :=
  maskedWrite_of_allowed hv s fun s v => s.pageWrite p off v

section
variable {s t : State} {p : Port} {off : Nat} {v : Word} (h : Served s (.port p)) (ho : off < 0x1000)
  (h4 : off % 4 = 0) (hv : v &&& ~~~pageMask off = 0)
include h ho h4

/-- The registers of its own page are open to a port. -/
theorem gateOf_pageReg : s.gateOf (.port p) (pageReg off) = (.ok, .page p off) := by
  have hready : s.gateReady (.port p) (.page p off) = .ok := by
    simp [State.gateReady, State.placeTenant, inD3_of_served h, asleep_of_served h]
  rw [gateOf_of_served h, placeOf_pageReg p ho h4, hready]

include hv

/-- A write of a page register sets what the register's rule says. -/
theorem cmdWrite_pageReg (hw : (s.carried (.port p) stHost).pageWrite p off v = (t, true)) :
    s.cmdWrite (.port p) (pageReg off) v = t.reply (.port p) true 0 :=
  cmdWrite_of_done h (gateOf_pageReg h ho h4) ((placeWrite_page hv ..).trans hw)

/-- A write of a page register that changes the port alone. -/
theorem cmdWrite_pageReg_modPort {f : PortSt → PortSt} (hw : (s.carried (.port p) stHost).pageWrite p off v =
    ((s.carried (.port p) stHost).modPort p f, true)) :
    (s.cmdWrite (.port p) (pageReg off) v).port p = f (s.port p) ∧
      Replied (s.cmdWrite (.port p) (pageReg off) v) (.port p) 0 := by
  rw [cmdWrite_pageReg h ho h4 hv hw, port_reply, port_modPort_self, port_carried]
  exact ⟨rfl, replies_reply ..⟩

/-- A write that its page register refuses is recorded and logged (R307, R337). -/
theorem cmdWrite_pageReg_of_refused (hw : (s.carried (.port p) stHost).pageWrite p off v = (t, false)) :
    ∃ bar off', s.cmdWrite (.port p) (pageReg off) v = (t.refusedWrite p bar off').reply (.port p) false 0 := by
  have hreg : s.regWrite (.port p) (pageReg off) v = (t, false) := by
    simp only [State.regWrite, gateOf_pageReg h ho h4, linkSeen_of_served h, viaThread_of_served h]
    exact (placeWrite_page hv ..).trans hw
  rw [cmdWrite_port_of_refused (answering_of_served h) hreg, gateOf_pageReg h ho h4]
  exact ⟨_, _, rfl⟩

end

/-- What a refused write leaves of the port beside what records it. -/
theorem port_refusedWrite (s : State) (p : Port) (bar off : Nat) : ∃ cfg errLo errHi pba irqs,
    (s.refusedWrite p bar off).port p = { s.port p with
      pwerr := true, cfg := cfg, errLo := errLo, errHi := errHi, pba := pba, irqs := irqs } := by
  rw [State.refusedWrite, State.raiseIrq, port_modPort_self, port_modPort_self, State.logAer, port_modPort_self]
  unfold PortSt.raise
  split
  · exact ⟨_, _, _, _, _, rfl⟩
  · split <;> exact ⟨_, _, _, _, _, rfl⟩

end Sys2Proof.Machine

/-!
The command ring (R313, R316 to R318, R337).
-/

namespace Sys2Proof.Machine

/-- The port after its current command has ended in its completion, with DETAIL d (R317). -/
def PortSt.ended (x : PortSt) (c : Cmd) (status : Nat) (d : Word) : PortSt :=
  { x with
    fetched := x.fetched.tail
    cmdHead := x.cmdHead + 1
    waiting := false
    recs := x.recs ++ [.completion c.opcode status d c.tag c.counter c.irq] }

theorem port_finish {s : State} {p : Port} {c : Cmd} {cs : List Cmd} (hf : (s.port p).fetched = c :: cs) (status : Nat)
    (d : Option Word) : ∃ w, (s.finish p status d).port p = (s.port p).ended c status w ∧ ∀ x, d = some x → w = x := by
  unfold State.finish
  rw [hf]
  cases d with
  | none =>
    refine ⟨(s.acceptCmd p).free, ?_, by simp⟩
    simp only [State.detail, State.completion, port_modPort_self]
    rw [show (s.acceptCmd p).spend.port p = (s.acceptCmd p).port p from rfl, State.acceptCmd, port_modPort_self]
    simp only [PortSt.ended, hf]
  | some x =>
    refine ⟨x, ?_, by simp⟩
    simp only [State.detail, State.completion, port_modPort_self, State.acceptCmd, PortSt.ended, hf]

theorem port_finish_of_ne (s : State) {p q : Port} (status : Nat) (d : Option Word) (h : q ≠ p) :
    (s.finish p status d).port q = s.port q := by
  unfold State.finish
  cases (s.port p).fetched with
  | nil => rfl
  | cons c cs =>
    have haccept : (s.acceptCmd p).port q = s.port q := port_modPort_of_ne _ _ h
    cases d <;> simp only [State.detail, State.completion, port_modPort_of_ne _ _ h] <;> exact haccept

/-! ### Registers of the ring -/

section
variable {s : State} {p : Port} {v : Word} (h : Served s (.port p))
include h

theorem answers_cmdTailWrite : Answers (.cmdTailWrite p v) s fun u =>
    if (v - (s.port p).cmdHead).toNat ≤ 2 ^ (s.port p).cmdSize then
      u.port p = { s.port p with cmdTail := v } ∧ Replied u (.port p) 0
    else (u.port p).cmdTail = (s.port p).cmdTail ∧ (u.port p).pwerr = true ∧ Rejected u (.port p) := by
  refine ⟨s.cmdWrite (.port p) (pageReg 0x02C) v, rfl, ?_⟩
  dsimp only
  have hv : v &&& ~~~pageMask 0x02C = 0 := BitVec.and_zero
  split
  · next hle => exact cmdWrite_pageReg_modPort h (by decide) rfl hv (if_pos (decide_eq_true hle))
  · next hgt =>
    obtain ⟨bar, off, hu⟩ := cmdWrite_pageReg_of_refused (off := 0x02C) h (by decide) rfl hv
      (if_neg (mt of_decide_eq_true hgt))
    obtain ⟨cfg, errLo, errHi, pba, irqs, hport⟩ := port_refusedWrite (s.carried (.port p) stHost) p bar off
    rw [hu, port_reply, hport, port_carried]
    exact ⟨rfl, rfl, rejected_reply ..⟩

theorem answers_cmdResume : Answers (.cmdResume p) s fun u =>
    u.port p = { s.port p with cmdHalt := false } ∧ Replied u (.port p) 0 :=
  ⟨s.cmdWrite (.port p) (pageReg 0x034) 1, rfl,
    cmdWrite_pageReg_modPort (off := 0x034) (v := 1) (f := fun x => { x with cmdHalt := false }) h (by decide) rfl
      (by decide) rfl⟩

theorem answers_cmdAbort {c : Cmd} {cs : List Cmd} (hwait : (s.port p).waiting = true)
    (hf : (s.port p).fetched = c :: cs) : Answers (.cmdAbort p) s fun u =>
      (∃ w, u.port p = (s.port p).ended c 6 w) ∧ Replied u (.port p) 0 := by
  have hctrl : (s.carried (.port p) stHost).cmdCtrl p 2 = (s.carried (.port p) stHost).finish p 6 := if_pos hwait
  have hu : s.cmdWrite (.port p) (pageReg 0x034) 2 = ((s.carried (.port p) stHost).finish p 6).reply (.port p) true 0 :=
    cmdWrite_pageReg (off := 0x034) h (by decide) rfl (by decide) (congrArg (·, true) hctrl)
  obtain ⟨w, hw, -⟩ := port_finish (s := s.carried (.port p) stHost) hf 6 none
  exact ⟨_, congrArg Host.Outcome.next hu, ⟨w, (port_reply ..).trans hw⟩, replies_reply ..⟩

theorem answers_cmdCfgWrite_of_enable (hv : v &&& 0x7FFFFFF0 = 0) (hen : v.msb = true) (hoff : (s.port p).cmdEn = false)
    (hlo : 4 ≤ v.toNat % 16) (hhi : v.toNat % 16 ≤ 12) : Answers (.cmdCfgWrite p v) s fun u =>
      u.port p = { s.port p with
        cmdEn := true, cmdSize := v.toNat % 16, cmdHead := 0, cmdTail := 0, cmdHalt := false } ∧
      Replied u (.port p) 0 := by
  refine ⟨s.cmdWrite (.port p) (pageReg 0x028) v, rfl, cmdWrite_pageReg_modPort (off := 0x028) (f := fun x =>
    { x with cmdEn := true, cmdSize := v.toNat % 16, cmdHead := 0, cmdTail := 0, cmdHalt := false })
    h (by decide) rfl hv ?_⟩
  have hsize : bitsOf v.toNat 0 4 = v.toNat % 16 := by simp [bitsOf]
  simp [State.pageWrite, State.cmdCfgSet, hsize, hen, hoff, Nat.not_lt.mpr hlo, Nat.not_lt.mpr hhi, wrOk]

theorem answers_cmdCfgWrite_of_disable (hv : v &&& 0x7FFFFFF0 = 0) (hoff : v.msb = false)
    (hen : (s.port p).cmdEn = true) (hsame : v.toNat % 16 = (s.port p).cmdSize) (hlo : 4 ≤ (s.port p).cmdSize)
    (hhi : (s.port p).cmdSize ≤ 12)
    (hbusy : s.cmdBusy p = false) : Answers (.cmdCfgWrite p v) s fun u =>
      u.port p = { s.port p with cmdEn := false, fetched := [] } ∧ Replied u (.port p) 0 := by
  have hsize : bitsOf v.toNat 0 4 = (s.port p).cmdSize := by simpa [bitsOf] using hsame
  have hwait : (s.port p).waiting = false := by
    simp only [State.cmdBusy, Bool.or_eq_false_iff] at hbusy
    exact hbusy.1.1.1
  have hset : (s.carried (.port p) stHost).pageWrite p 0x028 v =
      (((s.carried (.port p) stHost).dropFetched p).modPort p fun x => { x with cmdEn := false }, true) := by
    simp [State.pageWrite, State.cmdCfgSet, State.abortWait, hsize, hen, hoff, Nat.not_lt.mpr hlo, Nat.not_lt.mpr hhi,
      hwait, wrOk]
  have hdrop : ((s.carried (.port p) stHost).dropFetched p).port p = { s.port p with fetched := [] } := by
    have hbusy' : (s.carried (.port p) stHost).cmdBusy p = false := hbusy
    rw [State.dropFetched, port_modPort_self, port_carried, hbusy']
    rfl
  refine ⟨s.cmdWrite (.port p) (pageReg 0x028) v, rfl, ?_⟩
  dsimp only
  rw [cmdWrite_pageReg h (by decide) rfl hv hset, port_reply, port_modPort_self, hdrop]
  exact ⟨rfl, replies_reply ..⟩

end

/-! ### Fetches -/

section
variable {s : State} {p : Port} (h : s.mayFetch p = true)
include h

theorem fetched_of_mayFetch : (s.port p).fetched = [] := by
  simp only [State.mayFetch, Bool.and_eq_true] at h
  exact List.isEmpty_iff.mp h.1.1.1.1.2

theorem curCmd_of_mayFetch : s.curCmd p = none := by
  simp [State.curCmd, fetched_of_mayFetch h]

theorem exec_cmdFetch_some (es : List (List (BitVec 64))) :
    exec (.cmdFetch p (some es)) s = .next (s.takeEntries p es) := by
  change execCmdFetch p (some es) s = _
  simp [execCmdFetch, curCmd_of_mayFetch h, h]

theorem exec_cmdFetch_none : exec (.cmdFetch p none) s = .next (s.fetchFails p) := by
  change execCmdFetch p none s = _
  simp [execCmdFetch, curCmd_of_mayFetch h]

end

theorem length_fetched_takeEntries (s : State) (p : Port) (es : List (List (BitVec 64))) :
    ((s.takeEntries p es).port p).fetched.length =
      min es.length (min 8 ((s.port p).cmdTail - (s.port p).cmdHead).toNat) := by
  simp [State.takeEntries, Nat.min_comm]

theorem fetched_takeEntries_getElem {s : State} {p : Port} {es : List (List (BitVec 64))} {i : Nat} {e : Cmd}
    (h : ((s.takeEntries p es).port p).fetched[i]? = some e) :
    e.words = (es.getD i []).take 8 ∧ e.counter = (s.port p).cmdHead + BitVec.ofNat 32 i := by
  rw [State.takeEntries, port_modPort_self, List.getElem?_mapIdx, Option.map_eq_some_iff] at h
  obtain ⟨ws, hws, rfl⟩ := h
  rw [List.getElem?_take, Option.ite_none_right_eq_some] at hws
  exact ⟨by rw [List.getD_eq_getElem?_getD, hws.2, Option.getD_some], rfl⟩

theorem port_spend (s : State) (p : Port) : s.spend.port p = s.port p := rfl

theorem port_note (s : State) (p : Port) (code : Nat) :
    (s.note p code).port p = { s.port p with recs := (s.port p).recs ++ [.note code (s.spend.free ++ s.free)] } := by
  rw [State.note, port_modPort_self, port_spend, port_spend]

/-- A read error halts the ring and brings no command (R318). -/
theorem port_fetchFails {s : State} {p : Port} (h : s.mayFetch p = true) :
    ∃ w, (s.fetchFails p).port p = { s.port p with cmdHalt := true, recs := (s.port p).recs ++ [.note 2 w] } := by
  rw [State.fetchFails, if_pos h, port_note, port_modPort_self]
  exact ⟨_, rfl⟩

/-- A command of no opcode ends with status 1 (R317). -/
theorem exec_cmdFetch_of_unknown {s : State} {p : Port} {c : Cmd} (hcur : s.curCmd p = some c) (hop : 0x0E < c.opcode)
    (es : Option (List (List (BitVec 64)))) : exec (.cmdFetch p es) s = .next (s.finish p 1) := by
  change execCmdFetch p es s = _
  simp [execCmdFetch, hcur, show knownOpcode c.opcode = false from decide_eq_false (Nat.not_le.mpr hop)]

theorem PortSt.ended_leaves {x y : PortSt} {c : Cmd} {cs : List Cmd} {status : Nat} {w : Word}
    (h : y = x.ended c status w) (hf : x.fetched = c :: cs) : y.fetched = cs ∧ y.cmdHead = x.cmdHead + 1 ∧
      ∃ d, y.recs = x.recs ++ [.completion c.opcode status d c.tag c.counter c.irq] := by
  subst h
  exact ⟨congrArg List.tail hf, rfl, w, rfl⟩

/-- Settles O36: each register is followed from its address to what it sets, and a fetch finds no command before it. -/
theorem commandRing : Obligations.CommandRing := by
  intro s p v es c cs
  refine ⟨fun h => ⟨answers_cmdTailWrite h, answers_cmdResume h, fun hwait hf => ?_, answers_cmdCfgWrite_of_enable h,
    answers_cmdCfgWrite_of_disable h⟩, fun h => ?_, fun h => ?_, fun h => ?_, fun hcur hf hop => ?_⟩
  · refine (answers_cmdAbort h hwait hf).imp ?_
    rintro u ⟨⟨w, hu⟩, hreply⟩
    exact ⟨PortSt.ended_leaves hu hf, congrArg PortSt.waiting hu, hreply⟩
  · exact ⟨_, exec_cmdFetch_some h es, length_fetched_takeEntries s p es, fun i e => fetched_takeEntries_getElem⟩
  · exact ⟨_, exec_cmdFetch_some h es, congrArg PortSt.fetchAt (port_modPort_self ..)⟩
  · obtain ⟨w, hw⟩ := port_fetchFails h
    exact ⟨_, exec_cmdFetch_none h, congrArg PortSt.cmdHalt hw,
      (congrArg PortSt.fetched hw).trans (fetched_of_mayFetch h)⟩
  · obtain ⟨w, hw, -⟩ := port_finish hf 1 none
    exact ⟨_, exec_cmdFetch_of_unknown hcur hop _, PortSt.ended_leaves hw hf⟩

end Sys2Proof.Machine

/-!
The event ring (R319 to R325): host memory after the device has written to it, records that are placed, dropped or
preceded by a filler, and the open EVENTS record.
-/

namespace Sys2Proof.Machine

/-! ### Host memory -/

/-- A table after a run of keys has been written. -/
theorem get_foldl_put_range {V : Type} [DecidableEq V] (t : Tab V) (d : V) (a n : Nat) (f : Nat → V) (k : Nat) :
    Tab.get ((List.range n).foldl (fun m i => Tab.put m d (a + i) (f i)) t) d k =
      if a ≤ k ∧ k < a + n then f (k - a) else Tab.get t d k := by
  induction n with
  | zero => rw [if_neg (by omega)]; rfl
  | succ n ih =>
    rw [List.range_succ, List.foldl_append, List.foldl_cons, List.foldl_nil, Tab.get_put, ih]
    by_cases hk : k = a + n
    · rw [if_pos hk, if_pos (by omega), hk, Nat.add_sub_cancel_left]
    · have hiff : (a ≤ k ∧ k < a + n) ↔ (a ≤ k ∧ k < a + (n + 1)) := by omega
      rw [if_neg hk, if_congr hiff rfl rfl]

/-- Host memory after a write: the bytes where they were written, and all else as before. -/
theorem get_hostStore (s : State) (p : Port) (a : Nat) (bs : List Byte) (k : Nat) :
    Tab.get (s.hostStore p a bs).hostMem 0 k =
      if p.val * 2 ^ 64 + a ≤ k ∧ k < p.val * 2 ^ 64 + a + bs.length then bs.getD (k - (p.val * 2 ^ 64 + a)) 0
      else Tab.get s.hostMem 0 k :=
  get_foldl_put_range s.hostMem 0 (p.val * 2 ^ 64 + a) bs.length (fun i => bs.getD i 0) k

theorem get_hostStore_self (s : State) (p : Port) (a : Nat) {bs : List Byte} {i : Nat} (hi : i < bs.length) :
    Tab.get (s.hostStore p a bs).hostMem 0 (p.val * 2 ^ 64 + a + i) = bs.getD i 0 := by
  rw [get_hostStore, if_pos (by omega), Nat.add_sub_cancel_left]

theorem get_hostStore_of_apart (s : State) (p : Port) {a c : Nat} {bs : List Byte} (h : c < a ∨ a + bs.length ≤ c) :
    Tab.get (s.hostStore p a bs).hostMem 0 (p.val * 2 ^ 64 + c) = Tab.get s.hostMem 0 (p.val * 2 ^ 64 + c) := by
  rw [get_hostStore, if_neg (by omega)]

theorem port_hostStore (s : State) (p : Port) (a : Nat) (bs : List Byte) (q : Port) :
    (s.hostStore p a bs).port q = s.port q := rfl

/-! ### Words as bytes -/

theorem getD_leBytes (k n : Nat) {i : Nat} (hi : i < k) :
    (leBytes k n).getD i 0 = BitVec.ofNat 8 (n / 2 ^ (8 * i)) := by
  induction k generalizing n i with
  | zero => omega
  | succ k ih =>
    cases i with
    | zero => simp [leBytes]
    | succ i =>
      have hpow : 2 ^ (8 * (i + 1)) = 256 * 2 ^ (8 * i) := by rw [Nat.mul_add, Nat.pow_add, Nat.mul_comm]
      rw [leBytes, List.getD_cons_succ, ih _ (by omega), Nat.div_div_eq_div_mul, hpow]

theorem length_flatMap_leBytes (ws : List Nat) : (ws.flatMap (leBytes 8)).length = 8 * ws.length := by
  induction ws with
  | nil => rfl
  | cons w ws ih => rw [List.flatMap_cons, List.length_append, length_leBytes, ih, List.length_cons]; omega

/-- The words of a record lie in memory least significant byte first (R320). -/
theorem getD_flatMap_leBytes (ws : List Nat) {i : Nat} (hi : i < 8 * ws.length) :
    (ws.flatMap (leBytes 8)).getD i 0 = BitVec.ofNat 8 (ws.getD (i / 8) 0 / 2 ^ (8 * (i % 8))) := by
  induction ws generalizing i with
  | nil => simp at hi
  | cons w ws ih =>
    rw [List.flatMap_cons]
    by_cases h8 : i < 8
    · rw [List.getD_append _ _ _ _ (by rwa [length_leBytes]), getD_leBytes 8 w h8, Nat.div_eq_of_lt h8,
        Nat.mod_eq_of_lt h8, List.getD_cons_zero]
    · have hq : i / 8 = (i - 8) / 8 + 1 := by omega
      have hr : i % 8 = (i - 8) % 8 := by omega
      rw [List.getD_append_right _ _ _ _ (by rw [length_leBytes]; omega), length_leBytes,
        ih (by rw [List.length_cons] at hi; omega), hq, hr, List.getD_cons_succ]

/-! ### Registers of the ring -/

section
variable {s : State} {p : Port} {v : Word} (h : Served s (.port p))
include h

theorem answers_evHeadWrite : Answers (.evHeadWrite p v) s fun u =>
    if (v - (s.port p).evHead).toNat ≤ ((s.port p).evTail - (s.port p).evHead).toNat then
      u.port p = { s.port p with evHead := v } ∧ Replied u (.port p) 0
    else (u.port p).evHead = (s.port p).evHead ∧ (u.port p).pwerr = true ∧ Rejected u (.port p) := by
  refine ⟨s.cmdWrite (.port p) (pageReg 0x04C) v, rfl, ?_⟩
  dsimp only
  have hv : v &&& ~~~pageMask 0x04C = 0 := BitVec.and_zero
  split
  · next hle => exact cmdWrite_pageReg_modPort h (by decide) rfl hv (if_pos (decide_eq_true hle))
  · next hgt =>
    obtain ⟨bar, off, hu⟩ := cmdWrite_pageReg_of_refused (off := 0x04C) h (by decide) rfl hv
      (if_neg (mt of_decide_eq_true hgt))
    obtain ⟨cfg, errLo, errHi, pba, irqs, hport⟩ := port_refusedWrite (s.carried (.port p) stHost) p bar off
    rw [hu, port_reply, hport, port_carried]
    exact ⟨rfl, rfl, rejected_reply ..⟩

theorem answers_evCfgWrite_of_enable (hv : v &&& 0x7000FFE0 = 0) (hen : v.msb = true) (hoff : (s.port p).evEn = false)
    (hlo : 9 ≤ v.toNat % 32) (hhi : v.toNat % 32 ≤ 21) (hmin : bitsOf v.toNat 16 12 ≠ 0)
    (hmax : bitsOf v.toNat 16 12 ≠ 4095) : Answers (.evCfgWrite p v) s fun u =>
      u.port p = { s.port p with
        evEn := true, evSize := v.toNat % 32, evMaxn := bitsOf v.toNat 16 12, evHead := 0, evTail := 0, seq := 0 } ∧
      Replied u (.port p) 0 := by
  refine ⟨s.cmdWrite (.port p) (pageReg 0x048) v, rfl, cmdWrite_pageReg_modPort (off := 0x048) (f := fun x =>
    { x with evEn := true, evSize := v.toNat % 32, evMaxn := bitsOf v.toNat 16 12, evHead := 0, evTail := 0, seq := 0 })
    h (by decide) rfl hv ?_⟩
  have hsize : bitsOf v.toNat 0 5 = v.toNat % 32 := by simp [bitsOf]
  have hpage : (s.carried (.port p) stHost).pageWrite p 0x048 v = (s.carried (.port p) stHost).evCfgSet p v := rfl
  rw [hpage, State.evCfgSet, if_neg (by rw [hsize, port_carried, hoff]; simp; omega), wrOk, Prod.mk.injEq, hsize, hen]
  refine ⟨?_, rfl⟩
  rw [State.modPort, State.modPort, show (s.carried (.port p) stHost).ports[p.val] = s.port p from rfl]
  simp [hoff]

end

/-! ### Records -/

/-- Two states of a port differ in no more than its signalled and pending vectors and their moderation (R325). -/
def PortSt.SameButIrqs (x y : PortSt) : Prop :=
  { y with pba := x.pba, irqs := x.irqs, modCount := x.modCount, modSince := x.modSince } = x

theorem PortSt.SameButIrqs.refl (x : PortSt) : x.SameButIrqs x := rfl

theorem PortSt.SameButIrqs.raise {x y : PortSt} (h : x.SameButIrqs y) (v : Nat) : x.SameButIrqs (y.raise v) := by
  unfold PortSt.raise
  split
  · exact h
  · split <;> exact h

theorem PortSt.SameButIrqs.moderate {x : PortSt} {s : State} {p : Port} (h : x.SameButIrqs (s.port p)) :
    x.SameButIrqs ((s.moderate p).port p) := by
  unfold State.moderate
  dsimp only
  split
  · rw [State.raiseMod, port_modPort_self, State.raiseIrq, port_modPort_self]
    exact h.raise 2
  · rw [port_modPort_self]
    exact h

theorem hostMem_moderate (s : State) (p : Port) : (s.moderate p).hostMem = s.hostMem := by
  unfold State.moderate
  dsimp only
  split <;> rfl

theorem raise_of_canSend {x : PortSt} {v : Nat} (h : x.canSend v = true) :
    x.raise v = { x with irqs := Tab.modify x.irqs 0 v (· + 1) } := by
  rw [PortSt.raise, if_pos h]

/-- A port after record r has been written at the tail (R323). -/
def PortSt.placed (x : PortSt) (r : RecBody) : PortSt :=
  { x with evTail := x.evTail + BitVec.ofNat 32 r.len, recs := x.recs.tail, seq := x.seq + 1 }

section
variable (s : State) (p : Port)

theorem port_ringPut (ws : List Nat) (n : Nat) : (s.ringPut p ws n).port p =
    { s.port p with evTail := (s.port p).evTail + BitVec.ofNat 32 n } := by
  rw [State.ringPut, port_modPort_self, port_hostStore, port_hostStore]

/-- Where the tail of an event ring lies in host memory (R319, R323). -/
def State.evSpot : Nat := (s.port p).evBase.toNat + 8 * ((s.port p).evTail.toNat % 2 ^ (s.port p).evSize)

/-- The words of a record stand at the tail, least significant byte first, where the write-back of the tail leaves
them (R323, R324). -/
theorem get_ringPut_words (ws : List Nat) (n : Nat) (hapart : s.evSpot p + 8 * ws.length ≤ (s.port p).evWb.toNat ∨
    (s.port p).evWb.toNat + 8 ≤ s.evSpot p) {i : Nat} (hi : i < 8 * ws.length) :
    Tab.get (s.ringPut p ws n).hostMem 0 (p.val * 2 ^ 64 + s.evSpot p + i) =
      BitVec.ofNat 8 (ws.getD (i / 8) 0 / 2 ^ (8 * (i % 8))) := by
  rw [State.ringPut, hostMem_modPort, Nat.add_assoc, get_hostStore_of_apart _ _ (by rw [length_leBytes]; omega),
    ← Nat.add_assoc]
  exact (get_hostStore_self _ _ _ (by rwa [length_flatMap_leBytes])).trans (getD_flatMap_leBytes ws hi)

/-- The tail is written back (R324). -/
theorem get_ringPut_tail (ws : List Nat) (n : Nat) {i : Nat} (hi : i < 8) :
    Tab.get (s.ringPut p ws n).hostMem 0 (p.val * 2 ^ 64 + (s.port p).evWb.toNat + i) =
      BitVec.ofNat 8 (((s.port p).evTail + BitVec.ofNat 32 n).toNat / 2 ^ (8 * i)) := by
  rw [State.ringPut, hostMem_modPort]
  exact (get_hostStore_self _ _ _ (by rwa [length_leBytes])).trans (getD_leBytes 8 _ hi)

theorem port_placeRecord (r : RecBody) : ((s.port p).placed r).SameButIrqs ((s.placeRecord p r).port p) := by
  have hput : (((s.ringPut p (r.words (s.port p).seq) r.len).modPort p fun x =>
      { x with recs := x.recs.tail, seq := x.seq + 1 }).port p) = (s.port p).placed r := by
    rw [port_modPort_self, port_ringPut, PortSt.placed]
  refine PortSt.SameButIrqs.moderate ?_
  cases r.vector with
  | none => exact hput ▸ PortSt.SameButIrqs.refl _
  | some v =>
    dsimp only
    rw [State.raiseIrq, port_modPort_self, hput]
    exact (PortSt.SameButIrqs.refl _).raise v

theorem hostMem_placeRecord (r : RecBody) :
    (s.placeRecord p r).hostMem = (s.ringPut p (r.words (s.port p).seq) r.len).hostMem := by
  refine (hostMem_moderate ..).trans ?_
  cases r.vector with
  | none => exact hostMem_modPort ..
  | some v => exact (hostMem_modPort ..).trans (hostMem_modPort ..)

end

theorem RecBody.len_pos (r : RecBody) : 0 < r.len := by
  cases r <;> simp [RecBody.len]

section
variable {s : State} {p : Port} {r : RecBody}

theorem tryRecord_of_fits (hend : r.len ≤ (s.port p).evEnd) (hfree : r.len ≤ (s.port p).evFree) :
    s.tryRecord p r = s.placeRecord p r := by
  have hsize : ¬ 2 ^ (s.port p).evSize < r.len := Nat.not_lt.mpr (hend.trans (Nat.sub_le ..))
  rw [State.tryRecord]
  simp only [if_neg hsize, if_pos hend, if_pos hfree]

theorem tryRecord_of_long (h : 2 ^ (s.port p).evSize < r.len) : s.tryRecord p r = s.dropRecord p r := by
  rw [State.tryRecord, if_pos h]

/-- The state after the filler that reaches the end of the ring (R323 step 3). -/
def State.filled (s : State) (p : Port) : State :=
  s.ringPut p [(if (s.port p).evEnd ≤ 4095 then (s.port p).evEnd else 0) * 2 ^ 48] (s.port p).evEnd

theorem tryRecord_of_filler (hlen : r.len ≤ 2 ^ (s.port p).evSize) (hend : (s.port p).evEnd < r.len)
    (hfree : (s.port p).evEnd ≤ (s.port p).evFree) : s.tryRecord p r =
      if r.len ≤ ((s.filled p).port p).evFree then (s.filled p).placeRecord p r else s.filled p := by
  rw [State.tryRecord]
  simp only [if_neg (Nat.not_lt.mpr hlen), if_neg (Nat.not_le.mpr hend), if_pos hfree]
  rfl

/-- A filler takes the words up to the end of the ring from the free ones. -/
theorem evFree_filled (hsize : (s.port p).evSize ≤ 21) (hfree : (s.port p).evEnd ≤ (s.port p).evFree) :
    ((s.filled p).port p).evFree = (s.port p).evFree - (s.port p).evEnd := by
  have hpow : 2 ^ (s.port p).evSize ≤ 2 ^ 21 := Nat.pow_le_pow_right (by decide) hsize
  have hpos : 0 < (s.port p).evEnd := Nat.sub_pos_of_lt (Nat.mod_lt _ (Nat.two_pow_pos _))
  have hused : ((s.port p).evTail + BitVec.ofNat 32 (s.port p).evEnd - (s.port p).evHead).toNat =
      ((s.port p).evTail - (s.port p).evHead).toNat + (s.port p).evEnd := by
    have hcomm : (s.port p).evTail + BitVec.ofNat 32 (s.port p).evEnd - (s.port p).evHead =
        ((s.port p).evTail - (s.port p).evHead) + BitVec.ofNat 32 (s.port p).evEnd := by
      rw [BitVec.sub_eq_add_neg, BitVec.sub_eq_add_neg, BitVec.add_assoc, BitVec.add_assoc,
        BitVec.add_comm (BitVec.ofNat ..)]
    have hlt : ((s.port p).evTail - (s.port p).evHead).toNat + (s.port p).evEnd < 2 ^ 32 := by
      unfold PortSt.evFree at hfree
      omega
    rw [hcomm, BitVec.toNat_add, BitVec.toNat_ofNat, Nat.mod_eq_of_lt (a := (s.port p).evEnd) (by omega),
      Nat.mod_eq_of_lt hlt]
  rw [State.filled, port_ringPut]
  unfold PortSt.evFree
  dsimp only
  rw [hused]
  omega

end

/-! ### EVENT_RECORD_WRITE -/

section
variable {s : State} {p : Port} {r : RecBody} {rs : List RecBody} (hen : (s.port p).evEn = true) (haon : s.aon.st < 3)
  (hrecs : (s.port p).recs = r :: rs)
include hen haon hrecs

theorem exec_eventRecordWrite : exec (.eventRecordWrite p) s = .next (s.tryRecord p r) := by
  change execEventRecordWrite p s = _
  simp [execEventRecordWrite, hrecs, hen, haon]

theorem answers_eventRecordWrite_of_fits (hend : r.len ≤ (s.port p).evEnd) (hfree : r.len ≤ (s.port p).evFree) :
    Answers (.eventRecordWrite p) s fun u => ((s.port p).placed r).SameButIrqs (u.port p) ∧
      u.hostMem = (s.ringPut p (r.words (s.port p).seq) r.len).hostMem :=
  ⟨_, (exec_eventRecordWrite hen haon hrecs).trans (congrArg Host.Outcome.next (tryRecord_of_fits hend hfree)),
    port_placeRecord s p r, hostMem_placeRecord s p r⟩

/-- A record that does not fit before the end of the ring follows a filler, where the ring has space for both (R323). -/
theorem answers_eventRecordWrite_of_filler (hsize : (s.port p).evSize ≤ 21) (hlen : r.len ≤ 2 ^ (s.port p).evSize)
    (hend : (s.port p).evEnd < r.len) (hfree : (s.port p).evEnd ≤ (s.port p).evFree) :
    Answers (.eventRecordWrite p) s fun u =>
      if (s.port p).evEnd + r.len ≤ (s.port p).evFree then
        (u.port p).recs = rs ∧ (u.port p).seq = (s.port p).seq + 1 ∧
          (u.port p).evTail = (s.port p).evTail + BitVec.ofNat 32 ((s.port p).evEnd + r.len)
      else (u.port p).recs = (s.port p).recs ∧ (u.port p).seq = (s.port p).seq ∧
        (u.port p).evTail = (s.port p).evTail + BitVec.ofNat 32 (s.port p).evEnd := by
  have hfilled : (s.filled p).port p =
      { s.port p with evTail := (s.port p).evTail + BitVec.ofNat 32 (s.port p).evEnd } := port_ringPut ..
  refine ⟨_, exec_eventRecordWrite hen haon hrecs, ?_⟩
  dsimp only
  rw [tryRecord_of_filler hlen hend hfree, evFree_filled hsize hfree]
  by_cases hboth : (s.port p).evEnd + r.len ≤ (s.port p).evFree
  · rw [if_pos hboth, if_pos (by omega)]
    have hplaced := port_placeRecord (s.filled p) p r
    rw [hfilled] at hplaced
    refine ⟨(congrArg PortSt.recs hplaced).trans (congrArg List.tail hrecs), congrArg PortSt.seq hplaced,
      (congrArg PortSt.evTail hplaced).trans ?_⟩
    rw [BitVec.ofNat_add, ← BitVec.add_assoc]
    rfl
  · rw [if_neg hboth, if_neg (by omega), hfilled]
    exact ⟨rfl, rfl, rfl⟩

/-- A record longer than the ring is dropped (R323 step 1). -/
theorem answers_eventRecordWrite_of_long (hlen : 2 ^ (s.port p).evSize < r.len) :
    Answers (.eventRecordWrite p) s fun u => (u.port p).recs = rs ∧
      (u.port p).evOversize = cnt16 (s.port p).evOversize ∧ (u.port p).seq = (s.port p).seq ∧
      (u.port p).evTail = (s.port p).evTail := by
  refine ⟨_, exec_eventRecordWrite hen haon hrecs, ?_⟩
  dsimp only
  rw [tryRecord_of_long hlen, State.dropRecord, port_modPort_self]
  exact ⟨congrArg List.tail hrecs, rfl, rfl, rfl⟩

end

/-! ### The open EVENTS record (R321, R322) -/

theorem closeRecord_of_cons {x : PortSt} {o : WireEv} {os : List WireEv} (h : x.openRec = o :: os) : x.closeRecord =
    { x with recs := x.recs ++ [.events o.tag x.gapPend x.openRec], openRec := [], gapPend := false } := by
  rw [PortSt.closeRecord, h]

/-- The port with event e taken out of its readout queue into the open record. -/
def PortSt.taken (x : PortSt) (e : WireEv) (now : Nat) : PortSt :=
  { x with
    readout := x.readout.tail
    openAt := if x.openRec.isEmpty then now else x.openAt
    openRec := x.openRec ++ [e] }

theorem drainOne_of_same {x : PortSt} {e : WireEv} {es : List WireEv} (h : x.readout = e :: es)
    (hsame : ∀ o os, x.openRec = o :: os → o.tag = e.tag) (now : Nat) : x.drainOne now =
      if x.evMaxn ≤ x.openRec.length + 1 then (x.taken e now).closeRecord else x.taken e now := by
  rw [PortSt.drainOne, h, PortSt.taken, h]
  cases hopen : x.openRec with
  | nil => simp [hopen]
  | cons o os => simp [hopen, hsame o os hopen]

theorem drainOne_of_other {x : PortSt} {e o : WireEv} {es os : List WireEv} (h : x.readout = e :: es)
    (hopen : x.openRec = o :: os) (hne : o.tag ≠ e.tag) (hmax : 1 < x.evMaxn) (now : Nat) :
    x.drainOne now = x.closeRecord.taken e now := by
  have hclosed := closeRecord_of_cons hopen
  rw [PortSt.drainOne, h]
  dsimp only
  rw [hopen]
  dsimp only
  rw [if_pos (bne_iff_ne.mpr hne), hclosed, PortSt.taken, h]
  simp only [List.nil_append, List.length_singleton, if_neg (Nat.not_le.mpr hmax), List.tail_cons]

section
variable {s : State} {p : Port} {e o : WireEv} {es os : List WireEv} (hen : (s.port p).evEn = true)
  (haon : s.aon.st < 3) (hrecs : (s.port p).recs = []) (hread : (s.port p).readout = e :: es)
include hen haon hrecs

theorem answers_readoutDrain {y : PortSt} {P : State → Prop} (hy : (s.port p).drainOne s.now = y)
    (hP : ∀ u, u.port p = y → P u) : Answers (.readoutDrain p) s P := by
  refine ⟨s.modPort p fun x => x.drainOne s.now, ?_, hP _ ((port_modPort_self ..).trans hy)⟩
  change execReadoutDrain p s = _
  simp [execReadoutDrain, hen, hrecs, haon]

include hread

theorem answers_readoutDrain_of_room (hsame : ∀ o os, (s.port p).openRec = o :: os → o.tag = e.tag)
    (hroom : (s.port p).openRec.length + 1 < (s.port p).evMaxn) : Answers (.readoutDrain p) s fun u =>
      (u.port p).readout = es ∧ (u.port p).openRec = (s.port p).openRec ++ [e] ∧ (u.port p).recs = [] := by
  have hdrain := drainOne_of_same hread hsame s.now
  rw [if_neg (Nat.not_le.mpr hroom)] at hdrain
  refine answers_readoutDrain hen haon hrecs hdrain fun u hu => ?_
  rw [hu, PortSt.taken, hread, hrecs]
  exact ⟨rfl, rfl, rfl⟩

theorem answers_readoutDrain_of_full (hopen : (s.port p).openRec = o :: os) (htag : o.tag = e.tag)
    (hfull : (s.port p).evMaxn ≤ (s.port p).openRec.length + 1) : Answers (.readoutDrain p) s fun u =>
      (u.port p).readout = es ∧ (u.port p).openRec = [] ∧
      (u.port p).recs = [.events o.tag (s.port p).gapPend ((s.port p).openRec ++ [e])] := by
  have hsame : ∀ o' os', (s.port p).openRec = o' :: os' → o'.tag = e.tag := fun o' os' h' => by
    obtain ⟨rfl, -⟩ := List.cons.inj (hopen.symm.trans h')
    exact htag
  have hdrain := drainOne_of_same hread hsame s.now
  have hopen' : ((s.port p).taken e s.now).openRec = o :: (os ++ [e]) := by
    rw [PortSt.taken, hopen]
    rfl
  rw [if_pos hfull, closeRecord_of_cons hopen'] at hdrain
  refine answers_readoutDrain hen haon hrecs hdrain fun u hu => ?_
  rw [hu, PortSt.taken, hread, hrecs]
  exact ⟨rfl, rfl, rfl⟩

theorem answers_readoutDrain_of_other (hopen : (s.port p).openRec = o :: os) (hne : o.tag ≠ e.tag)
    (hmax : 1 < (s.port p).evMaxn) : Answers (.readoutDrain p) s fun u =>
      (u.port p).readout = es ∧ (u.port p).openRec = [e] ∧
      (u.port p).recs = [.events o.tag (s.port p).gapPend (s.port p).openRec] := by
  refine answers_readoutDrain hen haon hrecs (drainOne_of_other hread hopen hne hmax s.now) fun u hu => ?_
  rw [hu, PortSt.taken, closeRecord_of_cons hopen, hread, hrecs]
  exact ⟨rfl, rfl, rfl⟩

end

/-! ### Moments that come due -/

/-- The state at a moment that is due, or now where it has passed. -/
theorem passTo_now {s : State} (h : s.timersQuiet = true) (due : Nat) :
    (s.passTo due).now = max s.now due ∧ (s.passTo due).ports = s.ports := by
  rw [State.passTo, State.passTime, if_pos h, State.advance]
  dsimp only
  exact ⟨by omega, rfl⟩

section
variable {s : State} {p : Port} (hquiet : s.timersQuiet = true)
include hquiet

theorem answers_eventsFlush {o : WireEv} {os : List WireEv} (hopen : (s.port p).openRec = o :: os) :
    Answers (.eventsFlush p) s fun u => (u.port p).openRec = [] ∧
      (u.port p).recs = (s.port p).recs ++ [.events o.tag (s.port p).gapPend (s.port p).openRec] ∧
      u.now = max s.now ((s.port p).openAt + 25 * (s.port p).flush) := by
  obtain ⟨hnow, hports⟩ := passTo_now hquiet ((s.port p).openAt + 25 * (s.port p).flush)
  have hport : (s.passTo ((s.port p).openAt + 25 * (s.port p).flush)).port p = s.port p :=
    congrArg (fun ps : Vector PortSt 4 => ps[p.val]) hports
  have hne : (s.port p).openRec.isEmpty = false := by rw [hopen]; rfl
  refine ⟨(s.passTo ((s.port p).openAt + 25 * (s.port p).flush)).modPort p PortSt.closeRecord, ?_, ?_⟩
  · change execEventsFlush p s = _
    rw [execEventsFlush, hne]
    rfl
  · dsimp only
    rw [now_modPort, hnow, port_modPort_self, hport, closeRecord_of_cons hopen]
    exact ⟨rfl, rfl, rfl⟩

theorem answers_evModTimer {since : Nat} (hsince : (s.port p).modSince = some since) (htime : (s.port p).modTime ≠ 0)
    (hsend : (s.port p).canSend 2 = true) : Answers (.evModTimer p) s fun u =>
      Tab.get (u.port p).irqs 0 2 = Tab.get (s.port p).irqs 0 2 + 1 ∧ (u.port p).modSince = none ∧
      (u.port p).modCount = 0 ∧ u.now = max s.now (since + 250 * (s.port p).modTime) := by
  obtain ⟨hnow, hports⟩ := passTo_now hquiet (since + 250 * (s.port p).modTime)
  have hport : (s.passTo (since + 250 * (s.port p).modTime)).port p = s.port p :=
    congrArg (fun ps : Vector PortSt 4 => ps[p.val]) hports
  refine ⟨(s.passTo (since + 250 * (s.port p).modTime)).raiseMod p, ?_, ?_⟩
  · change execEvModTimer p s = _
    rw [execEvModTimer, hsince]
    simp only [if_neg htime]
  · dsimp only
    rw [State.raiseMod, now_modPort, State.raiseIrq, now_modPort, hnow, port_modPort_self, port_modPort_self, hport,
      raise_of_canSend hsend]
    refine ⟨?_, rfl, rfl, rfl⟩
    dsimp only
    rw [Tab.modify, Tab.get_put_self]

end

/-- Settles O37: the registers of the ring are followed from their addresses, and each record, copy and moment takes the
one branch of its command that its conditions leave. -/
theorem eventRing : Obligations.EventRing := by
  intro s p v r rs e o es os since
  refine ⟨fun h => ⟨answers_evHeadWrite h, answers_evCfgWrite_of_enable h⟩, ?_, ?_, ?_, ?_, ?_, ?_,
    fun hquiet => ⟨answers_eventsFlush hquiet, answers_evModTimer hquiet⟩⟩
  · rintro ⟨⟨hen, haon⟩, hrecs⟩ hend hfree hapart
    refine (answers_eventRecordWrite_of_fits hen haon hrecs hend hfree).imp ?_
    rintro u ⟨hport, hmem⟩
    refine ⟨(congrArg PortSt.recs hport).trans (congrArg List.tail hrecs), congrArg PortSt.seq hport,
      congrArg PortSt.evTail hport, fun i hi => ?_, fun i hi => ?_⟩
    · exact (congrArg (Tab.get · 0 _) hmem).trans (get_ringPut_words s p _ _ hapart hi)
    · exact (congrArg (Tab.get · 0 _) hmem).trans (get_ringPut_tail s p _ _ hi)
  · rintro ⟨⟨hen, haon⟩, hrecs⟩ hsize hlen hend hfree
    exact answers_eventRecordWrite_of_filler hen haon hrecs hsize hlen hend hfree
  · rintro ⟨⟨hen, haon⟩, hrecs⟩ hlen
    exact answers_eventRecordWrite_of_long hen haon hrecs hlen
  · rintro ⟨⟨hen, haon⟩, hrecs, hread⟩ hsame hroom
    refine answers_readoutDrain_of_room hen haon hrecs hread (fun o' os' h' => ?_) hroom
    obtain hnil | ⟨ho, htag⟩ := hsame
    · exact absurd (hnil.symm.trans h') (List.cons_ne_nil _ _).symm
    · obtain ⟨rfl, -⟩ := List.cons.inj (ho.symm.trans h')
      exact htag
  · rintro ⟨⟨hen, haon⟩, hrecs, hread⟩ hopen htag hfull
    exact answers_readoutDrain_of_full hen haon hrecs hread hopen htag hfull
  · rintro ⟨⟨hen, haon⟩, hrecs, hread⟩ hopen hne hmax
    exact answers_readoutDrain_of_other hen haon hrecs hread hopen hne hmax

end Sys2Proof.Machine

/-!
Sync objects (R330, R331, R333, R338, R339): what an operation makes of its object, the doorbells that act before an
access, the reply of a WAITS in its slot, and notifications.
-/

namespace Sys2Proof.Machine

/-! ### Operations on an object -/

/-- An object holds the saturated sum of what another held and v, with the flag of the end it saturated at (R330). -/
def SyncObj.IsSum (x o : SyncObj) (v : Word) : Prop :=
  x.cnt = BitVec.ofInt 32 (max 0 (min 0xFFFFFFFF (o.cnt.toNat + v.toInt))) ∧
    x.ovf = (o.ovf || decide (0xFFFFFFFF < (o.cnt.toNat + v.toInt : Int))) ∧
    x.unf = (o.unf || decide ((o.cnt.toNat + v.toInt : Int) < 0))

/-- ABOVE of an object is as its counter says, and its notification pends where ABOVE has risen (R333). -/
def SyncObj.IsSettled (x o : SyncObj) : Prop :=
  x.above = decide (o.thr.toNat ≤ x.cnt.toNat) ∧ x.npend = (o.npend || (x.above && !o.above && o.nmode != 0))

theorem isSum_add (o : SyncObj) (v : Word) : (o.add v).settle.IsSum o v := by
  unfold SyncObj.IsSum SyncObj.settle SyncObj.add
  dsimp only
  split
  · next hover => simp [hover, show min (0xFFFFFFFF : Int) (o.cnt.toNat + v.toInt) = 0xFFFFFFFF by omega]; omega
  · next hin =>
    split
    · next hunder =>
      rw [show max 0 (min (0xFFFFFFFF : Int) (o.cnt.toNat + v.toInt)) = 0 by omega]
      simp [hin, hunder]
    · next hpos =>
      rw [show max 0 (min (0xFFFFFFFF : Int) (o.cnt.toNat + v.toInt)) = o.cnt.toNat + v.toInt by omega]
      simp [hin, hpos]

theorem isSettled_settle {o x : SyncObj} (hthr : x.thr = o.thr) (habove : x.above = o.above)
    (hpend : x.npend = o.npend) (hmode : x.nmode = o.nmode) : x.settle.IsSettled o := by
  rw [SyncObj.IsSettled, SyncObj.settle, hthr, habove, hpend, hmode]
  exact ⟨rfl, rfl⟩

theorem isSettled_add (o : SyncObj) (v : Word) : (o.add v).settle.IsSettled o := by
  unfold SyncObj.add
  dsimp only
  split
  · exact isSettled_settle rfl rfl rfl rfl
  · split <;> exact isSettled_settle rfl rfl rfl rfl

theorem isSettled_set (o : SyncObj) (v : Word) : (o.set v).settle.IsSettled o := isSettled_settle rfl rfl rfl rfl

theorem syncAt_modSync_self (s : State) (n : Nat) (f : SyncObj → SyncObj) :
    (s.modSync n f).syncAt n = (f (s.syncAt n)).settle := by
  rw [State.syncAt, State.modSync, Tab.modify, Tab.get_put_self, State.syncAt]

theorem syncAt_modSync_of_ne (s : State) {n j : Nat} (f : SyncObj → SyncObj) (h : j ≠ n) :
    (s.modSync n f).syncAt j = s.syncAt j := Tab.get_put_of_ne _ _ _ h

/-- What a doorbell makes of its object: kind 0 is an ADD, and every other a SET (R333). -/
def SyncObj.rung (index : Nat) (v : Word) (o : SyncObj) : SyncObj :=
  if bitsOf index 13 2 = 0 then o.add v else o.set v

/-- Object n has been rung, and no other object has changed. -/
def State.Rung (s u : State) (n index : Nat) (v : Word) : Prop :=
  (∀ j, j ≠ n → u.syncAt j = s.syncAt j) ∧ (u.syncAt n).IsSettled (s.syncAt n) ∧
    (bitsOf index 13 2 = 0 → (u.syncAt n).IsSum (s.syncAt n) v) ∧
    (bitsOf index 13 2 ≠ 0 → (u.syncAt n).cnt = v)

theorem rung_modSync (s : State) (n index : Nat) (v : Word) :
    s.Rung (s.modSync n (SyncObj.rung index v)) n index v := by
  refine ⟨fun j hj => syncAt_modSync_of_ne s _ hj, ?_, fun hadd => ?_, fun hset => ?_⟩ <;>
    rw [syncAt_modSync_self, SyncObj.rung]
  · split
    · exact isSettled_add _ v
    · exact isSettled_set _ v
  · rw [if_pos hadd]
    exact isSum_add _ v
  · rw [if_neg hset]
    rfl

section
variable {s : State} {n : Nat} {t : Tenant}

theorem syncMay_of_owner (h : s.syncOwnerOf n = some t) : s.syncMay (some t) n = true := by
  simp [State.syncMay, h]

theorem syncMay_of_foreign (h : s.syncOwnerOf n ≠ some t) : s.syncMay (some t) n = false := by
  simp [State.syncMay, h]

theorem syncChange_of_owner (h : s.syncOwnerOf n = some t) (f : SyncObj → SyncObj) :
    s.syncChange (some t) n f = s.modSync n f := if_pos (syncMay_of_owner h)

theorem syncChange_of_foreign (h : s.syncOwnerOf n ≠ some t) (f : SyncObj → SyncObj) :
    s.syncChange (some t) n f = s.syncReject (some t) n :=
  if_neg (by rw [syncMay_of_foreign h]; exact Bool.false_ne_true)

theorem doorbell_of_owner (h : s.syncOwnerOf n = some t) {index : Nat} (hn : index % 8192 = n) (v : Word) :
    s.doorbell t index v = s.modSync n (SyncObj.rung index v) := by
  rw [State.doorbell, hn]
  exact syncChange_of_owner h _

end

theorem ofNat_val (t : Tenant) : Fin.ofNat 4 t.val = t := Fin.ext (Nat.mod_eq_of_lt t.isLt)

/-! ### Requests in a slot -/

theorem bad_sync (op n : Nat) (v : Word) (who : Nat) : (Pkt.sync op n v who).bad = false := rfl
theorem bad_doorbell (p index : Nat) (v : Word) : (Pkt.doorbell p index v).bad = false := rfl
theorem bad_notify (p n : Nat) (v : Word) : (Pkt.notify p n v).bad = false := rfl

section
variable {s : State} {slot : Fin 44} {n who : Nat} {v : Word} {m1 m2 : Bool} {t : Tenant}

section
variable (hpkt : s.slotPkt slot.val = some ⟨.sync 0 n v who, m1, m2, none, false⟩)
  (hwho : s.syncTenant slot.val who = some t)
include hpkt hwho

theorem exec_sig : exec (.sync slot) s = .next ((s.taken slot.val stSync).syncChange (some t) n (·.add v)) := by
  change execSync slot s = _
  rw [execSync, takeSlot_of_good hpkt (bad_sync ..)]
  dsimp only
  rw [hwho]
  rfl

/-- A SIG of the owner (R330). -/
theorem answers_sig_of_owner (hmine : s.syncOwnerOf n = some t) : Answers (.sync slot) s fun u =>
    u.slotPkt slot.val = none ∧ (u.syncAt n).IsSum (s.syncAt n) v ∧ (u.syncAt n).IsSettled (s.syncAt n) ∧
      ∀ j, j ≠ n → u.syncAt j = s.syncAt j := by
  refine ⟨_, exec_sig hpkt hwho, ?_⟩
  dsimp only
  rw [syncChange_of_owner (s := s.taken slot.val stSync) hmine, syncAt_modSync_self]
  exact ⟨slotPkt_taken s slot.val stSync, isSum_add .., isSettled_add .., fun j hj => syncAt_modSync_of_ne _ _ hj⟩

/-- A SIG of another tenant (R331). -/
theorem answers_sig_of_foreign (hforeign : s.syncOwnerOf n ≠ some t) : Answers (.sync slot) s fun u =>
    u.slotPkt slot.val = none ∧ (∀ j, u.syncAt j = s.syncAt j) ∧
      (u.port t).syncForeign = cnt16 (s.port t).syncForeign ∧ (u.port t).syncLast = BitVec.ofNat 32 n ∧
      (u.port t).foreign = true := by
  refine ⟨_, exec_sig hpkt hwho, ?_⟩
  dsimp only
  rw [syncChange_of_foreign (s := s.taken slot.val stSync) hforeign, State.syncReject, port_note, port_modPort_self]
  exact ⟨slotPkt_taken s slot.val stSync, fun _ => rfl, rfl, rfl, rfl⟩

end

/-- A WAITS of the owner finds its reply in its slot (R215, R330). -/
theorem answers_waits (hpkt : s.slotPkt slot.val = some ⟨.sync 1 n v who, m1, m2, none, false⟩)
    (hwho : s.syncTenant slot.val who = some t) (hmine : s.syncOwnerOf n = some t) : Answers (.sync slot) s fun u =>
      (∀ j, u.syncAt j = s.syncAt j) ∧ u.slotPkt slot.val =
        some ⟨.sync 1 n v who, m1, m2,
          some (if v.toNat ≤ (s.syncAt n).cnt.toNat then 0 else 1, (s.syncAt n).cnt), false⟩ := by
  have hmay : (s.noteRx stSync).syncMay (some t) n = true := syncMay_of_owner hmine
  have hexec : exec (.sync slot) s = .next ((s.noteRx stSync).putReply slot.val
      (if v.toNat ≤ (s.syncAt n).cnt.toNat then 0 else 1) (s.syncAt n).cnt) := by
    change execSync slot s = _
    rw [execSync, takeSlot_of_good hpkt (bad_sync ..)]
    dsimp only
    rw [hwho, State.syncWaits, State.waitsStatus, hmay]
    rfl
  refine ⟨_, hexec, fun _ => rfl, ?_⟩
  have hslot : Tab.get (s.noteRx stSync).thread none slot.val = some ⟨.sync 1 n v who, m1, m2, none, false⟩ := hpkt
  rw [State.slotPkt, State.putReply, Tab.modify, Tab.get_put_self, hslot]
  rfl

/-- A doorbell of the owner (R333). -/
theorem answers_doorbell {index : Nat}
    (hpkt : s.slotPkt slot.val = some ⟨.doorbell t.val index v, m1, m2, none, false⟩) (hn : index % 8192 = n)
    (hmine : s.syncOwnerOf n = some t) : Answers (.doorbell slot) s fun u =>
      u.slotPkt slot.val = none ∧ s.Rung u n index v := by
  have hexec : exec (.doorbell slot) s = .next ((s.taken slot.val stSync).doorbell t index v) := by
    change execDoorbell slot s = _
    rw [execDoorbell, takeSlot_of_good hpkt (bad_doorbell ..)]
    dsimp only
    rw [ofNat_val]
    rfl
  refine ⟨_, hexec, ?_⟩
  dsimp only
  rw [doorbell_of_owner (s := s.taken slot.val stSync) hmine hn]
  exact ⟨slotPkt_taken s slot.val stSync, rung_modSync ..⟩

end

/-! ### Replies -/

theorem slotPkt_freeSlot (s : State) (slot : Nat) : (s.freeSlot slot).slotPkt slot = none :=
  Tab.get_put_self s.thread none none slot

theorem waitsFor_of_asked {s : State} {k n : Nat} {v : Word} (h : (s.core k).e.waits = some (.asked n v)) :
    s.waitsFor k n v = true := by
  rw [State.waitsFor, h]
  exact beq_self_eq_true _

theorem nextPkt_nil (s : State) (st turn : Nat) : s.nextPkt st turn [] = none := by
  have hturn : nextInTurn 4 turn (fun t => ([] : List Pkt).any fun p => s.pktTenant p == some t) = none :=
    List.find?_eq_none.mpr fun _ _ => by simp
  simp only [State.nextPkt, hturn, List.head?_nil, Option.map_none, ite_self]

theorem placeClass_of_noPkt {s : State} {st c : Nat} (h : Tab.get (s.station st).thread.queues [] c = [])
    (slot : Nat) : s.placeClass slot st c = none := by
  simp only [State.placeClass, h, nextPkt_nil, Option.map_none]

/-- No engine changes as a station places a packet. -/
def State.SameCores (s u : State) : Prop := ∀ k, u.core k = s.core k

theorem sameCores_placeClass {s u : State} {slot st c : Nat} (h : s.placeClass slot st c = some u) : s.SameCores u := by
  obtain ⟨⟨p, turn⟩, -, rfl⟩ := Option.map_eq_some_iff.mp h
  exact fun _ => rfl

theorem sameCores_placeAgain {s u : State} {slot st : Nat} (h : s.placeAgain slot st = some u) : s.SameCores u := by
  unfold State.placeAgain at h
  split at h
  · cases h
  · cases h
    exact fun _ => rfl

theorem sameCores_orElse {s : State} {a b : Option State} (ha : ∀ u, a = some u → s.SameCores u)
    (hb : ∀ u, b = some u → s.SameCores u) : ∀ u, (a <|> b) = some u → s.SameCores u := by
  cases a with
  | none => exact hb
  | some x => exact ha

theorem sameCores_placeStation (s : State) (slot : Nat) : s.SameCores (s.placeStation slot) := by
  have hclass (c : Nat) : ∀ u, s.placeClass slot slot c = some u → s.SameCores u := fun u => sameCores_placeClass
  have hagain : ∀ u, s.placeAgain slot slot = some u → s.SameCores u := fun u => sameCores_placeAgain
  unfold State.placeStation
  split
  · next u hu =>
    exact sameCores_orElse (hclass 0) (sameCores_orElse (hclass 1) (sameCores_orElse (hclass 2)
      (sameCores_orElse (hclass 3) (sameCores_orElse hagain (hclass 4))))) u hu
  · exact fun _ => rfl

/-- A WAITS to be sent again is placed where no packet of the first four classes waits (R217). -/
theorem placeStation_of_again {s : State} {slot : Nat} {p : Pkt} {ps : List Pkt}
    (hidle : ∀ c, c < 4 → Tab.get (s.station slot).thread.queues [] c = [])
    (hagain : (s.station slot).thread.again = p :: ps) :
    s.placeStation slot = (s.modThread slot fun x => { x with again := ps }).fillSlot slot slot p := by
  rw [State.placeStation, placeClass_of_noPkt (hidle 0 (by decide)), placeClass_of_noPkt (hidle 1 (by decide)),
    placeClass_of_noPkt (hidle 2 (by decide)), placeClass_of_noPkt (hidle 3 (by decide)), State.placeAgain, hagain]
  rfl

section
variable {s : State} {slot : Fin 44} {n who status : Nat} {v w : Word} {m1 m2 : Bool} (hslot : slot.val < 40)
  (hpkt : s.slotPkt slot.val = some ⟨.sync 1 n v who, m1, m2, some (status, w), false⟩)
include hslot hpkt

theorem ownSlot_of_waits : s.ownSlot slot.val =
    (s.freeSlot slot.val).takeReply slot.val (.sync 1 n v who) status := by
  simp only [State.ownSlot, hpkt, if_pos hslot]

theorem exec_threadPlace_of_waits
    (hfree : ((s.freeSlot slot.val).takeReply slot.val (.sync 1 n v who) status).slotPkt slot.val = none) :
    exec (.threadPlace slot) s =
      .next (((s.freeSlot slot.val).takeReply slot.val (.sync 1 n v who) status).placeStation slot.val) := by
  change execThreadPlace slot s = _
  simp only [execThreadPlace, ownSlot_of_waits hslot hpkt, hfree, Option.isSome_none, Bool.false_eq_true, if_false,
    if_pos hslot]

variable (hasked : (s.core (slot.val * 32 + who)).e.waits = some (.asked n v))
include hasked

theorem answers_threadPlace_of_answer {reply : WaitsReply} (hreply : (s.freeSlot slot.val).takeReply slot.val
    (.sync 1 n v who) status = (s.freeSlot slot.val).answerWaits (slot.val * 32 + who) n v reply) :
    Answers (.threadPlace slot) s fun u => (u.core (slot.val * 32 + who)).e.waits = some reply := by
  rw [State.answerWaits, if_pos (waitsFor_of_asked (s := s.freeSlot slot.val) hasked)] at hreply
  refine ⟨_, exec_threadPlace_of_waits hslot hpkt ?_, ?_⟩
  · rw [hreply]
    exact slotPkt_freeSlot s slot.val
  · dsimp only
    rw [hreply, sameCores_placeStation, core_modE_self]

/-- A WAITS that is not met is sent again (R126, R217). -/
theorem answers_threadPlace_of_unmet (hstatus : status = 1) (hagain : (s.station slot.val).thread.again = [])
    (hidle : ∀ c, c < 4 → Tab.get (s.station slot.val).thread.queues [] c = []) :
    Answers (.threadPlace slot) s fun u => u.core (slot.val * 32 + who) = s.core (slot.val * 32 + who) ∧
      u.slotPkt slot.val = some { pkt := .sync 1 n v who } := by
  subst hstatus
  have hreply : (s.freeSlot slot.val).takeReply slot.val (.sync 1 n v who) 1 = (s.freeSlot slot.val).modThread slot.val
      fun x => { x with again := x.again ++ [.sync 1 n v who] } :=
    if_pos (waitsFor_of_asked (s := s.freeSlot slot.val) hasked)
  refine ⟨_, exec_threadPlace_of_waits hslot hpkt ?_, ?_⟩
  · rw [hreply]
    exact slotPkt_freeSlot s slot.val
  · dsimp only
    rw [hreply]
    refine ⟨sameCores_placeStation .., ?_⟩
    rw [placeStation_of_again (p := .sync 1 n v who) (ps := []), slotPkt_fillSlot]
    · intro c hc
      rw [thread_modThread_self]
      exact hidle c hc
    · rw [thread_modThread_self]
      exact congrArg (· ++ [_]) hagain

end

theorem syncAt_reply (s : State) (r : Req) (ok : Bool) (w : Word) (n : Nat) :
    (s.reply r ok w).syncAt n = s.syncAt n := rfl

theorem syncAt_carried (s : State) (r : Req) (d n : Nat) : (s.carried r d).syncAt n = s.syncAt n := rfl

theorem syncOwn_carried (s : State) (r : Req) (d : Nat) : (s.carried r d).syncOwn = s.syncOwn := rfl

theorem syncOwn_modSync (s : State) (n : Nat) (f : SyncObj → SyncObj) : (s.modSync n f).syncOwn = s.syncOwn := rfl

theorem slotPkt_carried (s : State) (r : Req) (d slot : Nat) : (s.carried r d).slotPkt slot = s.slotPkt slot := rfl

theorem slotPkt_modSync (s : State) (n : Nat) (f : SyncObj → SyncObj) (slot : Nat) :
    (s.modSync n f).slotPkt slot = s.slotPkt slot := rfl

/-! ### Registers -/

/-- A register of the sync unit that takes every word. -/
theorem stationWrite_sync (s : State) (r : Req) {off : Nat} (v : Word) (hreg : inSyncRegs off = true)
    (hmask : syncMask off = 0xFFFFFFFF) : s.stationWrite r stSync off v {} = s.syncWrite r off v := by
  have hown : s.ownRangeWrite r stSync off v {} = some (s.syncWrite r off v) := by
    simp [State.ownRangeWrite, stSync, hreg, hmask, State.maskedWrite]
  simp only [State.stationWrite, hown]

theorem stationRead_sync (s : State) (r : Req) {off : Nat} (hreg : inSyncRegs off = true) :
    s.stationRead r stSync off = s.syncRegRead r off := by
  have hown : s.ownRangeRead r stSync off = some (s.syncRegRead r off) := by
    simp [State.ownRangeRead, stSync, hreg]
  simp only [State.stationRead, hown]

theorem syncRegRead_cnt {s : State} {n : Fin 8192} {t : Tenant} (hmine : s.syncOwnerOf n.val = some t) :
    s.syncRegRead (.port t) (0x4_0000 + 4 * n.val) = (s, some (s.syncAt n.val).cnt) := by
  have hobj : syncObjOf (0x4_0000 + 4 * n.val) = n.val := by unfold syncObjOf; omega
  simp only [State.syncRegRead, hobj, State.syncRead, if_pos (syncMay_of_owner hmine),
    if_pos (show 0x4_0000 + 4 * n.val < 0x4_8000 by omega)]

theorem inSyncRegs_obj (n : Fin 8192) : inSyncRegs (0x4_0000 + 4 * n.val) = true ∧
    inSyncRegs (0x4_8000 + 4 * n.val) = true ∧ syncMask (0x4_0000 + 4 * n.val) = 0xFFFFFFFF ∧
    syncMask (0x4_8000 + 4 * n.val) = 0xFFFFFFFF := by
  simp only [inSyncRegs, syncMask, Bool.and_eq_true, decide_eq_true_eq]
  exact ⟨by omega, by omega, if_pos (by omega), if_pos (by omega)⟩

section
variable {s : State} {r : Req} {n : Fin 8192} {v : Word} {t : Tenant} (h : ServedFor s r t)
  (hmine : s.syncOwnerOf n.val = some t)
include h hmine

theorem syncWrite_cnt : (s.carried r stSync).syncWrite r (0x4_0000 + 4 * n.val) v =
    ((s.carried r stSync).modSync n.val (·.set v), true) := by
  have hobj : syncObjOf (0x4_0000 + 4 * n.val) = n.val := by unfold syncObjOf; omega
  have hown : (s.carried r stSync).syncOwnerOf n.val = some t := hmine
  rw [State.syncWrite, if_pos (show 0x4_0000 + 4 * n.val < 0x4_8000 by omega), hobj, wrOk]
  obtain rfl | rfl := h.2
  · rw [State.syncCntWrite, hown, syncChange_of_owner hown]
  · rw [State.syncCntWrite, syncChange_of_owner hown]

theorem syncWrite_thr : (s.carried r stSync).syncWrite r (0x4_8000 + 4 * n.val) v =
    ((s.carried r stSync).modSync n.val (fun o => { o with thr := v }), true) := by
  have hobj : syncObjOf (0x4_8000 + 4 * n.val) = n.val := by unfold syncObjOf; omega
  have hown : (s.carried r stSync).syncOwnerOf n.val = some t := hmine
  have hvisible : (s.carried r stSync).syncVisible r n.val = true := by
    obtain rfl | rfl := h.2
    · rfl
    · simp [State.syncVisible, hown]
  rw [State.syncWrite, if_neg (show ¬ 0x4_8000 + 4 * n.val < 0x4_8000 by omega),
    if_pos (show 0x4_8000 + 4 * n.val < 0x5_0000 by omega), hobj, wrOk, State.syncThrWrite, if_pos hvisible]

theorem answers_syncCntWrite : Answers (.syncCntWrite r n v) s fun u => (u.syncAt n.val).cnt = v ∧
    (u.syncAt n.val).IsSettled (s.syncAt n.val) ∧ (∀ j, j ≠ n.val → u.syncAt j = s.syncAt j) ∧ Replied u r 0 := by
  obtain ⟨hreg, -, hmask, -⟩ := inSyncRegs_obj n
  have hu : s.cmdWrite r (stReg stSync (0x4_0000 + 4 * n.val)) v =
      ((s.carried r stSync).modSync n.val (·.set v)).reply r true 0 :=
    cmdWrite_stReg h.1 (by decide) (by omega) (by omega) (.inr (by simp [State.placeTenant, stSync, stHost]))
      ((stationWrite_sync _ r v hreg hmask).trans (syncWrite_cnt h hmine))
  refine ⟨_, congrArg Host.Outcome.next hu, ?_⟩
  dsimp only
  rw [syncAt_reply, syncAt_modSync_self, syncAt_carried]
  exact ⟨rfl, isSettled_set _ v, fun j hj => (syncAt_reply ..).trans (syncAt_modSync_of_ne _ _ hj), replies_reply ..⟩

theorem answers_syncThrWrite : Answers (.syncThrWrite r n v) s fun u => (u.syncAt n.val).thr = v ∧
    (u.syncAt n.val).cnt = (s.syncAt n.val).cnt ∧
    (u.syncAt n.val).above = decide (v.toNat ≤ (s.syncAt n.val).cnt.toNat) ∧
    (∀ j, j ≠ n.val → u.syncAt j = s.syncAt j) ∧ Replied u r 0 := by
  obtain ⟨-, hreg, -, hmask⟩ := inSyncRegs_obj n
  have hu : s.cmdWrite r (stReg stSync (0x4_8000 + 4 * n.val)) v =
      ((s.carried r stSync).modSync n.val (fun o => { o with thr := v })).reply r true 0 :=
    cmdWrite_stReg h.1 (by decide) (by omega) (by omega) (.inr (by simp [State.placeTenant, stSync, stHost]))
      ((stationWrite_sync _ r v hreg hmask).trans (syncWrite_thr h hmine))
  refine ⟨_, congrArg Host.Outcome.next hu, ?_⟩
  dsimp only
  rw [syncAt_reply, syncAt_modSync_self, syncAt_carried]
  exact ⟨rfl, rfl, rfl, fun j hj => (syncAt_reply ..).trans (syncAt_modSync_of_ne _ _ hj), replies_reply ..⟩

end

/-! ### A doorbell that waits -/

theorem portQ_modThread (s : State) (st n : Nat) {f : ThreadSt → ThreadSt} (hf : ∀ x, (f x).portQ = x.portQ) :
    ((s.modThread st f).station n).thread.portQ = (s.station n).thread.portQ :=
  part_modStation (part := fun x => x.thread.portQ) (fun x => hf x.thread) s st n

theorem portQ_carried (s : State) (r : Req) (d n : Nat) :
    ((s.carried r d).station n).thread.portQ = (s.station n).thread.portQ := by
  rw [State.carried, State.noteRx, portQ_modThread _ d n, portQ_modThread s (slotStation r) n] <;> intro x <;> rfl

/-- The machine as the only doorbell that waits at HOST for a port reaches the sync unit (R334). -/
def State.doorbellGone (s : State) (p : Port) : State :=
  ((s.modThread stHost fun t => { t with portQ := Tab.put t.portQ [] p.val [] }).modThread stHost fun t =>
    { t with tx := cnt32 t.tx }).noteRx stSync

theorem syncOwn_doorbellGone (s : State) (p : Port) : (s.doorbellGone p).syncOwn = s.syncOwn := rfl

theorem slotPkt_doorbellGone (s : State) (p : Port) (slot : Nat) : (s.doorbellGone p).slotPkt slot = s.slotPkt slot :=
  rfl

theorem portQ_doorbellGone (s : State) (p : Port) :
    Tab.get ((s.doorbellGone p).station stHost).thread.portQ [] p.val = [] := by
  have hrx (u : State) : ((u.noteRx stSync).station stHost).thread.portQ = (u.station stHost).thread.portQ :=
    portQ_modThread u stSync stHost (f := fun t => { t with rx := cnt32 t.rx }) fun _ => rfl
  rw [State.doorbellGone, hrx, thread_modThread_self, thread_modThread_self, Tab.get_put_self]

section
variable {s : State} {n : Fin 8192} {v : Word} {t : Tenant} {index : Nat} (hslot : s.slotPkt (40 + t.val) = none)
  (hwait : Tab.get (s.station stHost).thread.portQ [] t.val = [.doorbell t.val index v])
  (hn : index % 8192 = n.val) (hmine : s.syncOwnerOf n.val = some t)
include hslot hwait hn hmine

theorem flushPort_of_waiting : s.flushPort t = (s.doorbellGone t).modSync n.val (SyncObj.rung index v) := by
  have hown : (s.doorbellGone t).syncOwnerOf n.val = some t := by
    rw [State.syncOwnerOf, syncOwn_doorbellGone]
    exact hmine
  rw [← doorbell_of_owner hown hn]
  simp only [State.flushPort, hslot, hwait, List.isEmpty_cons, Bool.false_eq_true, if_false, List.foldl_cons,
    List.foldl_nil, State.passDoorbell, ofNat_val, State.doorbellGone]

/-- The machine once its doorbell has acted and an access behind it has reached the sync unit. -/
theorem viaThread_of_waiting (h : Reaches s (.port t)) (off : Nat) :
    (s.linkSeen (.port t)).viaThread (.port t) (.station stSync off) false =
      ((s.doorbellGone t).modSync n.val (SyncObj.rung index v)).carried (.port t) stSync := by
  have hseen : s.linkSeen (.port t) = s := by simp [State.linkSeen, h.2.2.2.2.1]
  rw [hseen, State.viaThread]
  dsimp only [Place.dst]
  rw [flushPort_of_waiting hslot hwait hn hmine]

end

theorem gateOf_syncReg {s : State} {t : Tenant} (h : Reaches s (.port t)) {off : Nat} (hoff : off < 0x10_0000)
    (h4 : off % 4 = 0) : s.gateOf (.port t) (stReg stSync off) = (.ok, .station stSync off) := by
  obtain ⟨hreset, hready, hawake, hconf, hlink, hd3⟩ := h
  have hopen : s.gateReady (.port t) (.station stSync off) = .ok := by
    simp [State.gateReady, State.inD3, hd3, hawake, State.placeTenant, stSync, stHost]
  rw [gateOf_of_ready hreset hready hconf, placeOf_stReg _ (by decide) hoff h4, hopen]

/-- A read that its gate and its register let through is kept for its port (R307). -/
theorem cmdRead_of_done {s u : State} {p : Port} {a : Nat} {w : Word} (hready : s.answering p = true)
    (h : s.regRead (.port p) a = (u, some w)) :
    s.cmdRead (.port p) a = (u.modPort p fun x => { x with cpl := 0 }).reply (.port p) true w := by
  rw [State.cmdRead, h]
  dsimp only
  rw [if_pos hready]
  rfl

theorem doorbellWaits_of_none {s : State} {p : Port} (hq : Tab.get (s.station stHost).thread.portQ [] p.val = [])
    (hslot : s.slotPkt (40 + p.val) = none) : s.doorbellWaits p = false := by
  rw [State.doorbellWaits, hq, hslot]
  rfl

/-- The doorbell acts before the register access behind it (R334). -/
theorem answers_regRd_behind {s : State} {n : Fin 8192} {v : Word} {t : Tenant} {index : Nat}
    (h : Reaches s (.port t)) (hslot : s.slotPkt (40 + t.val) = none) (hn : index % 8192 = n.val)
    (hmine : s.syncOwnerOf n.val = some t)
    (hwait : Tab.get (s.station stHost).thread.portQ [] t.val = [.doorbell t.val index v]) :
    Answers (.regRd (.port t) (BitVec.ofNat 44 (stReg stSync (0x4_0000 + 4 * n.val)))) s fun u =>
      u.doorbellWaits t = false ∧ s.Rung u n.val index v ∧ Replied u (.port t) (u.syncAt n.val).cnt := by
  have haddr : (BitVec.ofNat 44 (stReg stSync (0x4_0000 + 4 * n.val))).toNat = stReg stSync (0x4_0000 + 4 * n.val) :=
    Nat.mod_eq_of_lt (by unfold stReg regBase stSync; omega)
  have hanswer : s.answering t = true := by simp [State.answering, h.2.1, h.2.2.2.1]
  have hvia := viaThread_of_waiting hslot hwait hn hmine h (0x4_0000 + 4 * n.val)
  generalize hu : ((s.doorbellGone t).modSync n.val (SyncObj.rung index v)).carried (.port t) stSync = u at hvia
  have hown : u.syncOwnerOf n.val = some t := by
    rw [State.syncOwnerOf, ← hu, syncOwn_carried, syncOwn_modSync, syncOwn_doorbellGone]
    exact hmine
  have hread : s.regRead (.port t) (stReg stSync (0x4_0000 + 4 * n.val)) = (u, some (u.syncAt n.val).cnt) := by
    rw [State.regRead, gateOf_syncReg h (by omega) (by omega)]
    dsimp only
    rw [hvia, State.placeRead, stationRead_sync _ _ (inSyncRegs_obj n).1, syncRegRead_cnt hown]
  have hq : Tab.get (u.station stHost).thread.portQ [] t.val = [] := by
    rw [← hu, portQ_carried]
    exact portQ_doorbellGone s t
  have hempty : u.slotPkt (40 + t.val) = none := by
    rw [← hu, slotPkt_carried, slotPkt_modSync, slotPkt_doorbellGone, hslot]
  have hrung : s.Rung u n.val index v := by
    have hsame (j : Nat) : u.syncAt j = ((s.doorbellGone t).modSync n.val (SyncObj.rung index v)).syncAt j := by
      rw [← hu, syncAt_carried]
    have hbefore (j : Nat) : (s.doorbellGone t).syncAt j = s.syncAt j := rfl
    have hrung := rung_modSync (s.doorbellGone t) n.val index v
    unfold State.Rung at hrung ⊢
    simpa only [hsame, hbefore] using hrung
  refine ⟨_, congrArg (fun a => Host.Outcome.next (s.cmdRead (.port t) a)) haddr, ?_⟩
  dsimp only
  rw [cmdRead_of_done hanswer hread]
  exact ⟨doorbellWaits_of_none hq hempty, hrung, replies_reply ..⟩

/-! ### Notifications -/

/-- A notification merges with no packet: it goes behind the others. -/
theorem enqueuePkt_notify (p n : Nat) (v : Word) (qs : List Pkt) :
    enqueuePkt (.notify p n v) qs = qs ++ [.notify p n v] := by
  induction qs with
  | nil => rfl
  | cons q qs ih =>
    have hno : q.sameCounter (.notify p n v) = false := by cases q <;> rfl
    rw [enqueuePkt, hno, Bool.false_and, if_neg Bool.false_ne_true, ih, List.cons_append]

/-- The unit sends the notification that pends at an object (R333). -/
theorem answers_notifySend {s : State} {n : Fin 8192} {t : Tenant} (hpend : (s.syncAt n.val).npend = true)
    (hruns : s.fabricRuns = true) (hmine : s.syncOwnerOf n.val = some t) : Answers (.notifySend n) s fun u =>
      u.syncAt n.val = { s.syncAt n.val with npend := false } ∧ (∀ j, j ≠ n.val → u.syncAt j = s.syncAt j) ∧
      u.threadQueue stSync 4 = s.threadQueue stSync 4 ++ [.notify t.val n.val (s.syncAt n.val).cnt] := by
  have hexec : exec (.notifySend n) s = .next ({ s with
      sync := Tab.put s.sync {} n.val { s.syncAt n.val with npend := false } }.sendPkt stSync
        (.notify t.val n.val (s.syncAt n.val).cnt)) := by
    change execNotifySend n s = _
    simp only [execNotifySend, hpend, hruns, hmine, Bool.and_self]
  refine ⟨_, hexec, ?self, fun j hj => ?other, (threadQueue_sendPkt_self ..).trans (enqueuePkt_notify ..)⟩
  case self => exact Tab.get_put_self s.sync {} { s.syncAt n.val with npend := false } n.val
  case other => exact Tab.get_put_of_ne s.sync {} { s.syncAt n.val with npend := false } hj

/-- A vector that may not be sent pends (R325). -/
theorem pba_raise {x : PortSt} {v : Nat} (hv : v < 64) (hsend : x.canSend v = false) (hen : x.cfg.msixEn = true) :
    (x.raise v).pba.getLsbD v = true := by
  rw [PortSt.raise, hsend, if_neg Bool.false_ne_true, if_pos hen]
  simp [hv]

section
variable {s : State} {slot : Fin 44} {n : Nat} {v : Word} {t : Tenant}

/-- The machine after HOST has taken a notification and written it, as NMODE selects (R333). -/
def State.notified (s : State) (slot : Nat) (t : Tenant) (n : Nat) (v : Word) : State :=
  let s1 := (s.taken slot stHost).heartbeat n
  if (s.syncAt n).nmode % 2 = 1 ∧ (s.port t).nbase.getLsbD 0 then s1.notifyWrite t n v else s1

theorem slotPkt_notified (slot : Nat) : (s.notified slot t n v).slotPkt slot = none := by
  unfold State.notified
  dsimp only
  split <;> exact slotPkt_taken s slot stHost

theorem port_notified (slot : Nat) : (s.notified slot t n v).port t = s.port t := by
  unfold State.notified
  dsimp only
  split <;> rfl

theorem exec_notify {m1 m2 : Bool} (hpkt : s.slotPkt slot.val = some ⟨.notify t.val n v, m1, m2, none, false⟩) :
    exec (.notify slot) s = .next (if 2 ≤ (s.syncAt n).nmode then
      (s.notified slot.val t n v).raiseIrq t (s.syncAt n).vector else s.notified slot.val t n v) := by
  change execNotify slot s = _
  rw [execNotify, takeSlot_of_good hpkt (bad_notify ..)]
  dsimp only
  rw [ofNat_val]
  rfl

/-- The notification table holds the counter and the tenant's next sequence number (R333). -/
theorem notified_of_table (slot : Nat) (hmode : (s.syncAt n).nmode % 2 = 1) (hen : (s.port t).nbase.getLsbD 0 = true) :
    (s.notified slot t n v).nseq[t.val] = s.nseq[t.val] + 1 ∧
      ∀ i, i < 8 → Tab.get (s.notified slot t n v).hostMem 0
          (t.val * 2 ^ 64 + (((s.port t).nbase &&& 0xFFFFFFFFFFFF0000#64).toNat + 8 * n) + i) =
        (leBytes 4 v.toNat ++ leBytes 4 (s.nseq[t.val] + 1).toNat).getD i 0 := by
  have hdone : s.notified slot t n v = ((s.taken slot stHost).heartbeat n).notifyWrite t n v := if_pos ⟨hmode, hen⟩
  rw [hdone]
  refine ⟨Vector.getElem_set_self .., fun i hi => get_hostStore_self _ t _ ?_⟩
  rw [List.length_append, length_leBytes, length_leBytes]
  exact hi

theorem answers_notify {m1 m2 : Bool}
    (hpkt : s.slotPkt slot.val = some ⟨.notify t.val n v, m1, m2, none, false⟩) : Answers (.notify slot) s fun u =>
      u.slotPkt slot.val = none ∧
      ((s.syncAt n).nmode % 2 = 1 → (s.port t).nbase.getLsbD 0 = true → u.nseq[t.val] = s.nseq[t.val] + 1 ∧
        ∀ i, i < 8 → Tab.get u.hostMem 0
            (t.val * 2 ^ 64 + (((s.port t).nbase &&& 0xFFFFFFFFFFFF0000#64).toNat + 8 * n) + i) =
          (leBytes 4 v.toNat ++ leBytes 4 (s.nseq[t.val] + 1).toNat).getD i 0) ∧
      (2 ≤ (s.syncAt n).nmode → u.port t = (s.port t).raise (s.syncAt n).vector) := by
  refine ⟨_, exec_notify hpkt, ?_⟩
  dsimp only
  split
  · exact ⟨slotPkt_notified slot.val, notified_of_table slot.val,
      fun _ => (port_modPort_self ..).trans (congrArg (PortSt.raise · _) (port_notified slot.val))⟩
  · next hmode =>
    exact ⟨slotPkt_notified slot.val, notified_of_table slot.val, fun h => absurd h hmode⟩

end

/-- Settles O34: each operation is a change of its one object, which the rules of ADD, SET and settling describe. -/
theorem syncObjects : Obligations.SyncObjects := by
  intro s slot n v w who index status m1 m2 t r
  refine ⟨answers_sig_of_owner, answers_sig_of_foreign, answers_waits, fun hslot hpkt hasked => ⟨?_, ?_, ?_⟩,
    answers_doorbell, fun h hslot hn hmine hwait => ?behind,
    fun h hmine => ⟨answers_syncCntWrite h hmine, answers_syncThrWrite h hmine⟩, answers_notifySend, fun hpkt => ?_⟩
  case behind =>
    refine (answers_regRd_behind h hslot hn hmine hwait).imp ?_
    rintro u ⟨hquiet, ⟨hkept, hsettled, hadd, hset⟩, hreply⟩
    exact ⟨hquiet, hkept, hsettled, hadd, hset, hreply⟩
  · rintro rfl
    exact answers_threadPlace_of_answer hslot hpkt hasked rfl
  · rintro hstatus ⟨hagain, hidle⟩
    exact answers_threadPlace_of_unmet hslot hpkt hasked hstatus hagain hidle
  · rintro rfl
    exact answers_threadPlace_of_answer hslot hpkt hasked rfl
  · refine (answers_notify hpkt).imp ?_
    rintro u ⟨hgone, htable, hraise⟩
    refine ⟨hgone, htable, fun hmode hsend => ?_, fun hmode hv hsend hen => ?_⟩
    · rw [hraise hmode, raise_of_canSend hsend]
      dsimp only
      rw [Tab.modify, Tab.get_put_self]
    · rw [hraise hmode]
      exact pba_raise hv hsend hen

end Sys2Proof.Machine

/-!
BAR2 beyond the deep tier (R311): where the statement about host windows fails.
-/

namespace Sys2Proof.Machine

/-- A ready device whose port 0 holds size code 22 for BAR2, of 2^42 bytes. A write of the size control register takes
the codes 8 to 15 alone (R303). -/
def wideBar2 : State :=
  { State.reset with
    boot := { ready := true }
    ports := State.reset.ports.set 0 { linkUp := true, cfg := { bar2 := 22 } } }

theorem reaches_wideBar2 : Reaches wideBar2 (.port 0) := by
  unfold Reaches
  decide +kernel

/-- The first byte of cluster shared memory is tenant 0's, and no byte of the deep tier (R29, R311). -/
theorem deepWritable_wideBar2 : wideBar2.deepWritable 0
    ((wideBar2.port 0).b2Base.toNat * 2 ^ 26 + sharedBase) [(1 : Byte)].length = false := by decide +kernel

theorem exec_bar2Write_wideBar2 :
    exec (.bar2Write 0 sharedBase [1]) wideBar2 = .next (wideBar2.storeBytes sharedBase [1]) := by
  change execBar2Write 0 sharedBase [1] wideBar2 = _
  rw [execBar2Write, if_neg (by decide), if_neg (by decide)]
  exact congrArg Host.Outcome.next (by decide +kernel)

/-- The byte is written. -/
theorem mem_storeBytes_wideBar2 : (wideBar2.storeBytes sharedBase [1]).mem ≠ wideBar2.mem := by decide +kernel

/-- Refutes O35: through a BAR2 as large as the device address space, which the statement does not rule out, a write at
0x300_0000_0000 is performed in the cluster shared memory of tenant 0. The statement has it refused, since it reaches no
byte of the deep tier. -/
theorem not_hostWindows : ¬ Obligations.HostWindows := by
  intro h
  obtain ⟨hreaches, -⟩ := h wideBar2 0 0 0 0 sharedBase 0 false [1] ⟨0, 0, 0, false, 0⟩ []
  obtain ⟨-, -, -, -, -, -, -, hrefused, -⟩ := hreaches reaches_wideBar2
  obtain ⟨u, hexec, hmem, -⟩ := hrefused (by decide) (.inl deepWritable_wideBar2)
  obtain rfl := Host.Outcome.next.inj (exec_bar2Write_wideBar2.symm.trans hexec)
  exact mem_storeBytes_wideBar2 hmem

end Sys2Proof.Machine

/-!
FLR (R306): the stop without a completion, the port's own state, its DMA channels and its resources.
-/

namespace Sys2Proof.Machine

/-! ### What a stop leaves of everything else -/

/-- The current command's completion changes the ports alone, and may use a free value. -/
theorem finish_eq (s : State) (p : Port) (status : Nat) (d : Option Word) :
    ∃ ps n, s.finish p status d = { s with ports := ps, freeCtr := n } := by
  unfold State.finish
  split
  · exact ⟨_, _, rfl⟩
  · cases d <;> exact ⟨_, _, rfl⟩

/-- From s to u no more has changed than tenant t, its Shears and what an FLR resets of its port. -/
structure State.OnlyTenant (s u : State) (t : Tenant) : Prop where
  dma : u.dma = s.dma
  own : u.own = s.own
  timers : u.timers = s.timers
  cores : u.cores = s.cores
  mem : u.mem = s.mem
  now : u.now = s.now
  others : ∀ q, q ≠ t → u.port q = s.port q ∧ u.tenant q = s.tenant q
  port : (u.port t).afterFlr = (s.port t).afterFlr

section
variable {s u w : State} {t : Tenant}

theorem State.OnlyTenant.refl (s : State) (t : Tenant) : s.OnlyTenant s t :=
  ⟨rfl, rfl, rfl, rfl, rfl, rfl, fun _ _ => ⟨rfl, rfl⟩, rfl⟩

theorem State.OnlyTenant.trans (h : s.OnlyTenant u t) (h' : u.OnlyTenant w t) : s.OnlyTenant w t where
  dma := h'.dma.trans h.dma
  own := h'.own.trans h.own
  timers := h'.timers.trans h.timers
  cores := h'.cores.trans h.cores
  mem := h'.mem.trans h.mem
  now := h'.now.trans h.now
  others q hq := ⟨(h'.others q hq).1.trans (h.others q hq).1, (h'.others q hq).2.trans (h.others q hq).2⟩
  port := h'.port.trans h.port

theorem onlyTenant_modTenant (s : State) (t : Tenant) (f : TenantSt → TenantSt) : s.OnlyTenant (s.modTenant t f) t :=
  ⟨rfl, rfl, rfl, rfl, rfl, rfl, fun _ hq => ⟨rfl, tenant_modTenant_of_ne s f hq⟩, rfl⟩

theorem onlyTenant_modShear (s : State) (t : Tenant) (f : Shears → Shears) : s.OnlyTenant (s.modShear t f) t :=
  ⟨rfl, rfl, rfl, rfl, rfl, rfl, fun _ _ => ⟨rfl, rfl⟩, rfl⟩

theorem onlyTenant_scramble (s : State) (t : Tenant) (part : Nat) : s.OnlyTenant (s.scramble part) t :=
  ⟨rfl, rfl, rfl, rfl, rfl, rfl, fun _ _ => ⟨rfl, rfl⟩, rfl⟩

theorem afterFlr_ended (x : PortSt) (c : Cmd) (status : Nat) (w : Word) : (x.ended c status w).afterFlr = x.afterFlr :=
  rfl

theorem onlyTenant_finish (s : State) (t : Tenant) (status : Nat) (d : Option Word) :
    s.OnlyTenant (s.finish t status d) t := by
  have hport : ((s.finish t status d).port t).afterFlr = (s.port t).afterFlr := by
    cases hf : (s.port t).fetched with
    | nil => rw [State.finish, hf]
    | cons c cs =>
      obtain ⟨w, hw, -⟩ := port_finish hf status d
      rw [hw, afterFlr_ended]
  have hother (q : Port) (hq : q ≠ t) := port_finish_of_ne s (p := t) status d hq
  obtain ⟨ps, n, heq⟩ := finish_eq s t status d
  rw [heq] at hport hother ⊢
  exact ⟨rfl, rfl, rfl, rfl, rfl, rfl, fun q hq => ⟨hother q hq, rfl⟩, hport⟩

theorem onlyTenant_foldl {α : Type} (s : State) (t : Tenant) (l : List α) (f : State → α → State)
    (hf : ∀ (s : State) a, s.OnlyTenant (f s a) t) : s.OnlyTenant (l.foldl f s) t := by
  induction l generalizing s with
  | nil => exact .refl s t
  | cons a l ih => exact (hf s a).trans (ih (f s a))

end

/-! ### The stop of an FLR (R352, R356) -/

section
variable (s : State) (t : Tenant)

theorem onlyTenant_abortStart : s.OnlyTenant (s.abortStart t) t := by
  unfold State.abortStart
  split
  · exact ((onlyTenant_modTenant ..).trans (onlyTenant_modShear ..)).trans (onlyTenant_finish ..)
  · exact .refl s t

theorem onlyTenant_abortPatch : s.OnlyTenant (s.abortPatch t) t := by
  unfold State.abortPatch
  split
  · exact (onlyTenant_modTenant ..).trans (onlyTenant_finish ..)
  · exact .refl s t

theorem onlyTenant_beginStop (cmd : Bool) : s.OnlyTenant (s.beginStop t cmd) t := by
  unfold State.beginStop
  exact (((onlyTenant_abortStart s t).trans (onlyTenant_abortPatch ..)).trans (onlyTenant_modTenant ..)).trans
    (onlyTenant_modShear ..)

theorem onlyTenant_loadSpoilt : s.OnlyTenant (s.loadSpoilt t) t := by
  unfold State.loadSpoilt State.unload
  exact ((onlyTenant_foldl s t (s.coresOf t) _ fun s => onlyTenant_scramble s t).trans
    (onlyTenant_foldl _ t (s.clustersOf t) _ fun s c => onlyTenant_scramble s t (1024 + c))).trans
      (onlyTenant_modTenant ..)

theorem onlyTenant_flrStop : s.OnlyTenant (s.flrStop t) t := by
  unfold State.flrStop
  split
  · exact onlyTenant_beginStop ..
  · exact onlyTenant_modTenant ..
  · exact onlyTenant_loadSpoilt ..
  · exact (onlyTenant_abortStart s t).trans (onlyTenant_abortPatch ..)

theorem tenant_finish (p : Port) (status : Nat) (d : Option Word) : (s.finish p status d).tenant t = s.tenant t := by
  obtain ⟨ps, n, heq⟩ := finish_eq s p status d
  rw [heq]
  rfl

theorem tenant_modShear (f : Shears → Shears) (q : Tenant) : (s.modShear t f).tenant q = s.tenant q := rfl

theorem st_abortStart : ((s.abortStart t).tenant t).st = (s.tenant t).st := by
  unfold State.abortStart
  split
  · rw [tenant_finish, tenant_modShear, tenant_modTenant_self]
  · rfl

theorem st_abortPatch : ((s.abortPatch t).tenant t).st = (s.tenant t).st := by
  unfold State.abortPatch
  split
  · rw [tenant_finish, tenant_modTenant_self]
  · rfl

/-- Stopping begins: no edge fires any more, and the drain has 1 ms (R356). -/
theorem stopping_beginStop (cmd : Bool) : ((s.beginStop t cmd).tenant t).st = .stopping ∧
    ((s.beginStop t cmd).tenant t).stop = some ⟨cmd, s.now + 250000, false⟩ ∧
    ((s.beginStop t cmd).shear t).stopping = true := by
  rw [State.beginStop, shear_modShear_self]
  have htenant := tenant_modTenant_self ((s.abortStart t).abortPatch t) t fun x =>
    { x with st := .stopping, stop := some ⟨cmd, s.now + 250000, false⟩ }
  exact ⟨congrArg TenantSt.st htenant, congrArg TenantSt.stop htenant, rfl⟩

theorem st_loadSpoilt : ((s.loadSpoilt t).tenant t).st = .unloaded := by
  rw [State.loadSpoilt, State.unload, tenant_modTenant_self]

end

section
variable {s : State} {t : Tenant}

theorem flrStop_of_running (h : (s.tenant t).st = .running) : s.flrStop t = s.beginStop t false := by
  rw [State.flrStop, h]

theorem flrStop_of_loading (h : (s.tenant t).st = .loading) : s.flrStop t = s.loadSpoilt t := by
  rw [State.flrStop, h]

theorem st_flrStop_of_stopped (h : (s.tenant t).st = .stopped ∨ (s.tenant t).st = .unloaded) :
    ((s.flrStop t).tenant t).st = (s.tenant t).st := by
  have hstop : s.flrStop t = (s.abortStart t).abortPatch t := by obtain h | h := h <;> rw [State.flrStop, h]
  rw [hstop, st_abortPatch, st_abortStart]

end

/-! ### DMA channels (R371) -/

theorem dmaCh_modDma_self (s : State) (n : Fin 16) (f : DmaCh → DmaCh) : (s.modDma n f).dmaCh n = f (s.dmaCh n) :=
  Vector.getElem_set_self ..

theorem dmaCh_modDma_of_ne (s : State) {n m : Fin 16} (f : DmaCh → DmaCh) (h : m ≠ n) :
    (s.modDma n f).dmaCh m = s.dmaCh m :=
  Vector.getElem_set_ne n.isLt m.isLt fun e => h (Fin.ext e.symm)

theorem modDma_const (s : State) (n : Fin 16) (f : DmaCh → DmaCh) :
    s.modDma n f = s.modDma n fun _ => f (s.dmaCh n) := rfl

theorem modDma_modDma (s : State) (n : Fin 16) (f g : DmaCh → DmaCh) :
    (s.modDma n f).modDma n g = s.modDma n fun c => g (f c) := by
  simp [State.modDma]

theorem modDma_same (s : State) (n : Fin 16) : (s.modDma n fun _ => s.dmaCh n) = s := by
  simp [State.modDma, State.dmaCh]

/-- From x to y a channel has been released, or it ends an abort that releases it, or it was free (R370, R371). -/
def DmaCh.ReleasedTo (x y : DmaCh) : Prop :=
  y = { nextId := x.nextId } ∨ (y.st = .aborting ∧ y.releaseAfter = true) ∨ x.st = .free

theorem toIdle_of_releasing {c : DmaCh} (h : c.releaseAfter = true) : c.toIdle = { nextId := c.nextId } := if_pos h

/-- An abort of a channel that is to be released behind it (R370, R371). -/
theorem dmaAbort_of_releasing {s : State} {n : Fin 16} (hafter : (s.dmaCh n).releaseAfter = true) :
    ∃ y, s.dmaAbort n = s.modDma n (fun _ => y) ∧
      (y = { nextId := (s.dmaCh n).nextId } ∨ (y.st = .aborting ∧ y.releaseAfter = true) ∨
        (y = s.dmaCh n ∧ (y.st = .idle ∨ y.st = .free))) := by
  unfold State.dmaAbort
  split
  · refine ⟨{ (s.dmaCh n).toIdle with err := {} }, rfl, .inl ?_⟩
    rw [toIdle_of_releasing hafter]
  · have hch := dmaCh_modDma_self s n fun c => { c with st := .aborting }
    rw [State.dmaSettle, hch]
    dsimp only
    split
    · exact ⟨_, modDma_const .., .inr (.inl ⟨rfl, hafter⟩)⟩
    · split
      · exact ⟨_, modDma_const .., .inr (.inl ⟨rfl, hafter⟩)⟩
      · rw [modDma_modDma]
        exact ⟨_, modDma_const .., .inl (toIdle_of_releasing hafter)⟩
  · next hhalted hrunning =>
    refine ⟨_, (modDma_same s n).symm, ?_⟩
    cases hst : (s.dmaCh n).st with
    | free => exact .inr (.inr ⟨rfl, .inr rfl⟩)
    | idle => exact .inr (.inr ⟨rfl, .inl rfl⟩)
    | running => exact absurd hst hrunning
    | halted => exact absurd hst hhalted
    | aborting => exact .inr (.inl ⟨rfl, hafter⟩)

/-- A channel of tenant t is aborted and released; another is left alone. -/
def State.dmaFree (s : State) (t : Tenant) (n : Fin 16) : State :=
  let c := s.dmaCh n
  if c.st = .free ∨ c.owner ≠ t then s
  else
    let s1 := (s.modDma n fun c => { c with releaseAfter := true }).dmaAbort n
    if (s1.dmaCh n).st = .idle then s1.modDma n DmaCh.freed else s1

theorem dmaReleaseAll_eq (s : State) (t : Tenant) :
    s.dmaReleaseAll t = (List.finRange 16).foldl (fun s n => s.dmaFree t n) s := rfl

theorem dmaFree_eq (s : State) (t : Tenant) (n : Fin 16) : ∃ y, s.dmaFree t n = s.modDma n (fun _ => y) ∧
    ((s.dmaCh n).owner = t → (s.dmaCh n).ReleasedTo y) ∧ ((s.dmaCh n).owner ≠ t → y = s.dmaCh n) := by
  unfold State.dmaFree
  dsimp only
  split
  · next hskip =>
    exact ⟨_, (modDma_same s n).symm, fun howner => .inr (.inr (hskip.resolve_right fun h => h howner)), fun _ => rfl⟩
  · next hown =>
    obtain ⟨hbusy, howner⟩ := not_or.mp hown
    have hch := dmaCh_modDma_self s n fun c => { c with releaseAfter := true }
    obtain ⟨y, hy, hend⟩ := dmaAbort_of_releasing (s := s.modDma n fun c => { c with releaseAfter := true }) (n := n)
      (congrArg DmaCh.releaseAfter hch)
    rw [hy, dmaCh_modDma_self]
    rw [hch] at hend
    split
    · next hidle =>
      rw [modDma_modDma, modDma_modDma]
      refine ⟨y.freed, rfl, fun _ => .inl ?_, fun h => absurd h howner⟩
      obtain rfl | ⟨habort, -⟩ | ⟨rfl, -⟩ := hend
      · cases hidle
      · rw [habort] at hidle
        cases hidle
      · rfl
    · next hidle =>
      refine ⟨y, modDma_modDma .., fun _ => ?_, fun h => absurd h howner⟩
      obtain hfreed | habort | ⟨rfl, hst⟩ := hend
      · exact .inl hfreed
      · exact .inr (.inl habort)
      · exact .inr (.inr (hst.resolve_left hidle))

/-- A channel of tenant t has been released from x, and another is as it was. -/
def DmaCh.FreedFor (t : Tenant) (x y : DmaCh) : Prop :=
  (x.owner = t → x.ReleasedTo y) ∧ (x.owner ≠ t → y = x)

theorem dmaCh_foldl_dmaFree (t : Tenant) {l : List (Fin 16)} (hnodup : l.Nodup) (s : State) (m : Fin 16) :
    (m ∉ l → (l.foldl (fun s n => s.dmaFree t n) s).dmaCh m = s.dmaCh m) ∧
      (m ∈ l → (s.dmaCh m).FreedFor t ((l.foldl (fun s n => s.dmaFree t n) s).dmaCh m)) := by
  induction l generalizing s with
  | nil => exact ⟨fun _ => rfl, fun h => absurd h List.not_mem_nil⟩
  | cons n l ih =>
    obtain ⟨hn, hl⟩ := List.nodup_cons.mp hnodup
    obtain ⟨y, hy, hfreed⟩ := dmaFree_eq s t n
    obtain ⟨hout, hin⟩ := ih hl (s.dmaFree t n)
    rw [List.foldl_cons]
    refine ⟨fun hm => ?_, fun hm => ?_⟩
    · obtain ⟨hne, hml⟩ := not_or.mp (mt List.mem_cons.mpr hm)
      rw [hout hml, hy, dmaCh_modDma_of_ne s _ hne]
    · obtain rfl | hml := List.mem_cons.mp hm
      · rw [hout hn, hy, dmaCh_modDma_self]
        exact hfreed
      · have hne : m ≠ n := fun h => hn (h ▸ hml)
        have hfreed' := hin hml
        rwa [hy, dmaCh_modDma_of_ne s _ hne, ← hy] at hfreed'

theorem foldl_dmaFree_eq (t : Tenant) (l : List (Fin 16)) (s : State) :
    ∃ d, l.foldl (fun s n => s.dmaFree t n) s = { s with dma := d } := by
  induction l generalizing s with
  | nil => exact ⟨s.dma, rfl⟩
  | cons n l ih =>
    obtain ⟨y, hy, -⟩ := dmaFree_eq s t n
    obtain ⟨d, hd⟩ := ih (s.dmaFree t n)
    rw [List.foldl_cons, hd, hy]
    exact ⟨d, rfl⟩

theorem dmaCh_dmaReleaseAll (s : State) (t : Tenant) (m : Fin 16) :
    (s.dmaCh m).FreedFor t ((s.dmaReleaseAll t).dmaCh m) :=
  (dmaCh_foldl_dmaFree t (List.nodup_finRange 16) s m).2 (List.mem_finRange m)

/-! ### Ports and timers (R378, R416) -/

/-- A released resource is unowned, and of the rest of the state no more than the ports unit changes. -/
theorem resetResource_eq (s : State) (key : Nat) : ∃ io pin noted, s.resetResource key =
    { s with own := Tab.put s.own none key none, io := io, pin := pin, pinNoted := noted } := by
  unfold State.resetResource
  dsimp only
  split
  · exact ⟨_, _, _, rfl⟩
  · split
    · exact ⟨_, _, _, rfl⟩
    · split <;> exact ⟨_, _, _, rfl⟩

theorem foldl_resetResource_eq (l : List Nat) (s : State) : ∃ own io pin noted,
    l.foldl State.resetResource s = { s with own := own, io := io, pin := pin, pinNoted := noted } ∧
      ∀ k, Tab.get own none k = if k ∈ l then none else s.owner k := by
  induction l generalizing s with
  | nil => exact ⟨s.own, s.io, s.pin, s.pinNoted, rfl, fun k => (if_neg List.not_mem_nil).symm⟩
  | cons key l ih =>
    obtain ⟨io, pin, noted, hkey⟩ := resetResource_eq s key
    obtain ⟨own, io', pin', noted', hl, hown⟩ := ih (s.resetResource key)
    refine ⟨own, io', pin', noted', ?_, fun k => ?_⟩
    · rw [List.foldl_cons, hl, hkey]
    · rw [hown, hkey, State.owner, Tab.get_put, State.owner]
      by_cases hk : k = key
      · simp [hk]
      · simp [hk]

theorem releaseResources_eq (s : State) (t : Tenant) : ∃ own io pin noted, s.releaseResources t =
    { s with own := own, io := io, pin := pin, pinNoted := noted,
             timers := s.timers.map fun x => if x.owner = some t.val then {} else x } ∧
      ∀ k, k < 176 → Tab.get own none k = if s.owner k = some t.val then none else s.owner k := by
  obtain ⟨own, io, pin, noted, hl, hown⟩ :=
    foldl_resetResource_eq ((List.range 176).filter fun k => s.owner k == some t.val) s
  refine ⟨own, io, pin, noted, ?_, fun k hk => ?_⟩
  · rw [State.releaseResources, hl]
  · rw [hown]
    exact if_congr (by simp [hk]) rfl rfl

/-! ### FLR -/

/-- The machine after an FLR has reset a port and caught its commands, before its tenant's resources are released. -/
def State.portReset (s : State) (p : Port) : State :=
  let s1 := (s.silence p).modPort p PortSt.afterFlr
  { s1 with
    inj := Tab.put (Tab.put s1.inj [] (2 * p.val) []) [] (2 * p.val + 1) []
    injNoted := Tab.put (Tab.put s1.injNoted 0 (2 * p.val) 0) 0 (2 * p.val + 1) 0 }

theorem flr_eq (s : State) (p : Port) :
    s.flr p = (((s.flrStop p).portReset p).dmaReleaseAll p).releaseResources p := rfl

/-- From s to u a tenant's channels and resources have been released, and nothing else has changed that is named
here. -/
structure State.Releases (s u : State) (t : Tenant) : Prop where
  ports : u.ports = s.ports
  tenants : u.tenants = s.tenants
  sh : u.sh = s.sh
  inj : u.inj = s.inj
  lehr : u.lehr = s.lehr
  tests : u.tests = s.tests
  cores : u.cores = s.cores
  mem : u.mem = s.mem
  owner : ∀ k, k < 176 → u.owner k = if s.owner k = some t.val then none else s.owner k
  timers : u.timers = s.timers.map fun x => if x.owner = some t.val then {} else x
  dma : ∀ n, (s.dmaCh n).FreedFor t (u.dmaCh n)

theorem releases_releaseResources (s : State) (t : Tenant) :
    s.Releases ((s.dmaReleaseAll t).releaseResources t) t := by
  have hdma := dmaCh_dmaReleaseAll s t
  obtain ⟨own, io, pin, noted, hres, hown⟩ := releaseResources_eq (s.dmaReleaseAll t) t
  obtain ⟨d, hd⟩ := foldl_dmaFree_eq t (List.finRange 16) s
  rw [hres]
  rw [dmaReleaseAll_eq, hd] at hdma hown ⊢
  exact ⟨rfl, rfl, rfl, rfl, rfl, rfl, rfl, rfl, hown, rfl, hdma⟩

theorem silent_of_silence (s : State) (p : Port) :
    (∀ j ∈ (s.silence p).lehr.jobs, j.who.port = p → j.who.silent = true) ∧
      ∀ j ∈ (s.silence p).tests, j.who.port = p → j.who.silent = true := by
  unfold State.silence
  constructor <;>
  · intro j hj hp
    obtain ⟨i, -, rfl⟩ := List.mem_map.mp hj
    dsimp only at hp ⊢
    split
    · rfl
    · next hne =>
      rw [if_neg hne] at hp
      exact absurd hp hne

/-- From s to u an FLR of a port has acted (R306). -/
structure State.Flr (s u : State) (p : Port) : Prop where
  port : u.port p = (s.port p).afterFlr
  others : ∀ q, q ≠ p → u.port q = s.port q ∧ u.tenant q = s.tenant q
  inj : Tab.get u.inj [] (2 * p.val) = [] ∧ Tab.get u.inj [] (2 * p.val + 1) = []
  running : (s.tenant p).st = .running → (u.tenant p).st = .stopping ∧
    (u.tenant p).stop = some ⟨false, s.now + 250000, false⟩ ∧ (u.shear p).stopping = true
  stopped : (s.tenant p).st = .stopped ∨ (s.tenant p).st = .unloaded → (u.tenant p).st = (s.tenant p).st
  loading : (s.tenant p).st = .loading → (u.tenant p).st = .unloaded
  owner : ∀ k, k < 176 → u.owner k = if s.owner k = some p.val then none else s.owner k
  timers : ∀ n : Fin 16, u.timers[n.val] = if (s.timers[n.val]).owner = some p.val then {} else s.timers[n.val]
  dma : ∀ n, (s.dmaCh n).FreedFor p (u.dmaCh n)
  jobs : ∀ j ∈ u.lehr.jobs, j.who.port = p → j.who.silent = true
  tests : ∀ j ∈ u.tests, j.who.port = p → j.who.silent = true
  cores : u.cores = s.cores
  mem : u.mem = s.mem

section
variable (s : State) (p : Port)

theorem keeps_portReset : (s.portReset p).dma = s.dma ∧ (s.portReset p).own = s.own ∧
    (s.portReset p).timers = s.timers ∧ (s.portReset p).cores = s.cores ∧ (s.portReset p).mem = s.mem ∧
    (s.portReset p).tenants = s.tenants ∧ (s.portReset p).sh = s.sh := ⟨rfl, rfl, rfl, rfl, rfl, rfl, rfl⟩

theorem port_portReset_self : (s.portReset p).port p = (s.port p).afterFlr := port_modPort_self (s.silence p) p _

theorem port_portReset_of_ne {q : Port} (hq : q ≠ p) : (s.portReset p).port q = s.port q :=
  port_modPort_of_ne (s.silence p) _ hq

theorem inj_portReset : Tab.get (s.portReset p).inj [] (2 * p.val) = [] ∧
    Tab.get (s.portReset p).inj [] (2 * p.val + 1) = [] := by
  constructor
  · rw [State.portReset, Tab.get_put_of_ne _ _ _ (by omega), Tab.get_put_self]
  · rw [State.portReset, Tab.get_put_self]

theorem silent_portReset : (∀ j ∈ (s.portReset p).lehr.jobs, j.who.port = p → j.who.silent = true) ∧
    ∀ j ∈ (s.portReset p).tests, j.who.port = p → j.who.silent = true := silent_of_silence s p

theorem flr_flr : s.Flr (s.flr p) p := by
  have hstop := onlyTenant_flrStop s p
  rw [flr_eq]
  generalize hv : s.flrStop p = v at hstop
  have hrel := releases_releaseResources (v.portReset p) p
  obtain ⟨hdma, hown, htimers, hcores, hmem, htenants, hsh⟩ := keeps_portReset v p
  generalize ((v.portReset p).dmaReleaseAll p).releaseResources p = u at hrel
  have htenant (q : Tenant) : u.tenant q = v.tenant q := by
    rw [State.tenant, hrel.tenants, htenants, State.tenant]
  have hshear : u.shear p = v.shear p := by rw [State.shear, hrel.sh, hsh, State.shear]
  have hport (q : Port) : u.port q = (v.portReset p).port q := by rw [State.port, hrel.ports, State.port]
  have howner (k : Nat) : (v.portReset p).owner k = s.owner k := by
    rw [State.owner, hown, hstop.own, State.owner]
  have hch (n : Fin 16) : (v.portReset p).dmaCh n = s.dmaCh n := by
    rw [State.dmaCh, hdma, hstop.dma, State.dmaCh]
  obtain ⟨hjobs, htests⟩ := silent_portReset v p
  constructor
  case port => rw [hport, port_portReset_self, hstop.port]
  case others =>
    intro q hq
    rw [hport, port_portReset_of_ne v p hq, htenant]
    exact hstop.others q hq
  case inj =>
    rw [hrel.inj]
    exact inj_portReset v p
  case running =>
    intro h
    rw [htenant, hshear, ← hv, flrStop_of_running h]
    exact stopping_beginStop s p false
  case stopped =>
    intro h
    rw [htenant, ← hv, st_flrStop_of_stopped h]
  case loading =>
    intro h
    rw [htenant, ← hv, flrStop_of_loading h, st_loadSpoilt]
  case owner =>
    intro k hk
    rw [hrel.owner k hk, howner]
  case timers =>
    intro n
    simp only [hrel.timers, htimers, hstop.timers, Vector.getElem_map]
  case dma =>
    intro n
    rw [← hch]
    exact hrel.dma n
  case jobs =>
    rw [hrel.lehr]
    exact hjobs
  case tests =>
    rw [hrel.tests]
    exact htests
  case cores => rw [hrel.cores, hcores, hstop.cores]
  case mem => rw [hrel.mem, hmem, hstop.mem]

end

/-- Settles O54: an FLR is its stop, the reset of its port and the release of what its tenant owns, and the other two
resets are an FLR. -/
theorem portResets : Obligations.PortResets := by
  intro s p hready hconf x c flr
  have hflr := flr_flr s p
  generalize hu : s.flr p = u at hflr
  have hup : flr u true := by
    refine ⟨?_, hflr.others, hflr.inj.1, hflr.inj.2, hflr.running, hflr.stopped, hflr.loading, hflr.owner, hflr.timers,
      fun n => (hflr.dma n).1, fun n => (hflr.dma n).2, hflr.jobs, hflr.tests, hflr.cores, hflr.mem⟩
    rw [hflr.port]
    rfl
  refine ⟨⟨u, ?_, hup⟩, fun hne => ⟨u, ?_, hup⟩, ?_⟩
  · change execFlr p s = _
    simp [execFlr, hready, hconf, hu]
  · change execPerstPort p s = _
    simp [execPerstPort, hready, hconf, hne, hu]
  · refine ⟨u.modPort p fun x => { x with linkUp := false, width := 0, rate := 0 }, ?_, ?_,
      fun q hq => ⟨(port_modPort_of_ne _ _ hq).trans (hflr.others q hq).1, (hflr.others q hq).2⟩, hflr.inj.1,
      hflr.inj.2, hflr.running, hflr.stopped, hflr.loading, hflr.owner, hflr.timers, fun n => (hflr.dma n).1,
      fun n => (hflr.dma n).2, hflr.jobs, hflr.tests, hflr.cores, hflr.mem⟩
    · change execLinkDown p s = _
      simp [execLinkDown, hready, hconf, hu]
    · rw [port_modPort_self, hflr.port]
      rfl

end Sys2Proof.Machine

/-!
Reset of the whole device (R306, R452, R515): what survives it, what it clears, and what the boot steps leave of both.
-/

namespace Sys2Proof.Machine

/-! ### What a reset keeps and clears -/

/-- What is not volatile, or lies outside the device, has survived a reset (R306, R452). -/
def State.Survives (s u : State) : Prop :=
  u.nor = s.nor ∧ u.hostMem = s.hostMem ∧ u.pending = s.pending ∧ u.fuses = { s.fuses with lc := s.fuses.blown } ∧
    (∃ torn, u.lehr = s.lehr.lose torn) ∧ u.lehr.ready = false ∧ u.lehr.jobs = [] ∧ u.lehr.sets = s.lehr.sets

/-- What is volatile is at its reset value (R306, R452). -/
def State.Cleared (u : State) : Prop :=
  (∀ k, u.core k = {}) ∧ (∀ k, u.cluster k = {}) ∧ u.mem = [] ∧ u.flight = [] ∧ u.sync = [] ∧
    (∀ t, u.tenant t = {} ∧ u.shear t = {}) ∧ (∀ p, (u.port p).cmdEn = false ∧ (u.port p).evEn = false) ∧
    u.timers = Vector.replicate 16 {} ∧ u.dma = {} ∧ u.aon = {} ∧ u.pont.gate = false

/-- Nothing that a reset keeps has changed from s to u. -/
structure State.KeepsDurable (s u : State) : Prop where
  nor : u.nor = s.nor
  hostMem : u.hostMem = s.hostMem
  pending : u.pending = s.pending
  fuses : u.fuses = s.fuses
  lehr : u.lehr = s.lehr
  straps : u.straps = s.straps
  starts : u.starts = s.starts

/-- Nothing that a reset clears has changed from s to u. -/
structure State.KeepsVolatile (s u : State) : Prop where
  cores : u.cores = s.cores
  clusters : u.clusters = s.clusters
  mem : u.mem = s.mem
  flight : u.flight = s.flight
  sync : u.sync = s.sync
  tenants : u.tenants = s.tenants
  sh : u.sh = s.sh
  rings : ∀ p, (u.port p).cmdEn = (s.port p).cmdEn ∧ (u.port p).evEn = (s.port p).evEn
  timers : u.timers = s.timers
  dma : u.dma = s.dma
  aon : u.aon = s.aon
  gate : u.pont.gate = s.pont.gate

section
variable {s u w : State}

theorem State.KeepsDurable.refl (s : State) : s.KeepsDurable s := ⟨rfl, rfl, rfl, rfl, rfl, rfl, rfl⟩

theorem State.KeepsDurable.trans (h : s.KeepsDurable u) (h' : u.KeepsDurable w) : s.KeepsDurable w :=
  ⟨h'.nor.trans h.nor, h'.hostMem.trans h.hostMem, h'.pending.trans h.pending, h'.fuses.trans h.fuses,
    h'.lehr.trans h.lehr, h'.straps.trans h.straps, h'.starts.trans h.starts⟩

theorem State.KeepsDurable.foldl {α : Type} (l : List α) (f : State → α → State)
    (hf : ∀ (s : State) a, s.KeepsDurable (f s a)) (s : State) : s.KeepsDurable (l.foldl f s) := by
  induction l generalizing s with
  | nil => exact .refl s
  | cons a l ih => exact (hf s a).trans (ih (f s a))

theorem State.KeepsVolatile.refl (s : State) : s.KeepsVolatile s :=
  ⟨rfl, rfl, rfl, rfl, rfl, rfl, rfl, fun _ => ⟨rfl, rfl⟩, rfl, rfl, rfl, rfl⟩

theorem State.KeepsVolatile.trans (h : s.KeepsVolatile u) (h' : u.KeepsVolatile w) : s.KeepsVolatile w where
  cores := h'.cores.trans h.cores
  clusters := h'.clusters.trans h.clusters
  mem := h'.mem.trans h.mem
  flight := h'.flight.trans h.flight
  sync := h'.sync.trans h.sync
  tenants := h'.tenants.trans h.tenants
  sh := h'.sh.trans h.sh
  rings p := ⟨(h'.rings p).1.trans (h.rings p).1, (h'.rings p).2.trans (h.rings p).2⟩
  timers := h'.timers.trans h.timers
  dma := h'.dma.trans h.dma
  aon := h'.aon.trans h.aon
  gate := h'.gate.trans h.gate

theorem State.Survives.keep (h : s.Survives u) (hk : u.KeepsDurable w) : s.Survives w := by
  unfold State.Survives
  rw [hk.nor, hk.hostMem, hk.pending, hk.fuses, hk.lehr]
  exact h

/-- A reset that is preceded by steps that keep what it keeps. -/
theorem State.KeepsDurable.survives (hk : s.KeepsDurable u) (h : u.Survives w) : s.Survives w := by
  unfold State.Survives at h
  rwa [hk.nor, hk.hostMem, hk.pending, hk.fuses, hk.lehr] at h

theorem State.Cleared.keep (h : u.Cleared) (hk : u.KeepsVolatile w) : w.Cleared := by
  obtain ⟨hcores, hclusters, hmem, hflight, hsync, htenants, hports, htimers, hdma, haon, hgate⟩ := h
  refine ⟨fun k => ?_, fun k => ?_, hk.mem.trans hmem, hk.flight.trans hflight, hk.sync.trans hsync,
    fun t => ⟨?_, ?_⟩, fun p => ⟨(hk.rings p).1.trans (hports p).1, (hk.rings p).2.trans (hports p).2⟩,
    hk.timers.trans htimers, hk.dma.trans hdma, hk.aon.trans haon, hk.gate.trans hgate⟩
  · rw [← hcores k, State.core, hk.cores, State.core]
  · rw [← hclusters k, State.cluster, hk.clusters, State.cluster]
  · rw [← (htenants t).1, State.tenant, hk.tenants, State.tenant]
  · rw [← (htenants t).2, State.shear, hk.sh, State.shear]

end

/-! ### The reset (R306, R452) -/

theorem sets_foldl_append (l : List CommitRec) (x : Lehr) : (l.foldl Lehr.append x).sets = x.sets ∧
    (l.foldl Lehr.append x).ready = x.ready ∧ (l.foldl Lehr.append x).jobs = x.jobs := by
  induction l generalizing x with
  | nil => exact ⟨rfl, rfl, rfl⟩
  | cons r l ih => exact ih (x.append r)

/-- A commit record leaves the save sets and the jobs alone (R290). -/
theorem sets_addRecord (x : Lehr) (r : CommitRec) : (x.addRecord r).sets = x.sets ∧
    (x.addRecord r).ready = x.ready ∧ (x.addRecord r).jobs = x.jobs := by
  have hturn : x.turn.sets = x.sets ∧ x.turn.ready = x.ready ∧ x.turn.jobs = x.jobs := by
    unfold Lehr.turn
    split
    · exact ⟨rfl, rfl, rfl⟩
    · exact sets_foldl_append ..
  exact hturn

/-- The power fails: no job goes on, and every save stays in its set. -/
theorem lose_keeps (x : Lehr) (torn : Bool) :
    (x.lose torn).ready = false ∧ (x.lose torn).jobs = [] ∧ (x.lose torn).sets = x.sets := by
  unfold Lehr.lose
  dsimp only
  split
  · split
    · obtain ⟨hsets, hready, hjobs⟩ := sets_addRecord { x with ready := false, jobs := [], err := 0 } _
      exact ⟨hready, hjobs, hsets⟩
    · exact ⟨rfl, rfl, rfl⟩
  · exact ⟨rfl, rfl, rfl⟩

section
variable (s : State) (straps : Straps)

theorem survives_deviceReset : s.Survives (s.deviceReset straps) := by
  obtain ⟨hready, hjobs, hsets⟩ := lose_keeps s.lehr (s.free.getLsbD 0)
  exact ⟨rfl, rfl, rfl, rfl, ⟨_, rfl⟩, hready, hjobs, hsets⟩

theorem ports_deviceReset (p : Port) : (s.deviceReset straps).port p = {} := port_reset p

theorem cleared_deviceReset : (s.deviceReset straps).Cleared :=
  ⟨fun _ => rfl, fun _ => rfl, rfl, rfl, rfl, fun t => ⟨tenant_reset t, shear_reset t⟩,
    fun p => by rw [ports_deviceReset]; exact ⟨rfl, rfl⟩, rfl, rfl, rfl, rfl⟩

theorem keeps_modBoot (f : Boot → Boot) : s.KeepsDurable (s.modBoot f) ∧ s.KeepsVolatile (s.modBoot f) :=
  ⟨⟨rfl, rfl, rfl, rfl, rfl, rfl, rfl⟩, rfl, rfl, rfl, rfl, rfl, rfl, rfl, fun _ => ⟨rfl, rfl⟩, rfl, rfl, rfl, rfl⟩

/-- The device is held in reset: what survives has, and everything else is clear. -/
theorem held_heldReset : s.Survives (s.heldReset straps) ∧ (s.heldReset straps).Cleared := by
  obtain ⟨hdurable, hvolatile⟩ := keeps_modBoot (s.deviceReset straps) fun b => { b with inReset := true }
  exact ⟨(survives_deviceReset s straps).keep hdurable, (cleared_deviceReset s straps).keep hvolatile⟩

end

/-! ### The safe state before a reset (R498, R515) -/

/-- Nothing that a reset keeps has changed from s to u, and neither have the boot state and the Pontil. -/
structure State.KeepsHeld (s u : State) : Prop extends s.KeepsDurable u where
  boot : u.boot = s.boot
  pont : u.pont = s.pont

theorem State.KeepsHeld.refl (s : State) : s.KeepsHeld s := ⟨.refl s, rfl, rfl⟩

theorem State.KeepsHeld.trans {s u w : State} (h : s.KeepsHeld u) (h' : u.KeepsHeld w) : s.KeepsHeld w :=
  ⟨h.toKeepsDurable.trans h'.toKeepsDurable, h'.boot.trans h.boot, h'.pont.trans h.pont⟩

theorem State.KeepsHeld.foldl {α : Type} (l : List α) (f : State → α → State)
    (hf : ∀ (s : State) a, s.KeepsHeld (f s a)) (s : State) : s.KeepsHeld (l.foldl f s) := by
  induction l generalizing s with
  | nil => exact .refl s
  | cons a l ih => exact (hf s a).trans (ih (f s a))

section
variable (s : State)

theorem keepsHeld_note (p : Port) (code : Nat) : s.KeepsHeld (s.note p code) :=
  ⟨⟨rfl, rfl, rfl, rfl, rfl, rfl, rfl⟩, rfl, rfl⟩

theorem keepsHeld_finish (p : Port) (status : Nat) (d : Option Word) : s.KeepsHeld (s.finish p status d) := by
  obtain ⟨ps, n, heq⟩ := finish_eq s p status d
  rw [heq]
  exact ⟨⟨rfl, rfl, rfl, rfl, rfl, rfl, rfl⟩, rfl, rfl⟩

theorem keepsHeld_modTenant (t : Tenant) (f : TenantSt → TenantSt) : s.KeepsHeld (s.modTenant t f) :=
  ⟨⟨rfl, rfl, rfl, rfl, rfl, rfl, rfl⟩, rfl, rfl⟩

theorem keepsHeld_modShear (t : Tenant) (f : Shears → Shears) : s.KeepsHeld (s.modShear t f) :=
  ⟨⟨rfl, rfl, rfl, rfl, rfl, rfl, rfl⟩, rfl, rfl⟩

theorem keepsHeld_modAon (f : Aon → Aon) : s.KeepsHeld (s.modAon f) := ⟨⟨rfl, rfl, rfl, rfl, rfl, rfl, rfl⟩, rfl, rfl⟩

theorem keepsHeld_spend : s.KeepsHeld s.spend := ⟨⟨rfl, rfl, rfl, rfl, rfl, rfl, rfl⟩, rfl, rfl⟩

theorem keepsHeld_abortStart (t : Tenant) : s.KeepsHeld (s.abortStart t) := by
  unfold State.abortStart
  split
  · exact ((keepsHeld_modTenant ..).trans (keepsHeld_modShear ..)).trans (keepsHeld_finish ..)
  · exact .refl s

theorem keepsHeld_abortPatch (t : Tenant) : s.KeepsHeld (s.abortPatch t) := by
  unfold State.abortPatch
  split
  · exact (keepsHeld_modTenant ..).trans (keepsHeld_finish ..)
  · exact .refl s

theorem keepsHeld_beginStop (t : Tenant) (cmd : Bool) : s.KeepsHeld (s.beginStop t cmd) := by
  unfold State.beginStop
  exact (((keepsHeld_abortStart s t).trans (keepsHeld_abortPatch ..)).trans (keepsHeld_modTenant ..)).trans
    (keepsHeld_modShear ..)

theorem keepsHeld_faultedStop (t : Tenant) : s.KeepsHeld (s.faultedStop t) := by
  unfold State.faultedStop
  dsimp only
  split
  · exact ((keepsHeld_modShear ..).trans (keepsHeld_note ..)).trans (keepsHeld_beginStop ..)
  · exact keepsHeld_modShear ..

theorem keepsHeld_retentionLost (k : Nat) : s.KeepsHeld (s.retentionLost k) := by
  unfold State.retentionLost
  split
  · exact ⟨⟨rfl, rfl, rfl, rfl, rfl, rfl, rfl⟩, rfl, rfl⟩
  · exact .refl s

theorem keepsHeld_islandLeaves (cl : Nat) : s.KeepsHeld (s.islandLeaves cl) := by
  unfold State.islandLeaves
  exact (((keepsHeld_spend s).trans (.foldl _ _ keepsHeld_retentionLost _)).trans (keepsHeld_spend _)).trans
    (keepsHeld_modAon ..)

theorem keepsHeld_abortEntry : s.KeepsHeld s.abortEntry := by
  unfold State.abortEntry
  dsimp only
  split
  · exact keepsHeld_modAon ..
  · exact (keepsHeld_modAon ..).trans (.foldl _ _ keepsHeld_islandLeaves _)

theorem keepsHeld_wake (bit : Nat) (level : Bool) (pin : Option Nat) : s.KeepsHeld (s.wake bit level pin) := by
  unfold State.wake
  dsimp only
  split
  · split
    · exact .refl s
    · exact keepsHeld_modAon ..
  · split
    · exact keepsHeld_abortEntry s
    · split
      · exact ⟨⟨rfl, rfl, rfl, rfl, rfl, rfl, rfl⟩, rfl, rfl⟩
      · split
        · exact keepsHeld_modAon ..
        · exact .refl s

theorem keepsHeld_wakeLevels : s.KeepsHeld s.wakeLevels := by
  have hreq (u : State) : u.KeepsHeld (if u.pont.wakeReq then u.wake 6 true none else u) := by
    split
    · exact keepsHeld_wake ..
    · exact .refl u
  unfold State.wakeLevels
  cases s.levelPin with
  | none => exact hreq s
  | some n => exact (keepsHeld_wake s 3 true (some n)).trans (hreq _)

theorem closeGate_keeps : s.KeepsDurable s.closeGate ∧ s.closeGate.boot = s.boot ∧
    s.closeGate.pont = { s.pont with gate := false } := ⟨⟨rfl, rfl, rfl, rfl, rfl, rfl, rfl⟩, rfl, rfl⟩

theorem keepsDurable_modPont (f : Pontil → Pontil) : s.KeepsDurable (s.modPont f) := ⟨rfl, rfl, rfl, rfl, rfl, rfl, rfl⟩

/-- The Pontil in the safe state, with the first source latched (R498). -/
def Pontil.safe (x : Pontil) (src detail : Nat) (wake : Bool) : Pontil :=
  { x with
    faulted := true
    src := if !x.faulted then src else x.src
    detail := if !x.faulted then BitVec.ofNat 22 detail else x.detail
    wakeReq := x.wakeReq || wake }

/-- The MP is interrupted, and a first source shows on SMB_ALERT_N. -/
def State.alerted (s : State) (first : Bool) : State :=
  { s with mpIrq := s.mpIrq + 1, smb := { s.smb with alert := s.smb.alert || first } }

theorem keepsHeld_alerted (first : Bool) : s.KeepsHeld (s.alerted first) :=
  ⟨⟨rfl, rfl, rfl, rfl, rfl, rfl, rfl⟩, rfl, rfl⟩

/-- The machine once the gate has closed and the source is latched, before the tenants stop. -/
def State.safeLatched (s : State) (src detail : Nat) : State :=
  (s.closeGate.modPont fun x => x.safe src detail (decide (2 ≤ s.aon.st) || s.aon.entering.isSome)).alerted
    (!s.pont.faulted)

theorem enterSafe_eq (src detail : Nat) : s.enterSafe src detail =
    ((List.finRange 4).foldl State.faultedStop (s.safeLatched src detail)).wakeLevels := by
  simp only [State.enterSafe, State.safeLatched, Pontil.safe, Bool.or_assoc]
  rfl

theorem keepsHeld_enterSafe (src detail : Nat) : (s.safeLatched src detail).KeepsHeld (s.enterSafe src detail) := by
  rw [enterSafe_eq]
  exact (State.KeepsHeld.foldl _ _ keepsHeld_faultedStop _).trans (keepsHeld_wakeLevels _)

/-- The safe state leaves what a reset keeps, and latches the first source (R498). -/
theorem enterSafe_latches (src detail : Nat) : s.KeepsDurable (s.enterSafe src detail) ∧
    (s.enterSafe src detail).boot = s.boot ∧ (s.enterSafe src detail).pont.faulted = true ∧
    (s.enterSafe src detail).pont.gate = false ∧
    (s.enterSafe src detail).pont.src = if !s.pont.faulted then src else s.pont.src := by
  obtain ⟨hdurable, hboot, hpont⟩ := closeGate_keeps s
  have hlatched := keepsDurable_modPont s.closeGate fun x =>
    x.safe src detail (decide (2 ≤ s.aon.st) || s.aon.entering.isSome)
  have hheld := keepsHeld_enterSafe s src detail
  have halert := keepsHeld_alerted (s.closeGate.modPont fun x =>
    x.safe src detail (decide (2 ≤ s.aon.st) || s.aon.entering.isSome)) (!s.pont.faulted)
  have hafter : (s.enterSafe src detail).pont =
      Pontil.safe { s.pont with gate := false } src detail (decide (2 ≤ s.aon.st) || s.aon.entering.isSome) := by
    rw [hheld.pont, State.safeLatched, halert.pont, State.modPont, hpont]
  rw [hafter, hheld.boot, State.safeLatched, halert.boot]
  exact ⟨((hdurable.trans hlatched).trans halert.toKeepsDurable).trans hheld.toKeepsDurable, hboot, rfl, rfl, rfl⟩

end

/-! ### Steps of the boot (R458 to R461) -/

section
variable (s : State)

theorem reportFault_keeps (st origin code : Nat) (d : BitVec 40) :
    s.KeepsHeld (s.reportFault st origin code d) ∧ (s.reportFault st origin code d).smb = s.smb := by
  unfold State.reportFault
  dsimp only
  split <;> exact ⟨⟨⟨rfl, rfl, rfl, rfl, rfl, rfl, rfl⟩, rfl, rfl⟩, rfl⟩

/-- A step has failed, and SMB_ALERT_N shows it (R461). -/
def State.FailedAt (u : State) (stage cause : Nat) : Prop :=
  u.boot.fail = true ∧ u.boot.stage = stage ∧ u.boot.cause = cause ∧ u.smb.alert = true

/-- The machine once a boot step's failure is recorded, before it is reported. -/
def State.bootMarked (s : State) (stage cause : Nat) : State :=
  { s.modBoot fun b => { b with fail := true, stage := stage, cause := cause } with
    smb := { s.smb with alert := true } }

theorem bootMarked_fails (stage cause : Nat) : s.KeepsDurable (s.bootMarked stage cause) ∧
    (s.bootMarked stage cause).pont = s.pont ∧ (s.bootMarked stage cause).boot.ready = s.boot.ready ∧
    (s.bootMarked stage cause).FailedAt stage cause :=
  ⟨⟨rfl, rfl, rfl, rfl, rfl, rfl, rfl⟩, rfl, rfl, rfl, rfl, rfl, rfl⟩

theorem bootFail_eq (stage cause : Nat) : s.bootFail stage cause =
    (s.bootMarked stage cause).reportFault stMgmt stMgmt 0x0E (BitVec.ofNat 40 (stage * 256 + cause)) := rfl

theorem bootFail_fails (stage cause : Nat) : s.KeepsDurable (s.bootFail stage cause) ∧
    (s.bootFail stage cause).pont = s.pont ∧ (s.bootFail stage cause).boot.ready = s.boot.ready ∧
    (s.bootFail stage cause).FailedAt stage cause := by
  obtain ⟨hdurable, hpont, hready, hfailed⟩ := bootMarked_fails s stage cause
  obtain ⟨hheld, hsmb⟩ := reportFault_keeps (s.bootMarked stage cause) stMgmt stMgmt 0x0E
    (BitVec.ofNat 40 (stage * 256 + cause))
  unfold State.FailedAt
  rw [bootFail_eq, hheld.boot, hheld.pont, hsmb]
  exact ⟨hdurable.trans hheld.toKeepsDurable, hpont, hready, hfailed⟩

theorem keepsDurable_modBoot (f : Boot → Boot) : s.KeepsDurable (s.modBoot f) := (keeps_modBoot s f).1

/-- A link coming up changes its port and uses a free value. -/
theorem linkUp_eq (p : Port) : ∃ w r, s.linkUp p =
    { s with freeCtr := s.freeCtr + 1 }.modPort p fun x => { x with linkUp := true, width := w, rate := r } :=
  ⟨_, _, rfl⟩

end

/-- From s to u some links have come up, and those of the listed ports have. -/
structure State.LinksUp (s u : State) (l : List Port) : Prop where
  ports : ∃ ps n, u = { s with ports := ps, freeCtr := n }
  rings : ∀ p, (u.port p).cmdEn = (s.port p).cmdEn ∧ (u.port p).evEn = (s.port p).evEn
  stays : ∀ p, (s.port p).linkUp = true → (u.port p).linkUp = true
  up : ∀ p ∈ l, s.configured p = true → (u.port p).linkUp = true

/-- The links of the configured ports of a list come up (R459). -/
def State.linksUp (s : State) (l : List Port) : State :=
  l.foldl (fun s p => if s.configured p then s.linkUp p else s) s

theorem linksUp_linkUp (s : State) (p : Port) : s.LinksUp (s.linksUp [p]) [p] := by
  unfold State.linksUp
  rw [List.foldl_cons, List.foldl_nil]
  split
  · obtain ⟨w, r, heq⟩ := linkUp_eq s p
    have hself : (s.linkUp p).port p = { s.port p with linkUp := true, width := w, rate := r } := by
      rw [heq, port_modPort_self]
      rfl
    have hne (q : Port) (hq : q ≠ p) : (s.linkUp p).port q = s.port q := by
      rw [heq, port_modPort_of_ne _ _ hq]
      rfl
    refine ⟨⟨_, _, heq⟩, fun q => ?_, fun q hup => ?_, fun q hq _ => ?_⟩
    · by_cases hq : q = p
      · rw [hq, hself]
        exact ⟨rfl, rfl⟩
      · rw [hne q hq]
        exact ⟨rfl, rfl⟩
    · by_cases hq : q = p
      · rw [hq, hself]
      · rwa [hne q hq]
    · rw [List.mem_singleton.mp hq, hself]
  · next hoff =>
    refine ⟨⟨_, _, rfl⟩, fun _ => ⟨rfl, rfl⟩, fun _ h => h, fun q hq hon => ?_⟩
    rw [List.mem_singleton.mp hq] at hon
    exact absurd hon hoff

theorem linksUp_linksUp (s : State) (l : List Port) : s.LinksUp (s.linksUp l) l := by
  induction l generalizing s with
  | nil => exact ⟨⟨_, _, rfl⟩, fun _ => ⟨rfl, rfl⟩, fun _ h => h, fun _ hp => absurd hp List.not_mem_nil⟩
  | cons p l ih =>
    have hfirst := linksUp_linkUp s p
    have hrest := ih (s.linksUp [p])
    have heq : s.linksUp (p :: l) = (s.linksUp [p]).linksUp l := rfl
    rw [heq]
    generalize s.linksUp [p] = v at hfirst hrest
    generalize v.linksUp l = u at hrest
    obtain ⟨ps, n, hv⟩ := hfirst.ports
    obtain ⟨ps', n', hu⟩ := hrest.ports
    refine ⟨⟨ps', n', by rw [hu, hv]⟩, fun q => ?_, fun q hup => hrest.stays q (hfirst.stays q hup), fun q hq hon => ?_⟩
    · exact ⟨(hrest.rings q).1.trans (hfirst.rings q).1, (hrest.rings q).2.trans (hfirst.rings q).2⟩
    · obtain rfl | hql := List.mem_cons.mp hq
      · exact hrest.stays q (hfirst.up q (List.mem_singleton_self q) hon)
      · refine hrest.up q hql ?_
        rw [hv]
        exact hon

end Sys2Proof.Machine

/-!
The boot (R458 to R461): its steps from the third on, readiness, and what the self-check and STRAP_BOOT select.
-/

namespace Sys2Proof.Machine

/-! ### Readiness (R459) -/

/-- The machine at readiness, before its links come up. -/
def State.readied (s : State) (ms : Nat) : State :=
  let s1 := s.modBoot fun b =>
    { b with ready := true, fail := false, stage := 10, cause := 0, time := satAdd 65535 0 ms }
  { s1 with
    deep := s1.deep.map fun d => { d with chan := d.chan.map fun c => { c with trained := true } }
    smb := { s1.smb with alert := true }
    now := s1.now + 250000 * ms
    wheelAt := s1.now + 250000 * ms }

theorem declareReady_eq (s : State) (ms : Nat) : s.declareReady ms = (s.readied ms).linksUp (List.finRange 4) := rfl

/-- From s to u the device has become ready, n ms after the deassertion of PERST#, with firmware i of a slot (R459). -/
def State.ReadyFrom (s u : State) (n slot : Nat) (i : FwInfo) : Prop :=
  u.boot.ready = true ∧ u.boot.fail = false ∧ u.boot.stage = 10 ∧ u.boot.cause = 0 ∧ u.boot.slot = slot ∧
    u.boot.fw = i.version ∧ u.boot.svn = i.svn ∧ u.boot.time = min 65535 n ∧ u.smb.alert = true ∧
    u.now = s.now + 250000 * n ∧ ∀ p, u.configured p = true → (u.port p).linkUp = true

theorem satAdd_zero (max n : Nat) : satAdd max 0 n = min max n := by
  unfold satAdd
  split <;> omega

theorem readied_readies {s : State} {slot : Nat} {i : FwInfo} (n : Nat) (hslot : s.boot.slot = slot)
    (hfw : s.boot.fw = i.version) (hsvn : s.boot.svn = i.svn) :
    (s.KeepsDurable (s.readied n) ∧ s.KeepsVolatile (s.readied n) ∧ (s.readied n).pont = s.pont) ∧
    (s.readied n).boot.ready = true ∧ (s.readied n).boot.fail = false ∧ (s.readied n).boot.stage = 10 ∧
    (s.readied n).boot.cause = 0 ∧ (s.readied n).boot.slot = slot ∧ (s.readied n).boot.fw = i.version ∧
    (s.readied n).boot.svn = i.svn ∧ (s.readied n).boot.time = min 65535 n ∧ (s.readied n).smb.alert = true ∧
    (s.readied n).now = s.now + 250000 * n :=
  ⟨⟨⟨rfl, rfl, rfl, rfl, rfl, rfl, rfl⟩, ⟨rfl, rfl, rfl, rfl, rfl, rfl, rfl, fun _ => ⟨rfl, rfl⟩, rfl, rfl, rfl, rfl⟩,
    rfl⟩, rfl, rfl, rfl, rfl, hslot, hfw, hsvn, satAdd_zero .., rfl, rfl⟩

theorem declareReady_readies {s : State} {slot : Nat} {i : FwInfo} (n : Nat) (hslot : s.boot.slot = slot)
    (hfw : s.boot.fw = i.version) (hsvn : s.boot.svn = i.svn) :
    (s.KeepsDurable (s.declareReady n) ∧ s.KeepsVolatile (s.declareReady n) ∧ (s.declareReady n).pont = s.pont) ∧
      s.ReadyFrom (s.declareReady n) n slot i := by
  obtain ⟨⟨hdurable, hvolatile, hpont⟩, hready⟩ := readied_readies n hslot hfw hsvn
  have hlinks := linksUp_linksUp (s.readied n) (List.finRange 4)
  rw [declareReady_eq]
  generalize s.readied n = v at *
  obtain ⟨ps, m, hu⟩ := hlinks.ports
  have hrings := hlinks.rings
  have hup := hlinks.up
  generalize v.linksUp (List.finRange 4) = u at *
  have hconf (p : Port) : u.configured p = v.configured p := by rw [hu]; rfl
  have hdurable' : v.KeepsDurable u := by rw [hu]; exact ⟨rfl, rfl, rfl, rfl, rfl, rfl, rfl⟩
  have hvolatile' : v.KeepsVolatile u := by
    constructor
    case rings => exact hrings
    all_goals rw [hu]
  have hboot : u.boot = v.boot := by rw [hu]
  have hsmb : u.smb = v.smb := by rw [hu]
  have hnow : u.now = v.now := by rw [hu]
  have hpont' : u.pont = v.pont := by rw [hu]
  obtain ⟨hr, hfail, hstage, hcause, hslot', hfw', hsvn', htime, halert, hnow'⟩ := hready
  refine ⟨⟨hdurable.trans hdurable', hvolatile.trans hvolatile', hpont'.trans hpont⟩, ?_⟩
  unfold State.ReadyFrom
  rw [hboot, hsmb, hnow]
  exact ⟨hr, hfail, hstage, hcause, hslot', hfw', hsvn', htime, halert, hnow', fun p hp =>
    hup p (List.mem_finRange p) ((hconf p).symm.trans hp)⟩

/-! ### From the third step on -/

theorem goodCores_congr {s u : State} (hfuses : u.fuses = s.fuses) (hcullet : u.cullet = s.cullet) (bad : List Nat)
    (c : Nat) : u.goodCores bad c = s.goodCores bad c := by
  rw [State.goodCores, State.goodCores, hfuses, hcullet]

/-- Every cluster has cores enough (R468). -/
def State.Repairable (s : State) : Prop := ∀ c, c < 32 → s.grade.perCluster ≤ (s.goodCores [] c).length

theorem any_short_of_repairable {s : State} (h : s.Repairable) :
    ((List.range 32).any fun c => decide ((s.goodCores [] c).length < s.grade.perCluster)) = false := by
  rw [List.any_eq_false]
  intro c hc
  rw [decide_eq_true_eq]
  exact Nat.not_lt.mpr (h c (List.mem_range.mp hc))

theorem softRepair_nil (s : State) : s.softRepair [] = s := rfl

theorem remapAll_eq (s : State) (bad : List Nat) :
    ∃ r t, s.remapAll bad = s.modBoot fun b => { b with remap := r, spares := t } := ⟨_, _, rfl⟩

/-- What steps 3 to 7 record where they find no defect: the image that runs, and the remap table. -/
def Boot.mapped (b : Boot) (slot : Nat) (i : FwInfo) (r t : Tab (List Nat)) : Boot :=
  { b with slot := slot, fw := i.version, svn := i.svn, bodyDigest := i.digest, cells := [], counted := true,
           retired := [], remap := r, spares := t }

/-- With no defect the boot goes on from step 3 to readiness (R459). -/
theorem bootFrom3_of_sound {s : State} (slot : Nat) (i : FwInfo) (n : Nat) (hmem : s.straps.mem = s.grade.clamshell)
    (hgood : s.Repairable) : ∃ r t, s.bootFrom3 slot i { ms := n } =
      (s.modBoot fun b => b.mapped slot i r t).declareReady n := by
  have hshort := any_short_of_repairable hgood
  unfold State.bootFrom3
  extract_lets s1 s2 broken bad s3 s4
  have hcells : (s2.unrepaired []).any (fun c => c.core.isNone) = false := rfl
  have hbad : bad = [] := rfl
  have h2 : s2 = s1 := if_pos rfl
  have h3 : s3 = s1.modBoot fun b => { b with counted := true, retired := bad } :=
    congrArg (fun u : State => u.modBoot fun b => { b with counted := true, retired := bad })
      ((softRepair_nil s2).trans h2)
  obtain ⟨r, t, h4⟩ := remapAll_eq s3 bad
  have h4' : s4 = s.modBoot fun b => b.mapped slot i r t := by
    have heq : s4 = s3.modBoot fun b => { b with remap := r, spares := t } := h4
    rw [heq, h3, hbad]
    rfl
  have hgood3 : ((List.range 32).any fun c => decide ((s3.goodCores bad c).length < s3.grade.perCluster)) = false := by
    rw [h3, hbad]
    exact hshort
  have hmem4 : ¬ s4.straps.mem ≠ s4.grade.clamshell := by
    rw [h4']
    exact not_not_intro hmem
  refine ⟨r, t, ?_⟩
  rw [← h4']
  simp only [hcells, if_neg hmem4, hgood3, Bool.not_true, Bool.false_eq_true, if_false]

/-- A defect joins the cullet list. -/
theorem keepsDurable_addCullet (s : State) (kind source loc : Nat) : s.KeepsDurable (s.addCullet kind source loc) := by
  unfold State.addCullet
  split
  · exact .refl s
  · split
    · exact keepsDurable_modBoot ..
    · exact ⟨rfl, rfl, rfl, rfl, rfl, rfl, rfl⟩

theorem keepsDurable_remapAll (s : State) (bad : List Nat) : s.KeepsDurable (s.remapAll bad) := by
  unfold State.remapAll
  exact keepsDurable_modBoot ..

theorem keepsDurable_softRepair (s : State) (cells : List FailCell) : s.KeepsDurable (s.softRepair cells) :=
  .foldl _ _ (fun s _ => keepsDurable_addCullet s _ 1 _) s

theorem keepsDurable_declareReady (s : State) (ms : Nat) : s.KeepsDurable (s.declareReady ms) :=
  (declareReady_readies (i := ⟨s.boot.fw, s.boot.svn, []⟩) ms rfl rfl rfl).1.1

/-- No boot step touches what a reset keeps. -/
theorem keepsDurable_bootFrom3 (s : State) (slot : Nat) (i : FwInfo) (f : BootFindings) :
    s.KeepsDurable (s.bootFrom3 slot i f) := by
  have hfail (u : State) (stage cause : Nat) := (bootFail_fails u stage cause).1
  unfold State.bootFrom3
  extract_lets s1 s2 broken bad s3 s4
  have h1 : s.KeepsDurable s1 := keepsDurable_modBoot ..
  have h2 : s.KeepsDurable s2 := by
    unfold s2
    split
    · exact h1
    · exact h1.trans ⟨rfl, rfl, rfl, rfl, rfl, rfl, rfl⟩
  have h3 : s.KeepsDurable s3 :=
    (((h2.trans (keepsDurable_softRepair ..)).trans (.foldl _ _ (fun s c => keepsDurable_addCullet s 3 1 c) _)).trans
      (.foldl _ _ (fun s c => keepsDurable_addCullet s 3 2 c) _)).trans (keepsDurable_modBoot ..)
  have h4 : s.KeepsDurable s4 := h3.trans (keepsDurable_remapAll ..)
  split
  · exact h2.trans (hfail ..)
  split
  · exact h2.trans (hfail ..)
  split
  · exact h3.trans (hfail ..)
  split
  · exact h4.trans (hfail ..)
  split
  · exact h4.trans (hfail ..)
  split
  · exact h4.trans (hfail ..)
  split
  · exact h4.trans (hfail ..)
  split
  · exact h4.trans (hfail ..)
  split
  · exact h4.trans (hfail ..)
  · exact h4.trans (keepsDurable_declareReady ..)

/-- A sound device becomes ready with the image it runs (R459). -/
theorem bootFrom3_readies {s : State} (slot : Nat) (i : FwInfo) (n : Nat) (hmem : s.straps.mem = s.grade.clamshell)
    (hgood : s.Repairable) : s.KeepsVolatile (s.bootFrom3 slot i { ms := n }) ∧
      (s.bootFrom3 slot i { ms := n }).pont = s.pont ∧ s.ReadyFrom (s.bootFrom3 slot i { ms := n }) n slot i := by
  obtain ⟨r, t, heq⟩ := bootFrom3_of_sound slot i n hmem hgood
  obtain ⟨⟨-, hvolatile, hpont⟩, hready⟩ :=
    declareReady_readies (s := s.modBoot fun b => b.mapped slot i r t) (slot := slot) (i := i) n rfl rfl rfl
  rw [heq]
  exact ⟨(keeps_modBoot s _).2.trans hvolatile, hpont, hready⟩

/-! ### Images -/

theorem checkImage_congr {s u : State} (h : u.fuses = s.fuses) (img : Tab Byte) :
    u.checkImage img = s.checkImage img := by
  unfold State.checkImage State.fwKey
  rw [h]

theorem checkSlot_congr {s u : State} (hnor : u.nor = s.nor) (hfuses : u.fuses = s.fuses) (i : Fin 2) :
    u.checkSlot i = s.checkSlot i := by
  unfold State.checkSlot State.fwKey
  rw [hnor, hfuses]
  simp only [checkImage_congr hfuses]

theorem pickSlot_congr {s u : State} (hnor : u.nor = s.nor) (hfuses : u.fuses = s.fuses) : u.pickSlot = s.pickSlot := by
  rw [State.pickSlot, State.pickSlot, checkSlot_congr hnor hfuses, checkSlot_congr hnor hfuses]

/-! ### The first step (R458, R490) -/

/-- The device once the Pontil's self-check has passed. -/
def State.selfChecked (s : State) : State :=
  (s.modPont fun p => { p with selfOk := true }).modBoot fun b => { b with stage := 1 }

theorem selfChecked_keeps (s : State) : s.KeepsDurable s.selfChecked ∧ s.KeepsVolatile s.selfChecked :=
  ⟨⟨rfl, rfl, rfl, rfl, rfl, rfl, rfl⟩, rfl, rfl, rfl, rfl, rfl, rfl, rfl, fun _ => ⟨rfl, rfl⟩, rfl, rfl, rfl, rfl⟩

section
variable {s : State} {f : BootFindings}

theorem boot1_of_failed (h : f.pontilOk = false) : s.boot1 f =
    ((s.modPont fun p => { p with hard := true }).enterSafe 1 0).bootFail 1 0x0D := by
  rw [State.boot1, h]
  rfl

theorem boot1_of_passed (h : f.pontilOk = true) : s.boot1 f =
    match s.straps.boot.toNat with
    | 0 =>
      match s.selfChecked.pickSlot with
      | .inl (slot, i) => s.selfChecked.bootFrom3 slot i f
      | .inr cause => s.selfChecked.bootFail 2 cause
    | 1 => s.selfChecked
    | _ => s.selfChecked.modBoot fun b => { b with cause := 0x0C } := by
  rw [State.boot1, h]
  rfl

/-- Booting keeps what a reset keeps. -/
theorem keepsDurable_boot1 (s : State) (f : BootFindings) : s.KeepsDurable (s.boot1 f) := by
  cases hok : f.pontilOk with
  | false =>
    rw [boot1_of_failed hok]
    exact ((keepsDurable_modPont ..).trans (enterSafe_latches ..).1).trans (bootFail_fails ..).1
  | true =>
    have hchecked := (selfChecked_keeps s).1
    rw [boot1_of_passed hok]
    split
    · split
      · exact hchecked.trans (keepsDurable_bootFrom3 ..)
      · exact hchecked.trans (bootFail_fails ..).1
    · exact hchecked
    · exact hchecked.trans (keepsDurable_modBoot ..)

end

/-! ### PERST# of port 0 (R306, R452) -/

section
variable (s : State) (straps : Straps)

/-- The device out of its reset, before it boots. -/
def State.started : State := { s.deviceReset straps with starts := s.starts + 1 }

theorem started_reset : s.Survives (s.started straps) ∧ (s.started straps).Cleared :=
  ⟨survives_deviceReset s straps, cleared_deviceReset s straps⟩

theorem started_boots : (s.started straps).straps = straps ∧ (s.started straps).starts = s.starts + 1 ∧
    (s.started straps).now = s.now ∧ (s.started straps).grade = s.grade ∧
    (s.started straps).boot = { powered := s.boot.powered } ∧ (s.started straps).pont = {} :=
  ⟨rfl, rfl, rfl, rfl, rfl, rfl⟩

theorem pickSlot_started : (s.started straps).selfChecked.pickSlot = (s.deviceReset straps).pickSlot :=
  pickSlot_congr rfl rfl

theorem repairable_started {s : State} (h : s.Repairable) : (s.started straps).selfChecked.Repairable := h

/-- A reset has acted and its straps are latched. -/
def State.ResetTo (u : State) : Prop := s.Survives u ∧ u.Cleared ∧ u.straps = straps

end

section
variable {s : State} {straps : Straps} {f : BootFindings} (hpower : s.boot.powered = true)
include hpower

theorem exec_perstPort0 : exec (.perstPort0 straps f) s = .next ((s.started straps).boot1 f) := by
  change execPerstPort0 straps f s = _
  rw [execPerstPort0, hpower]
  rfl

theorem answers_perstPort0 : Answers (.perstPort0 straps f) s fun u =>
    s.Survives u ∧ u.straps = straps ∧ u.starts = s.starts + 1 := by
  have hkeeps := keepsDurable_boot1 (s.started straps) f
  obtain ⟨hstraps, hstarts, -⟩ := started_boots s straps
  exact ⟨_, exec_perstPort0 hpower, (started_reset s straps).1.keep hkeeps, hkeeps.straps.trans hstraps,
    hkeeps.starts.trans hstarts⟩

/-- The self-check fails: the safe state is held in hardware (R458, R490). -/
theorem answers_perstPort0_of_failed (hf : f.pontilOk = false) : Answers (.perstPort0 straps f) s fun u =>
    (u.boot.ready = false ∧ u.FailedAt 1 0x0D) ∧ u.pont.faulted = true ∧ u.pont.gate = false ∧ u.pont.src = 1 := by
  refine ⟨_, exec_perstPort0 hpower, ?_⟩
  dsimp only
  rw [boot1_of_failed hf]
  obtain ⟨-, -, -, -, hboot, hpont⟩ := started_boots s straps
  obtain ⟨-, hsame, hfaulted, hgate, hsrc⟩ :=
    enterSafe_latches ((s.started straps).modPont fun p => { p with hard := true }) 1 0
  obtain ⟨-, hpont', hready, hfailed⟩ :=
    bootFail_fails (((s.started straps).modPont fun p => { p with hard := true }).enterSafe 1 0) 1 0x0D
  have hnone : ((s.started straps).modPont fun p => { p with hard := true }).pont.faulted = false :=
    congrArg Pontil.faulted hpont
  rw [hnone] at hsrc
  rw [hpont', hready, hsame]
  exact ⟨⟨congrArg Boot.ready hboot, hfailed⟩, hfaulted, hgate, hsrc⟩

/-- In host push and in recovery the device waits for its host (R458, R460). -/
theorem answers_perstPort0_of_waiting (hf : f.pontilOk = true) (hboot : straps.boot ≠ 0) :
    Answers (.perstPort0 straps f) s fun u => s.ResetTo straps u ∧ u.boot.ready = false ∧ u.boot.fail = false ∧
      u.boot.cause = if straps.boot = 1 then 0 else 0x0C := by
  refine ⟨_, exec_perstPort0 hpower, ?_⟩
  have hkeeps := keepsDurable_boot1 (s.started straps) f
  obtain ⟨hsurvives, hcleared⟩ := started_reset s straps
  obtain ⟨-, hvolatile⟩ := selfChecked_keeps (s.started straps)
  have hwaits (u : State) (hu : (s.started straps).boot1 f = u) (hv : (s.started straps).KeepsVolatile u) :
      s.ResetTo straps u := ⟨hsurvives.keep (hu ▸ hkeeps), hcleared.keep hv, (hu ▸ hkeeps).straps⟩
  have hne0 : straps.boot.toNat ≠ 0 := fun h => hboot (BitVec.eq_of_toNat_eq h)
  have heq := boot1_of_passed (s := s.started straps) hf
  have hstraps : (s.started straps).straps = straps := rfl
  rw [hstraps] at heq
  dsimp only
  split at heq
  · next h0 => exact absurd h0 hne0
  · next h1 =>
    have hpush : straps.boot = 1 := BitVec.eq_of_toNat_eq h1
    rw [if_pos hpush, heq]
    exact ⟨hwaits _ heq hvolatile, rfl, rfl, rfl⟩
  · next h1 =>
    have hother : straps.boot ≠ 1 := fun h => h1 (congrArg BitVec.toNat h)
    rw [if_neg hother, heq]
    exact ⟨hwaits _ heq (hvolatile.trans (keeps_modBoot ..).2), rfl, rfl, rfl⟩

/-- A boot from NOR: ready with the slot that is picked, or failed at step 2 (R457, R458). -/
theorem answers_perstPort0_of_nor {n : Nat} (hboot : straps.boot = 0) (hmem : straps.mem = s.grade.clamshell)
    (hgood : s.Repairable) : Answers (.perstPort0 straps { ms := n }) s fun u => u.pont.selfOk = true ∧
      match (s.deviceReset straps).pickSlot with
      | .inl (slot, i) => s.ResetTo straps u ∧ s.ReadyFrom u n slot i
      | .inr cause => u.boot.ready = false ∧ u.FailedAt 2 cause := by
  refine ⟨_, exec_perstPort0 hpower, ?_⟩
  have hkeeps := keepsDurable_boot1 (s.started straps) { ms := n }
  obtain ⟨hsurvives, hcleared⟩ := started_reset s straps
  obtain ⟨-, hvolatile⟩ := selfChecked_keeps (s.started straps)
  have heq := boot1_of_passed (s := s.started straps) (f := { ms := n }) rfl
  have hzero : (s.started straps).straps.boot.toNat = 0 := congrArg BitVec.toNat hboot
  rw [hzero, pickSlot_started] at heq
  dsimp only at heq ⊢
  cases hpick : (s.deviceReset straps).pickSlot with
  | inl x =>
    obtain ⟨slot, i⟩ := x
    rw [hpick] at heq
    obtain ⟨hvolatile', hpont, hready⟩ :=
      bootFrom3_readies (s := (s.started straps).selfChecked) slot i n hmem (repairable_started straps hgood)
    rw [heq] at hkeeps ⊢
    exact ⟨congrArg Pontil.selfOk hpont, ⟨hsurvives.keep hkeeps, hcleared.keep (hvolatile.trans hvolatile'),
      hkeeps.straps⟩, hready⟩
  | inr cause =>
    rw [hpick] at heq
    obtain ⟨-, hpont, hready, hfailed⟩ := bootFail_fails (s.started straps).selfChecked 2 cause
    rw [heq]
    exact ⟨congrArg Pontil.selfOk hpont, hready, hfailed⟩

end

end Sys2Proof.Machine

/-!
Held resets (R306, R515) and BOOT_CTRL (R460, R474): where a write of it leads from port 0 and from the SMBus, what GO
and NOR_WRITE do, and what the write meets outside host push and recovery.
-/

namespace Sys2Proof.Machine

/-! ### Held in reset -/

/-- A reset has acted and the device stays in it. -/
def State.HeldIn (s u : State) : Prop :=
  s.Survives u ∧ u.Cleared ∧ u.boot.inReset = true ∧ u.boot.ready = false

theorem heldIn_heldReset (s : State) (straps : Straps) : s.HeldIn (s.heldReset straps) := by
  obtain ⟨hsurvives, hcleared⟩ := held_heldReset s straps
  exact ⟨hsurvives, hcleared, rfl, rfl⟩

theorem answers_perstPort0Assert (s : State) : Answers .perstPort0Assert s fun u =>
    s.HeldIn u ∧ u.straps = s.straps ∧ u.boot.powered = s.boot.powered :=
  ⟨_, rfl, heldIn_heldReset s s.straps, rfl, rfl⟩

/-- A held reset whose supplies are noted. -/
theorem heldIn_powered (s : State) (straps : Straps) (on : Bool) :
    s.HeldIn ((s.heldReset straps).modBoot fun b => { b with powered := on }) := by
  obtain ⟨hsurvives, hcleared, hreset, hready⟩ := heldIn_heldReset s straps
  obtain ⟨hdurable, hvolatile⟩ := keeps_modBoot (s.heldReset straps) fun b => { b with powered := on }
  exact ⟨hsurvives.keep hdurable, hcleared.keep hvolatile, hreset, hready⟩

theorem answers_powerOn (s : State) (straps : Straps) : Answers (.powerOn straps) s fun u =>
    s.HeldIn u ∧ u.straps = straps ∧ u.boot.powered = true :=
  ⟨_, rfl, heldIn_powered s straps true, rfl, rfl⟩

/-- The loss of VIN trips its monitor first, which leaves what a reset keeps (R515). -/
theorem answers_supplyOutOfRange (s : State) (vin : Bool) : Answers (.supplyOutOfRange vin) s fun u =>
    s.HeldIn u ∧ u.boot.powered = false := by
  have htrip (u : State) (hu : s.KeepsDurable u) :
      s.HeldIn ((u.heldReset u.straps).modBoot fun b => { b with powered := false }) := by
    obtain ⟨hsurvives, hrest⟩ := heldIn_powered u u.straps false
    exact ⟨hu.survives hsurvives, hrest⟩
  refine ⟨_, rfl, ?_, rfl⟩
  refine htrip _ ?_
  split
  · exact (keepsDurable_modPont ..).trans (enterSafe_latches ..).1
  · exact .refl s

/-! ### What an access leaves of the boot -/

/-- Nothing that the boot goes by has changed from s to u. -/
structure State.KeepsBoot (s u : State) : Prop where
  boot : u.boot = s.boot
  straps : u.straps = s.straps
  grade : u.grade = s.grade
  fuses : u.fuses = s.fuses
  cullet : u.cullet = s.cullet
  nor : u.nor = s.nor
  pont : u.pont = s.pont
  smb : u.smb = s.smb
  now : u.now = s.now

section
variable {s u w : State}

theorem State.KeepsBoot.refl (s : State) : s.KeepsBoot s := ⟨rfl, rfl, rfl, rfl, rfl, rfl, rfl, rfl, rfl⟩

theorem State.KeepsBoot.trans (h : s.KeepsBoot u) (h' : u.KeepsBoot w) : s.KeepsBoot w :=
  ⟨h'.boot.trans h.boot, h'.straps.trans h.straps, h'.grade.trans h.grade, h'.fuses.trans h.fuses,
    h'.cullet.trans h.cullet, h'.nor.trans h.nor, h'.pont.trans h.pont, h'.smb.trans h.smb, h'.now.trans h.now⟩

theorem State.KeepsBoot.foldl {α : Type} (l : List α) (f : State → α → State)
    (hf : ∀ (s : State) a, s.KeepsBoot (f s a)) (s : State) : s.KeepsBoot (l.foldl f s) := by
  induction l generalizing s with
  | nil => exact .refl s
  | cons a l ih => exact (hf s a).trans (ih (f s a))

end

section
variable (s : State)

theorem keepsBoot_modPort (p : Port) (f : PortSt → PortSt) : s.KeepsBoot (s.modPort p f) :=
  ⟨rfl, rfl, rfl, rfl, rfl, rfl, rfl, rfl, rfl⟩

theorem keepsBoot_modThread (n : Nat) (f : ThreadSt → ThreadSt) : s.KeepsBoot (s.modThread n f) :=
  ⟨rfl, rfl, rfl, rfl, rfl, rfl, rfl, rfl, rfl⟩

theorem keepsBoot_freeSlot (slot : Nat) : s.KeepsBoot (s.freeSlot slot) := ⟨rfl, rfl, rfl, rfl, rfl, rfl, rfl, rfl, rfl⟩

theorem keepsBoot_doorbell (p : Port) (index : Nat) (v : Word) : s.KeepsBoot (s.doorbell p index v) := by
  unfold State.doorbell State.syncChange
  split <;> exact ⟨rfl, rfl, rfl, rfl, rfl, rfl, rfl, rfl, rfl⟩

theorem keepsBoot_passDoorbell (x : Pkt) : s.KeepsBoot (s.passDoorbell x) := by
  unfold State.passDoorbell
  split
  · exact ((keepsBoot_modThread ..).trans (keepsBoot_modThread ..)).trans (keepsBoot_doorbell ..)
  · exact .refl s

theorem keepsBoot_flushPort (p : Port) : s.KeepsBoot (s.flushPort p) := by
  unfold State.flushPort
  extract_lets s1 waiting
  have h1 : s.KeepsBoot s1 := by
    unfold s1
    split
    · exact ((keepsBoot_freeSlot ..).trans (keepsBoot_modThread ..)).trans (keepsBoot_doorbell ..)
    · exact .refl s
  split
  · exact h1
  · exact (h1.trans (keepsBoot_modThread ..)).trans (.foldl _ _ keepsBoot_passDoorbell _)

theorem keepsBoot_viaThread (r : Req) (pl : Place) (write : Bool) : s.KeepsBoot (s.viaThread r pl write) := by
  have hcarried (u : State) (d : Nat) : u.KeepsBoot (u.carried r d) := by
    unfold State.carried State.noteRx
    exact (keepsBoot_modThread ..).trans (keepsBoot_modThread ..)
  unfold State.viaThread
  split
  · exact .refl s
  · cases r with
    | port p => exact (keepsBoot_flushPort s p).trans (hcarried ..)
    | mp => exact hcarried ..
    | smbus => exact hcarried ..

theorem keepsBoot_linkSeen (r : Req) : s.KeepsBoot (s.linkSeen r) := by
  unfold State.linkSeen
  split
  · split
    · obtain ⟨w, rate, heq⟩ := linkUp_eq s _
      rw [heq]
      exact ⟨rfl, rfl, rfl, rfl, rfl, rfl, rfl, rfl, rfl⟩
    · exact .refl s
  · exact .refl s

theorem keepsBoot_noteSleepReq (p : Port) : s.KeepsBoot (s.noteSleepReq (.port p)) := by
  rw [State.noteSleepReq]
  exact keepsBoot_modPort ..

theorem keepsBoot_refusedWrite (p : Port) (bar off : Nat) : s.KeepsBoot (s.refusedWrite p bar off) := by
  unfold State.refusedWrite State.raiseIrq State.logAer
  exact ((keepsBoot_modPort ..).trans (keepsBoot_modPort ..)).trans (keepsBoot_modPort ..)

theorem keepsBoot_writeRefused (p : Port) (a : Nat) (g : Gate) : s.KeepsBoot (s.writeRefused p a g) := by
  unfold State.writeRefused
  split
  · exact .refl s
  · exact keepsBoot_modPort ..
  · exact keepsBoot_refusedWrite ..

theorem keepsBoot_reply (r : Req) (ok : Bool) (w : Word) : s.KeepsBoot (s.reply r ok w) :=
  ⟨rfl, rfl, rfl, rfl, rfl, rfl, rfl, rfl, rfl⟩

end

theorem hostPush_congr {s u : State} (h : s.KeepsBoot u) : u.hostPush = s.hostPush ∧ u.recovery = s.recovery := by
  rw [State.hostPush, State.recovery, h.boot, h.straps]
  exact ⟨rfl, rfl⟩

/-! ### The register (R460, R474) -/

theorem stationWrite_bootCtrl (s : State) (r : Req) {v : Word} (f : BootFindings) (hv : v &&& ~~~0xE0000000 = 0) :
    s.stationWrite r stMgmt 0x6_0008 v f = s.bootCtrl r v f := by
  have hown : s.ownRangeWrite r stMgmt 0x6_0008 v f = some (s.bootCtrl r v f) :=
    congrArg some (maskedWrite_of_allowed hv s fun s v => s.mgmtWrite r 0x6_0008 v f)
  simp only [State.stationWrite, hown]

theorem placeOf_bootBlock : placeOf (.port 0) (regBase + 8) = .station 0 8 := by decide

theorem configured_zero (s : State) : s.configured 0 = true := by
  unfold State.configured
  split <;> rfl

theorem bootCommand_port (s : State) (p : Port) (v : Word) (f : BootFindings) : s.bootCommand (.port p) v f =
    s.cmdWrite (.port p) (if s.boot.ready then stReg stMgmt 0x6_0008 else regBase + 8) v f := rfl

/-- A write of BOOT_CTRL in host push or recovery reaches its register in a device whose boot is as it was. -/
theorem bootCommand_of_early {s : State} {r : Req} {v : Word} {f : BootFindings}
    (hearly : s.hostPush = true ∨ s.recovery = true) (hsender : r = .port 0 ∨ r = .smbus)
    (hv : v &&& ~~~0xE0000000 = 0) : ∃ t, s.KeepsBoot t ∧
      s.bootCommand r v f = ((if v.msb then (if v.getLsbD 30 then t.norWrite (v.getLsbD 29) else t).go f
        else if v.getLsbD 30 then t.norWrite (v.getLsbD 29) else t)).reply r true 0 := by
  have hctrl (t : State) (ht : s.KeepsBoot t) : t.bootCtrl r v f =
      ((if v.msb then (if v.getLsbD 30 then t.norWrite (v.getLsbD 29) else t).go f
        else if v.getLsbD 30 then t.norWrite (v.getLsbD 29) else t), true) := by
    obtain ⟨hpush, hrec⟩ := hostPush_congr ht
    have hopen : ((r == .port 0 || r == .smbus) && (t.hostPush || t.recovery)) = true := by
      rw [hpush, hrec]
      obtain rfl | rfl := hsender <;> obtain h | h := hearly <;> simp [h]
    rw [State.bootCtrl, if_pos hopen]
    rfl
  obtain rfl | rfl := hsender
  · have hreset : s.boot.inReset = false ∧ s.boot.ready = false := by
      obtain h | h := hearly
      · simp only [State.hostPush, Bool.and_eq_true, Bool.not_eq_true'] at h
        exact h.1
      · simp only [State.recovery, Bool.and_eq_true, Bool.not_eq_true'] at h
        exact h.1
    have hplace : s.earlyPlace 0 (.station 0 8) = some (.station stMgmt 0x6_0008) := by
      obtain h | h := hearly <;> simp [State.earlyPlace, h]
    have hgate : s.gateOf (.port 0) (regBase + 8) = (.ok, .station stMgmt 0x6_0008) := by
      simp [State.gateOf, hreset, configured_zero, placeOf_bootBlock, hplace]
    have hkeeps := (keepsBoot_linkSeen s (.port 0)).trans
      (keepsBoot_viaThread (s.linkSeen (.port 0)) (.port 0) (.station stMgmt 0x6_0008) true)
    refine ⟨_, hkeeps, ?_⟩
    rw [bootCommand_port, hreset.2, if_neg Bool.false_ne_true, State.cmdWrite, State.regWrite, hgate]
    dsimp only
    rw [State.placeWrite, stationWrite_bootCtrl _ _ _ hv, hctrl _ hkeeps]
  · refine ⟨s, .refl s, ?_⟩
    rw [State.bootCommand, hctrl s (.refl s)]

/-- A write of BOOT_CTRL by port 0 is not hidden from it, and where it is let through it reaches the register. -/
theorem gateOf_bootCtrl (s : State) (hreset : s.boot.inReset = false) : ∃ g pl,
    s.gateOf (.port 0) (if s.boot.ready then stReg stMgmt 0x6_0008 else regBase + 8) = (g, pl) ∧ g ≠ .hidden ∧
      (g = .ok → pl = .station stMgmt 0x6_0008) := by
  cases hready : s.boot.ready with
  | false =>
    rw [if_neg Bool.false_ne_true]
    simp only [State.gateOf, hreset, configured_zero, hready, placeOf_bootBlock, Bool.not_true, Bool.false_eq_true,
      if_false, Bool.not_false, if_true]
    unfold State.earlyPlace
    split
    · next q hq =>
      refine ⟨_, _, rfl, Gate.noConfusion, fun _ => ?_⟩
      split at hq
      · cases hq
      · exact (Option.some.inj hq).symm
    · exact ⟨_, _, rfl, Gate.noConfusion, Gate.noConfusion⟩
  | true =>
    have hplace : placeOf (.port 0) (stReg stMgmt 0x6_0008) = .station stMgmt 0x6_0008 := by decide
    rw [if_pos rfl, gateOf_of_ready hreset hready (configured_zero s), hplace]
    refine ⟨_, _, rfl, ?_, fun _ => rfl⟩
    simp only [State.gateReady]
    split
    · exact Gate.noConfusion
    · split
      · exact Gate.noConfusion
      · exact Gate.noConfusion

/-- Outside host push and recovery BOOT_CTRL takes no write (R460, R474). -/
theorem bootCommand_of_late {s : State} {r : Req} {v : Word} {f : BootFindings} (hpush : s.hostPush = false)
    (hrec : s.recovery = false) (hreset : s.boot.inReset = false) (hsender : r = .port 0 ∨ r = .smbus)
    (hv : v &&& ~~~0xE0000000 = 0) : s.KeepsBoot (s.bootCommand r v f) ∧ Rejected (s.bootCommand r v f) r := by
  have hctrl (t : State) (ht : s.KeepsBoot t) : t.bootCtrl r v f = (t, false) := by
    obtain ⟨hpush', hrec'⟩ := hostPush_congr ht
    have hshut : ((r == .port 0 || r == .smbus) && (t.hostPush || t.recovery)) = false := by
      rw [hpush', hrec', hpush, hrec]
      simp
    rw [State.bootCtrl, hshut]
    rfl
  obtain rfl | rfl := hsender
  · obtain ⟨g, pl, hgate, hseen, hopen⟩ := gateOf_bootCtrl s hreset
    have hwrite : ∃ t, s.KeepsBoot t ∧
        s.regWrite (.port 0) (if s.boot.ready then stReg stMgmt 0x6_0008 else regBase + 8) v f = (t, false) := by
      rw [State.regWrite, hgate]
      cases g with
      | ok =>
        have hkeeps := (keepsBoot_linkSeen s (.port 0)).trans
          (keepsBoot_viaThread (s.linkSeen (.port 0)) (.port 0) (.station stMgmt 0x6_0008) true)
        rw [hopen rfl]
        dsimp only
        rw [State.placeWrite, stationWrite_bootCtrl _ _ _ hv, hctrl _ hkeeps]
        exact ⟨_, hkeeps, rfl⟩
      | hidden => exact absurd rfl hseen
      | asleep => exact ⟨s.noteSleepReq (.port 0), keepsBoot_noteSleepReq s 0, rfl⟩
      | unsupported => exact ⟨s, .refl s, rfl⟩
      | error => exact ⟨s, .refl s, rfl⟩
    obtain ⟨t, hkeeps, hwrite⟩ := hwrite
    rw [bootCommand_port, State.cmdWrite, hwrite]
    refine ⟨?_, rejected_reply ..⟩
    refine State.KeepsBoot.trans ?_ (keepsBoot_reply ..)
    split
    · exact hkeeps.trans (keepsBoot_writeRefused ..)
    · exact hkeeps
  · rw [State.bootCommand, hctrl s (.refl s)]
    exact ⟨keepsBoot_reply .., rejected_reply ..⟩

/-! ### GO and NOR_WRITE (R460) -/

/-- The machine once GO has refused the image of the window. -/
def State.imageRefused (s : State) (cause : Nat) : State :=
  { s with smb := { s.smb with alert := s.smb.alert || !s.boot.fail } }.modBoot fun b =>
    { b with fail := true, stage := 2, cause := cause }

theorem imageRefused_fails {s : State} (hfail : s.boot.fail = false) (cause : Nat) :
    (s.imageRefused cause).boot.ready = s.boot.ready ∧ (s.imageRefused cause).FailedAt 2 cause := by
  refine ⟨rfl, rfl, rfl, rfl, ?_⟩
  have halert : (s.imageRefused cause).smb.alert = (s.smb.alert || !s.boot.fail) := rfl
  rw [halert, hfail]
  exact Bool.or_true _

/-- GO in host push with no step failed: the image in the window decides (R460). -/
theorem go_of_push {s : State} {f : BootFindings} (hpush : s.hostPush = true) (hfail : s.boot.fail = false)
    (hself : s.pont.selfOk = true) : s.go f =
      match s.checkImage s.boot.window with
      | .ok i => (s.modBoot fun b => { b with fail := false, cause := 0 }).bootFrom3 2 i f
      | .oldSvn => s.imageRefused 3
      | .bad => s.imageRefused 2 := by
  rw [State.go, if_neg (by simp [hpush, hfail, hself])]
  rfl

theorem go_boots {s t : State} {n : Nat} (hkeeps : s.KeepsBoot t) (hpush : s.hostPush = true)
    (hfail : s.boot.fail = false) (hself : s.pont.selfOk = true) (hmem : s.straps.mem = s.grade.clamshell)
    (hgood : s.Repairable) :
    match s.checkImage s.boot.window with
    | .ok i => s.ReadyFrom (t.go { ms := n }) n 2 i
    | .oldSvn => (t.go { ms := n }).boot.ready = false ∧ (t.go { ms := n }).FailedAt 2 3
    | .bad => (t.go { ms := n }).boot.ready = false ∧ (t.go { ms := n }).FailedAt 2 2 := by
  have hfail' : t.boot.fail = false := (congrArg Boot.fail hkeeps.boot).trans hfail
  have hgo := go_of_push (f := { ms := n }) ((hostPush_congr hkeeps).1.trans hpush) hfail'
    ((congrArg Pontil.selfOk hkeeps.pont).trans hself)
  have hnot : t.boot.ready = false := by
    simp only [State.hostPush, Bool.and_eq_true, Bool.not_eq_true'] at hpush
    exact (congrArg Boot.ready hkeeps.boot).trans hpush.1.2
  rw [checkImage_congr hkeeps.fuses, hkeeps.boot] at hgo
  cases hcheck : s.checkImage s.boot.window with
  | ok i =>
    rw [hcheck] at hgo
    dsimp only at hgo ⊢
    have hmem' : t.straps.mem = t.grade.clamshell := by rw [hkeeps.straps, hkeeps.grade, hmem]
    have hgood' : t.Repairable := fun c hc => by
      rw [hkeeps.grade, goodCores_congr hkeeps.fuses hkeeps.cullet]
      exact hgood c hc
    obtain ⟨-, -, hready⟩ := bootFrom3_readies (s := t.modBoot fun b => { b with fail := false, cause := 0 }) 2 i n
      hmem' hgood'
    rw [← hgo] at hready
    have hnow : (t.modBoot fun b => { b with fail := false, cause := 0 }).now = s.now := hkeeps.now
    unfold State.ReadyFrom at hready ⊢
    rwa [hnow] at hready
  | oldSvn =>
    rw [hcheck] at hgo
    dsimp only at hgo ⊢
    obtain ⟨hready, hfailed⟩ := imageRefused_fails hfail' 3
    rw [hgo]
    exact ⟨hready.trans hnot, hfailed⟩
  | bad =>
    rw [hcheck] at hgo
    dsimp only at hgo ⊢
    obtain ⟨hready, hfailed⟩ := imageRefused_fails hfail' 2
    rw [hgo]
    exact ⟨hready.trans hnot, hfailed⟩

/-- NOR_WRITE in recovery leaves the other slot as it is, and takes a valid image alone (R460). -/
theorem norWrite_writes {s t : State} (hkeeps : s.KeepsBoot t) (hrec : s.recovery = true) (slotB : Bool) :
    (t.norWrite slotB).nor[b2n (!slotB)]? = s.nor[b2n (!slotB)]? ∧
      match s.checkImage s.boot.window with
      | .ok _ => (t.norWrite slotB).nor[b2n slotB]? = some (some s.boot.window)
      | _ => (t.norWrite slotB).nor = s.nor ∧ (t.norWrite slotB).boot.cause = 2 := by
  have hrec' : t.recovery = true := (hostPush_congr hkeeps).2.trans hrec
  have hwrite : t.norWrite slotB = match s.checkImage s.boot.window with
      | .ok _ => { t with nor := t.nor.set (b2n slotB) (some s.boot.window) (by cases slotB <;> decide) }
      | _ => t.modBoot fun b => { b with cause := 2 } := by
    rw [State.norWrite, hrec', ← checkImage_congr hkeeps.fuses, ← hkeeps.boot]
    rfl
  cases hcheck : s.checkImage s.boot.window with
  | ok i =>
    rw [hcheck] at hwrite
    rw [hwrite]
    dsimp only
    rw [hkeeps.nor]
    cases slotB <;> exact ⟨by simp [b2n], by simp [b2n]⟩
  | oldSvn =>
    rw [hcheck] at hwrite
    rw [hwrite]
    exact ⟨by rw [State.modBoot, hkeeps.nor], hkeeps.nor, rfl⟩
  | bad =>
    rw [hcheck] at hwrite
    rw [hwrite]
    exact ⟨by rw [State.modBoot, hkeeps.nor], hkeeps.nor, rfl⟩

section
variable {s : State} {r : Req} (hsender : r = .port 0 ∨ r = .smbus)
include hsender

theorem answers_bootGo {n : Nat} (hpush : s.hostPush = true) (hfail : s.boot.fail = false)
    (hself : s.pont.selfOk = true) (hmem : s.straps.mem = s.grade.clamshell) (hgood : s.Repairable) :
    Answers (.bootGo r { ms := n }) s fun u => Replied u r 0 ∧
      match s.checkImage s.boot.window with
      | .ok i => s.ReadyFrom u n 2 i
      | .oldSvn => u.boot.ready = false ∧ u.FailedAt 2 3
      | .bad => u.boot.ready = false ∧ u.FailedAt 2 2 := by
  obtain ⟨t, hkeeps, hcommand⟩ :=
    bootCommand_of_early (v := 0x80000000) (f := { ms := n }) (.inl hpush) hsender (by decide)
  have hu : s.bootCommand r 0x80000000 { ms := n } = (t.go { ms := n }).reply r true 0 := hcommand
  have hboots := go_boots (n := n) hkeeps hpush hfail hself hmem hgood
  refine ⟨_, congrArg Host.Outcome.next hu, replies_reply .., ?_⟩
  generalize t.go { ms := n } = u at hboots
  cases hcheck : s.checkImage s.boot.window <;> rw [hcheck] at hboots <;> exact hboots

theorem answers_norWrite (hrec : s.recovery = true) (slotB : Bool) : Answers (.norWrite r slotB) s fun u =>
    Replied u r 0 ∧ u.nor[b2n (!slotB)]? = s.nor[b2n (!slotB)]? ∧
      match s.checkImage s.boot.window with
      | .ok _ => u.nor[b2n slotB]? = some (some s.boot.window)
      | _ => u.nor = s.nor ∧ u.boot.cause = 2 := by
  have hcommand : ∃ t, s.KeepsBoot t ∧ s.bootCommand r (if slotB then 0x60000000 else 0x40000000) {} =
      (t.norWrite slotB).reply r true 0 := by
    cases slotB <;> exact bootCommand_of_early (.inr hrec) hsender (by decide)
  obtain ⟨t, hkeeps, hu⟩ := hcommand
  obtain ⟨hother, hslot⟩ := norWrite_writes hkeeps hrec slotB
  refine ⟨_, congrArg Host.Outcome.next hu, replies_reply .., ?_⟩
  generalize t.norWrite slotB = u at hother hslot
  exact ⟨hother, hslot⟩

theorem answers_bootGo_of_late {f : BootFindings} (hpush : s.hostPush = false) (hrec : s.recovery = false)
    (hreset : s.boot.inReset = false) : Answers (.bootGo r f) s fun u =>
      u.boot = s.boot ∧ u.nor = s.nor ∧ Rejected u r := by
  obtain ⟨hkeeps, hrejected⟩ :=
    bootCommand_of_late (v := 0x80000000) (f := f) hpush hrec hreset hsender (by decide)
  exact ⟨_, rfl, hkeeps.boot, hkeeps.nor, hrejected⟩

end

/-- Settles O53: what survives and what a reset clears is read off the reset state, and every later step of the boot keeps
both; a write of BOOT_CTRL reaches its register in a device whose boot is as it was. -/
theorem resetAndBoot : Obligations.ResetAndBoot := by
  intro s straps n f vin slotB r
  refine ⟨fun hpower => ⟨answers_perstPort0 hpower, answers_perstPort0_of_nor hpower,
      answers_perstPort0_of_failed hpower, answers_perstPort0_of_waiting hpower⟩,
    fun hoff => ⟨s, ?_, rfl⟩, answers_perstPort0Assert s, answers_powerOn s straps, answers_supplyOutOfRange s vin,
    fun hpush hfail hself hsender hmem hgood => answers_bootGo hsender hpush hfail hself hmem hgood,
    fun hrec hsender => answers_norWrite hsender hrec slotB,
    fun hpush hrec hreset hsender => answers_bootGo_of_late hsender hpush hrec hreset⟩
  change execPerstPort0 straps f s = _
  rw [execPerstPort0, hoff]
  rfl

end Sys2Proof.Machine

/-!
A write pass that reaches a port page (R352, R353): where the statement about tenant commands fails.
-/

namespace Sys2Proof.Machine

/-! ### The second read of an unchanged image -/

/-- A parsed image holds the digest of its own bytes (R346). -/
theorem digest_of_parseImage {bs : List Byte} {n : Nat} {m : Image} (h : parseImage bs n = .ok m) :
    m.digest = sha3 (bs.take (m.len - trailer m.signed)) := by
  unfold parseImage at h
  split at h
  · cases h
  · obtain rfl := Except.ok.inj h
    rfl

/-- A second read that brings the bytes of the first is written (R352 step 3). -/
theorem loadSecond_of_same {bs : List Byte} {m : Image} (s : State) (p : Port)
    (h : parseImage bs bs.length = .ok m) : s.loadSecond p bs (some bs) = (s.loadWrite p m).finish p 0 := by
  have hread : imageRead bs.length (some bs) = some bs := by simp [imageRead]
  unfold State.loadSecond
  rw [hread, h]
  exact if_pos (digest_of_parseImage h).symm

/-! ### An image that disables its own port's command ring -/

/-- HI_CMD_CFG of port 0 in the block of station HOST (R336). -/
def strayAddr : Nat := regBase + 32 * 0x10_0000 + 0x4_0028

/-- A container of one section, whose one record writes 8 to that register: the ring is disabled, with its size kept. No
section may write there (R347), so that no check pass accepts the image. -/
def strayImage : List Byte :=
  leBytes 4 0x5352504B ++ leBytes 2 1 ++ leBytes 2 1 ++ leBytes 8 232 ++ List.replicate 112 0 ++
    leBytes 2 0x0101 ++ leBytes 2 1 ++ leBytes 4 1 ++ leBytes 8 192 ++ leBytes 8 40 ++ List.replicate 8 0 ++
    List.replicate 32 0 ++
    leBytes 8 strayAddr ++ leBytes 4 4 ++ List.replicate 20 0 ++ leBytes 8 8

/-- The image that the loader parses. -/
def strayParsed : Image :=
  { len := 232, patch := false, signed := false, adig := List.replicate 32 0, bdig := List.replicate 32 0,
    digest := sha3 strayImage, signature := [], secs := [⟨0x0101, [.record 0 strayAddr 4 0 0 (leBytes 4 8)], []⟩] }

theorem parseImage_stray : parseImage strayImage strayImage.length = .ok strayParsed := by
  have hlen : strayImage.length = 232 := by decide +kernel
  have hform : headerForm strayImage 232 = true := by decide +kernel
  have hflags : imgField strayImage 0x10 4 = 0 := by decide +kernel
  have hsecs : parseSecs strayImage 232 (imgField strayImage 6 2) 0 (128 + 32 * imgField strayImage 6 2) =
      (strayParsed.secs, none) := by decide +kernel
  have hadig : (strayImage.drop 0x18).take 32 = List.replicate 32 0 := by decide +kernel
  have hbdig : (strayImage.drop 0x38).take 32 = List.replicate 32 0 := by decide +kernel
  have hall : strayImage.take 232 = strayImage := List.take_of_length_le hlen.le
  have hnone : strayImage.drop 232 = [] := List.drop_of_length_le hlen.le
  have hpatch : bitOf 0 0 = false := by decide
  have hunsigned : bitOf 0 1 = false := by decide
  simp [parseImage, hlen, hform, hflags, hadig, hbdig, hpatch, hunsigned, trailer, hsecs, hall, hnone, strayParsed]

/-! ### The state -/

/-- A LOAD, with its completion's vector off. -/
def strayCmd : Cmd := { words := [1], counter := 0 }

/-- A state whose port 0 has fetched a LOAD, and whose tenant, of no cluster, is Loading with that image. -/
def strayLoad : State :=
  { State.reset with
    assign := []
    ports := State.reset.ports.set 0 { cmdEn := true, cmdSize := 8, fetched := [strayCmd] }
    tenants := State.reset.tenants.set 0 { st := .loading, loading := some strayImage } }

theorem taken_strayLoad : Taken strayLoad 0 strayCmd 0x01 [2 ^ 64 - 1, 2 ^ 64 - 1] := by
  unfold Taken
  decide +kernel

/-- The write pass has disabled the ring, and with it dropped the LOAD itself: HEAD does not move. -/
theorem cmdHead_strayLoad : (((strayLoad.loadWrite 0 strayParsed).finish 0 0).port 0).cmdHead = 0 := by decide +kernel

theorem exec_load_strayLoad : exec (.load 0 none (some strayImage)) strayLoad =
    .next ((strayLoad.loadWrite 0 strayParsed).finish 0 0) := by
  change execLoad 0 none (some strayImage) strayLoad = _
  have htaken : Taken strayLoad 0 strayCmd 0x01 [m64, m64] := taken_strayLoad
  rw [execLoad, command_of_taken htaken]
  exact congrArg Host.Outcome.next (loadSecond_of_same strayLoad 0 parseImage_stray)

/-- Refutes O39: the clause of a LOAD's second read takes any image that a Loading tenant holds, passed by the check
pass or not. One whose record writes HI_CMD_CFG through the block of station HOST disables the ring in the write
pass, and the LOAD, dropped from the ring, never completes. -/
theorem not_tenantCommands : ¬ Obligations.TenantCommands := by
  intro h
  obtain ⟨-, -, -, -, -, hsecond, -⟩ :=
    h strayLoad 0 strayCmd ⟨false, 0, false⟩ strayImage strayImage 0 strayParsed none
  obtain ⟨hwrite, -⟩ := hsecond taken_strayLoad rfl parseImage_stray
  have hsame : sha3 ((strayImage.take strayImage.length).take (strayParsed.len - trailer strayParsed.signed)) =
      strayParsed.digest := by
    rw [List.take_length]
    exact (digest_of_parseImage parseImage_stray).symm
  have hwritten := hwrite le_rfl
  simp only [if_pos hsame] at hwritten
  obtain ⟨u, hexec, -, -, -, -, -, d, -, hhead, -⟩ := hwritten
  obtain rfl := Host.Outcome.next.inj (exec_load_strayLoad.symm.trans hexec)
  rw [cmdHead_strayLoad] at hhead
  exact absurd hhead (by decide +kernel)

end Sys2Proof.Machine
